-- ==== Sys2Proof/Word.lean ====
section
/-!
DEFINITION. Word.lean: the words the DT9's registers, memories and records are made of, and the sparse tables the
model keeps its plain data in. Nothing here computes anything beyond naming a type.
-/
namespace Sys2Proof

/-- A 32-bit register of a lane (R489). -/
abbrev Word := BitVec 32
/-- One byte of memory. -/
abbrev Byte := BitVec 8
/-- A status or reason code of Table 13.12 (R344), as software reads it in a record. -/
abbrev Status := BitVec 16
/-- A mask over the 32 lanes of a group, bit l for lane l. -/
abbrev Lanes := BitVec 32
/-- A sparse table: keys rising, no entry equal to the table's default. The default is named where the table is read. -/
abbrev Map (α : Type) := List (Nat × α)

end Sys2Proof
end

