-- ==== Sys2Proof/Syntax.lean ====
section
/-!
DEFINITION. Syntax.lean: the commands of the DT9, one constructor of Instr per row of spec/opcode_table.json, with what each
carries: the unit it happens at and what arrives from outside. A group instruction carries the fields of Table 02.3.
-/
namespace Sys2Proof

/-- Where a group stands: logical core and group slot (R14, R21). -/
structure GRef where
  core : Fin 576
  slot : Fin 64
  deriving DecidableEq, Repr

/-- The fields of a 128-bit instruction word other than the opcode (R35, Table 02.3). Reserved bits are ignored (R5). -/
structure IWord where
  imm   : BitVec 64 := 0
  defer : Bool := false
  gneg  : Bool := false
  pg    : BitVec 3 := 0
  pd    : BitVec 3 := 0
  rc    : BitVec 8 := 0
  rb    : BitVec 8 := 0
  ra    : BitVec 8 := 0
  rd    : BitVec 8 := 0
  md    : BitVec 8 := 0
  deriving DecidableEq, Repr

/-- What the SEC-DED code finds in the words an access reads (R450): words corrected, and whether a word is uncorrectable. An outcome
of the SRAM, which the command carries as a received flit carries its decoder's (log 80). -/
structure Ecc where
  fixed : Nat := 0
  lost  : Bool := false
  deriving DecidableEq, Repr

/-- Who makes a dictionary request (R395): M with its Ryurus session, H, or T for a context. -/
inductive Cls where
  | m (session : Nat)
  | h
  | t (ctx : Nat)
  deriving DecidableEq, Repr

/-- A signed token, 128 bytes as bits [1023:0] of Table 14.7. -/
abbrev Token := BitVec 1024

/-- A Ryurus datagram as received: the header fields of Table 15.1, the payload bytes and the 16 tag bytes (R385). framed: the frame that
carries it is untagged Ethernet II with IPv6 to the device's address and UDP destination port 50,120 (R384). -/
structure Dgram where
  ver      : Nat
  typ      : Nat
  reserved : Bool          -- a reserved bit is set
  token    : Bool
  alarms   : Bool
  seg      : Nat
  segs     : Nat
  len      : Nat
  session  : Nat
  seq      : Nat
  payload  : List Byte
  tag      : BitVec 128
  framed   : Bool := true
  deriving DecidableEq, Repr

/-- An Ethernet frame as a gateway receives it: what Table 11.6 checks, the IPv6 addresses (first byte lowest) and the UDP destination
port, and the Larch datagram: header of Table 11.7, sealed records, tag (R300, R301, R308). -/
structure LarchDgram where
  fcsOk     : Bool := true
  sumOk     : Bool := true            -- UDP checksum
  tagged    : Bool := false           -- VLAN tag, PAUSE or PFC
  etherType : BitVec 16 := 0x86DD
  extHead   : Bool := false           -- IPv6 extension headers
  src       : BitVec 128
  dst       : BitVec 128
  port      : BitVec 16
  header    : BitVec 256
  body      : List Byte
  tag       : BitVec 128
  deriving DecidableEq, Repr

/-- What the HBM stacks report at training (R212, R221, R226): log2 of the banks per pseudo-channel of each stack, 4 where the list ends;
data or ECC lanes that fail their test, as (channel slot, lane), with the recorded repairs applied; the spare lanes of a channel; channel
slots with a command/address lane fault; stacks that fail training twice. -/
structure Training where
  banksLog2  : List Nat := []
  faults     : List (Nat × Nat) := []
  spares     : Nat := 2
  caFaults   : List Nat := []
  badStacks  : List Nat := []
  deriving DecidableEq, Repr

/-- What the other end of the PCIe link offers in training (R477): FLIT mode, its highest rate in tenths of GT/s, its lanes. -/
structure PcieEnd where
  flit  : Bool := true
  rate  : Nat := 640
  lanes : Nat := 16
  deriving DecidableEq, Repr

/-- What the device finds when PERST# is released (R367, R434, R221, R477): PUF outcome (IDENTITY_STATE), worst Heartwood ratio of
each die in millionths, the training report, and the other end of the PCIe link. -/
structure StartReport where
  identity  : Nat := 0
  heart     : List Nat := []
  training  : Training := {}
  pcie      : PcieEnd := {}
  deriving DecidableEq, Repr

/-- A supply rail crossing latched while PERST# is asserted (R473): the rail began its ramp (10 %), passed 90 %, became valid. -/
inductive Crossing where
  | ten
  | ninety
  | valid
  deriving DecidableEq, Repr

/-- A sensor of R431. -/
inductive Sensor where
  | core (physical : Fin 640)
  | memDie (die : Fin 8) (n : Fin 4)
  | ioDie (east : Bool) (n : Fin 8)
  deriving DecidableEq, Repr

/-- An instruction of the test port (R481). -/
inductive TapOp where
  | idcode
  | bypass
  | samplePreload
  | extest
  | other (code : Nat)
  deriving DecidableEq, Repr

/-- A write to a control register of a completion ring: CQ_CTRL, or CQ_IRQ beside it (Table 13.3, log 86). -/
inductive CqWrite where
  | ctrl (v : Word)
  | irq (v : Word)
  deriving DecidableEq, Repr

/-- The commands: one constructor per row of spec/opcode_table.json, in its order. A context is numbered 0 to 4095, the
administrative context 4096 (R35, SRD 0x05). -/
inductive Instr where
  -- control (Table 02.5, 0x0)
  | nop (g : GRef) (w : IWord)
  | bra (g : GRef) (w : IWord)
  | bri (g : GRef) (w : IWord)
  | call (g : GRef) (w : IWord)
  | ret (g : GRef) (w : IWord)
  | exit (g : GRef) (w : IWord)
  | yield (g : GRef) (w : IWord)
  | gsync (g : GRef) (w : IWord)
  | bkpt (g : GRef) (w : IWord)
  | srd (g : GRef) (w : IWord)
  -- integer (0x1)
  | iadd (g : GRef) (w : IWord)
  | isub (g : GRef) (w : IWord)
  | imul (g : GRef) (w : IWord)
  | imla (g : GRef) (w : IWord)
  | imin (g : GRef) (w : IWord)
  | imax (g : GRef) (w : IWord)
  | and (g : GRef) (w : IWord)
  | or (g : GRef) (w : IWord)
  | xor (g : GRef) (w : IWord)
  | shl (g : GRef) (w : IWord)
  | shr (g : GRef) (w : IWord)
  | sar (g : GRef) (w : IWord)
  | bcnt (g : GRef) (w : IWord)
  | lzc (g : GRef) (w : IWord)
  | icmp (g : GRef) (w : IWord)
  | csel (g : GRef) (w : IWord)
  -- FP32 (0x2)
  | fadd (g : GRef) (w : IWord)
  | fmul (g : GRef) (w : IWord)
  | fma (g : GRef) (w : IWord)
  | fmin (g : GRef) (w : IWord)
  | fmax (g : GRef) (w : IWord)
  | fcmp (g : GRef) (w : IWord)
  | rcp (g : GRef) (w : IWord)
  | rsqrt (g : GRef) (w : IWord)
  | exp2 (g : GRef) (w : IWord)
  | log2 (g : GRef) (w : IWord)
  -- convert, lane exchange (0x3)
  | cvt (g : GRef) (w : IWord)
  | pfmaH (g : GRef) (w : IWord)
  | pfmaB (g : GRef) (w : IWord)
  | lxch (g : GRef) (w : IWord)
  | lvote (g : GRef) (w : IWord)
  | bsel (g : GRef) (w : IWord)
  -- load, store, atomic, ordering (0x4 to 0x6)
  | ld (g : GRef) (w : IWord) (ecc : Ecc)
  | st (g : GRef) (w : IWord) (ecc : Ecc)
  | atom (g : GRef) (w : IWord)
  | red (g : GRef) (w : IWord)
  | fence (g : GRef) (w : IWord)
  | ldAcq (g : GRef) (w : IWord)
  | stRel (g : GRef) (w : IWord)
  | storeFlag (g : GRef) (w : IWord)
  | lockAcq (g : GRef) (w : IWord)
  | lockRel (g : GRef) (w : IWord)
  -- tensor mover and array (0x7, 0x8)
  | tmCopy (g : GRef) (w : IWord)
  | tmGather (g : GRef) (w : IWord)
  | tmScatter (g : GRef) (w : IWord)
  | tmFill (g : GRef) (w : IWord)
  | tmWait (g : GRef) (w : IWord)
  | tmPoll (g : GRef) (w : IWord)
  | mxaAsync (g : GRef) (w : IWord)
  | mxaWait (g : GRef) (w : IWord)
  | mxaPoll (g : GRef) (w : IWord)
  | mxaCmpr (g : GRef) (w : IWord)
  | rwnDrain (g : GRef) (w : IWord)
  -- core events
  | groupStart (core : Fin 576)
  | accessResponse (req : Nat)
  | lockBackoffExpiry (g : GRef)
  | groupWatchdogExpiry (g : GRef)
  | tmResponse (core : Fin 576) (xfer : Nat)
  | tmTokenComplete (core : Fin 576) (xfer : Nat)
  | runaheadPrefetch (core : Fin 576) (xfer block : Nat)
  | streamPrefetch (g : GRef) (line : Nat)
  | dbgHalt (c : Cls)
  | dbgResume (c : Cls)
  | dbgStep (c : Cls)
  | groupHalt (g : GRef)
  | dbgAuth (c : Cls) (tok : Token)
  | dbgDataRead (c : Cls)
  | dbgDataWrite (c : Cls) (data : List Byte)
  | breakpointWrite (c : Cls) (sub : Nat) (value : BitVec 64)
  | mxaQueueAdmit (g : GRef)
  | mxaOpStart (core : Fin 576)
  | mxaOpComplete (core : Fin 576)
  | specCheckTile (core : Fin 576)
  | srSeed (c : Cls) (ctx : Fin 4097) (seed : Word)
  | replayEntryStart (ctx : Fin 4097) (ring : Fin 8)
  | alderChunk (engine : Fin 16)
  -- memory events
  | hbmBankService (stack : Fin 16) (ch : Fin 32) (pc : Fin 2) (bank : Nat)
  | nearBankService (die : Fin 8) (group : Fin 16) (ecc : Ecc)
  | atomicUnitOp (unit : Fin 144)
  | atomicBlockWriteback (unit : Fin 144) (block : Nat)
  | scrubRead (stack : Fin 16) (ch : Fin 32) (pc : Fin 2)
  | hbmRefresh (stack : Fin 16) (ch : Fin 32) (pc : Fin 2) (bank : Nat)
  | stackTempRead (stack : Fin 16) (temp : Int)
  | ondieEccPoll (stack : Fin 16) (count : Nat)
  | caParityError (stack : Fin 16) (ch : Fin 32)
  | channelMapout
  | releaseApply (rel : Nat)
  -- Askik link events
  | dataFlit (port : Fin 18) (flit : BitVec 2048) (fecOk : Bool)
  | initFlit (port : Fin 18) (flit : BitVec 2048) (fecOk : Bool)
  | keyxFlit (port : Fin 18) (flit : BitVec 2048) (fecOk : Bool)
  | nullFlit (port : Fin 18) (flit : BitVec 2048) (fecOk : Bool)
  | flitSend (port : Fin 18)
  | ackTimerExpiry (port : Fin 18)
  | rxSilenceExpiry (port : Fin 18)
  | laneSignalLoss (port : Fin 18) (lane : Fin 8)
  | retrainIntervalExpiry (port : Fin 18)
  | pmdTrainingDone (port : Fin 18)
  | bringupStepTimeout (port : Fin 18)
  | initResend (port : Fin 18)
  | hello (port : Fin 18)
  | cert (port : Fin 18)
  | finish (port : Fin 18)
  | keyxResend (port : Fin 18)
  | rekeyStart (port : Fin 18)
  | rekeyNow (c : Cls) (ports : Word)
  | rekeyTimeout (port : Fin 18)
  | portCtrl (c : Cls) (port : Fin 18) (value : Word)
  | routeMode (c : Cls) (value : Nat)
  | routeD (c : Cls) (dev : Fin 64) (ports : Word)
  | flowMove (sidx : Nat) (dev : Fin 64)
  | ctxkeyOffer (port : Fin 18) (ctx : Fin 4096) (check : BitVec 128)
  -- packets and remote operations
  | pktRd (port : Fin 18)
  | pktWr (port : Fin 18)
  | pktWrm (port : Fin 18)
  | pktAtom (port : Fin 18)
  | pktRed (port : Fin 18)
  | pktFlag (port : Fin 18)
  | pktRdr (port : Fin 18)
  | pktAck (port : Fin 18)
  | pktAtr (port : Fin 18)
  | pktHold (port : Fin 18)
  | requestAccept (port : Fin 18)
  | remoteDeadlineExpiry (req : Nat)
  | holdTimer (port : Fin 18) (dev : Fin 64)
  | reqTimeoutExpiry (req : Nat)
  | gwFlushExpiry (gw : Fin 4) (stream : Nat)
  | larchWrite (gw : Fin 4) (d : LarchDgram)
  | larchRead (gw : Fin 4) (d : LarchDgram)
  | larchReadData (gw : Fin 4) (d : LarchDgram)
  | larchComplete (gw : Fin 4) (d : LarchDgram)
  | gwRetryExpiry (gw : Fin 4) (stream seq : Nat)
  -- exchange
  | exchangeRendezvous (ctx : Fin 4097)
  | exchangeBucket (ctx : Fin 4097) (gather : Bool)
  | exchangeMessage (ctx : Fin 4097) (bucket sender : Nat) (gather : Bool)
  | exchangeAbort (ctx : Fin 4097) (member : Fin 64)
  -- rings
  | sqCtrl (ctx : Fin 4097) (ring : Fin 8) (value : Word)
  | cqCtrl (ctx : Fin 4097) (value : CqWrite)
  | sqBase (ctx : Fin 4097) (ring : Fin 8) (value : BitVec 64)
  | cqBase (ctx : Fin 4097) (value : BitVec 64)
  | sqTail (ctx : Fin 4097) (ring : Fin 8) (value : Word)
  | cqHead (ctx : Fin 4097) (value : Word)
  | commandFetch (ctx : Fin 4097) (ring : Fin 8) (hostEntry : BitVec 512)
  | cqIrqTimer (ctx : Fin 4097)
  -- commands of a ring, carried out on the entry the ring has fetched
  | cmdNop (ctx : Fin 4097) (ring : Fin 8)
  | cmdFence (ctx : Fin 4097) (ring : Fin 8)
  | signal (ctx : Fin 4097) (ring : Fin 8)
  | wait (ctx : Fin 4097) (ring : Fin 8)
  | waitPoll (ctx : Fin 4097) (ring : Fin 8)
  | launch (ctx : Fin 4097) (ring : Fin 8)
  | launchStart (ctx : Fin 4097) (ring : Fin 8)
  | codeMeasure (ctx : Fin 4097) (ring : Fin 8)
  | launchComplete (ctx : Fin 4097) (ring : Fin 8)
  | launchTeardown (ctx : Fin 4097) (ring : Fin 8)
  | copy (ctx : Fin 4097) (ring : Fin 8)
  | fill (ctx : Fin 4097) (ring : Fin 8)
  | gather (ctx : Fin 4097) (ring : Fin 8)
  | map (ctx : Fin 4097) (ring : Fin 8)
  | unmap (ctx : Fin 4097) (ring : Fin 8)
  | accept (ctx : Fin 4097) (ring : Fin 8)
  | exchange (ctx : Fin 4097) (ring : Fin 8)
  | optStep (ctx : Fin 4097) (ring : Fin 8)
  | hint (ctx : Fin 4097) (ring : Fin 8)
  | snapshot (ctx : Fin 4097) (ring : Fin 8)
  | attest (ctx : Fin 4097) (ring : Fin 8)
  | queryEntry (ctx : Fin 4097) (ring : Fin 8)
  | queryTranslation (ctx : Fin 4097) (ring : Fin 8)
  | queryOwnership (ctx : Fin 4097) (ring : Fin 8)
  | ctxCreate (ctx : Fin 4097) (ring : Fin 8)
  | ctxDestroy (ctx : Fin 4097) (ring : Fin 8)
  | ctxSuspend (ctx : Fin 4097) (ring : Fin 8)
  | ctxResume (ctx : Fin 4097) (ring : Fin 8)
  | coreFence (ctx : Fin 4097) (ring : Fin 8)
  -- timeouts, teardown, tenants
  | kernelDeadlineExpiry (ctx : Fin 4097) (ring : Fin 8)
  | commandTimeoutExpiry (ctx : Fin 4097) (ring : Fin 8)
  | quiesceTimeoutExpiry (ctx : Fin 4097)
  | groveReset (grove : Fin 72) (failed : List (Fin 576))
  | flr (vf : Fin 4096)
  | sliceEnd (grove0 : Fin 72)
  | switchJobComplete (grove0 : Fin 72) (die : Fin 8)
  | granuleScrub (granule : Nat)
  | ctxSecret (c : Cls) (ctx : Fin 4096) (value : List Byte)
  | ctxPrivate (c : Cls) (ctx : Fin 4096) (value : Nat)
  | gwBind (c : Cls) (ctx : Fin 4096) (n : Fin 4) (value : BitVec 64)
  | spdmRequest (offersSuite : Bool) (request : List Byte)
  | lockInterface (vf : Fin 4096) (stream : Nat)
  | startInterface (vf : Fin 4096)
  | stopInterface (vf : Fin 4096)
  | tdiError (vf : Fin 4096)
  | tokenChallengeRead (c : Cls)
  | authKey (c : Cls) (key : BitVec 776) (tok : Option Token)
  | mapoutClear (c : Cls) (tok : Token)
  | fenceMapWrite (c : Cls) (value : BitVec 640) (tok : Option Token)
  -- management
  | neighborSolicitation (target : BitVec 128)
  | duplicateAddressDetection (inUse : Bool)
  | openSession (d : Dgram)
  | confirm (d : Dgram)
  | confirmTimeout (session : Nat)
  | read (d : Dgram)
  | write (d : Dgram)
  | keepalive (d : Dgram)
  | close (d : Dgram)
  | segmentTimeout (session seq : Nat)
  | sessionIdleExpiry (session : Nat)
  | mailboxRead (ctx : Fin 4097) (entry : Word)
  | mailboxWrite (ctx : Fin 4097) (entry : Word) (data : List Byte) (tok : Option Token)
  | entryWrite (c : Cls) (key : Nat) (data : List Byte) (tok : Option Token)
  | counterClear (c : Cls) (key : Nat) (data : List Byte)
  | snapIndex (c : Cls) (index : Nat)
  | journalCommit
  | journalWriteTimeout
  | compactNow (c : Cls) (value : Nat)
  | compaction
  | journalAreaErase
  | opTimeJournal
  | pkgOffset (c : Cls) (value : Nat)
  | pkgData (c : Cls) (data : List Byte)
  | packageActivate (c : Cls) (tok : Token)
  | gradeRestore (c : Cls) (tok : Token)
  -- power, clocks, thermal
  | rootStep (die : Fin 8)
  | avsAck (die : Fin 8)
  | avsTimeout (die : Fin 8)
  | avsTelemetryRead (die : Fin 8) (milliWatt milliVolt : Nat) (valid : Bool)
  | pmbusTelemetryRead (rail : Fin 40) (milliWatt milliVolt : Nat) (valid : Bool)
  | telemetryStale (rail : Fin 40)
  | capLoop
  | capEn (c : Cls) (value : Nat)
  | powerCap (c : Cls) (value : Nat)
  | capGuard (c : Cls) (value : Nat)
  | hintExpiry (die : Fin 8)
  | fillerHoldExpiry (die : Fin 8)
  | droopCrossing (die : Fin 8) (detector : Fin 16)
  | droopRelease (die : Fin 8)
  | stepFreezeEnd (die : Fin 8)
  | pewterSample (die : Fin 8) (sixteenths : Nat)
  | governorWindow (die : Fin 8)
  | supplyWarning (rail : Fin 40) (milliVolt : Nat)
  | warningCleared
  | powerFailure (rail : Fin 40)
  | railResetLevel (rail : Fin 40)
  | dieRejoin (die : Fin 8) (heart : Nat)
  | junctionSensorRead (sensor : Sensor) (temp : Int)
  | heartwoodReplan (heart : List Nat)
  | replanNow (c : Cls) (value : Nat) (heart : List Nat)
  | domainWake (dom : Fin 911)
  | domainIdleOff (dom : Fin 911)
  -- faults, recorder, board
  | selftestRun (core : Fin 640) (vector : Fin 8) (failing : BitVec 16)
  | selftestForced (core : Fin 640) (vector : Fin 8) (failing : BitVec 16)
  | alarmHoldRelease (key : Nat)
  | alarmDispatch
  | yewProgram
  | yewClear (c : Cls) (tok : Token)
  | yewSectorErase
  | perstAssert
  | perstRelease (r : StartReport)
  | railCrossing (rail : Fin 40) (what : Crossing)
  | refclkLoss
  | pcieHotReset
  | configRequest (function : Fin 4097) (busMaster : Option Bool)
  | tapInstruction (op : TapOp)
  | powerFailureRecovery
  | portDisableWaitExpiry (port : Fin 18)
  deriving DecidableEq, Repr

end Sys2Proof
end

