-- ==== Sys2Proof/Decode.lean ====
section
/-!
DEFINITION. Decode.lean: opcode_table.json gives its rows no bits, so no word spells a command for the host. The DT9's own
128-bit instruction word (R35, Table 02.3) is decoded here, for a debugger's step (R58), with its encoder.
-/
namespace Sys2Proof

/-- The command a word of the table's bits spells: the table gives none. -/
def decodeTableWord (_nbits _w : Nat) : Option Instr := none

/-- A group instruction: its opcode (Table 02.5), where it issues, its fields, and the outcome its access meets (R450), which no word
holds. -/
structure GInstr where
  opc : BitVec 8
  g   : GRef
  w   : IWord
  ecc : Ecc := {}
  deriving DecidableEq, Repr

/-- A row of Table 02.5: an opcode and its command. -/
abbrev OpRow := BitVec 8 × (GRef → IWord → Instr)
def opsControl : List OpRow :=
  [(0x00, .nop), (0x01, .bra), (0x02, .bri), (0x03, .call), (0x04, .ret), (0x05, .exit), (0x06, .yield), (0x07, .gsync),
   (0x08, .bkpt), (0x09, .srd)]
def opsInteger : List OpRow :=
  [(0x10, .iadd), (0x11, .isub), (0x12, .imul), (0x13, .imla), (0x14, .imin), (0x15, .imax), (0x16, .and), (0x17, .or),
   (0x18, .xor), (0x19, .shl), (0x1A, .shr), (0x1B, .sar), (0x1C, .bcnt), (0x1D, .lzc), (0x1E, .icmp), (0x1F, .csel)]
def opsFp : List OpRow :=
  [(0x20, .fadd), (0x21, .fmul), (0x22, .fma), (0x23, .fmin), (0x24, .fmax), (0x25, .fcmp), (0x26, .rcp), (0x27, .rsqrt),
   (0x28, .exp2), (0x29, .log2)]
def opsConvert : List OpRow :=
  [(0x30, .cvt), (0x31, .pfmaH), (0x32, .pfmaB), (0x33, .lxch), (0x34, .lvote), (0x35, .bsel)]
def opsMemory : List OpRow :=
  [(0x40, fun g w => .ld g w {}), (0x41, fun g w => .st g w {}), (0x50, .atom), (0x51, .red), (0x60, .fence), (0x61, .ldAcq), (0x62, .stRel), (0x63, .storeFlag),
   (0x64, .lockAcq), (0x65, .lockRel)]
def opsMover : List OpRow :=
  [(0x70, .tmCopy), (0x71, .tmGather), (0x72, .tmScatter), (0x73, .tmFill), (0x74, .tmWait), (0x75, .tmPoll)]
def opsArray : List OpRow :=
  [(0x80, .mxaAsync), (0x81, .mxaWait), (0x82, .mxaPoll), (0x83, .mxaCmpr), (0x84, .rwnDrain)]
/-- The opcodes of Table 02.5 and their commands. -/
def opTable : List OpRow :=
  opsControl ++ opsInteger ++ opsFp ++ opsConvert ++ opsMemory ++ opsMover ++ opsArray

/-- Fields of an instruction word (Table 02.3); the reserved bits are not read (R5). -/
def wordFields (v : BitVec 128) : IWord :=
  { imm := v.extractLsb' 64 64, defer := v.getLsbD 56, gneg := v.getLsbD 55, pg := v.extractLsb' 52 3, pd := v.extractLsb' 48 3,
    rc := v.extractLsb' 40 8, rb := v.extractLsb' 32 8, ra := v.extractLsb' 24 8, rd := v.extractLsb' 16 8, md := v.extractLsb' 8 8 }

/-- The instruction a word holds, for the group that would execute it; none for an unassigned opcode (R37). -/
def decodeWord (v : BitVec 128) : Option (GRef → Instr) :=
  (opTable.find? (fun e => e.1 == v.extractLsb' 0 8)).map (fun e => fun g => e.2 g (wordFields v))

/-- The instruction word of an opcode and its fields (Table 02.3); reserved bits zero. -/
def encodeWord (opc : BitVec 8) (w : IWord) : BitVec 128 :=
  w.imm ++ (0 : BitVec 7) ++ BitVec.ofBool w.defer ++ BitVec.ofBool w.gneg ++ w.pg ++ (0 : BitVec 1) ++ w.pd ++ w.rc ++ w.rb ++
    w.ra ++ w.rd ++ w.md ++ opc

/-- An instruction as issued: a load or store with the outcome its access meets. -/
def Instr.withEcc (e : Ecc) : Instr → Instr
  | .ld g w _ => .ld g w e
  | .st g w _ => .st g w e
  | i => i

/-- Where a group instruction issues, its opcode and its fields; none for every other command. -/
def Instr.group : Instr → Option GInstr
  | .nop g w => some ⟨0x00, g, w, {}⟩
  | .bra g w => some ⟨0x01, g, w, {}⟩
  | .bri g w => some ⟨0x02, g, w, {}⟩
  | .call g w => some ⟨0x03, g, w, {}⟩
  | .ret g w => some ⟨0x04, g, w, {}⟩
  | .exit g w => some ⟨0x05, g, w, {}⟩
  | .yield g w => some ⟨0x06, g, w, {}⟩
  | .gsync g w => some ⟨0x07, g, w, {}⟩
  | .bkpt g w => some ⟨0x08, g, w, {}⟩
  | .srd g w => some ⟨0x09, g, w, {}⟩
  | .iadd g w => some ⟨0x10, g, w, {}⟩
  | .isub g w => some ⟨0x11, g, w, {}⟩
  | .imul g w => some ⟨0x12, g, w, {}⟩
  | .imla g w => some ⟨0x13, g, w, {}⟩
  | .imin g w => some ⟨0x14, g, w, {}⟩
  | .imax g w => some ⟨0x15, g, w, {}⟩
  | .and g w => some ⟨0x16, g, w, {}⟩
  | .or g w => some ⟨0x17, g, w, {}⟩
  | .xor g w => some ⟨0x18, g, w, {}⟩
  | .shl g w => some ⟨0x19, g, w, {}⟩
  | .shr g w => some ⟨0x1A, g, w, {}⟩
  | .sar g w => some ⟨0x1B, g, w, {}⟩
  | .bcnt g w => some ⟨0x1C, g, w, {}⟩
  | .lzc g w => some ⟨0x1D, g, w, {}⟩
  | .icmp g w => some ⟨0x1E, g, w, {}⟩
  | .csel g w => some ⟨0x1F, g, w, {}⟩
  | .fadd g w => some ⟨0x20, g, w, {}⟩
  | .fmul g w => some ⟨0x21, g, w, {}⟩
  | .fma g w => some ⟨0x22, g, w, {}⟩
  | .fmin g w => some ⟨0x23, g, w, {}⟩
  | .fmax g w => some ⟨0x24, g, w, {}⟩
  | .fcmp g w => some ⟨0x25, g, w, {}⟩
  | .rcp g w => some ⟨0x26, g, w, {}⟩
  | .rsqrt g w => some ⟨0x27, g, w, {}⟩
  | .exp2 g w => some ⟨0x28, g, w, {}⟩
  | .log2 g w => some ⟨0x29, g, w, {}⟩
  | .cvt g w => some ⟨0x30, g, w, {}⟩
  | .pfmaH g w => some ⟨0x31, g, w, {}⟩
  | .pfmaB g w => some ⟨0x32, g, w, {}⟩
  | .lxch g w => some ⟨0x33, g, w, {}⟩
  | .lvote g w => some ⟨0x34, g, w, {}⟩
  | .bsel g w => some ⟨0x35, g, w, {}⟩
  | .ld g w e => some ⟨0x40, g, w, e⟩
  | .st g w e => some ⟨0x41, g, w, e⟩
  | .atom g w => some ⟨0x50, g, w, {}⟩
  | .red g w => some ⟨0x51, g, w, {}⟩
  | .fence g w => some ⟨0x60, g, w, {}⟩
  | .ldAcq g w => some ⟨0x61, g, w, {}⟩
  | .stRel g w => some ⟨0x62, g, w, {}⟩
  | .storeFlag g w => some ⟨0x63, g, w, {}⟩
  | .lockAcq g w => some ⟨0x64, g, w, {}⟩
  | .lockRel g w => some ⟨0x65, g, w, {}⟩
  | .tmCopy g w => some ⟨0x70, g, w, {}⟩
  | .tmGather g w => some ⟨0x71, g, w, {}⟩
  | .tmScatter g w => some ⟨0x72, g, w, {}⟩
  | .tmFill g w => some ⟨0x73, g, w, {}⟩
  | .tmWait g w => some ⟨0x74, g, w, {}⟩
  | .tmPoll g w => some ⟨0x75, g, w, {}⟩
  | .mxaAsync g w => some ⟨0x80, g, w, {}⟩
  | .mxaWait g w => some ⟨0x81, g, w, {}⟩
  | .mxaPoll g w => some ⟨0x82, g, w, {}⟩
  | .mxaCmpr g w => some ⟨0x83, g, w, {}⟩
  | .rwnDrain g w => some ⟨0x84, g, w, {}⟩
  | _ => none

end Sys2Proof
end

