-- ==== Sys2Proof/Config.lean ====
section
/-!
DEFINITION. Config.lean: what the manual leaves to the part or to an outside standard. Every constant here is OPAQUE: it has
no body, nothing in Lean can evaluate it, and a theorem that mentions it holds whatever it is (logs 6 and 7).
-/
namespace Sys2Proof.Config

/-- A FREE VALUE: what the DT9 produces where the manual gives no value (random numbers, cycle counters, how far an array
operation had come when it was stopped). The argument is the counter State.fresh, so two draws are unrelated (log 6). -/
opaque freeNat : Nat → Nat

/-- SHA-384 (FIPS 180-4), which the manual takes from outside (Table 00.1; log 7). -/
opaque sha384 : List Byte → BitVec 384
/-- AES-256-GCM sealing: key, IV, additional data, plaintext; ciphertext and 128-bit tag (Table 00.1; log 7). -/
opaque gcmSeal : BitVec 256 → BitVec 96 → List Byte → List Byte → List Byte × BitVec 128
/-- AES-256-GCM opening : key, IV, additional data, ciphertext followed by the tag's bytes, the tag's length in bits; none when the tag fails
(log 7). -/
opaque gcmOpen : BitVec 256 → BitVec 96 → List Byte → List Byte → Nat → Option (List Byte)
/-- ECDSA verification on brainpoolP384r1: public key (97 B), digest, r and s (log 7). -/
opaque ecdsaVerify : BitVec 776 → BitVec 384 → BitVec 768 → Bool
/-- The device's own ECDSA signature over a digest, nonce of RFC 6979 (R371; log 7). -/
opaque ecdsaSign : BitVec 384 → BitVec 768
/-- ECDH on brainpoolP384r1: a private key, named by a number, and a public key; none for a malformed key (log 7). -/
opaque ecdh : Nat → BitVec 776 → Option (BitVec 384)
/-- The public key of the private key named by a number (log 7). -/
opaque pubKey : Nat → BitVec 776
/-- HKDF with SHA-384 (RFC 5869): salt, input, info, length in bytes (log 7). -/
opaque hkdf : List Byte → List Byte → List Byte → Nat → List Byte
/-- Whether a certificate chain (DER) ends at the trust anchor whose key or hash is given; none if it is malformed,
else the leaf's public key (R368; log 7). -/
opaque chainLeafKey : List Byte → List Byte → Option (BitVec 776)
/-- The Emvosa signature over a grade record verifies (R17, R405; log 7). -/
opaque gradeSigOk : List Byte → Bool
/-- The Emvosa key in the ROM that signs OP 6 and OP 7 tokens (Table 14.8a), a value of the part. -/
opaque romKey : BitVec 776
/-- The SHA-384 of the ROM image (R369), a value of the ROM. -/
opaque romMeasure : BitVec 384
/-- The SHA-384 hash of the Emvosa root key fixed in the ROM (R368). -/
opaque rootAnchor : List Byte
/-- Which grade a verified grade record names: DT9-512, else DT9-576 (R17); the manual does not lay the record out. -/
opaque gradeIs512 : List Byte → Bool
/-- The dictionary defaults that a package's section 4 changes: entry and value (R403); the manual does not lay the section out. -/
opaque packageDefaults : List Byte → List (Nat × Nat)
/-- V/F table of a table package: package version and root in MHz to millivolts (R410), a value of the package. -/
opaque vfMilliVolt : Nat → Nat → Nat
/-- kdel of a package's ageing coefficients: package version to thousandths of a mV per unit slowdown (R435), a value of the package. -/
opaque kdelMilli : Nat → Nat
/-- Whether the checks of a table package's sections beyond those the manual spells out pass (R404). -/
opaque sectionsOk : List Byte → Bool

/-- FRAGS and FRAME_BYTES of a datagram that leaves before its bulk frame closes (R303, Table 11.7): stream, SEQ, FRAG. The manual does
not say what they hold (log 46). -/
opaque openFrame : Nat → Nat → Nat → BitVec 8 × BitVec 32

/-- The device that holds a far gateway address: far domain, IPv6 address (R304); the DT9's entries do not name it (log 6). -/
opaque farDevice : Nat → Nat → Nat

end Sys2Proof.Config
end

