-- ==== Sys2Proof/Machine/Bits.lean ====
section
/-!
DEFINITION. Machine/Bits.lean: sparse tables, bytes and fields. The byte order (little-endian, R35, R68, R338, R394) and the
canonical form of a sparse table are decided here, once.
-/
namespace Sys2Proof.Machine

/-- What a sparse table lists at a key. -/
def mapFind {α : Type} : Map α → Nat → Option α
  | [], _ => none
  | (a, v) :: r, k => if a = k then some v else mapFind r k

/-- A sparse table read with its default. -/
def mapGet {α : Type} (d : α) (m : Map α) (k : Nat) : α := (mapFind m k).getD d

/-- A sparse table without a key. -/
def mapErase {α : Type} : Map α → Nat → Map α
  | [], _ => []
  | (a, v) :: r, k => if a = k then mapErase r k else (a, v) :: mapErase r k

/-- A key put at its place among the rising keys. -/
def mapInsert {α : Type} : Map α → Nat → α → Map α
  | [], k, v => [(k, v)]
  | (a, x) :: r, k, v => if k < a then (k, v) :: (a, x) :: r else (a, x) :: mapInsert r k v

/-- A write to a sparse table; writing the default removes the entry, so equal tables are equal lists. -/
def mapSet {α : Type} [DecidableEq α] (d : α) (m : Map α) (k : Nat) (v : α) : Map α :=
  if v = d then mapErase m k else mapInsert (mapErase m k) k v

/-- A read, a change and a write of one key. -/
def mapUpd {α : Type} [DecidableEq α] (d : α) (m : Map α) (k : Nat) (f : α → α) : Map α :=
  mapSet d m k (f (mapGet d m k))

/-- The canonical form of a sparse table: keys strictly rising, no entry equal to the default. -/
def mapWf {α : Type} [DecidableEq α] (d : α) : Map α → Bool
  | [] => true
  | [(_, v)] => v != d
  | (a, v) :: (b, w) :: r => decide (a < b) && v != d && mapWf d ((b, w) :: r)

/-- A number from little-endian bytes. -/
def leNat : List Byte → Nat
  | [] => 0
  | b :: r => b.toNat + 256 * leNat r

/-- The n little-endian bytes of a number. -/
def leBytes : Nat → Nat → List Byte
  | 0, _ => []
  | n + 1, v => BitVec.ofNat 8 v :: leBytes n (v / 256)

/-- The n big-endian bytes of a number (R371, R373, R375, R376: keys, context IDs and domains in key derivations). -/
def beBytes (n v : Nat) : List Byte := (leBytes n v).reverse

/-- Bits lo to lo + n - 1 of a number. -/
def bits (v lo n : Nat) : Nat := (v >>> lo) % 2 ^ n

/-- Bit i of a number. -/
def bitAt (v i : Nat) : Bool := v.testBit i

/-- A number with bits lo to lo + n - 1 replaced. -/
def setBits (v lo n x : Nat) : Nat := v - (bits v lo n) * 2 ^ lo + (x % 2 ^ n) * 2 ^ lo

/-- A field of a bit vector as a number. -/
def fieldOf {w : Nat} (v : BitVec w) (lo n : Nat) : Nat := bits v.toNat lo n

/-- Two's complement value of the low n bits of a number. -/
def signedOf (n v : Nat) : Int := if v % 2 ^ n < 2 ^ (n - 1) then (v % 2 ^ n : Nat) else (v % 2 ^ n : Nat) - (2 ^ n : Nat)

/-- The n-bit two's complement code of an integer. -/
def ofSigned (n : Nat) (v : Int) : Nat := (v % (2 ^ n : Nat)).toNat

/-- Division rounded up. -/
def ceilDiv (a b : Nat) : Nat := (a + b - 1) / b

/-- The lanes of a mask, ascending. -/
def lanesOf (m : Lanes) : List Nat := (List.range 32).filter (fun l => m.getLsbD l)

/-- The mask with one lane. -/
def laneBit (l : Nat) : Lanes := BitVec.ofNat 32 (2 ^ l)

/-- The mask of the lanes for which a test holds. -/
def laneMask (f : Nat → Bool) : Lanes :=
  BitVec.ofNat 32 ((List.range 32).foldl (fun a l => if f l then a + 2 ^ l else a) 0)

/-- Lowest lane of a mask; 32 when empty. -/
def lowestLane (m : Lanes) : Nat := ((lanesOf m).head?).getD 32

/-- Number of lanes in a mask. -/
def laneCount (m : Lanes) : Nat := (lanesOf m).length

/-- A counter that stops at a bound (R461, R465). -/
def satAdd (lim a n : Nat) : Nat := if a + n ≥ lim then lim else a + n

/-- A number put into a rising list without repeats. -/
def insNat : Nat → List Nat → List Nat
  | n, [] => [n]
  | n, a :: r => if n < a then n :: a :: r else if n = a then a :: r else a :: insNat n r
/-- The distinct numbers of a list, rising. -/
def sortNat (l : List Nat) : List Nat := l.foldr insNat []

/-- The first element of a list that passes a test, and the rest without it. -/
def takeFirst {α : Type} (p : α → Bool) : List α → Option (α × List α)
  | [] => none
  | a :: r => if p a then some (a, r) else (takeFirst p r).map (fun q => (q.1, a :: q.2))

/-- A list with the element that passes a test changed. -/
def modifyWhere {α : Type} (p : α → Bool) (f : α → α) (l : List α) : List α := l.map (fun a => if p a then f a else a)

/-- The first i below n, counted up from `start` modulo n, that passes a test: the round robin of R22, R30, R199. -/
def roundRobin (n start : Nat) (p : Nat → Bool) : Option Nat :=
  ((List.range n).map (fun i => (start + i) % n)).find? p

/-- Lowest number below n that passes a test. -/
def lowest (n : Nat) (p : Nat → Bool) : Option Nat := (List.range n).find? p

/-- Floor of the base-2 logarithm of a positive number; 0 for 0. -/
def log2 (n : Nat) : Nat := Nat.log2 n

/-- Exclusive-or of bytes. -/
def xorBytes (a b : List Byte) : List Byte := List.zipWith (· ^^^ ·) a b

/-- CRC over bytes, reflected: polynomial (reflected), register width 32 (R261 CRC-32, R398 CRC-32C). -/
def crcReflStep (poly : Nat) : Nat → Nat → Nat
  | 0, c => c
  | n + 1, c => crcReflStep poly n (if c % 2 = 1 then (c / 2) ^^^ poly else c / 2)

def crcRefl (poly : Nat) (bs : List Byte) : BitVec 32 :=
  BitVec.ofNat 32 ((bs.foldl (fun c b => crcReflStep poly 8 (c ^^^ b.toNat)) 0xFFFFFFFF) ^^^ 0xFFFFFFFF)

/-- CRC-32 of IEEE 802.3, polynomial 0x04C1_1DB7 reflected (R261). -/
def crc32 (bs : List Byte) : BitVec 32 := crcRefl 0xEDB88320 bs

/-- CRC-32C, polynomial 0x1EDC_6F41 reflected (R398, R442). -/
def crc32c (bs : List Byte) : BitVec 32 := crcRefl 0x82F63B78 bs

/-- One bit of the CRC-64 of R319, most significant first. -/
def crc64Step : Nat → Nat → Nat
  | 0, c => c
  | n + 1, c => crc64Step n (if c ≥ 2 ^ 63 then ((c * 2) % 2 ^ 64) ^^^ 0x42F0E1EBA9EA3693 else c * 2)

/-- The Brass digest's CRC-64, ECMA-182, initial 0, not reflected, no final exclusive-or (R319). -/
def crc64 (bs : List Byte) : BitVec 64 :=
  BitVec.ofNat 64 (bs.foldl (fun c b => crc64Step 8 (c ^^^ (b.toNat <<< 56))) 0)

/-- ASCII bytes of a label used in a key derivation. -/
def label (s : String) : List Byte := s.toList.map (fun c => BitVec.ofNat 8 c.toNat)

end Sys2Proof.Machine
end

