-- ==== Sys2Proof/Machine/Fp.lean ====
section
/-!
DEFINITION. Machine/Fp.lean: exact values and their rounding (spec/04: R94 to R114). Every result of the DT9 is an exact value
of its inputs rounded once; the exact values are dyadic numbers with a sign, infinities and one NaN (R94 tells no NaNs apart).
-/
namespace Sys2Proof.Machine

/-- An exact value: NaN, an infinity, or (-1)^neg × m × 2^e; m = 0 is a signed zero. -/
inductive Ex where
  | nan
  | inf (neg : Bool)
  | fin (neg : Bool) (m : Nat) (e : Int)
  deriving DecidableEq, Repr

/-- What the all-ones exponent field means: infinity and NaN (R94), one NaN only (OCP E4M3, R96), or ordinary values (Table 04.2). -/
inductive Top where
  | ieee
  | ocp
  | plain
  deriving DecidableEq, Repr

/-- A scalar format: exponent bits, fraction bits, bias, top (Tables 04.1 and 04.2). -/
structure Fmt where
  eb   : Nat
  fb   : Nat
  bias : Int
  top  : Top
  deriving DecidableEq, Repr

def fp32 : Fmt := ⟨8, 23, 127, .ieee⟩
def fp16 : Fmt := ⟨5, 10, 15, .ieee⟩
def bf16 : Fmt := ⟨8, 7, 127, .ieee⟩
def e5m2 : Fmt := ⟨5, 2, 15, .ieee⟩
/-- FP8 E4M3 in the DT9 layout (Table 04.1). -/
def e4m3 : Fmt := ⟨4, 3, 7, .ieee⟩
/-- FP8 E4M3 in the OCP encoding (R96, and the MX element of Table 04.2). -/
def ocp8 : Fmt := ⟨4, 3, 7, .ocp⟩
def e3m2 : Fmt := ⟨3, 2, 3, .plain⟩
def e2m3 : Fmt := ⟨2, 3, 1, .plain⟩
def e2m1 : Fmt := ⟨2, 1, 1, .plain⟩

def Fmt.width (f : Fmt) : Nat := 1 + f.eb + f.fb
def Fmt.emin (f : Fmt) : Int := 1 - f.bias
/-- Exponent of the largest finite value. -/
def Fmt.emax (f : Fmt) : Int :=
  match f.top with
  | .ieee => (2 ^ f.eb : Nat) - 2 - f.bias
  | _     => (2 ^ f.eb : Nat) - 1 - f.bias
/-- Largest finite value as m × 2^e. -/
def Fmt.maxM (f : Fmt) : Nat :=
  match f.top with
  | .ocp => 2 ^ (f.fb + 1) - 2
  | _    => 2 ^ (f.fb + 1) - 1
def Fmt.maxE (f : Fmt) : Int := f.emax - f.fb

/-- Default NaN code: quiet and positive (Table 04.1); 0x7F for the OCP encoding; formats without one read zero, never used. -/
def Fmt.nanCode (f : Fmt) : Nat :=
  match f.top with
  | .ieee  => (2 ^ f.eb - 1) * 2 ^ f.fb + 2 ^ (f.fb - 1)
  | .ocp   => 2 ^ (f.eb + f.fb) - 1
  | .plain => 0

/-- 2^k for a non-negative k, else 0: used on magnitudes whose sign of exponent is known. -/
def pow2 (k : Int) : Nat := 2 ^ k.toNat

namespace Ex

def zero : Ex := .fin false 0 0
def one : Ex := .fin false 1 0
def ofNat (n : Nat) : Ex := .fin false n 0
def ofInt (n : Int) : Ex := .fin (decide (n < 0)) n.natAbs 0

def isNan : Ex → Bool
  | .nan => true
  | _ => false
def isInf : Ex → Bool
  | .inf _ => true
  | _ => false
def isFin : Ex → Bool
  | .fin .. => true
  | _ => false
def isZero : Ex → Bool
  | .fin _ m _ => m == 0
  | _ => false
def neg : Ex → Bool
  | .nan => false
  | .inf n => n
  | .fin n _ _ => n
def negate : Ex → Ex
  | .nan => .nan
  | .inf n => .inf (!n)
  | .fin n m e => .fin (!n) m e
def abs : Ex → Ex
  | .nan => .nan
  | .inf _ => .inf false
  | .fin _ m e => .fin false m e
/-- Multiplied by a power of two. -/
def scale : Ex → Int → Ex
  | .fin n m e, k => .fin n m (e + k)
  | x, _ => x

/-- Exact product: 0 × infinity and NaN give NaN. -/
def mul : Ex → Ex → Ex
  | .fin a m e, .fin b n g => .fin (a != b) (m * n) (e + g)
  | .inf a, .inf b => .inf (a != b)
  | .inf a, .fin b n _ => if n = 0 then .nan else .inf (a != b)
  | .fin a m _, .inf b => if m = 0 then .nan else .inf (a != b)
  | _, _ => .nan

/-- Exact sum; a zero sum of operands of opposite sign is +0 (Table 04.3), of two -0 is -0. -/
def add : Ex → Ex → Ex
  | .fin a m e, .fin b n g =>
    let x := min e g
    let p : Int := (m * pow2 (e - x) : Nat)
    let q : Int := (n * pow2 (g - x) : Nat)
    let s : Int := (if a then -p else p) + (if b then -q else q)
    if s = 0 then .fin (a && b) 0 0 else .fin (decide (s < 0)) s.natAbs x
  | .inf a, .inf b => if a = b then .inf a else .nan
  | .inf a, .fin .. => .inf a
  | .fin .., .inf b => .inf b
  | _, _ => .nan

def sub (x y : Ex) : Ex := add x (negate y)

/-- Order on exact values that are not NaN, with -0 below +0 (R110). -/
def lt : Ex → Ex → Bool
  | .inf a, .inf b => a && !b
  | .inf a, .fin .. => a
  | .fin .., .inf b => !b
  | .fin a m e, .fin b n g =>
    let x := min e g
    let p : Int := (m * pow2 (e - x) : Nat)
    let q : Int := (n * pow2 (g - x) : Nat)
    let u := if a then -p else p
    let v := if b then -q else q
    decide (u < v) || (decide (u = v) && u == 0 && a && !b)
  | _, _ => false

/-- Numeric equality, with -0 equal to +0 (R110). -/
def eqv (x y : Ex) : Bool :=
  match x, y with
  | .nan, _ => false
  | _, .nan => false
  | x, y => (!(lt x y) && !(lt y x)) || (isZero x && isZero y)

def numLt (x y : Ex) : Bool := lt x y && !(isZero x && isZero y)

/-- Floor of the base-2 logarithm of a non-zero finite magnitude. -/
def lg : Ex → Int
  | .fin _ m e => (log2 m : Int) + e
  | _ => 0

/-- Exact quotient of finite values carried to 80 significant bits with a sticky bit: rounding it once is rounding the exact
quotient once, for every format of at most 24 significand bits. -/
def div : Ex → Ex → Ex
  | .fin a m e, .fin b n g =>
    if n = 0 then (if m = 0 then .nan else .inf (a != b))
    else if m = 0 then .fin (a != b) 0 0
    else
      let k := 80 + log2 n
      let q := (m * 2 ^ k) / n
      let s := if (m * 2 ^ k) % n = 0 then 0 else 1
      .fin (a != b) (2 * q + s) (e - g - k - 1)
  | .inf a, .fin b _ _ => .inf (a != b)
  | .fin a _ _, .inf b => .fin (a != b) 0 0
  | _, _ => .nan

end Ex

/-- Floor square root by Newton's steps, structurally on fuel. -/
def isqrtLoop (n : Nat) : Nat → Nat → Nat
  | 0, x => x
  | k + 1, x => let y := (x + n / x) / 2; if y < x then isqrtLoop n k y else x

def isqrt (n : Nat) : Nat := if n = 0 then 0 else isqrtLoop n (n.log2 + 2) (2 ^ (n.log2 / 2 + 1))

/-- Square root of a non-negative exact value to more than 80 bits with a sticky bit; below zero NaN, -0 gives -0. -/
def Ex.sqrt : Ex → Ex
  | .fin a m e =>
    if m = 0 then .fin a 0 0
    else if a then .nan
    else
      let o : Nat := if e % 2 = 0 then 0 else 1
      let m' := m * 2 ^ (160 + o)
      let r := isqrt m'
      let s := if r * r = m' then 0 else 1
      .fin false (2 * r + s) ((e - o - 160) / 2 - 1)
  | .inf false => .inf false
  | _ => .nan

/-- m × 2^e brought to the grid 2^q, to the nearest with ties to even: the multiple. -/
def rneGrid (m : Nat) (e q : Int) : Nat :=
  if q ≤ e then m * pow2 (e - q)
  else
    let d := pow2 (q - e)
    let r := m / d
    if m % d * 2 > d || (m % d * 2 == d && r % 2 == 1) then r + 1 else r

/-- The spacing exponent of a format at a magnitude (R106: e - p + 1 with e at least emin). -/
def gridOf (f : Fmt) (m : Nat) (e : Int) : Int := max ((log2 m : Int) + e) f.emin - f.fb

/-- Is m × 2^e above the largest finite value of the format? -/
def aboveMax (f : Fmt) (m : Nat) (e : Int) : Bool :=
  Ex.lt (.fin false f.maxM f.maxE) (.fin false m e)

/-- round_to without the overflow test (R99 asks it of formats that have no infinity). -/
def roundRaw (f : Fmt) : Ex → Ex
  | .fin n m e => if m = 0 then .fin n 0 0 else
      let q := gridOf f m e
      let r := rneGrid m e q
      if r = 0 then .fin n 0 0 else .fin n r q
  | x => x

/-- R106, round_to(f, y): to nearest, ties to even, overflow to infinity. -/
def roundTo (f : Fmt) (y : Ex) : Ex :=
  match roundRaw f y with
  | .fin n m e => if aboveMax f m e then .inf n else .fin n m e
  | x => x

/-- R107, round_sr(f, y, u). -/
def roundSr (f : Fmt) (y : Ex) (u : Nat) : Ex :=
  match y with
  | .fin n m e =>
    if m = 0 then y else
    let q := gridOf f m e
    if q ≤ e then roundTo f y
    else
      let d := pow2 (q - e)
      let lo := m / d
      if m % d = 0 then roundTo f y
      else if aboveMax f (lo + 1) q then
        (if aboveMax f (rneGrid m e q) q then .inf n else .fin n lo q)
      else
        let t := (m % d) * 2 ^ 32 / d
        if u < t then .fin n (lo + 1) q else .fin n lo q
  | x => x

/-- The code of a value that the format holds (a rounded value). -/
def encodeFp (f : Fmt) : Ex → Nat
  | .nan => f.nanCode
  | .inf n =>
    let s := if n then 2 ^ (f.eb + f.fb) else 0
    match f.top with
    | .ocp => s + (2 ^ (f.eb + f.fb) - 1)
    | _ => s + (2 ^ f.eb - 1) * 2 ^ f.fb
  | .fin n m e =>
    let s := if n then 2 ^ (f.eb + f.fb) else 0
    if m = 0 then s else
    let q := gridOf f m e
    let k := rneGrid m e q
    -- k is the significand on the grid q; q = emin - fb for subnormals and the first binade
    s + (if k < 2 ^ f.fb then k else (q - (f.emin - f.fb)).toNat * 2 ^ f.fb + k)

/-- The value of a code (R94, R96, Table 04.2). -/
def decodeFp (f : Fmt) (c : Nat) : Ex :=
  let n := bitAt c (f.eb + f.fb)
  let x := bits c f.fb f.eb
  let fr := bits c 0 f.fb
  if x = 2 ^ f.eb - 1 ∧ f.top = .ieee then (if fr = 0 then .inf n else .nan)
  else if x = 2 ^ f.eb - 1 ∧ f.top = .ocp ∧ fr = 2 ^ f.fb - 1 then .nan
  else if x = 0 then .fin n fr (f.emin - f.fb)
  else .fin n (2 ^ f.fb + fr) ((x : Int) - f.bias - f.fb)

/-- round_fp32 of an exact value, as the 32 bits it is stored in. -/
def fp32Bits (y : Ex) : Nat := encodeFp fp32 (roundTo fp32 y)
/-- The exact value of 32 stored bits. -/
def fp32Val (b : Nat) : Ex := decodeFp fp32 b
def rFp32 (y : Ex) : Ex := roundTo fp32 y

/-- FP32 minimum and maximum (R110): a NaN operand gives the default NaN; -0 below +0. -/
def exMin (x y : Ex) : Ex := if x.isNan || y.isNan then .nan else if Ex.lt y x then y else x
def exMax (x y : Ex) : Ex := if x.isNan || y.isNan then .nan else if Ex.lt x y then y else x

/-- Fixed point with 192 fraction bits for EXP2 and LOG2 (log 17). -/
def fixBits : Nat := 192

/-- ln 2 = Σ 2 / (3 (2k + 1) 9^k), in fixed point. -/
def ln2Sum : Nat → Nat → Nat → Nat
  | 0, _, acc => acc
  | n + 1, k, acc => ln2Sum n (k + 1) (acc + 2 ^ (fixBits + 1) / (3 * (2 * k + 1) * 9 ^ k))
def ln2Fix : Nat := ln2Sum 64 0 0

/-- Σ x^n / n! for x in fixed point. -/
def expSum (x : Nat) : Nat → Nat → Nat → Nat → Nat
  | 0, _, _, acc => acc
  | n + 1, k, t, acc => let t' := t * x / 2 ^ fixBits / k; expSum x n (k + 1) t' (acc + t')

/-- 2^a for a finite exact a, with more than 150 correct bits and a sticky bit where it is not exact (R109; log 17). -/
def exp2Ex : Ex → Ex
  | .nan => .nan
  | .inf true => .fin false 0 0
  | .inf false => .inf false
  | .fin n m e =>
    if m = 0 then Ex.one
    else if (log2 m : Int) + e ≥ 10 then (if n then .fin false 1 (-1000) else .fin false 1 1000)
    else
      let mag := m * pow2 (e + fixBits)      -- e ≥ -149 in every FP32, so this is exact
      let v : Int := if n then -(mag : Int) else mag
      let k := v / (2 ^ fixBits : Nat)
      let fr := (v % (2 ^ fixBits : Nat)).toNat
      if fr = 0 then .fin false 1 k
      else
        let x := fr * ln2Fix / 2 ^ fixBits
        let s := expSum x 60 1 (2 ^ fixBits) (2 ^ fixBits)
        .fin false (2 * s + 1) (k - fixBits - 1)

/-- Σ z^(2k+1) / (2k+1) in fixed point. -/
def atanhSum (z2 : Nat) : Nat → Nat → Nat → Nat → Nat
  | 0, _, _, acc => acc
  | n + 1, k, t, acc => atanhSum z2 n (k + 1) (t * z2 / 2 ^ fixBits) (acc + t / (2 * k + 1))

/-- log2 a (R109, Table 04.3; log 17). -/
def log2Ex : Ex → Ex
  | .nan => .nan
  | .inf true => .nan
  | .inf false => .inf false
  | .fin n m e =>
    if m = 0 then .inf true
    else if n then .nan
    else
      let l := log2 m
      let ex : Int := (l : Int) + e
      if m = 2 ^ l then (if ex = 0 then .fin false 0 0 else Ex.ofInt ex)
      else
        -- x = m / 2^l in (1, 2); ln x = 2 atanh ((m - 2^l) / (m + 2^l))
        let z := (m - 2 ^ l) * 2 ^ fixBits / (m + 2 ^ l)
        let a := 2 * atanhSum (z * z / 2 ^ fixBits) 64 0 z 0
        let lg := a * 2 ^ fixBits / ln2Fix
        let v : Int := ex * (2 ^ fixBits : Nat) + lg
        .fin (decide (v < 0)) (2 * v.natAbs + 1) (-(fixBits : Int) - 1)

/-- 1/a (Table 04.3). -/
def rcpEx (x : Ex) : Ex := Ex.div Ex.one x
/-- 1/√a (Table 04.3: below zero NaN, ±0 gives ±∞, +∞ gives +0). -/
def rsqrtEx : Ex → Ex
  | .nan => .nan
  | .inf true => .nan
  | .inf false => .fin false 0 0
  | .fin n m e =>
    if m = 0 then .inf n
    else if n then .nan
    else
      -- 1/√(m 2^e) = √(2^-e / m), the quotient with 200 bits before the root
      let o : Int := if e % 2 = 0 then 0 else 1
      let q := 2 ^ 400 / m
      let r := isqrt (q * pow2 o)
      .fin false (2 * r + (if r * r * m = 2 ^ 400 * pow2 o then 0 else 1)) ((-e - o - 400) / 2 - 1)

/-- Rounds an exact value to an integer: nearest-even or toward zero; saturated between lo and hi; NaN gives 0 (Table 04.4). -/
def toIntSat (lo hi : Int) (trunc : Bool) : Ex → Int
  | .nan => 0
  | .inf n => if n then lo else hi
  | .fin n m e =>
    let r := if trunc then (if 0 ≤ e then m * pow2 e else m / pow2 (-e)) else rneGrid m e 0
    let v : Int := if n then -(r : Int) else r
    if v < lo then lo else if v > hi then hi else v

/-- FCMP and ICMP selections (R37, R110): 0 EQ, 1 NE, 2 LT, 3 LE, 4 GT, 5 GE, 6 ordered, 7 unordered. -/
def fcmpSel (sel : Nat) (x y : Ex) : Bool :=
  let un := x.isNan || y.isNan
  match sel with
  | 0 => !un && Ex.eqv x y
  | 1 => un || !(Ex.eqv x y)
  | 2 => !un && Ex.numLt x y
  | 3 => !un && (Ex.numLt x y || Ex.eqv x y)
  | 4 => !un && Ex.numLt y x
  | 5 => !un && (Ex.numLt y x || Ex.eqv x y)
  | 6 => !un
  | _ => un

/-- The pairwise tree of R40 over a list, with a node function; one level per call, structurally on fuel. -/
def pairUp {α : Type} (f : α → α → α) : List α → List α
  | a :: b :: r => f a b :: pairUp f r
  | l => l

def treeFuel {α : Type} (f : α → α → α) : Nat → List α → List α
  | 0, l => l
  | n + 1, l => treeFuel f n (pairUp f l)

def treeList {α : Type} (f : α → α → α) (l : List α) : Option α := (treeFuel f (l.length.log2 + 1) l).head?

/-- The draw generator of R108. -/
def xorshift (s : Nat) : Nat :=
  let a := s ^^^ (s <<< 13) % 2 ^ 32
  let b := a ^^^ (a >>> 17)
  b ^^^ (b <<< 5) % 2 ^ 32
def mix32 (x : Nat) : Nat :=
  let a := x ^^^ (x >>> 16)
  let b := (a * 0x85ebca6b) % 2 ^ 32
  let c := b ^^^ (b >>> 13)
  let d := (c * 0xc2b2ae35) % 2 ^ 32
  d ^^^ (d >>> 16)
def drawStart (seed launch group sub : Nat) : Nat :=
  let a := mix32 (seed ^^^ (launch * 0x9e3779b9) % 2 ^ 32)
  let b := mix32 (a ^^^ group)
  let c := mix32 (b ^^^ sub)
  if c = 0 then 0x6d2b79f5 else c
def iter {α : Type} (f : α → α) : Nat → α → α
  | 0, x => x
  | n + 1, x => iter f n (f x)
/-- Draw k of a stream: the state after k + 1 steps. -/
def draw (seed launch group sub k : Nat) : Nat := iter xorshift (k + 1) (drawStart seed launch group sub)

end Sys2Proof.Machine
end

