-- ==== Sys2Proof/Machine/Codes.lean ====
section
/-!
DEFINITION. Machine/Codes.lean: the status codes of Table 13.12 (R344) and the alarm events of Table 17.3 (R443), by name.
-/
namespace Sys2Proof.Machine
namespace Code

def ok : Status := 0x0000
def commandInvalid : Status := 0x0101
def notAdmin : Status := 0x0102
def contextState : Status := 0x0103
def gradeInvalid : Status := 0x0104
def priorFailed : Status := 0x0105
def ringConfig : Status := 0x0106
def partitionConflict : Status := 0x0107
def powerCap : Status := 0x0108
def entryRange : Status := 0x0109
def entryAccess : Status := 0x010A
def mapInvalid : Status := 0x010B
def launchResources : Status := 0x0110
def launchWidth : Status := 0x0111
def specDisabled : Status := 0x0112
def replayInvalid : Status := 0x0113
def optParams : Status := 0x0114
def saveAreaFull : Status := 0x0115
def portConfig : Status := 0x0116
def exchangeParams : Status := 0x0117
def snapshotParams : Status := 0x0118
def launchCode : Status := 0x0119
def illegal : Status := 0x0201
def pageFault : Status := 0x0202
def misaligned : Status := 0x0203
def localBounds : Status := 0x0204
def livelock : Status := 0x0205
def lockMisuse : Status := 0x0206
def divergence : Status := 0x0207
def coreFenced : Status := 0x0208
def offdomainLoad : Status := 0x0209
def descriptorInvalid : Status := 0x020A
def modeFormat : Status := 0x020B
def indexFault : Status := 0x020C
def sparsePattern : Status := 0x020D
def rowanOverflow : Status := 0x020E
def accessDenied : Status := 0x020F
def uncorrectable : Status := 0x0210
def memoryLost : Status := 0x0211
def gatewayFailed : Status := 0x0212
def digestMismatch : Status := 0x0213
def powerReset : Status := 0x0214
def tornDown : Status := 0x0215
def remoteTimeout : Status := 0x0301
def gatewayTimeout : Status := 0x0302
def kernelDeadline : Status := 0x0303
def commandTimeout : Status := 0x0304
def quiesceForced : Status := 0x0305
def journalTimeout : Status := 0x0306
def numericFlagged : Status := 0x0401
def indexRange : Status := 0x0402
def sampled : Status := 0x0403
def unchecked : Status := 0x0404
def optSkipped : Status := 0x0405
def tokenInvalid : Status := 0x0501
def tokenStale : Status := 0x0502
def debugDenied : Status := 0x0503
def identityUnavailable : Status := 0x0504
def packageRejected : Status := 0x0505
/-- A token that is still running, as POLL shows it (R52, R75). -/
def running : Status := 0xFFFF

/-- R344: every code except OK and the class 0x04nn is a failure. -/
def isFailure (c : Status) : Bool := c != 0 && c.toNat / 256 != 4

end Code

namespace Ev
def coreFenced : Nat := 0x0001
def selftestMismatch : Nat := 0x0002
def noSpare : Nat := 0x0003
def sramUncorrectable : Nat := 0x0004
def arrayFault : Nat := 0x0010
def alderFault : Nat := 0x0011
def hbmUncorrectable : Nat := 0x0020
def channelMappedOut : Nat := 0x0021
def channelRetest : Nat := 0x0022
def pageLost : Nat := 0x0023
def refreshStep : Nat := 0x0024
def stackFailed : Nat := 0x0025
def linkDown : Nat := 0x0030
def linkAttemptFailed : Nat := 0x0031
def linkAuth : Nat := 0x0032
def gatewayAuth : Nat := 0x0033
def digestMismatch : Nat := 0x0034
def tokenRefused : Nat := 0x0040
def identityInvalid : Nat := 0x0041
def sessionAuth : Nat := 0x0042
def duplicateAddress : Nat := 0x0043
def debugAction : Nat := 0x0044
def journalTimeout : Nat := 0x0050
def valueDefaulted : Nat := 0x0051
def packageFallback : Nat := 0x0052
def gradeMissing : Nat := 0x0053
def supplyWarning : Nat := 0x0060
def powerFailure : Nat := 0x0061
def dieReset : Nat := 0x0062
def telemetryStale : Nat := 0x0063
def railSequence : Nat := 0x0064
def thermalEmergency : Nat := 0x0070
def thermalTrip : Nat := 0x0071
def sensorFailed : Nat := 0x0072
def endOfMargin : Nat := 0x0080
def counterSaturated : Nat := 0x0090
def recorderFull : Nat := 0x0091
def groveReset : Nat := 0x0092
def traceCompletion : Nat := 0x0100
def traceLinkState : Nat := 0x0101
def traceSwitch : Nat := 0x0102

/-- What a row of Table 17.3 gives: priority, unit class, and the KIND of the Yew record (0 none, 1 ordinary, 2 full, 5). -/
def row (ev : Nat) : Nat × Nat × Nat :=
  match ev with
  | 0x0001 => (1, 0, 1)
  | 0x0002 => (2, 1, 2)
  | 0x0003 => (1, 0, 1)
  | 0x0004 => (1, 0, 1)
  | 0x0010 => (2, 1, 2)
  | 0x0011 => (2, 3, 2)
  | 0x0020 => (1, 4, 1)
  | 0x0021 => (1, 4, 1)
  | 0x0022 => (3, 4, 1)
  | 0x0023 => (1, 4, 1)
  | 0x0024 => (2, 4, 1)
  | 0x0025 => (1, 4, 1)
  | 0x0030 => (1, 6, 1)
  | 0x0031 => (3, 6, 1)
  | 0x0032 => (0, 6, 1)
  | 0x0033 => (0, 7, 1)
  | 0x0034 => (1, 9, 1)
  | 0x0040 => (0, 10, 1)
  | 0x0041 => (0, 10, 1)
  | 0x0042 => (0, 15, 1)
  | 0x0043 => (1, 15, 1)
  | 0x0044 => (3, 0, 1)
  | 0x0050 => (2, 11, 1)
  | 0x0051 => (2, 11, 1)
  | 0x0052 => (1, 11, 1)
  | 0x0053 => (0, 11, 1)
  | 0x0060 => (2, 12, 1)
  | 0x0061 => (0, 12, 1)
  | 0x0062 => (0, 12, 1)
  | 0x0063 => (1, 12, 1)
  | 0x0064 => (2, 12, 1)
  | 0x0070 => (1, 13, 1)
  | 0x0071 => (0, 13, 1)
  | 0x0072 => (2, 13, 1)
  | 0x0080 => (1, 14, 1)
  | 0x0090 => (3, 16, 0)
  | 0x0091 => (1, 16, 5)
  | 0x0092 => (2, 9, 1)
  | 0x0100 => (4, 9, 0)
  | 0x0101 => (4, 6, 0)
  | _      => (4, 0, 0)

end Ev
end Sys2Proof.Machine
end

