-- ==== Sys2Proof/Machine/DictTable.lean ====
section
/-!
DEFINITION. Machine/DictTable.lean: the object dictionary's entries as the chapters' tables give them (R61, R93, R121, R155, R182,
R210, R230, R252, R282, R299, R309, R328, R354, R382, R408, R437, R467): name, index and span of indices, first sub-index and
how many, bytes, kind, access, classes (1 M, 2 H, 4 T, 8 V), counter (0 none, 1 saturating, 2 wrapping), default, range,
persistent. A default that is 'per part' is zero (log 10).
-/
namespace Sys2Proof.Machine

/-- Kind of an entry's value (R394). -/
inductive EKind where
  | uint | bool | octets | str
  deriving DecidableEq, Repr

/-- Access of an entry (R395): read only, read and write, persistent write, write only, command. -/
inductive EAcc where
  | ro | rw | rws | wo | cmd
  deriving DecidableEq, Repr

/-- A row of the dictionary. -/
structure Entry where
  name    : String
  index   : Nat
  span    : Nat
  sub     : Nat
  subs    : Nat
  bytes   : Nat
  kind    : EKind
  acc     : EAcc
  classes : Nat
  counter : Nat
  dflt    : Nat
  lo      : Nat
  hi      : Option Nat
  persist : Bool
  deriving DecidableEq, Repr

/-- Entries of spec/02_cores_and_thread_groups.md. -/
def rows02 : List Entry := [
  ⟨"CORES_ENABLED", 0x4000, 1, 0x01, 1, 2, .uint, .ro, 7, 0, 0, 0, none, false⟩,
  ⟨"GROVES_ENABLED", 0x4000, 1, 0x02, 1, 1, .uint, .ro, 7, 0, 0, 0, none, false⟩,
  ⟨"SPARES_LEFT", 0x4000, 1, 0x03, 1, 2, .uint, .ro, 3, 0, 0, 0, none, false⟩,
  ⟨"CORES_NARROWED", 0x4000, 1, 0x04, 1, 2, .uint, .ro, 3, 0, 0, 0, none, false⟩,
  ⟨"GROUP_WATCHDOG", 0x4010, 1, 0x01, 1, 4, .uint, .rws, 3, 0, 50, 5, (some 1000), true⟩,
  ⟨"LIVELOCK_FAULTS", 0x4010, 1, 0x02, 1, 4, .uint, .ro, 3, 1, 0, 0, none, false⟩,
  ⟨"DIVERGE_FAULTS", 0x4010, 1, 0x03, 1, 4, .uint, .ro, 3, 1, 0, 0, none, false⟩,
  ⟨"DBG_TARGET", 0x4020, 1, 0x01, 1, 8, .uint, .rw, 3, 0, 2305843009213693952, 0, none, false⟩,
  ⟨"DBG_ACTION", 0x4020, 1, 0x02, 1, 1, .uint, .cmd, 3, 0, 0, 1, (some 3), false⟩,
  ⟨"DBG_STATUS", 0x4020, 1, 0x03, 1, 4, .uint, .ro, 3, 0, 0, 0, none, false⟩,
  ⟨"DBG_AUTH", 0x4020, 1, 0x04, 1, 128, .octets, .wo, 8, 0, 0, 0, none, false⟩,
  ⟨"DBG_SELECT", 0x4021, 1, 0x01, 1, 4, .uint, .rw, 3, 0, 0, 0, none, false⟩,
  ⟨"DBG_DATA", 0x4021, 1, 0x02, 1, 128, .octets, .rw, 3, 0, 0, 0, none, false⟩,
  ⟨"BP_ADDR_n", 0x4022, 1, 0x01, 8, 8, .uint, .rw, 3, 0, 0, 0, none, false⟩,
  ⟨"BP_CTRL_n", 0x4022, 1, 0x09, 8, 4, .uint, .rw, 3, 0, 0, 0, none, false⟩,
  ⟨"DBP_CTRL_n", 0x4022, 1, 0x11, 4, 4, .uint, .rw, 3, 0, 0, 0, none, false⟩,
  ⟨"DBP_ADDR_n", 0x4022, 1, 0x15, 4, 8, .uint, .rw, 3, 0, 0, 0, none, false⟩]

/-- Entries of spec/03_matrix_arrays.md. -/
def rows03 : List Entry := [
  ⟨"ARRAY_REPAIR", 0x4030, 1, 0x01, 1, 1, .uint, .rws, 3, 0, 1, 0, (some 1), true⟩,
  ⟨"MXA_OPS", 0x4030, 1, 0x02, 1, 8, .uint, .ro, 3, 1, 0, 0, none, false⟩,
  ⟨"MXA_FAILED", 0x4030, 1, 0x03, 1, 4, .uint, .ro, 3, 1, 0, 0, none, false⟩,
  ⟨"ARRAY_BUSY", 0x4030, 1, 0x04, 1, 8, .uint, .ro, 3, 2, 0, 0, none, false⟩,
  ⟨"ZERO_GATED", 0x4030, 1, 0x05, 1, 8, .uint, .ro, 3, 2, 0, 0, none, false⟩,
  ⟨"QUEUE_WAITS", 0x4030, 1, 0x06, 1, 4, .uint, .ro, 3, 1, 0, 0, none, false⟩,
  ⟨"ARRAY_MAP", 0x4031, 1, 0x01, 1, 640, .octets, .ro, 3, 0, 0, 0, none, false⟩]

/-- Entries of spec/04_number_formats_and_accumulation.md. -/
def rows04 : List Entry := [
  ⟨"NUM_OVERFLOWED", 0x4040, 1, 0x01, 1, 8, .uint, .ro, 3, 1, 0, 0, none, false⟩,
  ⟨"NUM_FLUSHED", 0x4040, 1, 0x02, 1, 8, .uint, .ro, 3, 1, 0, 0, none, false⟩,
  ⟨"NUM_NAN_PRODUCED", 0x4040, 1, 0x03, 1, 8, .uint, .ro, 3, 1, 0, 0, none, false⟩,
  ⟨"NUM_SUBNORMAL", 0x4040, 1, 0x04, 1, 8, .uint, .ro, 3, 1, 0, 0, none, false⟩,
  ⟨"NUM_NAN_BLOCKS", 0x4040, 1, 0x05, 1, 8, .uint, .ro, 3, 1, 0, 0, none, false⟩,
  ⟨"SR_DRAWS", 0x4040, 1, 0x06, 1, 8, .uint, .ro, 3, 2, 0, 0, none, false⟩,
  ⟨"SR_SEED", 0x9000, 4096, 0x20, 1, 4, .uint, .rw, 6, 0, 0, 0, none, false⟩,
  ⟨"SR_LAUNCH", 0x9000, 4096, 0x21, 1, 4, .uint, .ro, 6, 0, 0, 0, none, false⟩]

/-- Entries of spec/05_sparsity_and_neuron_prediction.md. -/
def rows05 : List Entry := [
  ⟨"SPARSE_OPS", 0x4050, 1, 0x01, 1, 8, .uint, .ro, 3, 1, 0, 0, none, false⟩,
  ⟨"BAD_INDEX_TOTAL", 0x4050, 1, 0x02, 1, 8, .uint, .ro, 3, 1, 0, 0, none, false⟩,
  ⟨"PATTERN_FAILS", 0x4050, 1, 0x03, 1, 4, .uint, .ro, 3, 1, 0, 0, none, false⟩,
  ⟨"PRUNED_TOTAL", 0x4050, 1, 0x04, 1, 8, .uint, .ro, 3, 1, 0, 0, none, false⟩,
  ⟨"ROWAN_SPILLS", 0x4050, 1, 0x05, 1, 8, .uint, .ro, 3, 1, 0, 0, none, false⟩,
  ⟨"ROWAN_OVERFLOWS", 0x4050, 1, 0x06, 1, 4, .uint, .ro, 3, 1, 0, 0, none, false⟩,
  ⟨"SPEC_DEFERRED", 0x4051, 1, 0x01, 1, 8, .uint, .ro, 3, 1, 0, 0, none, false⟩,
  ⟨"SPEC_CHECKED", 0x4051, 1, 0x02, 1, 8, .uint, .ro, 3, 1, 0, 0, none, false⟩,
  ⟨"SPEC_PROVEN", 0x4051, 1, 0x03, 1, 8, .uint, .ro, 3, 1, 0, 0, none, false⟩,
  ⟨"SPEC_NOPRED", 0x4051, 1, 0x04, 1, 4, .uint, .ro, 3, 1, 0, 0, none, false⟩,
  ⟨"SPEC_UNFENCED", 0x4051, 1, 0x05, 1, 4, .uint, .ro, 3, 1, 0, 0, none, false⟩,
  ⟨"SPEC_QFULL", 0x4051, 1, 0x06, 1, 8, .uint, .ro, 3, 1, 0, 0, none, false⟩,
  ⟨"CHECK_FILLER_ROWS", 0x4051, 1, 0x07, 1, 8, .uint, .ro, 3, 2, 0, 0, none, false⟩,
  ⟨"STRICT_INDEX", 0x9000, 4096, 0x30, 1, 1, .bool, .rw, 6, 0, 0, 0, (some 1), false⟩,
  ⟨"SPEC_ENABLE", 0x9000, 4096, 0x31, 1, 1, .bool, .rw, 3, 0, 0, 0, (some 1), false⟩]

/-- Entries of spec/06_backward_pass_and_alder_engines.md. -/
def rows06 : List Entry := [
  ⟨"DERIV_APPLIED", 0x4060, 1, 0x01, 1, 8, .uint, .ro, 3, 1, 0, 0, none, false⟩,
  ⟨"DERIV_SAVED", 0x4060, 1, 0x02, 1, 8, .uint, .ro, 3, 1, 0, 0, none, false⟩,
  ⟨"MASKED_ROWS", 0x4060, 1, 0x03, 1, 8, .uint, .ro, 3, 1, 0, 0, none, false⟩,
  ⟨"REPLAY_ENTRIES", 0x4060, 1, 0x04, 1, 4, .uint, .ro, 3, 1, 0, 0, none, false⟩,
  ⟨"REPLAY_REFUSED", 0x4060, 1, 0x05, 1, 4, .uint, .ro, 3, 1, 0, 0, none, false⟩,
  ⟨"ALDER_STEPS", 0x3080, 1, 0x01, 1, 4, .uint, .ro, 3, 1, 0, 0, none, false⟩,
  ⟨"ALDER_PARAMS", 0x3080, 1, 0x02, 1, 8, .uint, .ro, 3, 1, 0, 0, none, false⟩,
  ⟨"ALDER_SKIPPED", 0x3080, 1, 0x03, 1, 4, .uint, .ro, 3, 1, 0, 0, none, false⟩,
  ⟨"ALDER_FAILED", 0x3080, 1, 0x04, 1, 4, .uint, .ro, 3, 1, 0, 0, none, false⟩,
  ⟨"ALDER_SATURATED", 0x3080, 1, 0x05, 1, 8, .uint, .ro, 3, 1, 0, 0, none, false⟩,
  ⟨"ALDER_FENCED", 0x3080, 1, 0x06, 1, 4, .uint, .ro, 3, 0, 0, 0, none, false⟩,
  ⟨"ALDER_BUSY", 0x3080, 1, 0x07, 1, 8, .uint, .ro, 3, 2, 0, 0, none, false⟩]

/-- Entries of spec/07_memory_hierarchy_and_address_space.md. -/
def rows07 : List Entry := [
  ⟨"NEAR_TOTAL", 0x3000, 1, 0x01, 1, 8, .uint, .ro, 3, 0, 12884901888, 0, none, false⟩,
  ⟨"NEAR_FW_RESERVE", 0x3000, 1, 0x02, 1, 4, .uint, .ro, 3, 0, 64, 0, none, false⟩,
  ⟨"NEAR_FREE", 0x3000, 1, 0x03, 1, 8, .uint, .ro, 3, 0, 12348030976, 0, none, false⟩,
  ⟨"SAVE_AREAS", 0x3000, 1, 0x04, 1, 2, .uint, .ro, 3, 0, 0, 0, none, false⟩,
  ⟨"HBM_FIRMWARE", 0x3000, 1, 0x05, 1, 8, .uint, .ro, 3, 0, 0, 0, none, false⟩,
  ⟨"CHANNEL_CAP", 0x3001, 1, 0x01, 1, 1, .uint, .rws, 3, 0, 16, 4, (some 16), true⟩,
  ⟨"BANK_SOURCE_CAP", 0x3001, 1, 0x02, 1, 1, .uint, .rws, 3, 0, 8, 2, (some 8), true⟩,
  ⟨"CHANNEL_CAP_WAITS", 0x3001, 1, 0x03, 1, 8, .uint, .ro, 3, 1, 0, 0, none, false⟩,
  ⟨"BANK_ADMIT_WAITS", 0x3001, 1, 0x04, 1, 8, .uint, .ro, 3, 1, 0, 0, none, false⟩,
  ⟨"TM_RUNAHEAD", 0x3002, 1, 0x01, 1, 1, .bool, .rws, 3, 0, 1, 0, (some 1), true⟩,
  ⟨"STREAM_PREFETCH", 0x3002, 1, 0x02, 1, 1, .bool, .rws, 3, 0, 1, 0, (some 1), true⟩,
  ⟨"PREFETCH_ISSUED", 0x3002, 1, 0x03, 1, 8, .uint, .ro, 3, 1, 0, 0, none, false⟩,
  ⟨"PREFETCH_DROPPED", 0x3002, 1, 0x04, 1, 8, .uint, .ro, 3, 1, 0, 0, none, false⟩,
  ⟨"XLAT_MISSES", 0x3003, 1, 0x01, 1, 8, .uint, .ro, 3, 1, 0, 0, none, false⟩,
  ⟨"TABLE_WALKS", 0x3003, 1, 0x02, 1, 8, .uint, .ro, 3, 1, 0, 0, none, false⟩,
  ⟨"WINDOW_SAVED", 0x3003, 1, 0x03, 1, 8, .uint, .ro, 3, 1, 0, 0, none, false⟩,
  ⟨"PAGES_MAPPED", 0x9000, 4096, 0x40, 1, 4, .uint, .ro, 6, 0, 0, 0, none, false⟩,
  ⟨"PAGE_FAULTS", 0x9000, 4096, 0x41, 1, 4, .uint, .ro, 6, 1, 0, 0, none, false⟩,
  ⟨"ACCESS_DENIALS", 0x9000, 4096, 0x42, 1, 4, .uint, .ro, 6, 1, 0, 0, none, false⟩]

/-- Entries of spec/08_hbm_stacks.md. -/
def rows08 : List Entry := [
  ⟨"HBM_BACKED", 0x3010, 1, 0x01, 1, 8, .uint, .ro, 7, 0, 2199023255552, 0, none, false⟩,
  ⟨"CHANNELS_OUT", 0x3010, 1, 0x02, 1, 2, .uint, .ro, 3, 0, 0, 0, none, true⟩,
  ⟨"MAPOUT_SET", 0x3010, 1, 0x03, 1, 64, .octets, .ro, 3, 0, 0, 0, none, true⟩,
  ⟨"MAPOUT_CLEAR", 0x3010, 1, 0x04, 1, 128, .octets, .wo, 8, 0, 0, 0, none, false⟩,
  ⟨"LANES_REPAIRED", 0x3010, 1, 0x05, 1, 2, .uint, .ro, 3, 0, 0, 0, none, true⟩,
  ⟨"PAGES_LOST", 0x3010, 1, 0x06, 1, 4, .uint, .ro, 3, 1, 0, 0, none, false⟩,
  ⟨"MAPOUT_STATE", 0x3010, 1, 0x07, 1, 1, .uint, .ro, 3, 0, 0, 0, none, false⟩,
  ⟨"ECC_CORRECTED", 0x3011, 1, 0x01, 1, 8, .uint, .ro, 3, 1, 0, 0, none, false⟩,
  ⟨"ECC_UNCORRECTABLE", 0x3011, 1, 0x02, 1, 8, .uint, .ro, 3, 1, 0, 0, none, false⟩,
  ⟨"ONDIE_CORRECTED", 0x3011, 1, 0x03, 1, 8, .uint, .ro, 3, 1, 0, 0, none, false⟩,
  ⟨"POISON_READS", 0x3011, 1, 0x04, 1, 8, .uint, .ro, 3, 1, 0, 0, none, false⟩,
  ⟨"CA_PARITY", 0x3011, 1, 0x05, 1, 8, .uint, .ro, 3, 1, 0, 0, none, false⟩,
  ⟨"SCRUB_PERIOD", 0x3012, 1, 0x01, 1, 2, .uint, .rws, 3, 0, 24, 4, (some 168), true⟩,
  ⟨"SCRUB_PASSES", 0x3012, 1, 0x02, 1, 4, .uint, .ro, 3, 1, 0, 0, none, false⟩,
  ⟨"STACK_TEMP", 0x3013, 1, 0x01, 1, 16, .octets, .ro, 3, 0, 0, 0, none, false⟩,
  ⟨"REFRESH_STEP", 0x3013, 1, 0x02, 1, 16, .octets, .ro, 3, 0, 0, 0, none, false⟩,
  ⟨"THROTTLE_ENTRIES", 0x3013, 1, 0x03, 1, 4, .uint, .ro, 3, 1, 0, 0, none, false⟩,
  ⟨"CA_LIMIT", 0x3014, 1, 0x01, 1, 1, .uint, .rws, 3, 0, 4, 1, (some 64), true⟩,
  ⟨"UE_LIMIT", 0x3014, 1, 0x02, 1, 2, .uint, .rws, 3, 0, 16, 1, (some 1024), true⟩,
  ⟨"CE_RETEST", 0x3014, 1, 0x03, 1, 4, .uint, .rws, 3, 0, 10000, 100, (some 1000000), true⟩,
  ⟨"SECTORS_READ", 0x3015, 1, 0x01, 1, 8, .uint, .ro, 3, 1, 0, 0, none, false⟩,
  ⟨"SECTORS_MERGED", 0x3015, 1, 0x02, 1, 8, .uint, .ro, 3, 1, 0, 0, none, false⟩,
  ⟨"PAGES_LOST", 0x9000, 4096, 0x43, 1, 4, .uint, .ro, 6, 1, 0, 0, none, false⟩]

/-- Entries of spec/09_memory_ordering_recipes.md. -/
def rows09 : List Entry := [
  ⟨"ACQ_INVALIDATES", 0x3020, 1, 0x01, 1, 8, .uint, .ro, 3, 1, 0, 0, none, false⟩,
  ⟨"FLAGS_APPLIED", 0x3020, 1, 0x02, 1, 8, .uint, .ro, 3, 1, 0, 0, none, false⟩,
  ⟨"RELEASES_WITHHELD", 0x3020, 1, 0x03, 1, 4, .uint, .ro, 3, 1, 0, 0, none, false⟩,
  ⟨"RELEASE_WAIT", 0x3020, 1, 0x04, 1, 8, .uint, .ro, 3, 2, 0, 0, none, false⟩]

/-- Entries of spec/10_askik_links.md. -/
def rows10 : List Entry := [
  ⟨"DEVICE_ID", 0x5000, 1, 0x01, 1, 1, .uint, .rws, 1, 0, 0, 0, (some 63), true⟩,
  ⟨"DOMAIN_ID", 0x5000, 1, 0x02, 1, 2, .uint, .rws, 1, 0, 0, 0, (some 4095), true⟩,
  ⟨"ROUTE_MODE", 0x5000, 1, 0x03, 1, 1, .uint, .rws, 3, 0, 0, 0, (some 1), true⟩,
  ⟨"ROUTE_d", 0x5001, 1, 0x01, 64, 4, .uint, .rws, 3, 0, 0, 0, (some 262143), true⟩,
  ⟨"PORT_CTRL_p", 0x5002, 1, 0x01, 18, 4, .uint, .rws, 3, 0, 1, 0, none, true⟩,
  ⟨"PORT_STATE_p", 0x5003, 1, 0x01, 18, 4, .uint, .ro, 3, 0, 0, 0, none, false⟩,
  ⟨"ACK_TIMER", 0x5010, 1, 0x01, 1, 1, .uint, .rws, 3, 0, 3, 1, (some 64), true⟩,
  ⟨"RX_SILENCE", 0x5010, 1, 0x02, 1, 1, .uint, .rws, 3, 0, 10, 2, (some 100), true⟩,
  ⟨"REPLAY_LIMIT", 0x5010, 1, 0x03, 1, 2, .uint, .rws, 3, 0, 1024, 16, (some 1024), true⟩,
  ⟨"REKEY_LOG2", 0x5010, 1, 0x04, 1, 1, .uint, .rws, 3, 0, 36, 24, (some 40), true⟩,
  ⟨"REKEY_NOW", 0x5010, 1, 0x05, 1, 4, .uint, .cmd, 3, 0, 0, 0, (some 262143), false⟩,
  ⟨"RETRAIN_INTERVAL", 0x5010, 1, 0x06, 1, 2, .uint, .rws, 3, 0, 2000, 100, (some 60000), true⟩,
  ⟨"TAG_FAIL_LIMIT", 0x5010, 1, 0x07, 1, 1, .uint, .rws, 3, 0, 8, 1, (some 64), true⟩,
  ⟨"MISROUTED", 0x5010, 1, 0x08, 1, 8, .uint, .ro, 3, 1, 0, 0, none, false⟩,
  ⟨"FEC_CORRECTED", 0x5100, 18, 0x01, 1, 8, .uint, .ro, 3, 1, 0, 0, none, false⟩,
  ⟨"FEC_UNCORRECTABLE", 0x5100, 18, 0x02, 1, 8, .uint, .ro, 3, 1, 0, 0, none, false⟩,
  ⟨"CRC_FAILS", 0x5100, 18, 0x03, 1, 8, .uint, .ro, 3, 1, 0, 0, none, false⟩,
  ⟨"TAG_FAILS", 0x5100, 18, 0x04, 1, 4, .uint, .ro, 3, 1, 0, 0, none, false⟩,
  ⟨"OUT_OF_ORDER", 0x5100, 18, 0x05, 1, 8, .uint, .ro, 3, 1, 0, 0, none, false⟩,
  ⟨"REPLAYS", 0x5100, 18, 0x06, 1, 8, .uint, .ro, 3, 1, 0, 0, none, false⟩,
  ⟨"LINK_DOWNS", 0x5100, 18, 0x07, 1, 4, .uint, .ro, 3, 1, 0, 0, none, false⟩,
  ⟨"FLITS_TX", 0x5100, 18, 0x08, 1, 8, .uint, .ro, 3, 2, 0, 0, none, false⟩,
  ⟨"SLOTS_TX", 0x5100, 18, 0x09, 1, 8, .uint, .ro, 3, 2, 0, 0, none, false⟩]

/-- Entries of spec/11_remote_operations_and_larch_gateways.md. -/
def rows11 : List Entry := [
  ⟨"REQ_TIMEOUT", 0x5030, 1, 0x01, 1, 2, .uint, .rws, 3, 0, 16, 2, (some 256), true⟩,
  ⟨"REMOTE_ACCEPTED", 0x5030, 1, 0x02, 1, 8, .uint, .ro, 3, 1, 0, 0, none, false⟩,
  ⟨"HOLDS_SENT", 0x5030, 1, 0x03, 1, 8, .uint, .ro, 3, 1, 0, 0, none, false⟩,
  ⟨"DEADLINE_MISSES", 0x5030, 1, 0x04, 1, 4, .uint, .ro, 3, 1, 0, 0, none, false⟩,
  ⟨"REQ_TIMEOUTS", 0x5030, 1, 0x05, 1, 4, .uint, .ro, 3, 1, 0, 0, none, false⟩,
  ⟨"MALFORMED", 0x5030, 1, 0x06, 1, 4, .uint, .ro, 3, 1, 0, 0, none, false⟩,
  ⟨"KEY_MISMATCH", 0x5030, 1, 0x07, 1, 4, .uint, .ro, 3, 1, 0, 0, none, false⟩,
  ⟨"ATOMICS_APPLIED", 0x5030, 1, 0x08, 1, 8, .uint, .ro, 3, 2, 0, 0, none, false⟩,
  ⟨"LATE_RESPONSES", 0x5030, 1, 0x09, 1, 4, .uint, .ro, 3, 1, 0, 0, none, false⟩,
  ⟨"GW_IPV6", 0x5040, 4, 0x01, 1, 16, .octets, .rws, 1, 0, 0, 0, none, true⟩,
  ⟨"GW_MAC", 0x5040, 4, 0x02, 1, 6, .octets, .rws, 1, 0, 0, 0, none, true⟩,
  ⟨"GW_NEXTHOP", 0x5040, 4, 0x03, 1, 6, .octets, .rws, 1, 0, 0, 0, none, true⟩,
  ⟨"GW_MTU", 0x5040, 4, 0x04, 1, 2, .uint, .rws, 3, 0, 9000, 1500, (some 9216), true⟩,
  ⟨"GW_STATE", 0x5040, 4, 0x05, 1, 1, .uint, .ro, 3, 0, 0, 0, none, false⟩,
  ⟨"FRAMES_TX", 0x5040, 4, 0x06, 1, 8, .uint, .ro, 3, 2, 0, 0, none, false⟩,
  ⟨"FRAMES_RX", 0x5040, 4, 0x07, 1, 8, .uint, .ro, 3, 2, 0, 0, none, false⟩,
  ⟨"RETRANSMITS", 0x5040, 4, 0x08, 1, 8, .uint, .ro, 3, 1, 0, 0, none, false⟩,
  ⟨"FRAME_FAILS", 0x5040, 4, 0x09, 1, 4, .uint, .ro, 3, 1, 0, 0, none, false⟩,
  ⟨"AUTH_FAILS", 0x5040, 4, 0x0A, 1, 4, .uint, .ro, 3, 1, 0, 0, none, false⟩,
  ⟨"DISCARDS", 0x5040, 4, 0x0B, 1, 8, .uint, .ro, 3, 1, 0, 0, none, false⟩,
  ⟨"GW_PEER_n", 0x5050, 1, 0x01, 64, 68, .octets, .rws, 3, 0, 0, 0, none, true⟩,
  ⟨"GW_UDP_PORT", 0x5060, 1, 0x01, 1, 2, .uint, .rws, 1, 0, 50121, 1024, (some 65535), true⟩,
  ⟨"GW_FLUSH", 0x5060, 1, 0x02, 1, 2, .uint, .rws, 3, 0, 2, 1, (some 100), true⟩,
  ⟨"GW_RETRY", 0x5060, 1, 0x03, 1, 2, .uint, .rws, 3, 0, 200, 20, (some 10000), true⟩,
  ⟨"GW_RETRIES", 0x5060, 1, 0x04, 1, 1, .uint, .rws, 3, 0, 3, 0, (some 15), true⟩]

/-- Entries of spec/12_gradient_exchange_and_brass_digests.md. -/
def rows12 : List Entry := [
  ⟨"EXCHANGES", 0x5070, 1, 0x01, 1, 4, .uint, .ro, 3, 1, 0, 0, none, false⟩,
  ⟨"EXCH_FAILED", 0x5070, 1, 0x02, 1, 4, .uint, .ro, 3, 1, 0, 0, none, false⟩,
  ⟨"DIGESTS_CHECKED", 0x5070, 1, 0x03, 1, 8, .uint, .ro, 3, 1, 0, 0, none, false⟩,
  ⟨"DIGEST_MISMATCHES", 0x5070, 1, 0x04, 1, 4, .uint, .ro, 3, 1, 0, 0, none, false⟩,
  ⟨"LAST_MISMATCH", 0x5070, 1, 0x05, 1, 4, .uint, .ro, 3, 0, 0, 0, none, false⟩,
  ⟨"EXCH_BYTES_TX", 0x5070, 1, 0x06, 1, 8, .uint, .ro, 3, 2, 0, 0, none, false⟩,
  ⟨"SNAPSHOT_BYTES", 0x5070, 1, 0x07, 1, 8, .uint, .ro, 3, 2, 0, 0, none, false⟩,
  ⟨"EXCH_LAST_STATUS", 0x9000, 4096, 0x50, 1, 2, .uint, .ro, 6, 0, 0, 0, none, false⟩]

/-- Entries of spec/13_moaty_command_set.md. -/
def rows13 : List Entry := [
  ⟨"DEFAULT_DEADLINE", 0x8000, 1, 0x01, 1, 2, .uint, .rws, 3, 0, 30, 1, (some 3600), true⟩,
  ⟨"CMD_TIMEOUT", 0x8000, 1, 0x02, 1, 4, .uint, .rws, 3, 0, 1000, 10, (some 60000), true⟩,
  ⟨"QUIESCE_TIMEOUT", 0x8000, 1, 0x03, 1, 2, .uint, .rws, 3, 0, 100, 10, (some 10000), true⟩,
  ⟨"COMMANDS_DONE", 0x7080, 1, 0x01, 1, 8, .uint, .ro, 3, 1, 0, 0, none, false⟩,
  ⟨"REFUSALS", 0x7080, 1, 0x02, 1, 4, .uint, .ro, 3, 1, 0, 0, none, false⟩,
  ⟨"DEADLINES", 0x7080, 1, 0x03, 1, 4, .uint, .ro, 3, 1, 0, 0, none, false⟩,
  ⟨"FORCED_QUIESCES", 0x7080, 1, 0x04, 1, 4, .uint, .ro, 3, 1, 0, 0, none, false⟩,
  ⟨"GROVE_RESETS", 0x7080, 1, 0x05, 1, 4, .uint, .ro, 3, 1, 0, 0, none, false⟩,
  ⟨"CQ_OVERFLOWS", 0x7080, 1, 0x06, 1, 4, .uint, .ro, 3, 1, 0, 0, none, false⟩,
  ⟨"CTX_STATE", 0x9000, 4096, 0x01, 1, 1, .uint, .ro, 7, 0, 0, 0, none, false⟩,
  ⟨"DEADLINE_CAP", 0x9000, 4096, 0x02, 1, 2, .uint, .rw, 3, 0, 0, 0, (some 3600), false⟩,
  ⟨"LAST_FAILURE", 0x9000, 4096, 0x03, 1, 4, .uint, .ro, 6, 0, 0, 0, none, false⟩,
  ⟨"CTX_COMMANDS", 0x9000, 4096, 0x04, 1, 8, .uint, .ro, 6, 2, 0, 0, none, false⟩]

/-- Entries of spec/14_tenants_and_ironwood.md. -/
def rows14 : List Entry := [
  ⟨"IDENTITY_STATE", 0x6000, 1, 0x01, 1, 1, .uint, .ro, 7, 0, 0, 0, none, false⟩,
  ⟨"ID_PUBKEY", 0x6000, 1, 0x02, 1, 97, .octets, .ro, 7, 0, 0, 0, none, false⟩,
  ⟨"ID_CHAIN", 0x6000, 1, 0x03, 1, 4096, .octets, .ro, 7, 0, 0, 0, none, false⟩,
  ⟨"M_ROM", 0x6000, 1, 0x04, 1, 48, .octets, .ro, 7, 0, 0, 0, none, false⟩,
  ⟨"M_TABLES", 0x6000, 1, 0x05, 1, 48, .octets, .ro, 7, 0, 0, 0, none, false⟩,
  ⟨"M_JOURNAL", 0x6000, 1, 0x06, 1, 48, .octets, .ro, 7, 0, 0, 0, none, false⟩,
  ⟨"AUTH_KEY", 0x6001, 1, 0x01, 1, 97, .octets, .rws, 9, 0, 0, 0, none, true⟩,
  ⟨"TRAY_ANCHOR", 0x6001, 1, 0x02, 1, 97, .octets, .rws, 8, 0, 0, 0, none, true⟩,
  ⟨"TOKEN_CHALLENGE", 0x6001, 1, 0x03, 1, 8, .octets, .ro, 3, 0, 0, 0, none, false⟩,
  ⟨"TOKEN_FAILS", 0x6001, 1, 0x04, 1, 4, .uint, .ro, 3, 1, 0, 0, none, false⟩,
  ⟨"PARTITIONS", 0x6003, 1, 0x01, 1, 1, .uint, .ro, 3, 0, 0, 0, none, false⟩,
  ⟨"GROVE_MAP", 0x6003, 1, 0x02, 1, 72, .octets, .ro, 3, 0, 0xffffffffffffffffffffffffffffffffffffffffffffffffffffffffffffffffffffffffffffffffffffffffffffffffffffffffffffffffffffffffffffffffffffffffffffffff, 0, none, false⟩,
  ⟨"SWITCHES", 0x6003, 1, 0x03, 1, 8, .uint, .ro, 3, 1, 0, 0, none, false⟩,
  ⟨"SLICES_EXTENDED", 0x6003, 1, 0x04, 1, 8, .uint, .ro, 3, 1, 0, 0, none, false⟩,
  ⟨"SCRUB_PENDING", 0x6004, 1, 0x01, 1, 8, .uint, .ro, 3, 0, 0, 0, none, false⟩,
  ⟨"MAP_REFUSALS", 0x6004, 1, 0x02, 1, 4, .uint, .ro, 3, 1, 0, 0, none, false⟩,
  ⟨"CTXKEY_MISMATCH", 0x6004, 1, 0x03, 1, 4, .uint, .ro, 3, 1, 0, 0, none, false⟩,
  ⟨"DEFAULT_SLICE", 0x8000, 1, 0x04, 1, 4, .uint, .rws, 3, 0, 1000, 100, (some 100000), true⟩,
  ⟨"CTX_SECRET", 0x9000, 4096, 0x60, 1, 160, .octets, .wo, 6, 0, 0, 0, none, false⟩,
  ⟨"CTX_PRIVATE", 0x9000, 4096, 0x61, 1, 1, .bool, .rw, 4, 0, 0, 0, (some 1), false⟩,
  ⟨"CTX_MEASURE", 0x9000, 4096, 0x62, 1, 48, .octets, .ro, 6, 0, 0, 0, none, false⟩,
  ⟨"CODE_COUNT", 0x9000, 4096, 0x63, 1, 4, .uint, .ro, 6, 0, 0, 0, none, false⟩,
  ⟨"PLACEMENT", 0x9000, 4096, 0x64, 1, 2, .uint, .ro, 7, 0, 0, 0, none, false⟩,
  ⟨"DEBUGGED", 0x9000, 4096, 0x65, 1, 1, .bool, .ro, 7, 0, 0, 0, (some 1), false⟩,
  ⟨"GW_BIND_n", 0x9000, 4096, 0x70, 4, 8, .uint, .rw, 2, 0, 0, 0, none, false⟩]

/-- Entries of spec/15_ryurus_and_the_object_dictionary.md. -/
def rows15 : List Entry := [
  ⟨"VENDOR", 0x1000, 1, 0x01, 1, 16, .str, .ro, 7, 0, 107148419165509, 0, none, false⟩,
  ⟨"PRODUCT", 0x1000, 1, 0x02, 1, 16, .str, .ro, 7, 0, 0x395444206e657564726144, 0, none, false⟩,
  ⟨"ORDERING_CODE", 0x1000, 1, 0x03, 1, 8, .str, .ro, 7, 0, 0, 0, none, false⟩,
  ⟨"STEPPING", 0x1000, 1, 0x04, 1, 1, .uint, .ro, 7, 0, 177, 0, none, false⟩,
  ⟨"SERIAL", 0x1000, 1, 0x05, 1, 16, .str, .ro, 7, 0, 0, 0, none, false⟩,
  ⟨"ROM_VERSION", 0x1000, 1, 0x06, 1, 4, .uint, .ro, 7, 0, 0, 0, none, false⟩,
  ⟨"PKG_ACTIVE", 0x1000, 1, 0x07, 1, 4, .uint, .ro, 7, 0, 0, 0, none, false⟩,
  ⟨"OP_TIME", 0x1000, 1, 0x08, 1, 4, .uint, .ro, 7, 0, 0, 0, none, true⟩,
  ⟨"POWER_CYCLES", 0x1000, 1, 0x09, 1, 4, .uint, .ro, 7, 0, 0, 0, none, true⟩,
  ⟨"NOW", 0x1000, 1, 0x0A, 1, 8, .uint, .ro, 7, 0, 0, 0, none, false⟩,
  ⟨"MGMT_MAC", 0x1100, 1, 0x01, 1, 6, .octets, .rws, 1, 0, 0, 0, none, true⟩,
  ⟨"PLCA_EN", 0x1100, 1, 0x02, 1, 1, .bool, .rws, 1, 0, 1, 0, (some 1), true⟩,
  ⟨"PLCA_NODE_ID", 0x1100, 1, 0x03, 1, 1, .uint, .rws, 1, 0, 1, 0, (some 7), true⟩,
  ⟨"PLCA_NODE_COUNT", 0x1100, 1, 0x04, 1, 1, .uint, .rws, 1, 0, 8, 1, (some 8), true⟩,
  ⟨"PLCA_TO_TIMER", 0x1100, 1, 0x05, 1, 1, .uint, .rws, 1, 0, 32, 1, (some 255), true⟩,
  ⟨"PLCA_BURST_COUNT", 0x1100, 1, 0x06, 1, 1, .uint, .rws, 1, 0, 0, 0, (some 255), true⟩,
  ⟨"PLCA_BURST_TIMER", 0x1100, 1, 0x07, 1, 1, .uint, .rws, 1, 0, 128, 1, (some 255), true⟩,
  ⟨"SESSION_IDLE", 0x1100, 1, 0x08, 1, 2, .uint, .rws, 3, 0, 60, 10, (some 3600), true⟩,
  ⟨"SESSIONS", 0x1100, 1, 0x09, 1, 1, .uint, .ro, 3, 0, 0, 0, none, false⟩,
  ⟨"AUTH_FAILS", 0x1100, 1, 0x0A, 1, 4, .uint, .ro, 3, 1, 0, 0, none, false⟩,
  ⟨"MGMT_DISCARDS", 0x1100, 1, 0x0B, 1, 8, .uint, .ro, 3, 1, 0, 0, none, false⟩,
  ⟨"MGMT_FRAMES", 0x1100, 1, 0x0C, 1, 8, .uint, .ro, 3, 2, 0, 0, none, false⟩,
  ⟨"PORT_STATE", 0x1100, 1, 0x0D, 1, 1, .uint, .ro, 3, 0, 0, 0, none, false⟩,
  ⟨"JOURNAL_ACTIVE", 0xA000, 1, 0x01, 1, 1, .uint, .ro, 3, 0, 0, 0, none, false⟩,
  ⟨"JOURNAL_FILL", 0xA000, 1, 0x02, 1, 4, .uint, .ro, 3, 0, 0, 0, none, false⟩,
  ⟨"JOURNAL_SEQ", 0xA000, 1, 0x03, 1, 8, .uint, .ro, 3, 0, 0, 0, none, false⟩,
  ⟨"COMPACT_NOW", 0xA000, 1, 0x04, 1, 1, .bool, .cmd, 3, 0, 0, 0, (some 1), false⟩,
  ⟨"TORN_RECORDS", 0xA000, 1, 0x05, 1, 4, .uint, .ro, 3, 1, 0, 0, none, false⟩,
  ⟨"COMPACTIONS", 0xA000, 1, 0x06, 1, 4, .uint, .ro, 3, 1, 0, 0, none, false⟩,
  ⟨"JOURNAL_TIMEOUTS", 0xA000, 1, 0x07, 1, 4, .uint, .ro, 3, 1, 0, 0, none, false⟩,
  ⟨"PKG_OFFSET", 0xA010, 1, 0x01, 1, 4, .uint, .rw, 3, 0, 0, 0, none, false⟩,
  ⟨"PKG_DATA", 0xA010, 1, 0x02, 1, 1024, .octets, .wo, 3, 0, 0, 0, none, false⟩,
  ⟨"PKG_ACTIVATE", 0xA010, 1, 0x03, 1, 128, .octets, .wo, 8, 0, 0, 0, none, false⟩,
  ⟨"PKG_SLOT", 0xA010, 1, 0x04, 1, 1, .uint, .ro, 3, 0, 0, 0, none, true⟩,
  ⟨"PKG_FLOOR", 0xA010, 1, 0x05, 1, 4, .uint, .ro, 3, 0, 0, 0, none, true⟩,
  ⟨"VENDOR_BUILD", 0xF000, 1, 0x01, 1, 32, .str, .ro, 3, 0, 0, 0, none, false⟩,
  ⟨"FACTORY_DATA", 0xF000, 1, 0x02, 1, 64, .octets, .ro, 3, 0, 0, 0, none, false⟩]

/-- Entries of spec/16_power_clocks_thermal_ageing.md. -/
def rows16 : List Entry := [
  ⟨"POWER_CAP", 0x2000, 1, 0x01, 1, 2, .uint, .rws, 3, 0, 3200, 600, (some 3200), true⟩,
  ⟨"CAP_EN", 0x2000, 1, 0x02, 1, 1, .bool, .rws, 3, 0, 1, 0, (some 1), true⟩,
  ⟨"CAP_GUARD", 0x2000, 1, 0x03, 1, 2, .uint, .rws, 1, 0, 200, 0, (some 400), true⟩,
  ⟨"POWER_NOW", 0x2000, 1, 0x04, 1, 4, .uint, .ro, 7, 0, 0, 0, none, false⟩,
  ⟨"RAIL_POWER", 0x2000, 1, 0x05, 1, 160, .octets, .ro, 3, 0, 0, 0, none, false⟩,
  ⟨"CAP_LIMITED_MS", 0x2000, 1, 0x06, 1, 8, .uint, .ro, 3, 2, 0, 0, none, false⟩,
  ⟨"EDP_EVENTS", 0x2000, 1, 0x07, 1, 4, .uint, .ro, 3, 1, 0, 0, none, false⟩,
  ⟨"HINT_EN", 0x2001, 1, 0x01, 1, 1, .bool, .rws, 3, 0, 1, 0, (some 1), true⟩,
  ⟨"HINT_GUARD", 0x2001, 1, 0x02, 1, 1, .uint, .rws, 3, 0, 24, 0, (some 40), true⟩,
  ⟨"HINTS", 0x2001, 1, 0x03, 1, 8, .uint, .ro, 3, 1, 0, 0, none, false⟩,
  ⟨"ROOT_NOW", 0x2010, 1, 0x01, 1, 16, .octets, .ro, 7, 0, 0, 0, none, false⟩,
  ⟨"ROOT_MAX", 0x2010, 1, 0x02, 1, 16, .octets, .ro, 3, 0, 0x16801680168016801680168016801680, 0, none, true⟩,
  ⟨"FREQ_STEPS", 0x2010, 1, 0x03, 1, 8, .uint, .ro, 3, 2, 0, 0, none, false⟩,
  ⟨"DROOP_LEVEL", 0x2011, 1, 0x01, 1, 1, .uint, .rws, 1, 0, 40, 20, (some 80), true⟩,
  ⟨"DROOP_EVENTS", 0x2011, 1, 0x02, 1, 8, .uint, .ro, 3, 1, 0, 0, none, false⟩,
  ⟨"EDGES_SUPPRESSED", 0x2011, 1, 0x03, 1, 8, .uint, .ro, 3, 2, 0, 0, none, false⟩,
  ⟨"STEP_FREEZES", 0x2011, 1, 0x04, 1, 4, .uint, .ro, 3, 1, 0, 0, none, false⟩,
  ⟨"PEWTER_EN", 0x2020, 1, 0x01, 1, 1, .bool, .rws, 3, 0, 1, 0, (some 1), true⟩,
  ⟨"PEWTER_RAMP", 0x2020, 1, 0x02, 1, 2, .uint, .rws, 3, 0, 40, 5, (some 500), true⟩,
  ⟨"PEWTER_TRIGGERS", 0x2020, 1, 0x03, 1, 4, .uint, .ro, 3, 1, 0, 0, none, false⟩,
  ⟨"FILLER_ROWS", 0x2020, 1, 0x04, 1, 8, .uint, .ro, 3, 2, 0, 0, none, false⟩,
  ⟨"KAT_RUNS", 0x2020, 1, 0x05, 1, 8, .uint, .ro, 3, 1, 0, 0, none, false⟩,
  ⟨"GOVERNOR_WAITS", 0x2020, 1, 0x06, 1, 8, .uint, .ro, 3, 1, 0, 0, none, false⟩,
  ⟨"RAIL_STATE", 0x2030, 1, 0x01, 1, 40, .octets, .ro, 3, 0, 0, 0, none, false⟩,
  ⟨"SUPPLY_WARNINGS", 0x2030, 1, 0x02, 1, 4, .uint, .ro, 3, 1, 0, 0, none, false⟩,
  ⟨"WARN_RECOVERED", 0x2030, 1, 0x03, 1, 4, .uint, .ro, 3, 1, 0, 0, none, false⟩,
  ⟨"POWER_FAILS", 0x2030, 1, 0x04, 1, 4, .uint, .ro, 3, 1, 0, 0, none, false⟩,
  ⟨"DIE_RESETS", 0x2030, 1, 0x05, 1, 4, .uint, .ro, 3, 1, 0, 0, none, false⟩,
  ⟨"TELEMETRY_STALE", 0x2030, 1, 0x06, 1, 4, .uint, .ro, 3, 1, 0, 0, none, false⟩,
  ⟨"DOMAINS_ON", 0x2040, 1, 0x01, 1, 2, .uint, .ro, 3, 0, 0, 0, none, false⟩,
  ⟨"DOMAIN_MAP", 0x2040, 1, 0x02, 1, 114, .octets, .ro, 3, 0, 0, 0, none, false⟩,
  ⟨"JUNCTION_MAX", 0x2050, 1, 0x01, 1, 8, .octets, .ro, 7, 0, 0, 0, none, false⟩,
  ⟨"THROTTLE_TEMP", 0x2050, 1, 0x02, 1, 1, .uint, .rws, 1, 0, 100, 90, (some 100), true⟩,
  ⟨"THROTTLE_MS", 0x2050, 1, 0x03, 1, 8, .uint, .ro, 3, 2, 0, 0, none, false⟩,
  ⟨"THERMAL_EMERGENCIES", 0x2050, 1, 0x04, 1, 4, .uint, .ro, 3, 1, 0, 0, none, false⟩,
  ⟨"TRIP_CAUSE", 0x2050, 1, 0x05, 1, 2, .uint, .ro, 3, 0, 0, 0, none, true⟩,
  ⟨"MARGIN_MV", 0x2060, 1, 0x01, 1, 8, .octets, .ro, 3, 0, 0, 0, none, true⟩,
  ⟨"SLOWDOWN", 0x2060, 1, 0x02, 1, 32, .octets, .ro, 3, 0, 0x3f8000003f8000003f8000003f8000003f8000003f8000003f8000003f800000, 0, none, true⟩,
  ⟨"DERATED", 0x2060, 1, 0x03, 1, 4, .uint, .ro, 3, 0, 0, 0, none, true⟩,
  ⟨"LAST_REPLAN", 0x2060, 1, 0x04, 1, 8, .uint, .ro, 3, 0, 0, 0, none, true⟩,
  ⟨"REPLAN_NOW", 0x2060, 1, 0x05, 1, 1, .bool, .cmd, 3, 0, 0, 0, (some 1), false⟩,
  ⟨"REPLANS", 0x2060, 1, 0x06, 1, 4, .uint, .ro, 3, 1, 0, 0, none, false⟩]

/-- Entries of spec/17_faults_recorder_counters.md. -/
def rows17 : List Entry := [
  ⟨"ORDINARY_REPORTS", 0x7000, 1, 0x01, 1, 8, .uint, .ro, 3, 1, 0, 0, none, false⟩,
  ⟨"FULL_REPORTS", 0x7000, 1, 0x02, 1, 8, .uint, .ro, 3, 1, 0, 0, none, false⟩,
  ⟨"CORES_FENCED", 0x7000, 1, 0x03, 1, 2, .uint, .ro, 3, 0, 0, 0, none, false⟩,
  ⟨"SELFTEST_FAILS", 0x7000, 1, 0x04, 1, 4, .uint, .ro, 3, 1, 0, 0, none, false⟩,
  ⟨"KAT_WINDOW", 0x7000, 1, 0x05, 1, 2, .uint, .rws, 3, 0, 24, 1, (some 8760), true⟩,
  ⟨"KAT_MAX_INTERVAL", 0x7000, 1, 0x06, 1, 4, .uint, .rws, 3, 0, 3600, 60, (some 86400), true⟩,
  ⟨"SRAM_CORRECTED", 0x7000, 1, 0x07, 1, 8, .uint, .ro, 3, 1, 0, 0, none, false⟩,
  ⟨"SRAM_UNCORRECTABLE", 0x7000, 1, 0x08, 1, 4, .uint, .ro, 3, 1, 0, 0, none, false⟩,
  ⟨"SELFTESTS_RUN", 0x7000, 1, 0x09, 1, 8, .uint, .ro, 3, 1, 0, 0, none, false⟩,
  ⟨"FENCE_MAP", 0x7001, 1, 0x01, 1, 80, .octets, .rws, 11, 0, 0, 0, none, true⟩,
  ⟨"FENCE_CAUSE", 0x7001, 1, 0x02, 1, 640, .octets, .ro, 3, 0, 0, 0, none, true⟩,
  ⟨"COLUMN_FAULTS", 0x7001, 1, 0x03, 1, 1280, .octets, .ro, 3, 0, 0, 0, none, true⟩,
  ⟨"OVERFLOW_LIST", 0x7010, 1, 0x01, 1, 256, .octets, .ro, 3, 0, 0, 0, none, false⟩,
  ⟨"OVERFLOW_UNLISTED", 0x7010, 1, 0x02, 1, 4, .uint, .ro, 3, 1, 0, 0, none, false⟩,
  ⟨"SNAP_INDEX", 0x7010, 1, 0x03, 1, 2, .uint, .cmd, 7, 0, 0, 0, none, false⟩,
  ⟨"SNAP_DATA", 0x7010, 1, 0x04, 1, 2048, .octets, .ro, 7, 0, 0, 0, none, false⟩,
  ⟨"YEW_NEXT", 0x7020, 1, 0x01, 1, 4, .uint, .ro, 3, 0, 1, 0, none, false⟩,
  ⟨"YEW_GEN", 0x7020, 1, 0x02, 1, 2, .uint, .ro, 3, 0, 0, 0, none, false⟩,
  ⟨"YEW_READ_AT", 0x7020, 1, 0x03, 1, 4, .uint, .rw, 3, 0, 0, 0, (some 262128), false⟩,
  ⟨"YEW_READ", 0x7020, 1, 0x04, 1, 1024, .octets, .ro, 3, 0, 0, 0, none, false⟩,
  ⟨"YEW_CLEAR", 0x7020, 1, 0x05, 1, 128, .octets, .wo, 8, 0, 0, 0, none, false⟩,
  ⟨"YEW_LOST", 0x7020, 1, 0x06, 1, 4, .uint, .ro, 3, 1, 0, 0, none, false⟩,
  ⟨"YEW_STAGING_LOST", 0x7020, 1, 0x07, 1, 4, .uint, .ro, 3, 1, 0, 0, none, false⟩,
  ⟨"YEW_TORN", 0x7020, 1, 0x08, 1, 4, .uint, .ro, 3, 1, 0, 0, none, false⟩,
  ⟨"YEW_ERASE_STATE", 0x7020, 1, 0x09, 1, 1, .uint, .ro, 3, 0, 0, 0, none, false⟩,
  ⟨"ALARM_HISTORY", 0x7030, 1, 0x01, 1, 2048, .octets, .ro, 3, 0, 0, 0, none, false⟩,
  ⟨"ALARMS_CREATED", 0x7030, 1, 0x02, 1, 8, .uint, .ro, 3, 1, 0, 0, none, false⟩,
  ⟨"ALARMS_COALESCED", 0x7030, 1, 0x03, 1, 8, .uint, .ro, 3, 1, 0, 0, none, false⟩,
  ⟨"ALARM_DROPS", 0x7030, 1, 0x04, 1, 20, .octets, .ro, 3, 1, 0, 0, none, false⟩,
  ⟨"ALARM_INTERVAL", 0x7030, 1, 0x05, 1, 2, .uint, .rws, 3, 0, 10, 1, (some 1000), true⟩,
  ⟨"TRACE_MASK", 0x7030, 1, 0x06, 1, 4, .uint, .rw, 3, 0, 0, 0, (some 131071), false⟩,
  ⟨"ALARM_QUEUE", 0x7030, 1, 0x07, 1, 1, .uint, .ro, 3, 0, 0, 0, none, false⟩]

/-- The whole dictionary. -/
def dictRows : List Entry :=
  rows02 ++ rows03 ++ rows04 ++ rows05 ++ rows06 ++ rows07 ++ rows08 ++ rows09 ++ rows10 ++ rows11 ++ rows12 ++ rows13 ++ rows14 ++ rows15 ++ rows16 ++ rows17

/-- A key of the dictionary: index × 256 + sub-index (R393). -/
def dkey (index sub : Nat) : Nat := index * 256 + sub

/-- The row an entry belongs to; the administrative context's record 0x8100 is laid out as 0x9000 + ID (R397). -/
def entryOf (key : Nat) : Option Entry :=
  let i := key / 256
  let i := if i = 0x8100 then 0x9000 else i
  let s := key % 256
  dictRows.find? (fun e => decide (e.index ≤ i ∧ i < e.index + e.span ∧ e.sub ≤ s ∧ s < e.sub + e.subs))

/-- The default of an entry (0 where there is none). -/
def dictDefault (key : Nat) : Nat := ((entryOf key).map Entry.dflt).getD 0

end Sys2Proof.Machine
end

