-- ==== Sys2Proof/Machine/MgmtState.lean ====
section
/-!
DEFINITION. Machine/MgmtState.lean: the state of Ryurus sessions, mailboxes, the journal, table packages, tokens, the identity and
SPDM (spec/14, spec/15).
-/
namespace Sys2Proof.Machine

/-- Segments of one message that have arrived (R386): first segment's time, type, TOKEN bit, segment count, the parts. -/
structure Asm where
  seq   : Nat
  began : Nat
  typ   : Nat
  token : Bool
  segs  : Nat
  parts : Map (List Byte) := []
  deriving DecidableEq, Repr

/-- A Ryurus session (R387 to R391): opening until its CONFIRM, then open. -/
structure Sess where
  isOpen : Bool := false
  began  : Nat := 0                   -- when OPEN_REPLY was sent
  idle   : Nat := 0                   -- time of the last authenticated datagram
  alarms : Bool := false
  t      : BitVec 384 := 0
  md     : BitVec 288 := 0            -- 32 B key, 4 B salt, manager to device
  dm     : BitVec 288 := 0
  reqSeq : Nat := 0                   -- SEQ of the last request handled
  reply  : List (List Byte) := []     -- its RESPONSE, sealed, segment by segment
  txSeq  : Nat := 0                   -- number of the last message sent
  asm    : List Asm := []
  deriving DecidableEq, Repr

/-- A mailbox of BAR2 (Table 15.2). -/
structure Mbox where
  go     : Bool := false
  write  : Bool := false
  useTok : Bool := false
  entry  : Word := 0
  len    : Nat := 0
  status : Status := 0
  token  : Token := 0
  data   : List Byte := []
  deriving DecidableEq, Repr

/-- Where the answer to a dictionary request goes: nowhere (a write the table lists as a command of its own), a session's RESPONSE,
a mailbox, a ring's QUERY. -/
inductive Reply where
  | drop
  | sess (id seq : Nat)
  | mbox (ctx : Nat)
  deriving DecidableEq, Repr

/-- A dictionary request (R395, R396): `val` none for a read; `heart`: the Heartwood readings that a write of REPLAN_NOW takes. -/
structure DReq where
  cls : Cls
  key : Nat
  val : Option (List Byte) := none
  tok : Option Token := none
  dest : Reply := .drop
  heart : List Nat := []
  deriving DecidableEq, Repr

/-- A journal record (Table 15.5): kind, entry, SEQ, value bytes, and for a fragment its offset and the value's length (R399). -/
structure JRec where
  kind  : Nat
  key   : Nat := 0
  seq   : Nat
  val   : List Byte := []
  off   : Nat := 0
  total : Nat := 0
  torn  : Bool := false               -- programming was cut short
  deriving DecidableEq, Repr

/-- A journal area (R398, R402): erased, being erased, or with a header and records; a KIND 3 record among them ends the snapshot. -/
structure JArea where
  erased : Bool := true
  header : Bool := false
  gen    : Nat := 0
  base   : Nat := 0
  hseq   : Nat := 0                   -- SEQ of the header and of the snapshot's records
  snap   : Nat := 0                   -- records that belong to the snapshot
  recs   : List JRec := []
  deriving DecidableEq, Repr

/-- A persistent write that has not committed (R401). old: the value before it. eff: the value takes effect at commit (0), has
already (1), at commit or failure alike (2), at the next reset (3). keep: repeated with the next journal write when it times out. -/
structure JWrite where
  key   : Nat
  val   : Nat
  old   : Nat := 0
  req   : Option DReq := none         -- the request it answers; none for a write of the DT9's own
  began : Nat
  eff   : Nat := 0
  keep  : Bool := false
  signed : Option (List Byte) := none -- a KIND 5 record: the bytes of the grade record
  deriving DecidableEq, Repr

/-- The journal, the packages and the rest of the management state. areaB, slotB: which of the two is in use. -/
structure Mgmt where
  sess   : Map Sess := []
  mbox   : Map Mbox := []
  queue  : List DReq := []            -- requests that wait for their turn (R396)
  hand   : Option JWrite := none
  own    : List JWrite := []          -- journal writes of the DT9's own, oldest first
  late   : List JWrite := []          -- writes that failed and whose record may yet read back valid
  a      : JArea := {}
  b      : JArea := {}
  areaB  : Bool := false
  seq    : Nat := 0                   -- SEQ of the last record
  compact : Option Nat := none        -- a compaction runs: its S (R402)
  compactNext : Bool := false         -- a write has timed out: the next one starts a compaction (Table 13.14)
  slotA  : Map Byte := []             -- bytes of package slot A, erased 0xFF
  slotB  : Map Byte := []
  newPkg : Bool := false              -- a package was activated since the last start (R435)
  clearMap : Bool := false            -- map-out and lane repairs are erased at the next reset (R227)
  lanes  : List (Nat × Nat) := []     -- lane repairs that the journal holds: channel slot, lane (R221, R227; log 98)
  retest : List Nat := []             -- channels, 32 × stack + channel, that the journal asks to retest at the next training (R222; log 98)
  challenge : Option (Nat × Nat) := none      -- TOKEN_CHALLENGE and the operating time of its read
  spdm   : Bool := false              -- an SPDM session stands (R378)
  spdmRefused : Bool := false         -- a requester that offered no supported suite was refused (R3, R378)
  port   : Nat := 0                   -- the management port: 0 down, 1 up, 2 silent after a duplicate address
  deriving DecidableEq, Repr

end Sys2Proof.Machine
end

