-- ==== Sys2Proof/Machine/NetState.lean ====
section
/-!
DEFINITION. Machine/NetState.lean: the state of Askik ports, flows and Larch gateways (spec/10, spec/11). Plain data.
-/
namespace Sys2Proof.Machine

/-- A packet that waits for flit slots (R259, R271): virtual channel, key (0 the link's, c + 1 context c's), slots left to send,
whether its first slot is still to be sent, and the request it carries. -/
structure TxPkt where
  vc    : Nat
  key   : Nat := 0
  slots : List Nat
  first : Bool := true
  req   : Nat := 0
  deriving DecidableEq, Repr

/-- A received packet, complete or still being received (R259): slots in order, slots still missing. -/
structure RxPkt where
  came  : Nat := 0
  vc    : Nat
  key   : Nat := 0
  slots : List Nat
  left  : Nat := 0
  deriving DecidableEq, Repr

/-- A running rekey (R275): when it began, both HELLOs, what has been sent and received. -/
structure Rekey where
  began    : Nat
  eph      : Nat
  hello    : List Byte
  peer     : List Byte := []
  finSent  : Bool := false
  deriving DecidableEq, Repr

/-- One Askik port (R253 to R281). st as PORT_STATE shows it (Table 10.10). txKeys, rxKeys, salts: epoch → 36 B of key and salt, and
the salt of R274; txX and rxX: the next extended sequence numbers; replay: flits from ackX on; cursor: position of a running replay.
held: per channel, slots of the receive buffer whose credits have not been sent back; owed: those to be sent with the next flits.
offers: check values the partner has offered (R375). downAt: time + 1 of the last declaration, 0 none. -/
structure Port where
  st       : Nat := 0
  ether    : Bool := false
  pmd      : Bool := false
  began    : Nat := 0            -- start of the attempt, or of the wait to retry
  sentAt   : Nat := 0            -- when an INIT or a KEYX message was last sent
  lock     : Bool := false
  good     : Nat := 0
  bad      : Nat := 0
  lostAt   : Nat := 0
  lastRx   : Nat := 0
  ourInit  : Nat := 0
  peerInit : Option Nat := none
  ackvSeen : Bool := false
  frags    : List (Nat × Nat × Nat × List Byte) := []
  eph      : Nat := 0
  hello    : List Byte := []
  peerHello : List Byte := []
  chain    : List Byte := []
  peerKey  : BitVec 776 := 0
  salts    : Map (BitVec 384) := []
  txKeys   : Map (BitVec 288) := []
  rxKeys   : Map (BitVec 288) := []
  txEp     : Nat := 0
  rxEp     : Nat := 0
  newEp    : Option Nat := none  -- epoch to switch to at the next new DATA flit
  oldLast  : Nat := 0            -- X after the last flit of the old epoch
  rk       : Option Rekey := none
  flits    : Nat := 0            -- DATA flits of the busier direction since the last rekey
  flitsRx  : Nat := 0
  rekeyed  : Nat := 0
  rkDue    : Bool := false       -- a rekey is due: REKEY_NOW, or a context with an installed key was destroyed (R275, R375)
  ctxKeys  : List Nat := []      -- contexts whose key is installed (R375)
  offers   : Map (BitVec 128) := []
  tail     : Option (BitVec 288) := none  -- key for the rest of a packet that was under way when its context was destroyed (R281)
  txX      : Nat := 0
  rxX      : Nat := 0
  ackX     : Nat := 0
  ackAt    : Nat := 0
  replay   : List (BitVec 2048) := []
  cursor   : Option Nat := none
  lastRep  : Option (Nat × Nat) := none   -- ACK and time of the last replay started
  repRun   : Nat := 0
  nak      : Bool := false
  tagTimes : List Nat := []
  credits  : Map Nat := []
  owed     : Map Nat := []
  held     : Map Nat := []
  txq      : List TxPkt := []
  rxPart   : Map RxPkt := []
  rx       : List RxPkt := []
  lastDev  : Nat := 0
  holds    : Map Nat := []       -- device → time + 1 of the last HOLD sent to it
  downAt   : Nat := 0
  closing  : Option Nat := none
  deriving DecidableEq, Repr

/-- A flow's port (R280). -/
structure Flow where
  port : Nat
  deriving DecidableEq, Repr

/-- A Larch record (Table 11.8). -/
structure Rec where
  rtype  : Nat
  device : Nat
  offset : Nat
  rtag   : Nat := 0
  len    : Nat := 0
  data   : List Byte := []
  deriving DecidableEq, Repr

/-- A sealed datagram as it was sent: far address, Larch header, records and tag (R304: resent unchanged). -/
structure LSent where
  dst    : Nat
  header : Nat
  body   : List Byte
  deriving DecidableEq, Repr

/-- A bulk frame of a stream (R301 to R306): its datagrams already sent, the records of the one being filled, the data bytes or bytes
asked for so far, requests of reads it serves, transfers and launches whose writes it carries; got: pieces of read data that have come, as
(RTAG, offset, bytes). -/
structure GFrame where
  seq    : Nat
  isRead : Bool := false
  sent   : List LSent := []
  recs   : List Rec := []
  bytes  : Nat := 0
  got    : List (Nat × Nat × List Byte) := []
  begun  : Nat := 0
  closed : Bool := false
  sentAt : Nat := 0
  retries : Nat := 0
  reqs   : List Nat := []
  xfers  : List Nat := []
  launches : List Nat := []
  deriving DecidableEq, Repr

/-- A stream (R299): its context, binding and far address index. -/
structure Stream where
  id     : Nat
  ctx    : Nat
  bind   : Nat
  addr   : Nat
  src    : Nat                   -- source index of its first access
  seq    : Nat := 0
  frames : List GFrame := []
  deriving DecidableEq, Repr

/-- A frame being received or carried out for a far stream. -/
structure RFrame where
  seq    : Nat
  ftype  : Nat
  src    : Nat := 0                 -- IPv6 source of its datagrams, the address of the answer
  frags  : List (Nat × List Byte) := []
  count  : Nat := 0                 -- FRAGS of its last datagram, 0 while that has not come
  reqs   : List (Nat × Nat) := []   -- (request, RTAG)
  run    : Bool := false
  st     : Status := 0
  deriving DecidableEq, Repr

/-- What a gateway keeps of one far stream (R305): finished SEQs with their stored COMPLETE, frames in progress. -/
structure RStream where
  key    : Nat                   -- binding, sending domain, device and STREAM of Table 11.7
  done   : List (Nat × List LSent) := []
  frames : List RFrame := []
  deriving DecidableEq, Repr

/-- A Larch gateway (R300 to R308). -/
structure Gw where
  streams  : List Stream := []
  rstreams : List RStream := []
  authTimes : List Nat := []
  deriving DecidableEq, Repr

end Sys2Proof.Machine
end

