-- ==== Sys2Proof/Machine/PowerState.lean ====
section
/-!
DEFINITION. Machine/PowerState.lean: the state of clock roots, regulators, rails, sensors, keepers and power domains (spec/16,
Table 18.1). Every table is sparse with the default {} of its structure.
-/
namespace Sys2Proof.Machine

/-- A voltage guard a HINT has raised (R417): sixteenths of mV, its duration in µs, whether the regulator carries it, when it ends. -/
structure Guard where
  mv16  : Nat
  dur   : Nat := 1
  ready : Bool := false
  ends  : Nat := 0
  cmd   : Nat := 0             -- ring key of the HINT that waits for it, plus 1
  deriving DecidableEq, Repr

/-- What paces one compute die (R409 to R423, R431 to R433). root: MHz now. volt: highest root the set voltage suits. want: the
root whose voltage setting waits for its acknowledgement. supp: root edges suppressed, in eighths (4: half). -/
structure DieP where
  root    : Nat := 0
  target  : Nat := 0
  limit   : Nat := 5760            -- thermal_limit
  volt    : Nat := 0
  millivolt : Nat := 0             -- setpoint last acknowledged
  want    : Option Nat := none
  askAt   : Nat := 0               -- when that setting was asked for
  supp    : Nat := 0
  low     : List Nat := []         -- detectors that have crossed since suppression began
  frozen  : Bool := false
  clearAt : Nat := 0               -- when suppression last changed (R419, R420)
  samples : List Nat := []         -- last 20 valid readings of the compute rail, mW, newest first
  fresh   : Nat := 0               -- consecutive valid readings since the rail went stale
  held    : Bool := false          -- held at 3,600 MHz by stale telemetry (R416)
  guards  : List Guard := []
  hold    : Option Nat := none     -- filler held for a HINT, sixteenths of an array (R418)
  holdTo  : Nat := 0               -- until when, once that HINT has completed
  loads   : List Nat := []         -- load samples, newest first, sixteenths of an array (R421)
  trig    : Option (Nat × Nat) := none -- ramp: when it was triggered, its L1 in sixteenths
  ramp    : Nat := 40              -- its ramp time, µs, taken at the trigger
  filler  : Nat := 0               -- filler load, sixteenths of an array
  grove   : Nat := 0               -- grove the start governor served last (R423)
  window  : Bool := false          -- its window is open
  hot     : Bool := false          -- ARITH gated at 105 °C (R433)
  throttled : Bool := false
  cool    : Option Nat := none     -- while Tj is at or below THROTTLE_TEMP - 3: cap-loop runs since then
  down    : Bool := false          -- the die is in reset (R429)
  margin  : Bool := false          -- END_OF_MARGIN stands for this die
  deriving DecidableEq, Repr

/-- A sensed rail (R411, R416, R425 to R429). st: 0 normal, 1 warning, 2 reset level. -/
structure RailP where
  st     : Nat := 0
  since  : Nat := 0                -- when it reached its level
  lowest : Nat := 0                -- lowest reading of the event, mV
  power  : Nat := 0                -- latest valid reading, mW
  mv     : Nat := 0
  stale  : Bool := false
  lastOk : Nat := 0
  deriving DecidableEq, Repr

/-- A junction sensor (R431): its last reading in °C; failed for good until the next start. -/
structure SensorP where
  read   : Bool := false
  temp   : Int := 0
  failed : Bool := false
  deriving DecidableEq, Repr

/-- The whole of it. ft: the device target of R412. sensors: core p at p, memory die at 640 + 4 d + n, I/O die at 672 + 8 e + n.
domOff, domRet: domains switched off, in retention (R430). replanned: the tables have changed since the last start. -/
structure Pwr where
  dies    : Map DieP := []
  rails   : Map RailP := []
  ft      : Nat := 0
  edp     : Bool := false          -- the EDP stretch of R414
  sensors : Map SensorP := []
  domOff  : List Nat := []
  domRet  : List Nat := []
  fenced  : Nat := 0               -- when the first rail of the present warning reached its level
  failRail : Nat := 0              -- rail of the power failure whose record waits
  failed  : Bool := false          -- a power failure has no record yet (R428)
  slow    : Bool := false          -- no valid tables: every root held at 3,600 MHz (R405)
  deriving DecidableEq, Repr

end Sys2Proof.Machine
end

