-- ==== Sys2Proof/Machine/RepState.lean ====
section
/-!
DEFINITION. Machine/RepState.lean: the state of alarms, the Yew recorder and self-tests (spec/17).
-/
namespace Sys2Proof.Machine

/-- An alarm record (R444, Table 17.4). -/
structure Alarm where
  aseq   : Nat
  cls    : Nat
  unit   : Nat
  event  : Nat
  st     : Status
  prio   : Nat
  count  : Nat := 1
  yew    : Nat := 0xFFFFFF
  detail : Nat := 0
  opTime : Nat := 0
  cycles : Nat := 0
  deriving DecidableEq, Repr

/-- A Yew record before it has a slot (Table 17.2): SEQ, GEN and CRC are filled in as it is programmed. `low`: bits [255:0]. -/
structure Yew where
  kind   : Nat
  cls    : Nat
  unit   : Nat
  event  : Nat
  st     : Status := 0
  alarmed : Bool := false
  coalesced : Bool := false
  detail0 : Nat := 0
  low    : Nat := 0
  opTime : Nat := 0
  cycles : Nat := 0
  deriving DecidableEq, Repr

/-- Self-test history of a physical core (R449, R450): time of the last test, of the last mismatch, vector to rerun within 1 ms,
time of the last uncorrectable word of its register file or core memory. -/
structure Kat where
  last     : Nat := 0
  mismatch : Option Nat := none
  rerun    : Option Nat := none
  sram     : Option Nat := none
  deriving DecidableEq, Repr

/-- Reports. `lastQueued`: key class × 65536 + event → time + 1 at which a record of the key was queued last.
log: slot → programmed record, 0 none; nextSlot: next slot to be programmed; staging: records waiting, oldest first;
erasing: 0 idle, else 1 + the next sector to erase. -/
structure Rep where
  queue    : List Alarm := []
  held     : List Alarm := []
  lastQueued : Map Nat := []
  history  : List Alarm := []
  aseq     : Nat := 0
  staging  : List Yew := []
  log      : Map Nat := []
  torn     : List Nat := []            -- slots used in part by a write that power cut short
  nextSlot : Nat := 1
  gen      : Nat := 0
  full     : Bool := false
  erasing  : Nat := 0
  started  : Bool := false             -- the recorder has been scanned since the start (R460)
  kats     : Map Kat := []
  opBase   : Nat := 0                  -- operating time resumed at the start, s (R457)
  opStart  : Nat := 0                  -- `now` at that start
  deriving DecidableEq, Repr

end Sys2Proof.Machine
end

