-- ==== Sys2Proof/Machine/CoreState.lean ====
section
/-!
DEFINITION. Machine/CoreState.lean: the state of cores, groups, the tensor mover, the array, launches and the memory system
(spec/02 to spec/09, spec/13). Plain data; every table is sparse with the default its comment names.
-/
namespace Sys2Proof.Machine

/-- Who makes a request to a bank queue (R199). No command of the table makes the PCIe port ask for memory: BAR0 and BAR2 hold
registers, and a ring with LOC = 0 lies in the host. -/
inductive Src where
  | core (n : Nat)
  | alder (e : Nat)
  | port (p : Nat)
  | gateway (g : Nat)
  | pcie
  | firmware
  deriving DecidableEq, Repr

/-- Atomic operations of Table 02.4. -/
inductive Aop where
  | add | min | max | and | or | xor | swap | cas
  deriving DecidableEq, Repr

/-- What an off-core request does at its destination (R29, R38, R236; R289). -/
inductive MemOp where
  /-- n bytes are read from the address. -/
  | rd (n : Nat)
  /-- bytes at offsets from the address are written. -/
  | wr (cells : List (Nat × Byte))
  /-- one combined atomic; typ is TYPE of Table 02.4, w the swap value of CAS. -/
  | at (op : Aop) (typ v w : Nat) (fetch : Bool)
  /-- a STORE.FLAG word (R236). -/
  | flag (v : Nat)
  /-- a gather request: the 32 B sectors of these virtual and global addresses, on this device, are read in this order (R202, R228). -/
  | gath (secs : List (Nat × Nat))
  deriving DecidableEq, Repr

/-- How far a request has come: no slot yet (or its translation still walks), a slot held, all of it in the target's queues, sent on a
link, answered. -/
inductive ReqPh where
  | waiting | slot | queued | sent | done
  deriving DecidableEq, Repr

/-- An off-core request (R28, R197, R288). `plain`: ST, ATOM or RED under R233; `thread`: a thread write of R235. Of a port's request
(R289) `slot` is SIDX, `gidx` the key it came under, `ipc` its packet's slots, `dev` the device that asks. -/
structure Req where
  id     : Nat
  src    : Src
  ctx    : Nat := 4096
  slot   : Nat := 0           -- group slot at the core; at a port: the packet's requester fields
  op     : MemOp
  addr   : Nat                -- global address (Table 07.1), or the window address with win = true
  win    : Bool := false      -- a window of this device
  va     : Nat := 0           -- virtual address of the access
  ph     : ReqPh := .waiting
  plain  : Bool := false
  thread : Bool := false
  waited : Bool := false      -- already counted as having waited (0x3001:03, :04)
  res    : List Byte := []
  st     : Status := 0
  since  : Nat := 0           -- when it was sent or accepted
  limit  : Nat := 0           -- REQ_TIMEOUT in force when it was placed in a flit, in µs (R296)
  tag    : Nat := 0           -- remote: request tag in flight (R288)
  dev    : Nat := 0           -- destination device, or the device that asked
  port   : Nat := 0
  xfer   : Nat := 0           -- tensor-mover transfer it belongs to, 0 none
  expired : Bool := false     -- R294: its response was already sent
  held   : Bool := false      -- a release or flag that still waits (R235, R236)
  owner  : Nat := 0           -- launch of the group that issued it
  gidx   : Nat := 0           -- index of that group
  noslot : Bool := false      -- a release of a local lock: it holds no slot (Table 02.2)
  ipc    : Nat := 0           -- address of the instruction that issued it
  pref   : Bool := false      -- a stream prefetch (R205), or with xfer a run-ahead block (R203): once done the buffer holds it
  alloc  : Bool := false      -- the line it returns is put into the core cache (R194); a run-ahead block may still be used
  walk   : List Nat := []     -- HBM offsets of the translation entries that are still to be read before it takes a slot (R192)
  raw    : Bool := false      -- just made by the tensor mover or the array: its address is still to be translated
  adm    : List Nat := []     -- blocks of it that have entered their queues (R199, R212)
  subs   : List Nat := []     -- channels that have taken its sub-request (R228)
  got    : Map (List Byte) := []  -- blocks of it that have been served, with what was read
  deriving DecidableEq, Repr

/-- A path of a group: address and lanes, the divergence it belongs to (0: none), and whether it retries a lock (R24, R45). -/
structure Path where
  pc    : Nat
  mask  : Lanes
  fid   : Nat := 0
  retry : Bool := false
  deriving DecidableEq, Repr

/-- A divergence: its reconvergence point, the one it lies in, and the lanes that have arrived (R24). -/
structure Frame where
  fid     : Nat
  rpc     : Nat
  parent  : Nat
  arrived : Lanes := 0
  deriving DecidableEq, Repr

/-- Lanes parked at a LOCK.ACQ (R43): whether one saw a tag from outside the group, and whether they have retried since. -/
structure Park where
  pc      : Nat
  mask    : Lanes
  fid     : Nat
  outside : Bool
  tried   : Bool
  deriving DecidableEq, Repr

/-- A token of the tensor mover or the array: issue order, the transfer or operation, its status once complete. -/
structure Tok where
  order : Nat
  unit  : Nat
  st    : Option Status := none
  deriving DecidableEq, Repr

/-- What a group does with the responses it waits for. Addresses are (lane, address) pairs. -/
inductive Pend where
  /-- LD: destination, bytes per lane, lane addresses, line data gathered so far. -/
  | load (rd size : Nat) (addrs : List (Nat × Nat)) (lines : List (Nat × List Byte))
  /-- ATOM, one combining set a request: destination, wide result, operation and type, per set its request and (lane, operand). -/
  | atom (rd : Nat) (op : Aop) (typ : Nat) (sets : List (Nat × List (Nat × Nat)))
  /-- CAS, one lane after the other (R39): the running lane, the lanes left with address, compare and swap value. -/
  | cas (rd typ lane : Nat) (left : List (Nat × Nat × Nat × Nat))
  /-- LD.ACQ: destination, scope, (request, lanes). -/
  | acq (rd scope : Nat) (words : List (Nat × List Nat))
  /-- LOCK.ACQ attempts (R43): predicate, scope, running lane, lanes left with addresses, lanes that got it, outside tag seen. -/
  | lock (pd scope lane : Nat) (left : List (Nat × Nat)) (got all : Lanes) (outside : Bool)
  /-- FENCE (R238): scope and the requests it waits for. -/
  | fence (scope : Nat)
  /-- ST, RED, ST.REL, STORE.FLAG, LOCK.REL: waits until its requests hold slots (Table 02.2). -/
  | issue
  deriving DecidableEq, Repr

/-- What an entry of the array queue is. -/
inductive MKind where
  | mxa | cmpr | drain
  deriving DecidableEq, Repr

/-- An array operation (R72 to R74, R132, R139): descriptor images, control word, launch flags, progress. -/
structure MxOp where
  id      : Nat
  kind    : MKind
  slot    : Nat
  launch  : Nat
  group   : Nat := 0
  token   : Nat
  ctx     : Nat
  a       : Nat := 0
  b       : Nat := 0
  c       : Nat := 0
  ctl     : Nat := 0
  ra      : Nat := 0        -- control-block offset of a drain
  saved   : Bool := false   -- its launch carries SAVE_MASK
  strict  : Bool := false
  spec    : Bool := false
  recOff  : Option Nat := none -- offset of its completion record
  st      : Status := 0     -- what its validation found
  started : Bool := false
  gov     : Nat := 0        -- start governor (R423): 0 not asked, 1 waits, 2 admitted
  outcome : Option (Status × Nat) := none -- STATUS and record body while its last writes are under way (R163)
  deriving DecidableEq, Repr

/-- What keeps a group from issuing (R22, R28). -/
inductive Wait where
  | none
  | access (ids : List Nat) (p : Pend)
  /-- TM.WAIT, MXA.WAIT or an implicit wait (R53): array or tensor mover, token, destination, lanes. -/
  | token (array : Bool) (t rd : Nat) (act : Lanes) (implicit : Bool)
  /-- An issue that found the array queue full (R74): its entry, without its token, and where the token number goes. -/
  | queue (op : MxOp) (rd : Nat) (act : Lanes)
  | gsync (id : Nat)
  | backoff
  deriving DecidableEq, Repr

/-- Debug halt of a group (R55): requested, halted, cause of Table 02.9 (1 request, 2 and 3 breakpoints, 4 BKPT, 5 step). -/
structure Halt where
  req    : Bool := false
  halted : Bool := false
  cause  : Nat := 0
  skip   : Bool := false      -- resumed: the instruction at the breakpoint executes (R59)
  frozen : Bool := false      -- held by the freeze mode (R56), not as the target
  since  : Nat := 0           -- when it halted; the watchdog is paused from then (R60)
  step   : Bool := false      -- stepped: it halts again after one instruction (R58)
  mark   : Nat := 0           -- identifier from which the requests of the stepped instruction count (R58)
  deriving DecidableEq, Repr

/-- A thread group in a slot (spec/02). regs: key 32 × register + lane, default 0; preds: key p, default no lane (R23). -/
structure Group where
  idx     : Nat
  launch  : Nat
  nregs   : Nat := 32
  regs    : Map Word := []
  preds   : Map Lanes := []
  alive   : Lanes := 0xFFFFFFFF
  run     : Option Path := none
  stack   : List Path := []           -- divergence stack, top first (R24)
  frames  : List Frame := []
  nextFid : Nat := 1
  parked  : List Park := []
  backoff : Nat := 0                  -- CORE cycles of the back-off (R44)
  wait    : Wait := .none
  halt    : Halt := {}
  tmTok   : Map Tok := []             -- tokens in use, 0 to 7 (R50)
  arTok   : Map Tok := []
  tokSeq  : Nat := 0
  draws   : Map Nat := []             -- stochastic CVT count per lane (R108)
  bulk    : Nat := 0                  -- stochastic bulk conversions (R108)
  gsyncs  : Map Lanes := []           -- lanes that have executed GSYNC id in the current instance (R37)
  wdog    : Nat := 0                  -- time of the last progress event, moved on by every pause (R48, R60)
  waitAt  : Nat := 0                  -- when it began to wait for off-core responses (R48)
  streak  : Nat := 0                  -- consecutive ascending line misses (R205)
  lastMiss : Nat := 0
  deriving DecidableEq, Repr

/-- Kinds of tensor-mover transfer (R50, R137). -/
inductive XKind where
  | copy | gather | scatter | fill | insert
  deriving DecidableEq, Repr

/-- A tensor-mover transfer: descriptor images, the value of RC, what it has done (R51, R52, R116). -/
structure Xfer where
  id     : Nat
  slot   : Nat
  launch : Nat
  token  : Nat
  kind   : XKind
  src    : Nat := 0
  dst    : Nat := 0
  rc     : Nat := 0
  ctx    : Nat
  done   : Nat := 0        -- elements, rows or 256 B units done, in order
  total  : Nat := 0
  st     : Status := 0
  fin    : Bool := false   -- every request answered
  recOff : Option Nat := none
  flying : List (Nat × Nat × List Nat) := []  -- units whose writes are under way: bound of their requests, elements, counts (R116)
  bad    : Nat := 0        -- the first write of it that failed, 0 none
  elems  : Nat := 0
  cnt    : List Nat := [0, 0, 0, 0, 0]   -- OVERFLOWED, FLUSHED, NAN, SUBNORMAL, NAN_BLOCKS
  bulkNo : Nat := 0
  gidx   : Nat := 0
  seed   : Nat := 0        -- seed and launch number of its launch (R108)
  number : Nat := 0
  deriving DecidableEq, Repr

/-- A producer's set while checks are pending (R145 to R151): its operation with the images read at its start, what is left. -/
structure SpecSet where
  set      : Nat
  op       : MxOp
  block    : Nat                  -- offset of the speculation block
  img      : Nat                  -- the block as the producer started with it
  h        : Nat := 0             -- images of the descriptors of H, W2 and C2
  w2       : Nat := 0
  c2       : Nat := 0
  left     : List Nat := []       -- columns still to check, ascending
  corr     : List Nat := []       -- proven columns whose correction is queued
  deferred : Nat := 0
  checked  : Nat := 0
  proven   : Nat := 0
  qfull    : Nat := 0
  bad      : Bool := false        -- a bad index was met (R130)
  deriving DecidableEq, Repr

/-- The state of one logical core as one context sees it; while its grove runs another context this is the save area (R208).
ls: local-store bytes in canonical form, unlisted zero (R195). -/
structure Image where
  lsBytes : Nat := 1572864
  shared  : Nat := 0
  grpBytes : Nat := 0
  ls      : List Host.Cell := []
  launch  : Nat := 0                 -- launch that owns the core, 0 none (R31)
  nslots  : Nat := 0                 -- groups the core can hold (R32)
  groups  : Map Group := []
  nextIdx : Nat := 0                 -- next group index of the launch for this core
  stride  : Nat := 1                 -- C, the cores of the launch (R341)
  last    : Nat := 0                 -- slot that issued last (R22)
  served  : Nat := 0                 -- slot served last with thread-load slots (R30)
  tmServed : Nat := 0                -- transfer or operation served last with a tensor-mover slot (R51, R65)
  cacheKiB : Nat := 0
  xfers   : List Xfer := []
  mxq     : List MxOp := []
  sets    : List SpecSet := []
  deriving DecidableEq, Repr

/-- A line of a core cache: global line address and its bytes; brought in by stream prefetch or not (R194, R205). -/
structure Line where
  addr : Nat
  ctx  : Nat
  data : List Byte
  pref : Bool := false
  deriving DecidableEq, Repr

/-- An entry of a queue: its request, the block it accesses (of a sector queue the channel), services done when it entered (R200). -/
structure QEnt where
  id   : Nat
  part : Nat
  came : Nat := 0
  deriving DecidableEq, Repr

/-- A bank, bank-group or sector queue (R199, R201, R228): entries in admission order, source admitted last, source served last,
services done. -/
structure BankQ where
  q       : List QEnt := []
  lastAdm : Nat := 0
  lastSrv : Nat := 0
  served  : Nat := 0
  refresh : Nat := 0          -- per-bank refreshes done (R219)
  deriving DecidableEq, Repr

/-- An entry of a translation cache (R192): context, level of Table 07.3, and the virtual bits down to that level. -/
structure XTag where
  ctx   : Nat
  level : Nat
  idx   : Nat
  deriving DecidableEq, Repr

/-- An atomic unit (R293): blocks it holds with the time each was last used. Its queue is among `banks`. -/
structure AUnit where
  held : List (Nat × Nat) := []
  deriving DecidableEq, Repr

/-- A pending release or flag (R235, R236): scope, requests and transfers it waits for, the held writes. -/
structure Rel where
  id    : Nat
  core  : Nat
  slot  : Nat
  launch : Nat
  scope : Nat
  waits : List Nat
  xwaits : List Nat
  ids   : List Nat                     -- the held requests, one a lane
  deriving DecidableEq, Repr

/-- One HBM stack's controller (R217 to R222). Times of errors are per channel: key channel. -/
structure Stack where
  temp    : Int := 0
  step    : Nat := 0
  tripped : Bool := false
  parity  : List (Nat × Nat) := []     -- (channel, time)
  uncorr  : List (Nat × Nat) := []
  corr    : List (Nat × Nat) := []
  banksLog2 : Nat := 4                 -- log2 of B of R212, as the stack reported at training
  deriving DecidableEq, Repr

/-- The map-out machinery (R223, R224): slots queued, the first of them running; its step as MAPOUT_STATE shows it. -/
structure Mapout where
  queue : List Nat := []
  step  : Nat := 0
  deriving DecidableEq, Repr

/-- HBM state. scrub: key stack*64+channel*2+pc → next block; 2^25 when the period's last one has been asked for. -/
structure Hbm where
  stackTab  : Map Stack := []
  scrub     : Map Nat := []
  mapout    : Mapout := {}
  deriving DecidableEq, Repr

/-- Ownership of a granule (R362, Table 14.2): state 0 FREE, 1 PROPOSED, 2 OWNED, 3 SCRUBBING, 4 FIRMWARE; perm bit 1 R, bit 0 W. -/
structure Owner where
  ctx   : Nat := 0
  adm   : Bool := false
  state : Nat := 0
  perm  : Nat := 0
  deriving DecidableEq, Repr

/-- The debug unit and its entries (spec/02, Tables 02.7 to 02.9). bpCtx: context of each breakpoint when armed. -/
structure Dbg where
  auth  : List Nat := []             -- tenant contexts with a valid token (R54; log 97)
  held  : Bool := false              -- an action has named a group that was there since DBG_TARGET was written (log 97)
  bpCtx : Map Nat := []
  hits  : Map (Nat × Lanes) := []    -- data breakpoint → address and lanes of the last hit
  deriving DecidableEq, Repr

/-- A launch (R341 to R343, R347). -/
structure Launch where
  id      : Nat
  ctx     : Nat
  ring    : Nat
  cmd     : Nat                       -- the 512-bit command image
  code    : Nat
  size    : Nat
  entry   : Nat
  wagn    : Bool
  groups  : Nat
  cores   : List Nat := []
  nregs   : Nat := 32
  ended   : Nat := 0
  seed    : Nat := 0
  number  : Nat := 0
  strict  : Bool := false
  spec    : Bool := false
  savem   : Bool := false
  deadline : Nat := 30
  begun   : Option Nat := none        -- time the first group started
  st      : Status := 0               -- first fault or teardown code
  fcore   : Nat := 0
  fslot   : Nat := 0
  fpc     : Nat := 0
  faddr   : Nat := 0                  -- address of the failing access (Table 13.10)
  fallen  : Bool := false             -- its groups are stopped; teardown runs
  fellBy  : Nat := 0                  -- when its teardown exceeds QUIESCE_TIMEOUT (R349)
  forced  : Option Nat := none        -- when a forced stop reached it (R352)
  flags   : List Nat := []            -- flag codes seen: UNCHECKED, SAMPLED, INDEX_RANGE, NUMERIC_FLAGGED
  cnt     : List Nat := [0, 0, 0, 0]
  replay  : List (Nat × Nat) := []    -- replay entries left: command image, SRL
  rindex  : Nat := 0
  isEntry : Bool := false
  deriving DecidableEq, Repr

end Sys2Proof.Machine
end

