-- ==== Sys2Proof/Machine/SysState.lean ====
section
/-!
DEFINITION. Machine/SysState.lean: the state of contexts, rings, start-up and the board (spec/00, 01, 13, 14, 18).
-/
namespace Sys2Proof.Machine

/-- Phases of the device (R428, R433, R472, R474, R475): held in reset, running, safe state, thermal trip, no reference clock;
refused: PERST# released with an invalid rail history, which start-up never leaves. -/
inductive Phase where
  | held | running | safe | tripped | noRefclk | badRails
  deriving DecidableEq, Repr

/-- The two grades (R13). -/
inductive Grade where
  | dt9_576 | dt9_512
  deriving DecidableEq, Repr

/-- Device-wide facts of the running start. -/
structure Dev where
  phase    : Phase := .held
  alert    : Bool := false           -- ALERT# asserted (R480)
  thermtrip : Bool := false          -- THERMTRIP# asserted (R480)
  deviceId : Nat := 0
  domainId : Nat := 0
  factory  : Option Grade := some .dt9_576   -- grade of the factory record (R17; log 9)
  grade    : Option Grade := none            -- grade that verified at this start
  coreMap  : Map Nat := []           -- logical core → physical + 1; 0: unserved; default the home core (R15)
  narrow   : Map Nat := []           -- physical core → bypassed column group + 1 (R88)
  fenced   : List Nat := []          -- physical cores fenced (R452, R454)
  fw       : List (Nat × Nat) := []  -- firmware areas of HBM: (first granule, granules) (R495; log 11)
  scrubbed : Bool := false           -- every backed granule has been scrubbed since the start (R365)
  deriving DecidableEq, Repr

/-- Latched crossings of one rail while PERST# is asserted (R471, R473), in ns: 10 %, 90 %, valid; its place in the order of the rails
that have become valid. -/
structure RailLatch where
  ten    : Option Nat := none
  ninety : Option Nat := none
  valid  : Option (Nat × Nat) := none
  deriving DecidableEq, Repr

/-- The board's side (R471 to R481). refclkAt: when REFCLK stopped last, none while it never has. rrs: configuration requests get Retry
Status (R477). -/
structure Board where
  rails    : Map RailLatch := []
  validSeq : Nat := 0
  refclkAt : Option Nat := none
  perstAt  : Nat := 0
  tap      : TapOp := .bypass
  rrs      : Bool := true
  pcie     : Option (Nat × Nat) := none     -- the PCIe link: tenths of GT/s and lanes (R477)
  pcieRefused : Bool := false        -- a partner without FLIT mode was refused a link (R3, R477)
  inSafe   : Bool := false           -- a power failure has put the device in its safe state (R428)
  deriving DecidableEq, Repr

/-- A translation leaf (Tables 07.3, 07.4): page size 0 64 KiB, 1 2 MiB, 2 1 GiB; target a global address. -/
structure Leaf where
  size   : Nat
  target : Nat
  acc    : Bool := false
  nc     : Bool := false
  x      : Bool := false
  w      : Bool := false
  r      : Bool := false
  deriving DecidableEq, Repr

/-- A gateway binding of a context (R376). -/
structure Bind where
  value : BitVec 64 := 0
  epoch : Nat := 0
  peer  : Nat := 0
  used  : Bool := false
  deriving DecidableEq, Repr

/-- A context (R355 to R378). st: 0 free, 1 active, 2 suspended, 3 quiescing, 4 destroying. leaves: key the page's first
64 KiB page number. tdi: 0 CONFIG_UNLOCKED, 1 CONFIG_LOCKED, 2 RUN, 3 ERROR. -/
structure Ctx where
  st       : Nat := 0
  grove0   : Nat := 0
  groves   : Nat := 0                -- 0: unplaced
  leaves   : Map Leaf := []
  mctx     : BitVec 384 := 0
  codeCount : Nat := 0
  locked   : List (Nat × Nat) := []  -- measured code objects: address and size (R370)
  measured : Map (BitVec 384) := []  -- code address → hash
  secret   : Option (BitVec 256) := none
  priv     : Bool := false
  debugged : Bool := false
  provKey  : Option (Nat × BitVec 776) := none
  tdi      : Nat := 0
  stream   : Nat := 0
  tables   : Map Nat := []           -- granules of its translation tables (R189): key 2^40 × level + virtual bits above the table
  busMaster : Bool := false
  binds    : Map Bind := []
  epochs   : Map Nat := []           -- highest KEY_EPOCH bound per gateway (R376)
  quiesceBy : Nat := 0               -- time + 1 at which its quiesce runs out (R346, R351), 0 none
  scrub    : List Nat := []          -- granules a destroyed context still waits for (R366)
  deriving DecidableEq, Repr

/-- A partition of time slices (R358 to R361), keyed by its first grove. -/
structure Part where
  groves  : Nat
  slice   : Nat                      -- µs
  members : List Nat := []           -- contexts placed on it
  resident : Nat                     -- context whose images are live
  begun   : Nat := 0
  toCtx   : Option Nat := none       -- switch running: the next context
  jobs    : List Nat := []           -- dies whose switch job is left
  extended : Bool := false
  deriving DecidableEq, Repr

/-- A command a ring has fetched and not yet completed (R333). seq: its ring index. stage: 0 fetched, then as its family counts.
id: the number its memory requests carry. done: STATUS, RESULT, DETAIL and the body of its detailed record, once they stand. -/
structure Cmd where
  img     : Nat
  seq     : Nat
  t0      : Nat
  prog    : Nat := 0                 -- when it last made progress (R346)
  limit   : Nat := 0                 -- its timeout in ms
  stage   : Nat := 0
  id      : Nat := 0
  aux     : Nat := 0
  launch  : Nat := 0
  tearing : Bool := false            -- a teardown or forced stop has reached it
  bells   : List (Nat × Nat) := []   -- FENCE: (ring, index past the last entry) it waits for
  done    : Option (Status × Nat × Nat × Nat) := none
  ents    : List Nat := []           -- SNAPSHOT: its list
  cnts    : List Nat := []           -- SNAPSHOT: mismatches, first mismatching entry + 1, bytes
  deriving DecidableEq, Repr

/-- A submission ring (Tables 13.3, 13.4). rung, got, fin: how many entries doorbells have named, have been fetched, have completed;
bells: per doorbell, rung after it and every ring's rung before it (R340). -/
structure Ring where
  base   : BitVec 64 := 0
  ctrl   : Word := 0
  head   : Nat := 0
  tail   : Nat := 0
  status : Status := 0
  cur    : Option Cmd := none
  failed : Bool := false             -- the previous command ended with a failure (R334)
  rung   : Nat := 0
  got    : Nat := 0
  fin    : Nat := 0
  bells  : List (Nat × Map Nat) := []
  deriving DecidableEq, Repr

/-- The completion ring of a context (R335, R336). -/
structure Cq where
  base   : BitVec 64 := 0
  ctrl   : Word := 0
  head   : Nat := 0
  tail   : Nat := 0
  irq    : Word := 0
  status : Status := 0
  phase  : Bool := true
  spill   : List Nat := []            -- overflow store: records as 256-bit numbers, IRQ of the command at bit 256
  unsig  : Nat := 0
  since  : Nat := 0
  deriving DecidableEq, Repr

/-- The rings of a context. -/
structure Rings where
  sq : Map Ring := []
  cq : Cq := {}
  deriving DecidableEq, Repr

/-- Ethernet, IPv6 and UDP fields of a frame a gateway sends (Table 11.6). -/
structure EthHead where
  dmac      : Nat
  smac      : Nat
  etherType : Nat := 0x86DD
  sip       : Nat
  dip       : Nat
  hop       : Nat := 64
  port      : Nat
  deriving DecidableEq, Repr

/-- What the DT9 shows the outside, in order: MSI-X vectors, host-memory writes, datagrams, frames, answers. -/
inductive Out where
  | msix (ctx vector : Nat)
  | hostWrite (ctx addr : Nat) (data : List Byte)
  | ryurus (session typ seq : Nat) (payload : List Byte)
  | larch (gw : Nat) (eth : EthHead) (header : Nat) (body : List Byte)
  | flit (port : Nat) (bits : BitVec 2048)
  | value (tag : String) (v : Nat)
  | bytes (tag : String) (b : List Byte)
  deriving DecidableEq, Repr

end Sys2Proof.Machine
end

