-- ==== Sys2Proof/Machine/WorkState.lean ====
section
/-!
DEFINITION. Machine/WorkState.lean: the state of optimiser steps on the Alder engines (R172 to R181) and of exchanges (R311 to R324).
-/
namespace Sys2Proof.Machine

/-- What an encoding counts: the four counters, blocks with the NaN scale, saturated elements. -/
structure OCnt where
  c   : List Nat := [0, 0, 0, 0]
  nan : Nat := 0
  sat : Nat := 0
  deriving DecidableEq, Repr

/-- What a chunk comes to: a code, parameters written, counts, the sums of pass 1 of rule 4. -/
structure ChunkOut where
  st   : Status := 0
  n    : Nat := 0
  cnt  : OCnt := {}
  sums : Option (Nat × Nat) := none
  deriving DecidableEq, Repr

/-- A running OPT_STEP. blk: the 1,024-bit step block. left: chunks of the pass that no engine has done, ascending. sums: per chunk
the FP32 sums of pass 1 of rule 4. cnt: OVERFLOWED, FLUSHED, NAN_PRODUCED, SUBNORMAL_PRODUCED. -/
structure OptStep where
  ctx     : Nat
  ring    : Nat
  blk     : Nat
  mask    : Nat := 0                   -- image of the mask header, 0 none
  pass    : Nat := 1
  left    : List Nat := []
  flying  : List (Nat × Nat × ChunkOut) := []   -- chunks whose writes are under way: chunk, engine, what they come to
  sums    : List (Nat × Nat × Nat) := []
  ratio   : Nat := 0x3F800000
  updated : Nat := 0
  cnt     : List Nat := [0, 0, 0, 0]
  nanBlk  : Nat := 0
  satur   : Nat := 0
  st      : Status := 0
  deriving DecidableEq, Repr

/-- steps: in the order they started; last: engine → 1 + 8 × context + ring of the step it served last. -/
structure Alder where
  steps : List OptStep := []
  last  : Map Nat := []
  deriving DecidableEq, Repr

/-- An exchange step after its local stage (R314 to R324). work: device-local offset of the work area; peers: member → global address of
its work area, from its rendezvous record; rsGot, agGot: (bucket, rank) of the messages accepted; counts of buckets begun and done;
flags: device, global address and value of the flags that wait for the writes before them. -/
structure Exch where
  ring    : Nat
  blk     : Nat
  id      : Nat
  work    : Nat
  peers   : Map Nat := []
  olds    : Map Nat := []              -- STEPs that the others' records showed when this exchange started (R316)
  met     : Bool := false              -- every rendezvous record has been compared
  rsBegun : Nat := 0
  rsGot   : List (Nat × Nat) := []
  rsDone  : Nat := 0
  agBegun : Nat := 0
  agGot   : List (Nat × Nat) := []
  agDone  : Nat := 0
  flags   : List (Nat × Nat × Nat) := []
  checked : Nat := 0
  cnt     : List Nat := [0, 0, 0, 0]
  fail    : Option (Status × Option Nat) := none
  deriving DecidableEq, Repr

end Sys2Proof.Machine
end

