-- ==== Sys2Proof/Machine/State.lean ====
section
/-!
DEFINITION. Machine/State.lean: the whole state of the DT9 as a block, its reasons to stop, and the state after reset.
INVENTORY.md lists every field with its rule and its reset value.
-/
namespace Sys2Proof.Machine

/-- Reasons the model would stop with a fault. The DT9 reports every failure as a status code in its own state (R344), so no
meaning raises one. -/
inductive Fault where
  /-- Nobody raises it: the type is closed and needs a constructor. Safe: no step answers it. -/
  | unraised
  deriving DecidableEq, Repr

/-- Reasons the model has no meaning for a command. -/
inductive Refusal where
  /-- An arm of exec with no meaning yet. Safe: nothing is claimed of such a command. -/
  | notModelled (mnemonic : String)
  deriving DecidableEq, Repr

/-- The state. `pending`: the commands that wait, first in, first out. `now`: ns since reset. `fresh`: how many free values have
been drawn (log 6); `nextId`: the next identifier of a request, transfer, operation or launch. Both are the MODEL's own. -/
structure State where
  pending : List Instr := []
  now     : Nat := 0
  fresh   : Nat := 0
  nextId  : Nat := 1
  out     : List Out := []
  dev     : Dev := {}
  board   : Board := {}
  dict    : Map Nat := []             -- dictionary values, default the row's (R393 to R397)
  ovfl    : List Nat := []            -- OVERFLOW_LIST (R461)
  snap    : Option (Nat × List Nat) := none   -- frozen counters (R463)
  ctxs    : Map Ctx := []             -- default: free
  parts   : Map Part := []
  images  : Map Image := []           -- key 1024 × context + logical core
  caches  : Map (List Line) := []     -- core-cache lines of a logical core, most recent first
  tlbs    : Map (List XTag) := []     -- translations that a logical core caches (R192)
  dtlbs   : Map (List XTag) := []     -- translations and pointers that a compute die caches
  dbg     : Dbg := {}
  launches : List Launch := []
  mem     : List Host.Cell := []      -- HBM from 0, near tier from 0x1000_0000_0000 (Table 07.2)
  side    : Map Nat := []             -- key: block address / 64; side-band word where it differs from the fresh code (R214)
  owner   : Map Owner := []           -- key: granule = offset / 64 KiB
  saves   : List (Nat × Nat × List Nat) := [] -- save areas: context, grove, near-tier granules (R208)
  reqs    : List Req := []
  banks   : Map BankQ := []
  aunits  : Map AUnit := []
  hbm     : Hbm := {}
  rels    : List Rel := []
  rings   : Map Rings := []
  rep     : Rep := {}
  ports   : Map Port := []            -- key: port 0 to 17
  flows   : Map Flow := []            -- key: 64 × source index + device
  gws     : Map Gw := []
  pwr     : Pwr := {}
  mgmt    : Mgmt := {}
  alder   : Alder := {}
  exch    : Map Exch := []            -- key: context
  deriving DecidableEq, Repr

/-- The machine right after reset: PERST# asserted, every subsystem at its reset value (R474; logs 4, 9, 10, 11). The
administrative context exists from the start (R355). -/
def State.reset : State := { ctxs := [(4096, { st := 1 })] }

end Sys2Proof.Machine
end

