-- ==== Sys2Proof/Machine/Ops.lean ====
section
/-!
DEFINITION. Machine/Ops.lean: the operations every family shares: dictionary values and counters (R461 to R465), alarms and Yew
records (R440 to R446, R455, R456), free values, bytes of memory, logical and physical cores (R13 to R16), translation (R183 to
R191), and which context a core serves.
-/
namespace Sys2Proof.Machine

abbrev Res := Host.Outcome State Fault Refusal

/-- A free value below n (log 6): the counter names it, the opaque constant of Config gives it. -/
def State.freeVal (s : State) (n : Nat) : Nat := Config.freeNat s.fresh % n
/-- One free value drawn. -/
def State.drawn (s : State) : State := { s with fresh := s.fresh + 1 }
/-- Takes the next identifier. -/
def State.bumpId (s : State) : State := { s with nextId := s.nextId + 1 }
def State.emit (s : State) (o : Out) : State := { s with out := s.out ++ [o] }

/-- Value of a dictionary entry as stored; the default is its row's (R393, R394). -/
def State.dv (s : State) (key : Nat) : Nat := mapGet (dictDefault key) s.dict key
def State.setDv (s : State) (key v : Nat) : State := { s with dict := mapSet (dictDefault key) s.dict key v }

/-- Key of an entry of a context's record (R397). -/
def ctxKey (ctx sub : Nat) : Nat := dkey (if ctx = 4096 then 0x8100 else 0x9000 + ctx) sub

/-- All-ones of a counter's width. -/
def counterMax (key : Nat) : Nat := 2 ^ (8 * ((entryOf key).map Entry.bytes).getD 8) - 1

/-- Operating time in seconds (R457) and power cycles. -/
def State.opTime (s : State) : Nat := s.rep.opBase + (s.now - s.rep.opStart) / 1000000000
def State.powerCycles (s : State) : Nat := s.dv (dkey 0x1000 0x09)

/-- Adds to a counter: a saturating one stops at all-ones and is then listed once (R461); a wrapping one wraps (R462). -/
def State.bump (s : State) (key n : Nat) : State :=
  let m := counterMax key
  match (entryOf key).map Entry.counter with
  | some 2 => s.setDv key ((s.dv key + n) % (m + 1))
  | _ =>
    let v := s.dv key
    let s' := s.setDv key (satAdd m v n)
    if v < m ∧ m ≤ v + n then
      if s.ovfl.length < 64 then { s' with ovfl := s.ovfl ++ [2 ^ 31 + key] }
      else s'.setDv (dkey 0x7010 0x02) (satAdd (2 ^ 32 - 1) (s'.dv (dkey 0x7010 0x02)) 1)
    else s'

/-- A Yew record is staged (R455), or counted lost (R456). -/
def State.stage (s : State) (y : Yew) : State :=
  if s.rep.full then s.bump (dkey 0x7020 0x06) 1
  else if s.rep.staging.length ≥ 4096 then s.bump (dkey 0x7020 0x07) 1
  else
    let s := { s with rep := { s.rep with staging := s.rep.staging ++ [y] } }
    if y.kind = 2 then s.bump (dkey 0x7000 0x02) 1 else if y.kind = 1 then s.bump (dkey 0x7000 0x01) 1 else s

/-- Slot that the next staged record will take, as an alarm record names it (Table 17.4); 0xFF_FFFF when it takes none. -/
def State.yewSlot (s : State) : Nat :=
  if s.rep.full ∨ s.rep.staging.length ≥ 4096 then 0xFFFFFF else s.rep.nextSlot + s.rep.staging.length

/-- One more dropped record of a priority (R446, ALARM_DROPS). -/
def State.dropCount (s : State) (prio : Nat) : State :=
  let k := dkey 0x7030 0x04
  let v := s.dv k
  let c := bits v (32 * prio) 32
  s.setDv k (setBits v (32 * prio) 32 (satAdd (2 ^ 32 - 1) c 1))

/-- The newest queued record of a priority leaves the queue. -/
def dropNewest (q : List Alarm) (prio : Nat) : List Alarm :=
  match takeFirst (fun a => a.prio == prio) q.reverse with
  | some (_, r) => r.reverse
  | none => q

/-- An alarm record enters the queue, by R446 when it is full. -/
def State.enqueueAlarm (s : State) (a : Alarm) : State :=
  let key := a.cls * 65536 + a.event
  let put (t : State) : State :=
    { t with rep := { t.rep with queue := t.rep.queue ++ [a], lastQueued := mapSet 0 t.rep.lastQueued key (t.now + 1) } }
  if s.rep.queue.length < 64 then put s
  else
    let q := s.rep.queue.foldl (fun m b => max m b.prio) 0
    if a.prio < q then
      let t := { s with rep := { s.rep with queue := dropNewest s.rep.queue q } }
      put (t.dropCount q)
    else s.dropCount a.prio

/-- R445: an event is counted into a record of its key, queued as a new one, or held. Answers whether it was counted. -/
def State.alarm (s : State) (a : Alarm) : State × Bool :=
  let same := fun b : Alarm => b.cls == a.cls && b.event == a.event
  let up := fun b : Alarm => if same b then { b with count := satAdd (2 ^ 32 - 1) b.count 1 } else b
  if s.rep.queue.any same || s.rep.held.any same then
    let t := { s with rep := { s.rep with queue := s.rep.queue.map up, held := s.rep.held.map up } }
    (t.bump (dkey 0x7030 0x03) 1, true)
  else
    let a := { a with aseq := s.rep.aseq, opTime := s.opTime, cycles := s.powerCycles }
    let t := ({ s with rep := { s.rep with aseq := (s.rep.aseq + 1) % 2 ^ 32 } }).bump (dkey 0x7030 0x02) 1
    let l := mapGet 0 s.rep.lastQueued (a.cls * 65536 + a.event)
    if l = 0 ∨ s.now + 1 ≥ l + 100000000 then (t.enqueueAlarm a, false)
    else ({ t with rep := { t.rep with held := t.rep.held ++ [a] } }, false)

/-- R443: an event of Table 17.3 in a named unit class: its alarm, and its Yew record of the row's kind. -/
def State.raiseAs (s : State) (ev cls unit : Nat) (st : Status) (d0 low : Nat) : State :=
  let (prio, _, kind) := Ev.row ev
  if prio = 4 then
    if bitAt (s.dv (dkey 0x7030 0x06)) cls then
      (s.alarm { aseq := 0, cls := cls, unit := unit, event := ev, st := st, prio := prio, detail := d0 % 2 ^ 40 }).1
    else s
  else
    let slot := if kind = 0 ∨ kind = 5 then 0xFFFFFF else s.yewSlot
    let (t, co) := s.alarm { aseq := 0, cls := cls, unit := unit, event := ev, st := st, prio := prio, yew := slot,
                             detail := d0 % 2 ^ 40 }
    if kind = 0 ∨ kind = 5 then t
    else t.stage { kind := kind, cls := cls, unit := unit, event := ev, st := st, alarmed := !co, coalesced := co,
                   detail0 := d0 % 2 ^ 48, low := low % 2 ^ 256, opTime := s.opTime, cycles := s.powerCycles }

/-- DETAIL1 to DETAIL4 as bits [255:0] of an ordinary record (Table 17.2). -/
def details (d : List Nat) : Nat := d.foldl (fun a x => a * 2 ^ 64 + x % 2 ^ 64) 0 * 2 ^ (64 * (4 - d.length))

/-- An event in the class its row names. -/
def State.raise (s : State) (ev unit : Nat) (st : Status := 0) (d0 : Nat := 0) (ds : List Nat := []) : State :=
  s.raiseAs ev (Ev.row ev).2.1 unit st d0 (details ds)

/-- A counter with its COUNTER_SATURATED event (R461). -/
def State.count (s : State) (key : Nat) (n : Nat := 1) : State :=
  let t := s.bump key n
  if t.ovfl.length ≠ s.ovfl.length ∨ t.dv (dkey 0x7010 0x02) ≠ s.dv (dkey 0x7010 0x02) then
    t.raise Ev.counterSaturated 0 0 (2 ^ 31 + key)
  else t

/-- A counter of cycles, clock edges, rows or codewords advances: by how much no command tells, so the amount is a free value (R461,
R462; logs 6 and 19). -/
def State.countFree (s : State) (key : Nat) : State :=
  let n := s.freeVal (2 ^ 48)
  let t := s.drawn
  if (entryOf key).map Entry.counter = some 2 then t.setDv key ((t.dv key + n) % (counterMax key + 1))
  else if t.dv key + 2 ^ 48 ≤ counterMax key then t.setDv key (t.dv key + n)
  else t.count key n

/-! Bytes of memory. -/

/-- Bytes of a sparse memory, unlisted bytes zero (R364, R195; log 5). -/
def cellsRead (m : List Host.Cell) (a : Nat) (n : Nat) : List Byte := (List.range n).map (fun i => mapGet (0 : Byte) m (a + i))
def cellsWrite : List Host.Cell → Nat → List Byte → List Host.Cell
  | m, _, [] => m
  | m, a, b :: r => cellsWrite (mapSet (0 : Byte) m a b) (a + 1) r
/-- Writes of single bytes at given addresses. -/
def cellsPut (m : List Host.Cell) (cs : List (Nat × Byte)) : List Host.Cell :=
  cs.foldl (fun m c => mapSet (0 : Byte) m c.1 c.2) m

/-! Logical and physical cores. -/

def nearBase : Nat := 0x100000000000
def winBase : Nat := 0x110000000000
/-- Virtual base of the window region (R188). -/
def winVa : Nat := 0xFF0000000000

/-- Logical cores per die, s of R15; 0 when no grade record verifies (R17). -/
def State.perDie (s : State) : Nat :=
  match s.dev.grade with
  | none => 0
  | some .dt9_576 => 72
  | some .dt9_512 => 64
def State.logicalCores (s : State) : Nat := 8 * s.perDie
/-- Logical groves of the grade. -/
def State.groves (s : State) : Nat := s.perDie
/-- The physical core that serves a logical core, if one does (R15). -/
def State.physOf (s : State) (n : Nat) : Option Nat :=
  if n < s.logicalCores then
    let p := mapGet (80 * (n / s.perDie) + n % s.perDie + 1) s.dev.coreMap n
    if p = 0 then none else if s.dev.fenced.contains (p - 1) then none else some (p - 1)
  else none
def State.served (s : State) (n : Nat) : Bool := (s.physOf n).isSome
/-- The physical core a logical number stood for at the start, fenced since or not. -/
def State.physAny (s : State) (n : Nat) : Nat :=
  if n < s.logicalCores then mapGet (80 * (n / s.perDie) + n % s.perDie + 1) s.dev.coreMap n - 1 else 0x3FF
/-- Logical number of a physical core, 0x3FF when it serves none (R442). -/
def State.logOf (s : State) (p : Nat) : Nat :=
  ((List.range s.logicalCores).find? (fun n => s.physOf n == some p)).getD 0x3FF
/-- Width of the array of a logical core (R89). -/
def State.width (s : State) (n : Nat) : Nat :=
  match s.physOf n with
  | some p => if mapGet 0 s.dev.narrow p = 0 then 128 else 120
  | none => 128
/-- Cores served now (CORES_ENABLED, R15). -/
def State.servedCores (s : State) : List Nat := (List.range s.logicalCores).filter s.served
/-- Compute die of a logical core. -/
def State.dieOf (s : State) (n : Nat) : Nat := n / s.perDie

/-- An ordinary record of a core carries its logical number in DETAIL4 (R442). -/
def State.raiseCore (s : State) (ev phys : Nat) (st : Status) (d0 d1 d2 d3 : Nat) : State :=
  s.raiseAs ev (Ev.row ev).2.1 phys st d0 (details [d1, d2, d3, s.logOf phys])

/-! Contexts, partitions and images. -/

def State.ctx (s : State) (c : Nat) : Ctx := mapGet {} s.ctxs c
def State.setCtx (s : State) (c : Nat) (x : Ctx) : State := { s with ctxs := mapSet {} s.ctxs c x }
def State.updCtx (s : State) (c : Nat) (f : Ctx → Ctx) : State := s.setCtx c (f (s.ctx c))
/-- Is a logical core in a partition of a context? -/
def Ctx.has (x : Ctx) (n : Nat) : Bool := x.groves != 0 && decide (8 * x.grove0 ≤ n) && decide (n < 8 * (x.grove0 + x.groves))
/-- Served cores of a context's partition, ascending. -/
def State.partCores (s : State) (c : Nat) : List Nat := (List.range s.logicalCores).filter (fun n => (s.ctx c).has n && s.served n)
def imgKey (c n : Nat) : Nat := 1024 * c + n
def State.img (s : State) (c n : Nat) : Image := mapGet {} s.images (imgKey c n)
def State.setImg (s : State) (c n : Nat) (i : Image) : State := { s with images := mapSet {} s.images (imgKey c n) i }
def State.updImg (s : State) (c n : Nat) (f : Image → Image) : State := s.setImg c n (f (s.img c n))

/-- The partition that holds a logical core (R358). -/
def State.partOf (s : State) (n : Nat) : Option (Nat × Part) :=
  s.parts.find? (fun p => decide (8 * p.1 ≤ n ∧ n < 8 * (p.1 + p.2.groves)))
/-- The context resident on a core, and nobody while a switch runs (R359) or while the die is in reset (R429). -/
def State.liveCtx (s : State) (n : Nat) : Option Nat :=
  match s.partOf n with
  | some (_, p) => if p.toCtx.isSome || (mapGet ({} : DieP) s.pwr.dies (s.dieOf n)).down then none else some p.resident
  | none => none
/-- The context whose state the core holds, a switch under way or not: its image serves windows in place (R195). -/
def State.heldCtx (s : State) (n : Nat) : Option Nat := (s.partOf n).map (fun p => p.2.resident)

def State.running (s : State) : Bool := s.dev.phase == .running

/-- A group in a slot of the live image of a core. -/
structure Here where
  ctx : Nat
  img : Image
  grp : Group
  deriving DecidableEq, Repr

def State.groupAt (s : State) (core slot : Nat) : Option Here :=
  match s.liveCtx core with
  | none => none
  | some c =>
    let i := s.img c core
    (mapFind i.groups slot).map (fun g => ⟨c, i, g⟩)

def emptyGroup : Group := { idx := 0, launch := 0 }
/-- Puts a group back. A group's launch number is never 0, so no group equals the table's default. -/
def State.setGroup (s : State) (c core slot : Nat) (g : Group) : State :=
  s.updImg c core (fun i => { i with groups := mapSet emptyGroup i.groups slot g })
def State.updGroup (s : State) (c core slot : Nat) (f : Group → Group) : State :=
  s.updImg c core (fun i => match mapFind i.groups slot with
    | some g => { i with groups := mapSet emptyGroup i.groups slot (f g) }
    | none => i)

def State.launch? (s : State) (id : Nat) : Option Launch := s.launches.find? (fun l => l.id == id)
def State.updLaunch (s : State) (id : Nat) (f : Launch → Launch) : State :=
  { s with launches := modifyWhere (fun l => l.id == id) f s.launches }

/-! Addresses and translation. -/

/-- Fields of a global address (Table 07.1). -/
def gOff (a : Nat) : Bool := bitAt a 63
def gDomain (a : Nat) : Nat := bits a 51 12
def gDevice (a : Nat) : Nat := bits a 45 6
def gOffset (a : Nat) : Nat := bits a 0 45
def mkGlobal (dev offset : Nat) : Nat := dev * 2 ^ 45 + offset

/-- Mapped-out channel slots, X of R223, and their number. -/
def State.outSet (s : State) : Nat := s.dv (dkey 0x3010 0x03)
/-- Bits set in a number below 2^512. -/
def popCount (v : Nat) : Nat := if v = 0 then 0 else ((List.range 512).filter (fun i => bitAt v i)).length
def State.outCount (s : State) : Nat := popCount s.outSet
/-- HBM bytes backed (R223). -/
def State.hbmBacked (s : State) : Nat := 2 ^ 41 - 4 * 2 ^ 30 * s.outCount
/-- HBM bytes below which pages may be placed: while a map-out runs, below its first removed row (R224, Table 08.5). -/
def State.hbmUsable (s : State) : Nat := s.hbmBacked - (if s.hbm.mapout.step = 0 then 0 else 4 * 2 ^ 30)

/-- What a device-local offset is (Table 07.2). -/
inductive Region where
  | hbm | near
  | window (slot off : Nat)
  | control
  | unbacked
  deriving DecidableEq, Repr

def State.region (s : State) (o : Nat) : Region :=
  if o < s.hbmBacked then .hbm
  else if nearBase ≤ o ∧ o < nearBase + 0x300000000 then .near
  else if winBase ≤ o ∧ o < winBase + 0x50000000 then .window ((o - winBase) / 0x200000) ((o - winBase) % 0x200000)
  else if 0x1F0000000000 ≤ o then .control
  else .unbacked

/-- The leaf that covers a virtual address, with its first 64 KiB page (R189). -/
def leafOf (ls : Map Leaf) (va : Nat) : Option (Nat × Leaf) :=
  let p := va / 65536
  let try1 := fun (sz w : Nat) => (mapFind ls (p / w * w)).bind (fun l => if l.size = sz then some (p / w * w, l) else none)
  ((try1 0 1).orElse (fun _ => try1 1 32)).orElse (fun _ => try1 2 16384)
/-- Bytes of a leaf page: 64 KiB, 2 MiB or 1 GiB (Table 07.3). -/
def leafBytes (sz : Nat) : Nat := if sz = 0 then 65536 else if sz = 1 then 0x200000 else 0x40000000
/-- The global address a leaf gives. -/
def leafTarget (p : Nat) (l : Leaf) (va : Nat) : Nat := l.target + (va - p * 65536)

/-- Who asks: Table 07.5 gives a thread load beyond the domain another outcome than the tensor mover. -/
inductive Need where
  | read | write | both | fetch
  deriving DecidableEq, Repr

/-- Where an access goes: a local window of a core, or a global address with its leaf's NC bit. -/
inductive Dest where
  | win (core off : Nat)
  | glob (a : Nat) (nc : Bool)
  deriving DecidableEq, Repr

/-- R191, Table 07.5: the outcome of translating one address, whose bytes lie in one page. -/
def State.xlate (s : State) (c : Nat) (va : Nat) (need : Need) : Status × Dest :=
  let bad := fun (k : Status) => (k, Dest.glob 0 false)
  if va ≥ 2 ^ 48 then bad Code.pageFault
  else if winVa ≤ va ∧ va < winVa + 0x50000000 then
    let n := (va - winVa) / 0x200000
    let o := (va - winVa) % 0x200000
    if need = .fetch then bad Code.accessDenied
    else if s.dev.fenced.contains (s.physAny n) ∧ n < s.logicalCores ∧ (s.ctx c).has n then bad Code.coreFenced
    else if !(s.served n) || !((s.ctx c).has n) then bad Code.accessDenied
    else if o ≥ (s.img c n).lsBytes then bad Code.localBounds
    else (0, .win n o)
  else
    match leafOf (s.ctx c).leaves va with
    | none => bad Code.pageFault
    | some (p, l) =>
      if !l.acc then bad Code.pageFault
      else if (need = .read ∧ !l.r) ∨ (need = .write ∧ !l.w) ∨ (need = .both ∧ !(l.r && l.w)) ∨ (need = .fetch ∧ !l.x) then
        bad Code.accessDenied
      else
        let a := leafTarget p l va
        if need = .fetch then
          (if gOff a ∨ gDevice a ≠ s.dev.deviceId then bad Code.accessDenied
           else match s.region (gOffset a) with
             | .hbm => (0, .glob a l.nc)
             | .near => (0, .glob a l.nc)
             | _ => bad Code.accessDenied)
        else (0, .glob a l.nc)

/-- Is a global address local to this device (R183)? -/
def State.isLocal (s : State) (a : Nat) : Bool := !(gOff a) && gDevice a == s.dev.deviceId

/-- Counts a PAGE_FAULT or ACCESS_DENIED completion of a context (0x9000 + ID:41, :42). -/
def State.countCode (s : State) (c : Nat) (st : Status) : State :=
  if st = Code.pageFault then s.count (ctxKey c 0x41) else if st = Code.accessDenied then s.count (ctxKey c 0x42) else s

/-- Bytes of the device's own memory or of a window, as applied writes left them. -/
def State.rawRead (s : State) (o n : Nat) : List Byte := cellsRead s.mem o n

/-! Time. -/

/-- Has a time of so many nanoseconds from a moment passed? -/
def State.past (s : State) (t0 n : Nat) : Bool := decide (t0 + n ≤ s.now)
def us : Nat := 1000
def ms : Nat := 1000000

end Sys2Proof.Machine
end

