-- ==== Sys2Proof/Machine/Mem.lean ====
section
/-!
DEFINITION. Machine/Mem.lean: HBM blocks and their code (R211 to R216), the interleave and map-out places (R213, R223), atomic
arithmetic (R39 to R41, R293), and how requests get slots, enter queues and are applied (R29, R30, R197 to R201, R233).
-/
namespace Sys2Proof.Machine

/-! The controller's code: Reed-Solomon over GF(2^8), x^8 + x^4 + x^3 + x^2 + 1, roots α^0, α^1, α^2 (R214; log 16). -/

def gfMulLoop : Nat → Nat → Nat → Nat → Nat
  | 0, _, _, acc => acc
  | n + 1, a, b, acc =>
    gfMulLoop n (if a ≥ 128 then (a * 2) ^^^ 0x11D else a * 2) (b / 2) (if b % 2 = 1 then acc ^^^ a else acc)
def gfMul (a b : Nat) : Nat := gfMulLoop 8 a b 0
def gfPow (a : Nat) : Nat → Nat
  | 0 => 1
  | n + 1 => gfMul a (gfPow a n)

/-- Syndromes of a codeword given from its highest-degree symbol down. -/
def syndrome (j : Nat) (syms : List Nat) : Nat := syms.foldl (fun acc c => gfMul acc (gfPow 2 j) ^^^ c) 0

/-- Check symbols CHK2, CHK1, CHK0 of 65 data symbols: the remainder of the data times x³ by (x - 1)(x - α)(x - α²). -/
def rsChecks (data : List Nat) : Nat × Nat × Nat :=
  -- g = x³ + 7x² + 14x + 8 over GF(2^8)
  data.foldl (fun (r : Nat × Nat × Nat) d =>
    let f := r.1 ^^^ d
    (r.2.1 ^^^ gfMul f 7, r.2.2 ^^^ gfMul f 14, gfMul f 8)) (0, 0, 0)

/-- Side-band word of a block that has just been written (Table 08.2). -/
def freshSide (data : List Byte) (tag : Nat) : Nat :=
  let (c2, c1, c0) := rsChecks (data.map BitVec.toNat ++ [tag])
  tag * 2 ^ 24 + c2 * 2 ^ 16 + c1 * 256 + c0

/-- Outcome of decoding a block (R215): data, whether a symbol was wrong. -/
inductive Decoded where
  | good (data : List Byte)
  | fixed (data : List Byte) (tag : Nat)
  | lost
  | poison
  deriving DecidableEq, Repr

/-- Position of the one wrong symbol, when S1/S0 and S2/S1 agree on one. -/
def errorAt (s0 s1 s2 : Nat) : Option Nat :=
  if s0 = 0 then none
  else (List.range 68).find? (fun p => gfMul s0 (gfPow 2 p) == s1 && gfMul s1 (gfPow 2 p) == s2)

/-- R215 on the 64 bytes and the side-band word of a block. -/
def decodeBlock (data : List Byte) (side : Nat) : Decoded :=
  let tag := bits side 24 8
  let syms := data.map BitVec.toNat ++ [tag, bits side 16 8, bits side 8 8, bits side 0 8]
  let s0 := syndrome 0 syms
  let s1 := syndrome 1 syms
  let s2 := syndrome 2 syms
  if s0 = 0 ∧ s1 = 0 ∧ s2 = 0 then (if tag ≥ 128 then .poison else .good data)
  else match errorAt s0 s1 s2 with
    | none => .lost
    | some p =>
      let i := 67 - p
      let tag' := if i = 64 then tag ^^^ s0 else tag
      let data' := (List.zip (List.range 64) data).map (fun (k, b) => if k = i then b ^^^ BitVec.ofNat 8 s0 else b)
      if tag' ≥ 128 then .poison else .fixed data' tag'

/-! Places in HBM. -/

/-- Physical place of an HBM offset (R213, R223). -/
structure Place where
  stack : Nat
  ch    : Nat
  pc    : Nat
  bank  : Nat
  block : Nat
  deriving DecidableEq, Repr

/-- Slots in X below s. -/
def rankIn (x s : Nat) : Nat := ((List.range s).filter (fun i => bitAt x i)).length
/-- The k-th slot not in X, ascending. -/
def healthySlot (x k : Nat) : Nat := (((List.range 512).filter (fun i => !bitAt x i))[k]?).getD 0

def State.place (s : State) (o : Nat) : Place :=
  let x := s.outSet
  let q := s.outCount
  let g := o / 4096
  let i := g / 512
  let sl := g % 512
  let (sl, i) :=
    if bitAt x sl then
      let k := i * q + rankIn x sl
      (healthySlot x (k % (512 - q)), 1048576 - 2048 * q + k / (512 - q))
    else (sl, i)
  let b := 2 ^ (mapGet {} s.hbm.stackTab (sl % 16)).banksLog2
  { stack := sl % 16, ch := sl / 16, pc := o / 64 % 2, bank := (i % b) ^^^ ((i / b) % b), block := i * 32 + o % 4096 / 128 }

def stackOf (s : State) (k : Nat) : Stack := mapGet {} s.hbm.stackTab k
def State.updStack (s : State) (k : Nat) (f : Stack → Stack) : State :=
  { s with hbm := { s.hbm with stackTab := mapUpd {} s.hbm.stackTab k f } }
/-- Memory-side die that controls a stack (Table 01.1, R213). -/
def dieOfStack (k : Nat) : Nat := if k % 2 = 0 then k / 4 else 4 + k / 4

/-- A map-out is triggered for a slot (R222, R224); a second trigger is queued (R229). -/
def State.triggerMapout (s : State) (slot : Nat) : State :=
  if bitAt s.outSet slot ∨ s.hbm.mapout.queue.contains slot then s
  else { s with hbm := { s.hbm with mapout := { queue := s.hbm.mapout.queue ++ [slot],
                                                step := if s.hbm.mapout.step = 0 then 1 else s.hbm.mapout.step } } }

def hour : Nat := 3600000000000

/-- Errors of a channel within a window, the new one included. -/
def recentErr (l : List (Nat × Nat)) (ch now window : Nat) : List (Nat × Nat) :=
  (l.filter (fun e => decide (now < e.2 + window))) ++ [(ch, now)]
def errCount (l : List (Nat × Nat)) (ch : Nat) : Nat := (l.filter (fun e => e.1 == ch)).length

/-- An uncorrectable read: alarm, Yew record, map-out trigger (R215, R222). -/
def State.uncorrAt (s : State) (o : Nat) : State :=
  let p := s.place o
  let s := s.raise Ev.hbmUncorrectable (32 * p.stack + p.ch) Code.uncorrectable o [p.stack, p.ch, p.pc, p.block]
  let l := recentErr (stackOf s p.stack).uncorr p.ch s.now hour
  let s := s.updStack p.stack (fun k => { k with uncorr := l })
  if errCount l p.ch ≥ s.dv (dkey 0x3014 0x02) then s.triggerMapout (16 * p.ch + p.stack) else s

/-- A corrected read (R215, R222): the limit within 1 h journals a request to retest the channel (log 98). -/
def State.corrAt (s : State) (o : Nat) : State :=
  let p := s.place o
  let s := s.count (dkey 0x3011 0x01)
  let l := recentErr (stackOf s p.stack).corr p.ch s.now hour
  let s := s.updStack p.stack (fun k => { k with corr := l })
  if errCount l p.ch ≥ s.dv (dkey 0x3014 0x03) ∧ !(s.mgmt.retest.contains (32 * p.stack + p.ch)) then
    ({ s with mgmt := { s.mgmt with retest := s.mgmt.retest ++ [32 * p.stack + p.ch] } } : State).raise Ev.channelRetest (32 * p.stack + p.ch)
  else s

/-- Reads one HBM block through its code (R215): false when the read fails. -/
def State.eccBlock (s : State) (blk : Nat) : State × Bool :=
  match mapFind s.side blk with
  | none => (s, true)
  | some w =>
    match decodeBlock (cellsRead s.mem (64 * blk) 64) w with
    | .good _ => (s, true)
    | .fixed d _ =>
      (({ s with mem := cellsWrite s.mem (64 * blk) d, side := mapErase s.side blk }).corrAt (64 * blk), true)
    | .lost =>
      let t := { s with side := mapInsert (mapErase s.side blk) blk (freshSide (cellsRead s.mem (64 * blk) 64) 128) }
      ((t.count (dkey 0x3011 0x02)).uncorrAt (64 * blk), false)
    | .poison => ((s.count (dkey 0x3011 0x04)).uncorrAt (64 * blk), false)

/-- Every listed block of a range is read through its code; true when all succeed. -/
def State.eccSweep (s : State) (o n : Nat) : State × Bool :=
  (s.side.filter (fun e => decide (o / 64 ≤ e.1 ∧ 64 * e.1 < o + n))).foldl
    (fun (a : State × Bool) e => let r := a.1.eccBlock e.1; (r.1, a.2 && r.2)) (s, true)

/-- Reads bytes of this device's HBM or near tier. -/
def State.devRead (s : State) (o n : Nat) : State × Status × List Byte :=
  match s.region o with
  | .hbm =>
    let (t, good) := s.eccSweep o n
    if good then (t, 0, cellsRead t.mem o n) else (t, Code.uncorrectable, [])
  | .near => (s, 0, cellsRead s.mem o n)
  | _ => (s, Code.accessDenied, [])

/-- Writes bytes (address, byte) of one 64 B block of HBM, or anywhere in the near tier (R216). -/
def State.blockPut (s : State) (o : Nat) (cs : List (Nat × Byte)) : State × Status :=
  match s.region o with
  | .near => ({ s with mem := cellsPut s.mem cs }, 0)
  | .hbm =>
    if cs.length ≥ 64 then ({ s with mem := cellsPut s.mem cs, side := mapErase s.side (o / 64) }, 0)
    else
      let (t, good) := s.eccBlock (o / 64)
      if good then ({ t with mem := cellsPut t.mem cs, side := mapErase t.side (o / 64) }, 0) else (t, Code.uncorrectable)
  | _ => (s, Code.accessDenied)

/-- The pieces of a range cut at multiples of `step`: (address, length). Structural on fuel. -/
def pieces (step : Nat) : Nat → Nat → Nat → List (Nat × Nat)
  | 0, _, _ => []
  | f + 1, a, n => if n = 0 then [] else
      let k := min n (step - a % step)
      (a, k) :: pieces step f (a + k) (n - k)
def cut (step a n : Nat) : List (Nat × Nat) := pieces step (n / step + 2) a n

/-- Writes a run of bytes to this device's memory, block by block; stops at the first failing block. -/
def State.devWrite (s : State) (o : Nat) (bs : List Byte) : State × Status :=
  (cut 64 o bs.length).foldl (fun (a : State × Status) (p : Nat × Nat) =>
    if a.2 ≠ 0 then a
    else a.1.blockPut p.1 ((List.zip (List.range p.2) ((bs.drop (p.1 - o)).take p.2)).map (fun e => (p.1 + e.1, e.2)))) (s, 0)

/-- The image that serves a window of a core for a context (R195): its own, resident or saved. -/
def State.winRead (s : State) (c core off n : Nat) : List Byte := cellsRead (s.img c core).ls off n
def State.winWrite (s : State) (c core off : Nat) (cs : List (Nat × Byte)) : State :=
  let s := if s.heldCtx core = some c then s else s.count (dkey 0x3003 0x03)
  s.updImg c core (fun i => { i with ls := cellsPut i.ls (cs.map (fun e => (off + e.1, e.2))) })

/-- Words that SEC-DED corrected are rewritten and counted (R450). -/
def State.sramFixed (s : State) (n : Nat) : State := if n = 0 then s else s.count (dkey 0x7000 0x07) n

/-! Atomic arithmetic. -/

/-- Width in bytes of a TYPE of Table 02.4. -/
def typBytes (typ : Nat) : Nat := if typ = 2 ∨ typ = 3 then 8 else 4

/-- One operation on the word, exact for integers and rounded once for F32 (R39, R40, R293). -/
def atomStep (op : Aop) (typ old v : Nat) : Nat :=
  let w := 8 * typBytes typ
  if typ = 4 then
    match op with
    | .add => fp32Bits (Ex.add (fp32Val old) (fp32Val v))
    | .min => encodeFp fp32 (exMin (fp32Val old) (fp32Val v))
    | .max => encodeFp fp32 (exMax (fp32Val old) (fp32Val v))
    | _ => v
  else
    let less := if typ = 0 ∨ typ = 2 then decide (signedOf w old < signedOf w v) else decide (old < v)
    match op with
    | .add => (old + v) % 2 ^ w
    | .min => if less then old else v
    | .max => if less then v else old
    | .and => old &&& v
    | .or => old ||| v
    | .xor => old ^^^ v
    | _ => v

/-- The word after an atomic: a CAS writes the swap value when the word equals the compare value (R39). -/
def atomNew (op : Aop) (typ old v w : Nat) : Nat :=
  if op = .cas then (if old = v then w else old) else atomStep op typ old v

/-- One value for a combining set, operands in ascending lane order (R39, R40). -/
def combineSet (op : Aop) (typ : Nat) (vs : List Nat) : Nat :=
  match op with
  | .swap => vs.getLastD 0
  | _ => (treeList (fun a b => atomStep op typ a b) vs).getD 0

/-- What each lane of a set gets back (R41). -/
def atomReturns (op : Aop) (typ : Nat) : Nat → List (Nat × Nat) → List (Nat × Nat)
  | _, [] => []
  | old, (l, v) :: r => (l, old) :: atomReturns op typ (atomStep op typ old v) r

def aopOf (n : Nat) : Aop :=
  match n with
  | 0 => .add | 1 => .min | 2 => .max | 3 => .and | 4 => .or | 5 => .xor | 6 => .swap | _ => .cas

/-! Requests. -/

def srcNum : Src → Nat
  | .core n => n
  | .alder e => 900 + e
  | .port p => 1000 + p
  | .gateway g => 1100 + g
  | .pcie => 1200
  | .firmware => 2000

/-- Keys of the queues: HBM banks, near-tier bank groups, atomic units, windows, beyond this device, sector queues of the channels. -/
def qBank (p : Place) : Nat := ((p.stack * 32 + p.ch) * 2 + p.pc) * 65536 + p.bank
def qNear (die grp : Nat) : Nat := 2 ^ 40 + die * 16 + grp
def qUnit (u : Nat) : Nat := 2 ^ 41 + u
def qWin (core : Nat) : Nat := 2 ^ 42 + core
def qAway : Nat := 2 ^ 43
def qSect (ch : Nat) : Nat := 2 ^ 44 + ch

def isAtomic : MemOp → Bool
  | .at .. => true
  | _ => false
def isGather : MemOp → Bool
  | .gath _ => true
  | _ => false

/-- Start of the block that one queue entry accesses: 64 B of HBM (R212), a granule of 256 B of the near tier (R185). -/
def blockOf (o : Nat) : Nat := if o < nearBase then o / 64 * 64 else o / 256 * 256
def blockLen (o : Nat) : Nat := if o < nearBase then 64 else 256
/-- The blocks of a range, ascending. -/
def blocksIn (o n : Nat) : List Nat := (cut (blockLen o) o n).map (fun p => blockOf p.1)

/-- The blocks that a request to this device accesses, one queue entry each (R212, R228); of an atomic, a flag or a window its word. -/
def blocksOf (r : Req) : List Nat :=
  if r.win then [r.addr]
  else match r.op with
  | .rd n => blocksIn (gOffset r.addr) n
  | .wr cs => sortNat (cs.map (fun c => blockOf (gOffset r.addr + c.1)))
  | .gath ss => sortNat (ss.map (fun a => blockOf (gOffset a.2)))
  | _ => [gOffset r.addr]

/-- Atomic unit of an offset: 0 to 15 the stacks, 16 + 16 × die + bank group the near tier (R293). -/
def State.unitOf (s : State) (o : Nat) : Nat :=
  if o < nearBase then (s.place o).stack
  else 16 + 16 * ((o - nearBase) / 0x60000000) + (o - nearBase) % 0x60000000 / 256 % 16

/-- The bank or bank group of an offset. -/
def State.bankOf (s : State) (o : Nat) : Nat :=
  if o < nearBase then qBank (s.place o) else qNear ((o - nearBase) / 0x60000000) ((o - nearBase) % 0x60000000 / 256 % 16)

/-- The queue that serves one block of a request. -/
def State.keyOf (s : State) (r : Req) (p : Nat) : Nat :=
  if r.win then qWin ((r.addr - winBase) / 0x200000)
  else if !(s.isLocal r.addr) then qAway
  else if isAtomic r.op then qUnit (s.unitOf p)
  else s.bankOf p

/-- HBM channel of an offset: 32 × stack + channel. -/
def State.chanAt (s : State) (o : Nat) : Nat := let p := s.place o; 32 * p.stack + p.ch
/-- HBM channels that a request touches, each of which counts it (R198). -/
def State.channels (s : State) (r : Req) : List Nat :=
  if r.win || !(s.isLocal r.addr) then [] else sortNat (((blocksOf r).filter (fun o => decide (o < nearBase))).map s.chanAt)

def State.updReq (s : State) (id : Nat) (f : Req → Req) : State :=
  { s with reqs := modifyWhere (fun r => r.id == id) f s.reqs }
def State.req? (s : State) (id : Nat) : Option Req := s.reqs.find? (fun r => r.id == id)

/-- Counts a request's first wait (0x3001:03 with chan, else 0x3001:04). -/
def State.countWait (s : State) (r : Req) (chan : Bool) : State :=
  if r.waited then s
  else (s.updReq r.id (fun r => { r with waited := true })).count (dkey 0x3001 (if chan then 3 else 4))

/-! Slots (R28, R29, R51, R65, R197, R198). -/

/-- Does a request hold a slot: a thread's until its response, the mover's until its answer (R51)? -/
def Req.holdsSlot (r : Req) : Bool := r.ph != .waiting && !r.noslot && (r.xfer == 0 || r.ph != .done)
/-- Slots of 64 B that a core's thread requests hold. -/
def slotsUsed (rs : List Req) (core : Nat) : Nat := (rs.filter (fun r => r.src == .core core && r.xfer == 0 && r.holdsSlot)).length
/-- Tensor-mover slots of 256 B that a core holds. -/
def moverUsed (rs : List Req) (core : Nat) : Nat := (rs.filter (fun r => r.src == .core core && r.xfer != 0 && r.holdsSlot)).length

/-- Would one more slot of a core keep to CHANNEL_CAP in every channel a request touches (R198)? -/
def State.capFree (s : State) (r : Req) : Bool :=
  (s.channels r).all (fun ch =>
    decide ((s.reqs.filter (fun x => x.src == r.src && x.holdsSlot && (s.channels x).contains ch)).length < s.dv (dkey 0x3001 0x01)))
/-- May a thread request of a core take a slot now (R29, R198)? -/
def State.slotFree (s : State) (r : Req) (core : Nat) : Bool := decide (slotsUsed s.reqs core < 32) && s.capFree r
/-- May a request of the tensor mover or the array take a slot now (R51, R65, R198)? -/
def State.moverFree (s : State) (r : Req) (core : Nat) : Bool := decide (moverUsed s.reqs core < 64) && s.capFree r

/-- Order in which the waiting requests of a core are offered slots: the group served last first while it has lines left, then
the others in round-robin slot order from it; within a group in issue order (R30). -/
def slotOrder (served : Nat) (rs : List Req) : List Req :=
  (List.range 64).flatMap (fun k => rs.filter (fun r => r.slot == (served + k) % 64))

/-- Gives free thread-load slots to waiting requests of one core. A request issues as it takes its slot (R29), so the list holds those
with slots in the order of their issue. One whose translation walks takes none yet (R192). -/
def State.grantSlots (s : State) (core : Nat) : State :=
  let ws := s.reqs.filter (fun r => r.src == .core core && r.xfer == 0 && r.ph == .waiting && r.walk.isEmpty)
  match ws.head? with
  | none => s
  | some w =>
    (slotOrder (s.img w.ctx core).served ws).foldl (fun (t : State) r =>
      if t.slotFree r core then
        ({ t with reqs := t.reqs.filter (fun x => x.id != r.id) ++ [{ r with ph := .slot }] } : State).updImg r.ctx core
          (fun i => { i with served := r.slot })
      else t.countWait r (decide (slotsUsed t.reqs core < 32))) s

/-- The request that the next free tensor-mover slot of a core goes to: of the transfer or operation next in turn after the one served
last, the first that no channel's cap holds back (R51, R65). -/
def State.nextMover (s : State) (core last : Nat) (ws : List Req) : Option Req :=
  let ids := sortNat (ws.map Req.xfer)
  (ids.filter (fun x => decide (last < x)) ++ ids.filter (fun x => decide (x ≤ last))).findSome? (fun x =>
    ws.find? (fun r => r.xfer == x && s.moverFree r core))
/-- Gives free tensor-mover slots to the waiting requests of a core's transfers and operations, one request a turn. Structural on fuel. -/
def State.grantMover (core : Nat) : Nat → State → State
  | 0, s => s
  | n + 1, s =>
    let ws := s.reqs.filter (fun r => r.src == .core core && r.xfer != 0 && r.ph == .waiting && r.walk.isEmpty)
    match ws.head? with
    | none => s
    | some w =>
      if moverUsed s.reqs core ≥ 64 then s
      else match s.nextMover core (s.img w.ctx core).tmServed ws with
      | none => ws.foldl (fun (t : State) r => t.countWait r true) s
      | some r => State.grantMover core n ((s.updReq r.id (fun x => { x with ph := .slot })).updImg w.ctx core (fun i => { i with tmServed := r.xfer }))
/-- Slots of a core are given out: of its threads, of its tensor mover and array. -/
def State.grant (s : State) (core : Nat) : State :=
  State.grantMover core 64 (s.grantSlots core)

/-! Order and room of the queues (R199 to R201, R228, R233, R293). -/

/-- R233: may a plain write enter its queue? Every plain write of its core to this device that issued earlier is applied, has failed, or
waits in the same queue. For a request of a port, R292 asks the same of its flow. -/
def State.orderOk (s : State) (r : Req) : Bool :=
  !r.plain ||
  ((s.reqs.takeWhile (fun x => x.id != r.id)).all (fun x =>
    !(x.src == r.src && x.plain && (match r.src with | .core _ => x.ph != .waiting | _ => x.slot == r.slot && x.dev == r.dev)
        && x.ph != .done && x.ph != .sent && (x.win || s.isLocal x.addr)) ||
    (x.ph == .queued && (match blocksOf x, blocksOf r with | [a], [b] => s.keyOf x a == s.keyOf r b | _, _ => false))))

/-- Channel slots whose map-out has been triggered but whose map is not yet in force. -/
def State.mapoutAhead (s : State) : Nat := (s.hbm.mapout.queue.filter (fun q => !(bitAt s.outSet q))).length
/-- Does something hold accesses to an offset back: a trip (R220), a map-out or one that waits (R209, R224, R229), a supply warning on the
memory-side die or the stack (Table 16.5; the caller passes those)? -/
def State.offStopped (s : State) (dies stackTab : List Nat) (o : Nat) : Bool :=
  if o < nearBase then
    let p := s.place o
    (stackOf s p.stack).tripped || stackTab.contains p.stack || s.hbm.mapout.queue.contains (16 * p.ch + p.stack) ||
    (!s.hbm.mapout.queue.isEmpty && decide (o ≥ 2 ^ 41 - 4 * 2 ^ 30 * (s.outCount + s.mapoutAhead)))
  else dies.contains ((o - nearBase) / 0x60000000)
def State.partStopped (s : State) (dies stackTab : List Nat) (r : Req) (p : Nat) : Bool :=
  !r.win && s.isLocal r.addr && s.offStopped dies stackTab p

/-- Where a source joins the dies: a compute die or its memory-side die; 8 the West I/O die, 9 the East (R9). -/
def State.homeOf (s : State) : Src → Option Nat
  | .core n => some (s.dieOf n)
  | .alder e => some (dieOfStack e)
  | .port p => some (if p < 9 then 8 else 9)
  | .gateway _ => some 9
  | .pcie => some 8
  | .firmware => none
/-- The neighbour over whose bridge a request from elsewhere enters a die: along the row first, then along the column (log 101). -/
def bridgeInto (home die : Nat) : Nat :=
  if home = 8 then (if die % 4 = 0 then 8 else die - 1)
  else if home = 9 then (if die % 4 = 3 then 9 else die + 1)
  else if home / 4 ≠ die / 4 then home / 4 * 4 + die % 4
  else if home < die then die - 1
  else die + 1
/-- Number of the source that a queue sees: of a bank group of another die the bridge by which the request comes (R201). -/
def State.srcAt (s : State) (key : Nat) (src : Src) : Nat :=
  if 2 ^ 40 ≤ key ∧ key < 2 ^ 41 then
    let d := (key - 2 ^ 40) / 16
    match s.homeOf src with
    | none => srcNum src
    | some h => if h = d then srcNum src else 3000 + bridgeInto h d
  else srcNum src

def State.bank (s : State) (key : Nat) : BankQ := mapGet {} s.banks key
/-- The entries of a queue whose requests still stand, in admission order. -/
def State.entries (s : State) (key : Nat) : List (QEnt × Req) :=
  (s.bank key).q.filterMap (fun e => (s.req? e.id).map (fun r => (e, r)))

/-- Room in a queue for one more request of a source (R199, R201, R228, R293). -/
def State.queueRoom (s : State) (key : Nat) (src : Src) : Bool :=
  let es := s.entries key
  let mine := (es.filter (fun e => s.srcAt key e.2.src == s.srcAt key src)).length
  if key ≥ 2 ^ 44 then decide (es.length < 64) && decide (mine < s.dv (dkey 0x3001 0x02))
  else if key ≥ 2 ^ 42 then true
  else if key ≥ 2 ^ 41 then decide (es.length < 2048)
  else if key ≥ 2 ^ 40 then decide (es.length < 64) && decide (mine < 8)
  else decide (es.length < 32) && decide (mine < s.dv (dkey 0x3001 0x02))

/-- Room by the refresh step: at most 26 entries ahead at step 2, 12 at step 3, for requests that came by a port (R290). -/
def State.refreshRoom (s : State) (r : Req) (key p : Nat) : Bool :=
  match r.src with
  | .port _ =>
    let n := (s.entries key).length
    let k := (stackOf s (s.place p).stack).step
    decide (key ≥ 2 ^ 40) || decide (k < 2) || (decide (k = 2) && decide (n ≤ 26)) || (decide (k ≥ 3) && decide (n ≤ 12))
  | _ => true

/-- What of a request is still to enter a queue, as (queue, block): the read of its translation entry, the sub-requests of a gather, the
blocks whose channel has taken theirs. -/
def State.wants (s : State) (r : Req) : List (Nat × Nat) :=
  match r.walk with
  | w :: _ => if r.adm.isEmpty then [(s.bankOf w, blockOf w)] else []
  | [] =>
    if r.ph != .slot || r.held then []
    else if isGather r.op then
      ((s.channels r).filter (fun c => !(r.subs.contains c))).map (fun c => (qSect c, c)) ++
      ((blocksOf r).filter (fun p => !(r.adm.contains p) && (decide (p ≥ nearBase) || r.subs.contains (s.chanAt p)))).map (fun p => (s.bankOf p, p))
    else ((blocksOf r).filter (fun p => !(r.adm.contains p))).map (fun p => (s.keyOf r p, p))

/-- May one block of a request enter its queue? A sub-request of a gather waits with its channel. -/
def State.admissible (s : State) (dies stackTab : List Nat) (r : Req) (key p : Nat) : Bool :=
  (!r.walk.isEmpty || s.orderOk r) && s.queueRoom key r.src && s.refreshRoom r key p &&
  (if key ≥ 2 ^ 44 then
     !((blocksOf r).any (fun o => decide (o < nearBase) && s.chanAt o == p && s.partStopped dies stackTab r o))
   else if r.walk.isEmpty then !(s.partStopped dies stackTab r p) else !(s.offStopped dies stackTab p))

/-- A block enters its queue; with the last one all of the request is queued. -/
def State.enter (s : State) (r : Req) (key p : Nat) : State :=
  let b := s.bank key
  let s := { s with banks := mapSet {} s.banks key { b with q := b.q ++ [(⟨r.id, p, b.served⟩ : QEnt)], lastAdm := s.srcAt key r.src } }
  if key ≥ 2 ^ 44 then s.updReq r.id (fun x => { x with subs := x.subs ++ [p] })
  else s.updReq r.id (fun x =>
    let adm := x.adm ++ [p]
    { x with adm := adm, ph := if x.walk.isEmpty && (blocksOf x).all adm.contains then .queued else x.ph })

/-- After admission: requests that stay outside a local queue are counted as waiting once (0x3001:04). -/
def State.noteWaits (s : State) : State :=
  s.reqs.foldl (fun (t : State) r =>
    if (t.wants r).any (fun k => k.1 != qAway && !(t.queueRoom k.1 r.src)) then t.countWait r false else t) s

/-- Does a sensed rail stand at warning or reset level? -/
def State.railLow (s : State) (k : Nat) : Bool := (mapGet ({} : RailP) s.pwr.rails k).st != 0
/-- Rails that supply a stack's controller and the stack itself (Table 18.1): the HBM side of its die, its group of four, VPP. -/
def railsOfStack (k : Nat) : List Nat := [16 + dieOfStack k, 24 + k / 4, 28 + k / 4, 32]
/-- Memory-side dies whose near tier, and stacks whose controllers, admit nothing under a supply warning (R426, Table 16.5). -/
def State.stopped (s : State) : List Nat × List Nat :=
  ((List.range 8).filter (fun d => s.railLow (8 + d)), (List.range 16).filter (fun k => (railsOfStack k).any s.railLow))

/-- Takes a request out of every queue. -/
def State.unqueue (s : State) (id : Nat) : State :=
  { s with banks := s.banks.map (fun e => (e.1, { e.2 with q := e.2.q.filter (fun x => x.id != id) })) }

/-- What applying an operation to old bytes gives: new bytes to write and the result. -/
def applyOp (op : MemOp) (old : List Byte) : List Byte × List Byte :=
  match op with
  | .at a typ v w _ => (leBytes (typBytes typ) (atomNew a typ (leNat old) v w), old)
  | .flag v => (leBytes 4 v, [])
  | .wr _ => (old, [])
  | _ => (old, old)

/-- Bytes an operation touches, from its address. -/
def opBytes : MemOp → Nat
  | .rd n => n
  | .wr cs => cs.foldl (fun m c => max m (c.1 + 1)) 0
  | .at _ typ _ _ _ => typBytes typ
  | .flag _ => 4
  | .gath ss => 32 * ss.length

def zipFrom (a : Nat) (bs : List Byte) : List (Nat × Byte) := (List.zip (List.range bs.length) bs).map (fun e => (a + e.1, e.2))

/-- May the target core's memory unit apply a window request now? Thread writes of one core to one window, and its accesses to one word,
are applied in the order of their issue (R233, R234). -/
def State.winTurn (s : State) (r : Req) : Bool :=
  (s.reqs.takeWhile (fun x => x.id != r.id)).all (fun x =>
    !(x.src == r.src && x.win && x.ph == .queued && (x.addr - winBase) / 0x200000 == (r.addr - winBase) / 0x200000 &&
      ((x.thread && r.thread) || decide (x.addr < r.addr + opBytes r.op ∧ r.addr < x.addr + opBytes x.op))))

/-- A window request at the target core's memory unit (R195, R209). -/
def State.applyWin (s : State) (r : Req) : State × Status × List Byte :=
  let core := (r.addr - winBase) / 0x200000
  let off := (r.addr - winBase) % 0x200000
  if s.dev.fenced.contains (s.physAny core) then (s, Code.coreFenced, [])
  else if off + opBytes r.op > (s.img r.ctx core).lsBytes then (s, Code.localBounds, [])
  else match r.op with
    | .rd n => (if s.heldCtx core = some r.ctx then s else s.count (dkey 0x3003 0x03), 0, s.winRead r.ctx core off n)
    | .wr cs => (s.winWrite r.ctx core off cs, 0, [])
    | op =>
      let (new, res) := applyOp op (s.winRead r.ctx core off (opBytes op))
      (s.winWrite r.ctx core off (zipFrom 0 new), 0, res)

/-- One block of a request is applied in this device's memory: the whole block is read, or its bytes written (R215, R216, R231, R293). -/
def State.applyBlock (s : State) (r : Req) (p : Nat) : State × Status × List Byte :=
  let o := gOffset r.addr
  match r.op with
  | .wr cs =>
    let (t, st) := s.blockPut p ((cs.map (fun c => (o + c.1, c.2))).filter (fun c => blockOf c.1 == p))
    (t, st, [])
  | .rd _ => s.devRead p (blockLen p)
  | .gath _ => s.devRead p (blockLen p)
  | op =>
    let (t, st, bs) := s.devRead o (opBytes op)
    if st ≠ 0 then (t, st, [])
    else
      let (new, res) := applyOp op bs
      let (t, st) := t.blockPut o (zipFrom o new)
      (t, st, res)

/-- What a request answers, from the blocks that it read: its bytes, or the sectors in index-list order (R228). -/
def answerOf (r : Req) : List Byte :=
  let from' := fun (o n : Nat) => (((blocksIn o n).flatMap (fun p => (mapFind r.got p).getD [])).drop (o - blockOf o)).take n
  match r.op with
  | .wr _ => []
  | .rd n => if r.win then ((r.got.head?).map Prod.snd).getD [] else from' (gOffset r.addr) n
  | .gath ss => ss.flatMap (fun a => from' (gOffset a.2) 32)
  | _ => ((r.got.head?).map Prod.snd).getD []

/-- The sub-request of a channel is complete once its last block is: its sectors are counted, and those that shared a block (R228). -/
def State.subDone (s : State) (r : Req) (p : Nat) : State :=
  match r.op with
  | .gath ss =>
    let ch := s.chanAt p
    let mine := (blocksOf r).filter (fun q => decide (q < nearBase) && s.chanAt q == ch)
    if p ≥ nearBase || !(mine.all (fun q => (mapFind r.got q).isSome)) then s
    else
      let n := (ss.filter (fun a => decide (gOffset a.2 < nearBase) && s.chanAt (gOffset a.2) == ch)).length
      let b := s.bank (qSect ch)
      let s := { s with banks := mapSet {} s.banks (qSect ch) { b with q := b.q.filter (fun e => e.id != r.id) } }
      let s := s.count (dkey 0x3015 0x01) n
      if n > mine.length then s.count (dkey 0x3015 0x02) (n - mine.length) else s
  | _ => s

/-- A block of a request has been served; with the last one the request is done, with the first failing block's code. -/
def State.blockDone (s : State) (r : Req) (p : Nat) (st : Status) (bs : List Byte) : State :=
  let r := { r with got := mapInsert r.got p bs, st := if r.st = 0 then st else r.st }
  let s := s.subDone r p
  if (blocksOf r).all (fun q => (mapFind r.got q).isSome) then
    let s := (s.unqueue r.id).updReq r.id (fun _ => { r with ph := .done, res := if r.st = 0 then answerOf r else [] })
    match r.op with
    | .flag _ => if r.st = 0 then s.count (dkey 0x3020 0x02) else s
    | _ => s
  else s.updReq r.id (fun _ => r)

/-- The other copy of a block of a translation table: 4 KiB up in the table's granule (R225; log 11). -/
def State.copyOf (s : State) (o : Nat) : Option Nat :=
  if s.ctxs.any (fun e => e.2.tables.any (fun t => t.2 == o / 65536)) then
    (if o % 65536 < 4096 then some (o + 4096) else if o % 65536 < 8192 then some (o - 4096) else none)
  else none
/-- A read of a block of a translation table: when one copy is uncorrectable the other serves, and the bad one is rewritten (R225). -/
def State.tableRead (s : State) (o : Nat) : State :=
  let (t, good) := s.eccBlock (o / 64)
  match good, t.copyOf (blockOf o) with
  | false, some c =>
    let (u, ok) := t.eccBlock (c / 64)
    if ok then (u.blockPut (blockOf o) (zipFrom (blockOf o) (cellsRead u.mem c 64))).1 else u
  | _, _ => t

/-- The read of a translation entry is served: the walk goes on, and after its last entry the request may take a slot (R192). -/
def State.walkDone (s : State) (r : Req) : State :=
  ((s.tableRead (r.walk.headD 0)).unqueue r.id).updReq r.id (fun x => { x with
    walk := x.walk.drop 1, adm := []
    ph := if x.walk.length ≤ 1 then (match x.op, x.src with | .rd 0, _ => .done | _, .core _ => .waiting | _, _ => .slot) else x.ph })

/-- A queue entry is served: a translation entry is read, or a block of the request; `lost`: its words could not be read (R450). -/
def State.servePart (s : State) (id p : Nat) (lost : Bool := false) : State :=
  match s.req? id with
  | none => s
  | some r =>
    if !r.walk.isEmpty then s.walkDone r
    else if lost then s.blockDone r p Code.uncorrectable []
    else
      let (t, st, bs) := if r.win then s.applyWin r else s.applyBlock r p
      t.blockDone r p st bs

/-- The blocks of a request that are in a queue, or all that are left of it, are served at once. -/
def State.serveParts (s : State) (id : Nat) (ps : List Nat) : State := ps.foldl (fun (t : State) p => t.servePart id p) s
def State.applyReq (s : State) (r : Req) : State := s.serveParts r.id ((blocksOf r).filter (fun p => (mapFind r.got p).isNone))
/-- The blocks of a request that have been admitted and not served. -/
def Req.inQueue (r : Req) : List Nat := if r.ph == .done then [] else r.adm.filter (fun p => (mapFind r.got p).isNone)

/-- Has a block in HBM of a request, or the entry that its walk reads, been admitted to places that a test names, and not been served? -/
def State.admittedTo (s : State) (r : Req) (p : Nat → Bool) : Bool :=
  !r.win && (s.isLocal r.addr || !r.walk.isEmpty) && r.inQueue.any (fun o => decide (o < nearBase) && p o)

/-- Entries that may be served next without keeping an older one past its 32nd service (R200): those up to the first that has none to
spare. -/
def inTime (served : Nat) : Nat → List (QEnt × Req) → List (QEnt × Req)
  | _, [] => []
  | i, e :: r => if e.1.came + 32 ≤ served + i + 1 then [e] else e :: inTime served (i + 1) r

/-- A queue serves its next entry: round-robin among sources after the one served last, in admission order within one (R199); a bank so
that each completes within 32 services of its admission (R200). -/
def State.nextServed (s : State) (key : Nat) : Option (QEnt × Req) :=
  let b := s.bank key
  let es := s.entries key
  let es := if key < 2 ^ 40 then inTime b.served 0 es else es
  let least := fun (l : List (QEnt × Req)) => l.foldl (fun (m : Option (QEnt × Req)) e => match m with
    | none => some e
    | some x => if s.srcAt key e.2.src < s.srcAt key x.2.src then some e else some x) none
  (least (es.filter (fun e => decide (s.srcAt key e.2.src > b.lastSrv)))).orElse (fun _ => least es)

end Sys2Proof.Machine
end

