-- ==== Sys2Proof/Machine/Group.lean ====
section
/-!
DEFINITION. Machine/Group.lean: what happens to a group: registers and predicates (R23, R489), divergence and reconvergence
(R24 to R27), parked lanes (R43 to R45), group faults and the stop of a launch (R49), and the issue of one instruction (R22,
R35 to R37, R59).
-/
namespace Sys2Proof.Machine

/-! Registers. -/

/-- Register r of a lane; ZR reads zero (R23). -/
def Group.reg (g : Group) (r l : Nat) : Word := if r = 0 then 0 else mapGet 0 g.regs (32 * r + l)
/-- A write of one lane's register; writes to ZR are discarded (R23). -/
def Group.setReg (g : Group) (r l : Nat) (v : Word) : Group :=
  if r = 0 then g else { g with regs := mapSet 0 g.regs (32 * r + l) v }
/-- The value of a run of n registers from r, least significant first (R489). -/
def Group.run64 (g : Group) (r n l : Nat) : Nat :=
  (List.range n).foldl (fun a k => a + (g.reg (r + k) l).toNat * 2 ^ (32 * k)) 0
/-- Writes a run of n registers from r (R489). -/
def Group.setRun (g : Group) (r n l v : Nat) : Group :=
  (List.range n).foldl (fun g k => g.setReg (r + k) l (BitVec.ofNat 32 (bits v (32 * k) 32))) g
/-- Lanes for which predicate p is true; p0 is always true (R23). -/
def Group.pred (g : Group) (p : Nat) : Lanes := if p = 0 then 0xFFFFFFFF else mapGet 0 g.preds p
/-- Writes a predicate in the lanes of `m`; a write to p0 is discarded (R23). -/
def Group.setPred (g : Group) (p : Nat) (m v : Lanes) : Group :=
  if p = 0 then g else { g with preds := mapSet 0 g.preds p ((g.pred p &&& ~~~m) ||| (v &&& m)) }
/-- Writes a register in each lane of a mask. -/
def Group.setLanes (g : Group) (r : Nat) (m : Lanes) (f : Nat → Word) : Group :=
  (lanesOf m).foldl (fun g l => g.setReg r l (f l)) g
def Group.setRuns (g : Group) (r n : Nat) (m : Lanes) (f : Nat → Nat) : Group :=
  (lanesOf m).foldl (fun g l => g.setRun r n l (f l)) g

/-- A run stays within the registers of the launch (R23, R489). -/
def runOk (n r len : Nat) : Bool := decide (r + len ≤ n + 1)

/-! Control flow. -/

def Group.frame? (g : Group) (fid : Nat) : Option Frame := g.frames.find? (fun f => f.fid == fid)
def Group.arrive (g : Group) (fid : Nat) (m : Lanes) : Group :=
  { g with frames := modifyWhere (fun f => f.fid == fid) (fun f => { f with arrived := f.arrived ||| m }) g.frames }
/-- A divergence none of whose paths is left to run (R24). -/
def Group.complete (g : Group) (f : Frame) : Bool :=
  !(g.stack.any (fun p => p.fid == f.fid)) && !(g.parked.any (fun p => p.fid == f.fid)) &&
  !(g.frames.any (fun x => x.parent == f.fid)) && !((g.run.map (fun p => p.fid == f.fid)).getD false)

/-- Parked lanes that have not retried become paths at their LOCK.ACQ again (R45). -/
def Group.retryWhere (g : Group) (p : Park → Bool) : Group :=
  { g with stack := (g.parked.filter p).map (fun k => { pc := k.pc, mask := k.mask, fid := k.fid, retry := true }) ++ g.stack
           parked := g.parked.filter (fun k => !(p k)) }

/-- One choice of the running path: merge a divergence that is complete, let parked lanes that are due retry (R45), or take the top of
the stack (R44). none when nothing is left to choose. -/
def Group.choose (g : Group) : Option Group :=
  match g.frames.reverse.find? g.complete with
  | some f =>
    let g := { g with frames := g.frames.filter (fun x => x.fid != f.fid) }
    some (if f.arrived = 0 then g else { g with run := some { pc := f.rpc, mask := f.arrived, fid := f.parent } })
  | none =>
    if g.parked.any (fun k => !k.tried) then some (g.retryWhere (fun k => !k.tried))
    else match g.stack with
      | p :: r => some { g with run := some p, stack := r }
      | [] => none

/-- Runs the choices until a path that is not at its reconvergence point runs, or nothing is left (R24, R45). -/
def Group.settle : Nat → Group → Group
  | 0, g => g
  | n + 1, g =>
    match g.run with
    | some p =>
      (match g.frame? p.fid with
       | some f =>
         if f.rpc = p.pc ∧ !p.retry then
           Group.settle n (({ g.arrive p.fid p.mask with run := none }).retryWhere (fun _ => true))
         else g
       | none => g)
    | none => match g.choose with
      | some g' => Group.settle n g'
      | none => g

def settleFuel (g : Group) : Nat := 8 * (g.frames.length + g.stack.length + g.parked.length) + 16

/-- The state of a group once its paths have been chosen: running, ended, backing off or dead-locked on itself (R44). -/
inductive After where
  | go (g : Group)
  | ended
  | livelock
  deriving DecidableEq, Repr

/-- R24, R27, R44: settles a group. -/
def Group.resolve (g : Group) : After :=
  let g := g.settle (settleFuel g)
  match g.run with
  | some _ => .go g
  | none =>
    if g.parked.isEmpty then .ended
    else if g.parked.any (fun k => k.outside) then
      .go { g with wait := .backoff, backoff := if g.backoff = 0 then 256 else min 16384 (2 * g.backoff) }
    else .livelock

/-- Target of a branch: signed byte offset from the branch's own address, modulo 2^64 (R35). -/
def branchTo (pc : Nat) (off : BitVec 32) : Nat := (((pc : Int) + off.toInt) % (2 ^ 64 : Nat)).toNat

/-- The active lanes split into paths, lowest lane first, at (address, lanes); a single path does not diverge (R24, R26).
none: the divergence stack overflows (R25). -/
def Group.split (g : Group) (p : Path) (rpc : Nat) (paths : List (Nat × Lanes)) : Option Group :=
  match paths with
  | [] => some g
  | [(pc, m)] => some { g with run := some { p with pc := pc, mask := m, retry := false } }
  | (pc, m) :: rest =>
    if g.stack.length + rest.length > 32 then none
    else
      let fid := g.nextFid
      some { g with
        nextFid := fid + 1
        frames := g.frames ++ [{ fid := fid, rpc := rpc, parent := p.fid }]
        run := some { pc := pc, mask := m, fid := fid }
        stack := rest.map (fun e => { pc := e.1, mask := e.2, fid := fid }) ++ g.stack }

/-- Lanes grouped by target, in ascending order of their lowest lane (R26). -/
def groupTargets (ts : List (Nat × Nat)) : List (Nat × Lanes) :=
  ts.foldl (fun acc (l, t) =>
    if acc.any (fun e => e.1 == t) then acc.map (fun e => if e.1 = t then (t, e.2 ||| laneBit l) else e)
    else acc ++ [(t, laneBit l)]) []

/-! Faults, ends and barriers. -/

/-- SET_STATUS of the speculation block at an offset of a local store (Table 05.10). -/
def setStatusAt (ls : List Host.Cell) (off : Nat) (st : Status) : List Host.Cell :=
  cellsWrite ls off (leBytes 128 (setBits (leNat (cellsRead ls off 128)) 304 16 st.toNat))
/-- What a fallen launch loses at once on a core: its groups, its array operations that have not begun, its pending checks and
corrections, whose sets take the code (R49, Tables 03.10 and 05.13). -/
def Image.fall (i : Image) (launch : Nat) (code : Status) : Image :=
  { i with groups := i.groups.filter (fun x => x.2.launch != launch)
           mxq := i.mxq.filter (fun o => o.started || o.launch != launch)
           ls := (i.sets.filter (fun x => x.op.launch == launch)).foldl (fun ls x => setStatusAt ls x.block code) i.ls
           sets := i.sets.filter (fun x => x.op.launch != launch) }
/-- Is the group halted, asked to halt or stepped for its own sake, not for the freeze mode's (R56)? -/
def Group.target (g : Group) : Bool := (g.halt.halted || g.halt.req || g.halt.step) && !g.halt.frozen
/-- A group runs on: its watchdog goes on with its count unchanged (R60), the instruction it halted before executes (R59). -/
def Group.unhalt (g : Group) (now : Nat) : Group :=
  if g.halt.halted then { g with halt := { skip := true }, wdog := g.wdog + (now - g.halt.since) }
  else if g.halt.req then { g with halt := { g.halt with req := false, frozen := false, cause := 0 } }
  else g
/-- The groups that the freeze mode halted run on (R56). -/
def Image.thaw (i : Image) (now : Nat) : Image :=
  { i with groups := i.groups.map (fun e => if e.2.halt.frozen then (e.1, e.2.unhalt now) else e) }
/-- The same where no group of the core is a target any more. -/
def Image.thawIfFree (i : Image) (now : Nat) : Image := if i.groups.any (fun e => e.2.target) then i else i.thaw now
/-- Every group of a launch stops, and what it had queued on the arrays is discarded (R49). -/
def State.stopGroups (s : State) (ctx launch : Nat) (code : Status) : State :=
  { s with images := s.images.map (fun e => if e.1 / 1024 = ctx then (e.1, (e.2.fall launch code).thawIfFree s.now) else e) }

/-- A launch ends with a code: its first one stands; its groups stop (R49, R348 step 1). -/
def State.failLaunch (s : State) (id : Nat) (code : Status) (core slot pc : Nat) (addr : Nat := 0) : State :=
  match s.launch? id with
  | none => s
  | some l =>
    let s := if l.fallen then s
      else s.updLaunch id (fun l => { l with fallen := true, fellBy := s.now + ms * s.dv (dkey 0x8000 0x03), st := code, fcore := core, fslot := slot, fpc := pc - l.code, faddr := addr })
    s.stopGroups l.ctx id (if l.fallen then l.st else code)

/-- A group fault (R49, R440): counted, and the whole launch stops. -/
def State.groupFault (s : State) (ctx core slot : Nat) (g : Group) (code : Status) (pc : Nat) (addr : Nat := 0) : State :=
  let s := s.countCode ctx code
  let s := if code = Code.livelock then s.count (dkey 0x4010 0x02) else s
  let s := if code = Code.divergence then s.count (dkey 0x4010 0x03) else s
  s.failLaunch g.launch code core slot pc addr

/-- Groups of a launch on a core that wait at a GSYNC complete when every resident group of the launch waits at it (R37). -/
def gsyncDone (i : Image) (launch id : Nat) : Bool :=
  i.groups.all (fun e => e.2.launch != launch || e.2.wait == .gsync id)

/-- The path of a group moves past its instruction. -/
def Group.step16 (g : Group) : Group :=
  match g.run with
  | some p => { g with run := some { p with pc := (p.pc + 16) % 2 ^ 64, retry := false } }
  | none => g

/-- Freeze mode (R56): while a group of the core is halted or stepped, the others halt at their next issue boundary; in run mode, or with
none halted, they run. -/
def State.freezeSync (s : State) (ctx core : Nat) : State :=
  let gs := (s.img ctx core).groups
  if bitAt (s.dv (dkey 0x4020 0x01)) 61 && gs.any (fun e => e.2.target) then
    s.updImg ctx core (fun i => { i with groups := i.groups.map (fun e =>
      if e.2.halt.halted ∨ e.2.halt.req ∨ e.2.halt.step then e
      else (e.1, { e.2 with halt := { e.2.halt with req := true, frozen := true, cause := 1 } })) })
  else if gs.any (fun e => e.2.halt.frozen) then
    s.updImg ctx core (fun i => i.thaw s.now)
  else s
/-- A group halts now, with a cause of Table 02.9. -/
def State.haltNow (s : State) (ctx core slot : Nat) (g : Group) (cause : Nat) : State :=
  (s.setGroup ctx core slot { g with halt := { halted := true, cause := cause, since := s.now, frozen := g.halt.frozen } }).freezeSync ctx core

/-- Puts a settled group back: it runs on, a change of the active mask being a progress event (R48), it ends (R27), or it faults with
LIVELOCK (R44). -/
def State.putGroup (s : State) (ctx core slot : Nat) (g : Group) : State :=
  let pc := (g.run.map Path.pc).getD ((g.parked.head?.map Park.pc).getD 0)
  match g.resolve with
  | .go r =>
    let r := if r.run.isSome ∧ g.run.isSome ∧ r.run.map Path.mask ≠ g.run.map Path.mask then { r with wdog := s.now } else r
    if r.halt.req && r.halt.cause == 3 && r.wait == .none then s.haltNow ctx core slot r 3 else s.setGroup ctx core slot r
  | .livelock => (s.setGroup ctx core slot g).groupFault ctx core slot g Code.livelock pc
  | .ended =>
    let s := s.updImg ctx core (fun i => { i with groups := mapErase i.groups slot })
    (s.updLaunch g.launch (fun l => { l with ended := l.ended + 1 })).freezeSync ctx core

/-- Completes every GSYNC instance of a core that is due (R37): its groups retire the instruction. -/
def State.gsyncSweep (s : State) (ctx core : Nat) : State :=
  let i := s.img ctx core
  match i.groups.find? (fun e => match e.2.wait with
      | .gsync id => gsyncDone i e.2.launch id
      | _ => false) with
  | none => s
  | some (_, g0) =>
    match g0.wait with
    | .gsync id =>
      (i.groups.filter (fun e => e.2.launch == g0.launch && e.2.wait == .gsync id)).foldl (fun (t : State) e =>
        t.putGroup ctx core e.1 { (e.2.step16) with wait := .none, wdog := t.now }) s
    | _ => s

/-! The issue of one instruction. -/

/-- What an instruction sees: its place, the group, the running path, the lanes of the path whose guard is true. -/
structure Iss where
  s    : State
  ctx  : Nat
  core : Nat
  slot : Nat
  img  : Image
  grp  : Group
  path : Path
  act  : Lanes

/-- The guard predicate of each lane, GNEG applied (Table 02.3). -/
def guardMask (g : Group) (w : IWord) : Lanes :=
  let p := g.pred w.pg.toNat
  if w.gneg then ~~~p else p

/-- The group waits for the responses of off-core requests, its watchdog paused (R48). -/
def Group.waitFor (g : Group) (now : Nat) (ids : List Nat) (p : Pend) : Group := { g with wait := .access ids p, waitAt := now }
/-- The watchdog goes on after such a wait. -/
def Group.resumed (g : Group) (now : Nat) : Group := { g with wait := .none, wdog := g.wdog + (now - g.waitAt) }

/-- Are requests of the group from an identifier on still out? -/
def State.groupOut (s : State) (ctx core slot : Nat) (g : Group) (mark : Nat) : Bool :=
  s.reqs.any (fun r => r.src == .core core && r.ctx == ctx && r.slot == slot && r.owner == g.launch && r.gidx == g.idx && !r.pref &&
    r.xfer == 0 && decide (mark ≤ r.id))
/-- A stepped group that has issued its instruction halts again, at once or when its accesses are done; one in an implicit wait for a
token has not issued it yet (R58). -/
def State.stepDone (s : State) (ctx core slot : Nat) : State :=
  (s.updGroup ctx core slot (fun g =>
    match g.halt.step, g.wait with
    | false, _ => g
    | true, .token _ _ _ _ true => g
    | true, w =>
      if g.halt.halted then { g with halt := { g.halt with step := false } }
      else if w == .none && !(s.groupOut ctx core slot g g.halt.mark) then
        { g with halt := { halted := true, cause := if g.halt.req then g.halt.cause else 5, since := s.now } }
      else { g with halt := { req := true, cause := if g.halt.req then g.halt.cause else 5, mark := g.halt.mark } })).freezeSync ctx core

/-- Nothing keeps the group from issuing (R22). -/
def Group.ready (g : Group) : Bool := g.wait == .none && !g.halt.halted && !g.halt.req

/-- The instruction breakpoint that matches, if one does (R59, Table 02.8). -/
def State.ibreak (s : State) (ctx core slot pc : Nat) : Bool :=
  (List.range 8).any (fun n =>
    let c := s.dv (dkey 0x4022 (9 + n))
    bitAt c 31 && decide (s.dv (dkey 0x4022 (1 + n)) = pc) && decide (mapGet 4096 s.dbg.bpCtx n = ctx) &&
    decide (bits c 0 13 = core) && (!(bitAt c 24) || decide (bits c 18 6 = slot)))

/-- The group ends with a fault at the running path's instruction. -/
def Iss.fault (i : Iss) (code : Status) (addr : Nat := 0) : State := i.s.groupFault i.ctx i.core i.slot i.grp code i.path.pc addr
/-- Puts the group back, its path as given; a change of the active mask is a progress event, a path that parks whole is none (R48). -/
def Iss.put (i : Iss) (g : Group) : State :=
  let g := if g.run.isNone ∨ g.run.map Path.mask = some i.path.mask then g else { g with wdog := i.s.now }
  i.s.putGroup i.ctx i.core i.slot g
/-- The instruction retires: the group's path moves to the next instruction. -/
def Iss.retire (i : Iss) (g : Group) : State := i.put g.step16
/-- The instruction retires and is a progress event of the watchdog (R48). -/
def Iss.retireP (i : Iss) (g : Group) : State := i.retire { g with wdog := i.s.now }

/-- R22, R35, R36, R37, R59, R496: one instruction of a group. `legal`: its word is one Table 02.4 and R23 allow. A command that
names a group that cannot issue changes nothing (log 1). -/
def issue (s : State) (g : GRef) (w : IWord) (legal : Group → Bool) (body : Iss → State) : Res :=
  let core := g.core.val
  let slot := g.slot.val
  if !s.running then .next s
  else match s.groupAt core slot with
  | none => .next s
  | some h =>
    match h.grp.run with
    | none => .next s
    | some p =>
      if !h.grp.ready then .next s
      else if s.ibreak h.ctx core slot p.pc && !h.grp.halt.skip then
        .next (s.haltNow h.ctx core slot h.grp 2)
      else
        let grp := { h.grp with halt := { h.grp.halt with skip := false } }
        let i : Iss := { s := s.updImg h.ctx core (fun i => { i with last := slot }), ctx := h.ctx, core := core, slot := slot,
                         img := h.img, grp := grp, path := p, act := p.mask &&& guardMask grp w }
        if p.pc % 16 ≠ 0 then .next (i.fault Code.misaligned p.pc)
        else
          let (st, _) := s.xlate h.ctx p.pc .fetch
          if st ≠ 0 then .next (i.fault st p.pc)
          else if !(legal grp) then .next (i.fault Code.illegal)
          else if grp.halt.step then .next ((body i).stepDone h.ctx core slot)
          else .next (body i)

end Sys2Proof.Machine
end

