-- ==== Sys2Proof/Machine/Route.lean ====
section
/-!
DEFINITION. Machine/Route.lean: active ports, flows (R279, R280) and the packets a request becomes (R284 to R288, R377).
-/
namespace Sys2Proof.Machine

def State.port (s : State) (p : Nat) : Port := mapGet {} s.ports p
def State.setPort (s : State) (p : Nat) (x : Port) : State := { s with ports := mapSet {} s.ports p x }
def State.updPort (s : State) (p : Nat) (f : Port → Port) : State := s.setPort p (f (s.port p))

/-- Fields of an INIT payload (Table 10.7), as a number with bit 0 at flit bit 128. -/
def initNode (v : Nat) : Bool := bitAt v 40
def initDevice (v : Nat) : Nat := bits v 46 6
def initDomain (v : Nat) : Nat := bits v 52 12

/-- Is the link of a port active in Askik mode? -/
def Port.active (x : Port) : Bool := x.st == 4 && !x.ether
def State.activePorts (s : State) : List Nat := (List.range 18).filter (fun p => (s.port p).active && (s.port p).closing.isNone)

/-- Active mask of a device, ascending (R279). -/
def State.activeMask (s : State) (d : Nat) : List Nat :=
  s.activePorts.filter (fun p =>
    if s.dv (dkey 0x5000 0x03) = 0 then
      match (s.port p).peerInit with
      | some v => !(initNode v) && initDevice v == d
      | none => false
    else bitAt (s.dv (dkey 0x5001 (d + 1))) p)

/-- Source index of R280. -/
def srcIdx : Src → Nat
  | .core n => n
  | .alder e => 1024 + e
  | .port p => 1040 + p
  | .gateway g => 1060 + g
  | .pcie => 1064
  | .firmware => 1065

/-- The port R280 gives a flow. -/
def State.flowPort (s : State) (idx dev : Nat) : Option Nat :=
  let m := s.activeMask dev
  m[idx % m.length]?

def flowKey (idx dev : Nat) : Nat := 64 * idx + dev

/-- Requests of a flow still outstanding. -/
def State.flowBusy (s : State) (idx dev : Nat) : Bool :=
  s.reqs.any (fun r => r.ph == .sent && !(gOff r.addr) && srcIdx r.src == idx && r.dev == dev)

/-- The 16 B slots of bytes, zero-padded (R285). -/
def slotsOf (bs : List Byte) : List Nat := (List.range (ceilDiv bs.length 16)).map (fun k => leNat ((bs.drop (16 * k)).take 16))

def aopCode : Aop → Nat
  | .add => 0 | .min => 1 | .max => 2 | .and => 3 | .or => 4 | .xor => 5 | .swap => 6 | .cas => 7

/-- Packet header (Table 11.2); bits [63:0] given. -/
def pktHeader (ptype len ddev sdev sidx tag ctx low : Nat) : Nat :=
  ptype * 2 ^ 124 + len * 2 ^ 119 + ddev * 2 ^ 113 + sdev * 2 ^ 107 + sidx * 2 ^ 96 + tag * 2 ^ 80 +
    (ctx % 4096) * 2 ^ 68 + (if ctx = 4096 then 2 ^ 67 else 0) + low
def reqLow (aop atype : Nat) (tm : Bool) (size off : Nat) : Nat :=
  aop * 2 ^ 60 + atype * 2 ^ 57 + (if tm then 2 ^ 56 else 0) + size * 2 ^ 45 + off

/-- Are the offsets of a write's cells consecutive? -/
def contiguous : List (Nat × Byte) → Bool
  | [] => true
  | [_] => true
  | a :: b :: r => b.1 == a.1 + 1 && contiguous (b :: r)

/-- Slots of the packet of a request (Tables 11.1 and 11.3), and its virtual channel. -/
def requestSlots (r : Req) (self : Nat) : Nat × List Nat :=
  let o := gOffset r.addr
  let h := fun (pt len aop ty size off : Nat) =>
    pktHeader pt len r.dev self (srcIdx r.src) r.tag r.ctx (reqLow aop ty (r.xfer != 0) size off)
  match r.op with
  | .rd n => (0, [h 0x0 1 0 0 (n - 1) o])
  | .wr cs =>
    if contiguous cs then
      let a := ((cs.head?).map Prod.fst).getD 0
      (0, h 0x1 (1 + ceilDiv cs.length 16) 0 0 (cs.length - 1) (o + a) :: slotsOf (cs.map Prod.snd))
    else
      let line := (List.range 64).map (fun k => ((cs.find? (fun c => c.1 == k)).map Prod.snd).getD 0)
      (0, h 0x2 6 0 0 63 (o / 64 * 64) :: (cs.foldl (fun m c => m + 2 ^ c.1) 0) :: slotsOf line)
  | .at a typ v w fetch =>
    let operand := if a = .cas then w + v * 2 ^ 64 else v
    (0, [h (if fetch then 0x3 else 0x4) 2 (aopCode a) typ (typBytes typ - 1) o, operand])
  | .flag v => (2, [h 0x5 2 0 0 3 o, v])
  | .gath _ => (0, [])                     -- never leaves the device: a remote row is a load of its own (R202)

/-- Response slots a request reserves (R288). -/
def responseSlots (op : MemOp) : Nat :=
  match op with
  | .rd n => 1 + ceilDiv n 16
  | .at _ _ _ _ true => 2
  | _ => 1

/-- Lowest tag that no outstanding request of the source index to the device holds (R288). -/
def State.freeTag (s : State) (idx dev : Nat) : Nat :=
  let used := (s.reqs.filter (fun r => r.ph == .sent && srcIdx r.src == idx && r.dev == dev)).map Req.tag
  (lowest 65536 (fun t => !(used.contains t))).getD 0

/-- Space for responses that a port's outstanding requests reserve. -/
def State.reserved (s : State) (p : Nat) : Nat :=
  ((s.reqs.filter (fun r => r.ph == .sent && r.port == p)).map (fun r => responseSlots r.op)).foldl (· + ·) 0

/-- Key under which a context's packets leave by a port: its installed context key, else the link key (R375, R377). -/
def State.pktKey (s : State) (p ctx : Nat) : Nat := if (s.port p).ctxKeys.contains ctx then ctx + 1 else 0

/-- A request fails where it stands; its requester sees the code when the response is delivered. -/
def State.failReq (s : State) (id : Nat) (st : Status) : State :=
  (s.unqueue id).updReq id (fun r => { r with ph := .done, st := st, res := [] })

/-- May a request join its flow's port now: the flow has not moved, or was never used (R280)? -/
def State.flowReady (s : State) (idx dev p : Nat) : Bool :=
  match mapFind s.flows (flowKey idx dev) with
  | none => true
  | some f => f.port == p

/-- One request to another device of the domain goes to its port's send queue, or fails at once (R279, R288, R377). A request of a
flow that is moving waits, and so do the flow's later ones (R280). -/
def State.sendOne (s : State) (r : Req) : State :=
  let idx := srcIdx r.src
  match s.flowPort idx r.dev with
  | none => s.failReq r.id Code.remoteTimeout
  | some p =>
    if (s.ctx r.ctx).priv && r.ctx != 4096 && s.pktKey p r.ctx == 0 then s.failReq r.id Code.accessDenied
    else if !(s.flowReady idx r.dev p) || decide (s.reserved p + responseSlots r.op > 16384) then s
    else
      let tag := s.freeTag idx r.dev
      let (vc, sl) := requestSlots { r with tag := tag } s.dev.deviceId
      let s := { s with flows := mapInsert (mapErase s.flows (flowKey idx r.dev)) (flowKey idx r.dev) { port := p } }
      let s := s.updReq r.id (fun x => { x with ph := .sent, tag := tag, port := p, since := 0 })
      s.updPort p (fun x => { x with txq := x.txq ++ [{ vc := vc, key := s.pktKey p r.ctx, slots := sl, req := r.id }] })

/-- Every request that may leave for another device of the domain is sent, oldest first. -/
def State.sendAway (s : State) : State :=
  s.reqs.foldl (fun (t : State) r =>
    if r.ph == .slot && !r.held && !r.win && !(gOff r.addr) && !(t.isLocal r.addr) then t.sendOne r else t) s

end Sys2Proof.Machine
end

