-- ==== Sys2Proof/Machine/OffDomain.lean ====
section
/-!
DEFINITION. Machine/OffDomain.lean: the requester's side of Larch gateways: whether an off-domain address can be served (R298),
streams (R299), bulk frames (R303), and the datagrams they are sent as (R301, R302, R304).
-/
namespace Sys2Proof.Machine

/-- Fields of a binding (Table 14.8). -/
def bindValid (v : Nat) : Bool := bitAt v 63
def bindEpoch (v : Nat) : Nat := bits v 32 16
def bindCtx (v : Nat) : Nat := bits v 12 12
def bindDomain (v : Nat) : Nat := bits v 0 12
/-- A binding without its reserved bits (R5). -/
def bindClean (v : Nat) : Nat := bits v 63 1 * 2 ^ 63 + bits v 32 16 * 2 ^ 32 + bits v 0 24
def Ctx.bindVal (x : Ctx) (n : Nat) : Nat := (mapGet ({} : Bind) x.binds n).value.toNat

/-- The binding of a context for a far domain (R376): its number. -/
def Ctx.bindFor (x : Ctx) (domain : Nat) : Option Nat :=
  lowest 4 (fun n => bindValid (x.bindVal n) && decide (bindDomain (x.bindVal n) = domain))

/-- Gateways active in Ethernet mode, ascending. -/
def State.activeGws (s : State) : List Nat := (List.range 4).filter (fun g => (s.port (14 + g)).st == 4 && (s.port (14 + g)).ether)

/-- The GW_PEER entry of a domain: its value (R310). -/
def State.peerEntry (s : State) (domain : Nat) : Option Nat :=
  ((List.range 64).map (fun n => s.dv (dkey 0x5050 (n + 1)))).find? (fun v => decide (bits v 0 16 = domain) && decide (bits v 16 4 ≠ 0))
/-- Valid far addresses of a GW_PEER entry: their indices. -/
def peerAddrs (v : Nat) : List Nat := (List.range 4).filter (fun k => bitAt v (16 + k))
def peerAddr (v k : Nat) : Nat := bits v (32 + 128 * k) 128

/-- R298 for a store or a tensor-mover access: 0 when a gateway can serve it. -/
def State.offCheck (s : State) (ctx a : Nat) : Status :=
  match (s.ctx ctx).bindFor (gDomain a) with
  | none => Code.accessDenied
  | some _ => if (s.peerEntry (gDomain a)).isNone || s.activeGws.isEmpty then Code.gatewayFailed else 0

def State.gw (s : State) (g : Nat) : Gw := mapGet {} s.gws g
def State.updGw (s : State) (g : Nat) (f : Gw → Gw) : State := { s with gws := mapUpd {} s.gws g f }

/-- Key of a binding's direction, 36 B: key then salt (R376). `up`: from the lower domain to the higher. -/
def State.larchKey (s : State) (ctx n : Nat) (up : Bool) : List Byte :=
  let v := (s.ctx ctx).bindVal n
  let me := (s.dev.domainId, ctx)
  let far := (bindDomain v, bindCtx v)
  let (lo, hi) := if me.1 < far.1 then (me, far) else (far, me)
  let salt := leBytes 48 (Config.sha384 (label "larch" ++ beBytes 2 lo.1 ++ beBytes 2 lo.2 ++ beBytes 2 hi.1 ++ beBytes 2 hi.2)).toNat
  let ikm := leBytes 32 (((s.ctx ctx).secret.getD 0).toNat)
  Config.hkdf salt ikm (label "larch-" ++ label (if up then "LH" else "HL") ++ beBytes 2 (bindEpoch v)) 36

/-- IV of R304. -/
def larchIv (salt : List Byte) (seq frag dev stream peer : Nat) (resp : Bool) : BitVec 96 :=
  BitVec.ofNat 96 (leNat (salt ++ beBytes 4 seq ++
    [BitVec.ofNat 8 frag, BitVec.ofNat 8 ((if resp then 128 else 0) + dev), BitVec.ofNat 8 (stream * 64 + peer), 0]))

/-- A record as bytes (Table 11.8): 16 B header, data, padding. -/
def recBytes (r : Rec) : List Byte :=
  let h := r.rtype * 2 ^ 124 + r.device * 2 ^ 118 + r.len * 2 ^ 101 + r.rtag * 2 ^ 64 + r.offset
  leBytes 16 h ++ r.data ++ List.replicate ((16 - r.data.length % 16) % 16) 0

/-- A record cut to fit datagrams of `room` bytes: the datagram being filled, finished ones (R301, R302). Structural on fuel. -/
def packRec (room : Nat) : Nat → Rec → List (List Rec) × List Rec → List (List Rec) × List Rec
  | 0, _, acc => acc
  | f + 1, r, (done, cur) =>
    let used := (cur.map (fun x => (recBytes x).length)).foldl (· + ·) 0
    let need := 16 + (r.data.length + 15) / 16 * 16
    if used + need ≤ room then (done, cur ++ [r])
    else if used + 32 ≤ room ∧ r.data ≠ [] then
      let k := (room - used - 16) / 16 * 16
      let r1 := { r with len := k, data := r.data.take k }
      packRec room f { r with offset := r.offset + k, len := r.len - k, data := r.data.drop k } (done ++ [cur ++ [r1]], [])
    else packRec room f r (done ++ [cur], [])

def packRecs (room : Nat) (rs : List Rec) : List (List Rec) :=
  let (d, c) := rs.foldl (fun acc r => packRec room (r.data.length / 16 + 3) r acc) (([] : List (List Rec)), ([] : List Rec))
  if c.isEmpty then d else d ++ [c]

/-- Larch header (Table 11.7). -/
def larchHeader (ftype gw dom dev bind stream seq frag frags st fragBytes frameBytes : Nat) : Nat :=
  1 * 2 ^ 248 + ftype * 2 ^ 244 + gw * 2 ^ 242 + dom * 2 ^ 230 + dev * 2 ^ 224 + bind * 2 ^ 212 + stream * 2 ^ 208 + seq * 2 ^ 176 +
    frag * 2 ^ 168 + frags * 2 ^ 160 + st * 2 ^ 144 + fragBytes * 2 ^ 96 + frameBytes * 2 ^ 64

/-- Bytes of records that fit a datagram of a gateway (R301). -/
def State.larchRoom (s : State) (g : Nat) : Nat := (s.dv (dkey (0x5040 + g) 0x04) - 96) / 16 * 16

/-- What all datagrams of a bulk frame share: gateway, far address, context, binding, FTYPE, STREAM, SEQ, the peer device of the IV,
STATUS. -/
structure LFrame where
  gw     : Nat
  dst    : Nat
  ctx    : Nat
  bind   : Nat
  ftype  : Nat
  stream : Nat
  seq    : Nat
  peer   : Nat
  st     : Status := 0

/-- One sealed datagram of a bulk frame (R301, R304); responses have FTYPE 2 or 3. -/
def State.larchDgram (s : State) (f : LFrame) (frag frags frameBytes : Nat) (recs : List Rec) : LSent :=
  let v := (s.ctx f.ctx).bindVal f.bind
  let km := s.larchKey f.ctx f.bind (decide (s.dev.domainId < bindDomain v))
  let body := recs.flatMap recBytes
  let h := larchHeader f.ftype f.gw s.dev.domainId s.dev.deviceId (bindCtx v) f.stream f.seq frag frags f.st.toNat body.length frameBytes
  let iv := larchIv (km.drop 32) f.seq frag s.dev.deviceId f.stream f.peer (decide (f.ftype ≥ 2))
  let (c, tag) := Config.gcmSeal (BitVec.ofNat 256 (leNat (km.take 32))) iv (leBytes 32 h) body
  { dst := f.dst, header := h, body := c ++ leBytes 16 tag.toNat }

/-- The datagrams of a response frame, all at once. -/
def State.larchAll (s : State) (f : LFrame) (recs : List Rec) : List LSent :=
  let packed := packRecs (s.larchRoom f.gw) recs
  let packed := if packed.isEmpty then [[]] else packed
  let frameBytes := (recs.map (fun r => r.data.length)).foldl (· + ·) 0
  (List.zip (List.range packed.length) packed).map (fun e => s.larchDgram f e.1 packed.length frameBytes e.2)

/-- A gateway puts a datagram into an Ethernet frame (R300, Table 11.6). -/
def State.larchEmit (s : State) (g : Nat) (d : LSent) : State :=
  let e := fun (k : Nat) => s.dv (dkey (0x5040 + g) k)
  s.emit (.larch g { dmac := e 0x03, smac := e 0x02, sip := e 0x01, dip := d.dst, port := s.dv (dkey 0x5060 0x01) } d.header d.body)

/-- Datagrams leave unchanged through a gateway (R299, R304, R305). -/
def State.larchEmits (s : State) (g : Nat) (ds : List LSent) : State := ds.foldl (fun t d => t.larchEmit g d) s

/-- Applies a change to one stream of a gateway. -/
def State.updStream (s : State) (g id : Nat) (f : Stream → Stream) : State :=
  s.updGw g (fun x => { x with streams := modifyWhere (fun y => y.id == id) f x.streams })

/-- What the datagrams of a stream's frame share. -/
def State.frameHead (s : State) (g : Nat) (st : Stream) (f : GFrame) : LFrame :=
  let dom := bindDomain ((s.ctx st.ctx).bindVal st.bind)
  let dst := peerAddr ((s.peerEntry dom).getD 0) st.addr
  { gw := g, dst := dst, ctx := st.ctx, bind := st.bind, ftype := if f.isRead then 1 else 0, stream := st.addr, seq := f.seq
    peer := Config.farDevice dom dst % 64 }

/-- The datagrams of an open frame that are full: they take no more of its records (R303). What is left is the datagram being filled. -/
def State.fullDgrams (s : State) (g : Nat) (st : Stream) (f : GFrame) : List LSent × List Rec :=
  let packed := packRecs (s.larchRoom g) f.recs
  let full := packed.dropLast
  ((List.zip (List.range full.length) full).map (fun e =>
    let frag := f.sent.length + e.1
    let o := Config.openFrame st.id f.seq frag
    s.larchDgram (s.frameHead g st f) frag o.1.toNat o.2.toNat e.2), (packed.getLast?).getD [])

/-- The open bulk frame of a stream is closed: its last datagram is sent and kept with the others (R303). -/
def State.closeFrame (s : State) (g : Nat) (st : Stream) : State :=
  match st.frames.find? (fun f => !f.closed) with
  | none => s
  | some f =>
    let k := f.sent.length
    let d := s.larchDgram (s.frameHead g st f) k (k + 1) (if f.isRead then 0 else f.bytes) f.recs
    let s := s.updStream g st.id (fun x => { x with
      frames := modifyWhere (fun y => y.seq == f.seq) (fun y => { y with closed := true, sent := y.sent ++ [d], sentAt := s.now }) x.frames })
    (s.count (dkey (0x5040 + g) 0x06)).larchEmit g d

/-- Runs of consecutive cells: (offset, bytes). -/
def runsOf (cs : List (Nat × Byte)) : List (Nat × List Byte) :=
  cs.foldl (fun acc c => match acc.getLast? with
    | some (o, bs) => if o + bs.length = c.1 then acc.dropLast ++ [(o, bs ++ [c.2])] else acc ++ [(c.1, [c.2])]
    | none => [(c.1, [c.2])]) []

/-- A write record joins the frame: it extends the last record when it continues it (R303). -/
def addWrite (rs : List Rec) (dev off : Nat) (bs : List Byte) : List Rec :=
  match rs.getLast? with
  | some l =>
    if l.rtype = 1 ∧ l.device = dev ∧ l.offset + l.len = off then
      rs.dropLast ++ [{ l with len := l.len + bs.length, data := l.data ++ bs }]
    else rs ++ [{ rtype := 1, device := dev, offset := off, len := bs.length, data := bs }]
  | none => [{ rtype := 1, device := dev, offset := off, len := bs.length, data := bs }]

/-- The stream of a request, made when it is the first access (R299): gateway and stream. -/
def State.streamFor (s : State) (ctx n idx domain : Nat) : Option (State × Nat × Stream) :=
  match s.peerEntry domain with
  | none => none
  | some v =>
    let as := peerAddrs v
    let k := (as[idx % as.length]?).getD 0
    let hit := fun (st : Stream) => st.ctx == ctx && st.bind == n && st.addr == k
    match (List.range 4).findSome? (fun g => ((s.gw g).streams.find? hit).map (fun st => (g, st))) with
    | some (g, st) => some (s, g, st)
    | none =>
      match s.activeGws[idx % s.activeGws.length]? with
      | none => none
      | some g =>
        let st : Stream := { id := s.nextId, ctx := ctx, bind := n, addr := k, src := idx }
        some (s.bumpId.updGw g (fun x => { x with streams := x.streams ++ [st] }), g, st)

/-- Bytes of sent datagrams (header, records, tag) that a gateway keeps for retransmission (R303). -/
def Gw.kept (x : Gw) : Nat :=
  (x.streams.flatMap (fun st => st.frames.flatMap (fun f => f.sent.map (fun d => 32 + d.body.length)))).foldl (· + ·) 0

/-- A gateway accepts an off-domain request into its stream's open bulk frame; none: it waits (R303). -/
def State.gwAccept (s : State) (r : Req) : Option State :=
  match (s.ctx r.ctx).bindFor (gDomain r.addr) with
  | none => some (s.failReq r.id Code.accessDenied)
  | some n =>
    match s.streamFor r.ctx n (srcIdx r.src) (gDomain r.addr) with
    | none => some (s.failReq r.id Code.gatewayFailed)
    | some (s, g, st) =>
      let rd := match r.op with
        | .rd _ => true
        | _ => false
      let size := opBytes r.op
      -- an open frame of the other kind, or one without room for its data or in FRAG, closes first
      let s := match st.frames.find? (fun f => !f.closed) with
        | some f => if f.isRead ≠ rd ∨ f.bytes + size > 65536 ∨ f.sent.length ≥ 250 then s.closeFrame g st else s
        | none => s
      let st : Stream := (((s.gw g).streams.find? (fun x => x.id == st.id))).getD st
      let opn := st.frames.find? (fun f => !f.closed)
      if opn.isNone && decide (st.seq ≥ 0xFFFFFFFF) then some (s.failReq r.id Code.gatewayFailed)
      else if opn.isNone && decide (st.frames.length ≥ 16) then none
      else
        let f := opn.getD { seq := st.seq, isRead := rd, begun := s.now }
        let recs := match r.op with
          | .wr cs => (runsOf cs).foldl (fun rs e => addWrite rs (gDevice r.addr) (gOffset r.addr + e.1) e.2) f.recs
          | .rd k => f.recs ++ [{ rtype := 2, device := gDevice r.addr, offset := gOffset r.addr, rtag := r.id % 2 ^ 32, len := k }]
          | _ => f.recs
        let add := fun (l : List Nat) (x : Nat) => if x = 0 ∨ l.contains x then l else l ++ [x]
        let (full, left) := s.fullDgrams g st { f with recs := recs }
        let f := { f with recs := left, sent := f.sent ++ full, bytes := f.bytes + size, reqs := if rd then f.reqs ++ [r.id] else f.reqs,
                          xfers := add f.xfers r.xfer, launches := if r.xfer = 0 then add f.launches r.owner else f.launches }
        if full ≠ [] ∧ (s.gw g).kept + (full.map (fun d => 32 + d.body.length)).foldl (· + ·) 0 > 8388608 then none else
        let s := (s.larchEmits g full).updStream g st.id (fun x => { x with
          seq := if opn.isNone then x.seq + 1 else x.seq
          frames := x.frames.filter (fun y => y.seq != f.seq) ++ [f] })
        let s := s.updReq r.id (fun x => if rd then { x with ph := .sent, port := 64 + g } else { x with ph := .done, st := 0 })
        let st : Stream := (((s.gw g).streams.find? (fun x => x.id == st.id))).getD st
        some (if f.bytes ≥ 65536 then s.closeFrame g st else s)

/-- Off-domain requests that hold slots go to their gateways, oldest first (R303). -/
def State.sendOff (s : State) : State :=
  s.reqs.foldl (fun (t : State) r =>
    if r.ph == .slot && !r.held && !r.win && gOff r.addr then
      (match t.offCheck r.ctx r.addr with
       | 0 => (t.gwAccept r).getD t
       | c => t.failReq r.id c)
    else t) s

end Sys2Proof.Machine
end

