-- ==== Sys2Proof/Machine/Admit.lean ====
section
/-!
DEFINITION. Machine/Admit.lean: admission to the queues of the banks, bank groups, atomic units and sector queues, the ports' waiting
requests among the sources (R199 to R201, R228, R270, R290, R291).
-/
namespace Sys2Proof.Machine

/-- The credits of a packet of so many slots go back with the next flits (R270). -/
def State.owe (s : State) (p vc n : Nat) : State :=
  if (s.port p).active then s.updPort p (fun x => { x with owed := mapUpd 0 x.owed vc (fun k => k + n) }) else s
/-- Channel of a request's packet (Table 11.1). -/
def opVc : MemOp → Nat
  | .flag _ => 2
  | _ => 0
/-- A request of a port is accepted: counted, and its credits go back, those of a flag when it has been applied (R270, R290). -/
def State.acceptPkt (s : State) (p : Nat) (r : Req) : State :=
  (if opVc r.op = 2 then s else s.owe p 0 r.ipc).count (dkey 0x5030 0x02)
/-- A flag of a port has been applied, or has failed: its credits go back. -/
def State.oweFlag (s : State) (p : Nat) (r : Req) : State := if opVc r.op = 2 then s.owe p 2 r.ipc else s

/-- A block that may enter a queue: its request, the queue, the block. -/
abbrev Cand := Req × Nat × Nat

/-- Blocks of a request that may enter a queue now. A port's request takes part once it has found its queue full. -/
def State.candsOf (s : State) (dies stackTab : List Nat) (r : Req) : List Cand :=
  let w := match r.src, r.ph with
    | .port _, .waiting => if r.waited && !r.win then s.wants { r with ph := .slot } else []
    | _, _ => s.wants r
  (w.filter (fun k => k.1 != qAway && s.admissible dies stackTab r k.1 k.2)).map (fun k => (r, k.1, k.2))

/-- Of a port's candidates the next in turn of source devices, the oldest of one (R291); of the others the oldest. -/
def State.pickCand (s : State) (cs : List Cand) : Option Cand :=
  match cs.find? (fun c => c.1.ph != .waiting || !c.1.walk.isEmpty), cs.head? with
  | some c, _ => some c
  | none, some (r, _, _) =>
    match r.src with
    | .port p => (roundRobin 64 ((s.port p).lastDev + 1) (fun d => cs.any (fun c => c.1.dev == d))).bind (fun d => cs.find? (fun c => c.1.dev == d))
    | _ => cs.head?
  | none, none => none

/-- A block enters its queue; a port's waiting request is accepted with its first one (R290). -/
def State.admitCand (s : State) (c : Cand) : State :=
  let r := c.1
  match r.src, r.ph with
  | .port n, .waiting =>
    let r' := { r with ph := .slot, since := s.now }
    (((s.updPort n (fun x => { x with lastDev := r.dev })).acceptPkt n r).updReq r.id (fun _ => r')).enter r' c.2.1 c.2.2
  | _, _ => s.enter r c.2.1 c.2.2

/-- Admits one block: to the queue of the first candidate, of the source next in round-robin order after the one admitted last (R199). -/
def State.admitOne (s : State) (dies stackTab : List Nat) : Option State :=
  match s.reqs.flatMap (s.candsOf dies stackTab) with
  | [] => none
  | c :: cs =>
    let key := c.2.1
    let here := (c :: cs).filter (fun x => x.2.1 == key)
    let num := fun (x : Cand) => s.srcAt key x.1.src
    let least := fun (l : List Cand) => l.foldl (fun (m : Option Nat) x => some (match m with | none => num x | some k => min k (num x))) none
    match (least (here.filter (fun x => decide (num x > (s.bank key).lastAdm)))).orElse (fun _ => least here) with
    | none => none
    | some k => (s.pickCand (here.filter (fun x => num x == k))).map s.admitCand

def State.admitAll : Nat → List Nat → List Nat → State → State
  | 0, _, _, s => s
  | n + 1, ds, ss, s => match s.admitOne ds ss with
    | some t => State.admitAll n ds ss t
    | none => s

/-- Queues fill again after an entry frees (R199). -/
def State.readmit (s : State) : State :=
  let (ds, ss) := s.stopped
  (State.admitAll ((s.reqs.map (fun r => 2 + 2 * (blocksOf r).length)).foldl (· + ·) 0) ds ss s).noteWaits

end Sys2Proof.Machine
end

