-- ==== Sys2Proof/Machine/Operands.lean ====
section
/-!
DEFINITION. Machine/Operands.lean: the operand forms of an instruction word (Tables 02.3 and 02.4, R188, R489, R490, R491) and
the fields of descriptors and control words.
-/
namespace Sys2Proof.Machine

def modNat (w : IWord) : Nat := w.md.toNat
def immSel (w : IWord) : Bool := bitAt (modNat w) 0
def immLo (w : IWord) : Word := w.imm.setWidth 32
/-- IMM[63:32] as a number. -/
def immHi (w : IWord) : Nat := bits w.imm.toNat 32 32
def immBits (w : IWord) (lo n : Nat) : Nat := bits w.imm.toNat lo n

/-- Second operand: RB, or IMM[31:0] with IMMSEL (Table 02.4). -/
def opB (w : IWord) (g : Group) (l : Nat) : Word := if immSel w then immLo w else g.reg w.rb.toNat l

/-- Register checks of an instruction: (register, length of its run) (R23, R489). -/
def regsOk (rs : List (Nat × Nat)) (g : Group) : Bool := rs.all (fun r => runOk g.nregs r.1 r.2)

/-- RB counts as named only when IMMSEL does not replace it. -/
def rbUse (w : IWord) : List (Nat × Nat) := if immSel w then [] else [(w.rb.toNat, 1)]

/-- MOD with only IMMSEL defined (Table 02.4). -/
def modImm (w : IWord) : Bool := decide (modNat w < 2)
def modZero (w : IWord) : Bool := modNat w == 0

/-- Virtual address of a lane: RA and RA + 1 (0 with RA = ZR) plus the sign-extended IMM[31:0], modulo 2^64 (R489). -/
def vaddr (w : IWord) (g : Group) (l : Nat) : Nat :=
  let base : Nat := if w.ra = 0 then 0 else g.run64 w.ra.toNat 2 l
  (((base : Nat) + (immLo w).toInt) % (2 ^ 64 : Nat)).toNat

/-- Local-store offset of a lane: RA plus IMM[31:0] as a 32-bit value (R489). -/
def laddr (w : IWord) (g : Group) (l : Nat) : Nat := (g.reg w.ra.toNat l + immLo w).toNat

/-- Spaces of Table 02.4. -/
inductive Space where
  | virt | group | core
  deriving DecidableEq, Repr

def spaceOf (n : Nat) : Option Space :=
  match n with
  | 0 => some .virt
  | 1 => some .group
  | 2 => some .core
  | _ => none

/-- Byte range of the local store an offset of a space reaches: base and limit (R33). -/
def spaceRange (i : Image) (slot : Nat) : Space → Nat × Nat
  | .group => (i.shared + slot * i.grpBytes, i.grpBytes)
  | _ => (0, i.lsBytes)

/-- Register operand of an address: RA alone in a local space, the pair in virtual space. -/
def raUse (w : IWord) (sp : Space) : Nat × Nat := (w.ra.toNat, if sp = .virt then 2 else 1)

/-- The lowest-numbered active lane, whose registers a whole-group instruction reads (R491). -/
def leadReg (i : Iss) (r : Nat) : Nat := (i.grp.reg r (lowestLane i.act)).toNat

/-! Tensor descriptors (Table 03.3). -/

structure Desc where
  bmask : Nat
  dsrc  : Nat
  smeta : Nat
  scale : Nat
  base  : Nat
  st3   : Nat
  st2   : Nat
  st1   : Nat
  e3    : Nat
  e2    : Nat
  e1    : Nat
  e0    : Nat
  ver   : Nat
  space : Nat
  trans : Bool
  fmt   : Nat
  spform : Nat
  dkind : Nat
  deriving DecidableEq, Repr

def descOf (v : Nat) : Desc :=
  { bmask := bits v 464 48, dsrc := bits v 416 48, smeta := bits v 368 48, scale := bits v 320 48, base := bits v 272 48,
    st3 := bits v 228 44, st2 := bits v 184 44, st1 := bits v 140 44, e3 := bits v 116 24, e2 := bits v 92 24,
    e1 := bits v 68 24, e0 := bits v 44 24, ver := bits v 40 4, space := bits v 38 2, trans := bitAt v 37,
    fmt := bits v 32 5, spform := bits v 29 3, dkind := bits v 26 3 }

/-- Bits of an element of a format code (Table 03.2). -/
def elemBits (fmt : Nat) : Nat :=
  match fmt with
  | 0x00 => 32 | 0x01 => 16 | 0x02 => 16 | 0x03 => 8 | 0x04 => 8 | 0x05 => 8 | 0x06 => 8 | 0x07 => 6 | 0x08 => 6
  | 0x09 => 4 | 0x0A => 16 | 0x0B => 8 | _ => 64

def isMx (fmt : Nat) : Bool := decide (5 ≤ fmt ∧ fmt ≤ 9)
/-- Alignment unit of BASE and strides: the element size, 1 B for packed formats (R71, R492). -/
def elemAlign (fmt : Nat) : Nat := if elemBits fmt < 8 then 1 else elemBits fmt / 8
def Desc.count (d : Desc) : Nat := d.e0 * d.e1 * d.e2 * d.e3

/-- Scalar format of a code; MX elements in their own encoding (Tables 03.2, 04.2). -/
def fmtOf (fmt : Nat) : Fmt :=
  match fmt with
  | 0x00 => fp32 | 0x01 => fp16 | 0x02 => bf16 | 0x03 => e5m2 | 0x04 => e4m3 | 0x05 => ocp8 | 0x06 => e5m2
  | 0x07 => e3m2 | 0x08 => e2m3 | 0x09 => e2m1 | 0x0A => bf16 | 0x0B => e4m3 | _ => fp32

/-- Bit address of element (i0, i1, i2, i3) from BASE: (byte, bit). Packed formats lie least significant first (Table 03.3). -/
def Desc.elemAt (d : Desc) (i0 i1 i2 i3 : Nat) : Nat × Nat :=
  let b := i0 * elemBits d.fmt
  (d.base + i1 * d.st1 + i2 * d.st2 + i3 * d.st3 + b / 8, b % 8)

end Sys2Proof.Machine
end

