-- ==== Sys2Proof/Machine/Flags.lean ====
section
/-!
DEFINITION. Machine/Flags.lean: predicates are the DT9's flags: what ICMP, FCMP and LVOTE compute into them (R37, R110), and the
numeric counters that conversions raise (R117, R118).
-/
namespace Sys2Proof.Machine

/-- Comparison of ICMP: 0 EQ to 5 GE, signed or unsigned (R37). -/
def icmpSel (sel : Nat) (unsigned : Bool) (a b : Word) : Bool :=
  let lt := fun (x y : Word) => if unsigned then x.ult y else x.slt y
  match sel with
  | 0 => a == b
  | 1 => a != b
  | 2 => lt a b
  | 3 => !(lt b a)
  | 4 => lt b a
  | _ => !(lt a b)

/-- LVOTE modes 0 to 2 over the active lanes (R37). -/
def voteBit (mode : Nat) (act guard : Lanes) : Bool :=
  match mode with
  | 0 => act &&& ~~~guard == 0
  | 1 => act &&& guard != 0
  | _ => (act &&& ~~~guard == 0) || (act &&& guard == 0)

/-- The mask of the active lanes for which a test of the lane holds. -/
def lanesWhere (act : Lanes) (f : Nat → Bool) : Lanes := laneMask (fun l => act.getLsbD l && f l)

/-- Counters of one converted element: overflowed, flushed, NaN produced, subnormal (R118). `over`: the source came in as an
overflow (OCP import); `ocpNan`: an infinity was written as the OCP NaN. -/
def convCounts (f : Fmt) (src res : Ex) (ovf ocpNan : Bool) : List Nat :=
  let b := fun (x : Bool) => if x then 1 else 0
  let subn := match res with
    | .fin _ m e => m != 0 && Ex.lt (.fin false m e) (.fin false 1 f.emin)
    | _ => false
  [b (ovf || (src.isFin && (res.isInf || ocpNan))), b (src.isFin && !src.isZero && res.isZero),
   b (!src.isNan && (res.isNan || ocpNan)), b subn]

def addCounts (a b : List Nat) : List Nat := List.zipWith (satAdd (2 ^ 32 - 1)) a b

/-- Adds numeric counts to the device-wide totals 0x4040:01 to :05 (R119). -/
def State.numTotals (s : State) (c : List Nat) : State :=
  (List.zip (List.range 5) c).foldl (fun (t : State) e => if e.2 = 0 then t else t.count (dkey 0x4040 (1 + e.1)) e.2) s

end Sys2Proof.Machine
end

