-- ==== Sys2Proof/Machine/Translate.lean ====
section
/-!
DEFINITION. Machine/Translate.lean: the translation tables in HBM as a walk reads them (R189; Tables 07.3, 07.4), the translation caches
of the cores and the compute dies (R192; log 34), who owns a granule (R289, R362, R495), and how the tables are written.
-/
namespace Sys2Proof.Machine

/-- Lowest virtual bit that a level of Table 07.3 resolves, and the entries of one of its tables. -/
def lvShift (l : Nat) : Nat := if l = 1 then 39 else if l = 2 then 30 else if l = 3 then 21 else 16
def lvEntries (l : Nat) : Nat := if l = 4 then 32 else 512
/-- Level of the leaf of a page size. -/
def leafLevel (size : Nat) : Nat := 4 - size
/-- Key in `Ctx.tables` of the table of a level that serves a virtual address. -/
def tabKey (l va : Nat) : Nat := l * 2 ^ 40 + (if l = 1 then 0 else va / 2 ^ lvShift (l - 1))
/-- HBM offset of a level's entry for a virtual address; none where the context has no such table. -/
def Ctx.entryAt (x : Ctx) (l va : Nat) : Option Nat :=
  (mapFind x.tables (tabKey l va)).map (fun g => g * 65536 + 8 * (va / 2 ^ lvShift l % lvEntries l))
/-- KIND of an entry (Table 07.4). -/
def entryKind (v : Nat) : Nat := bits v 6 2

/-- The entries that a walk reads from a level down: pointers, and the entry after them. Structural on the levels left. -/
def State.walkFrom (s : State) (x : Ctx) (va : Nat) : Nat → Nat → List Nat
  | 0, _ => []
  | f + 1, l =>
    match x.entryAt l va with
    | none => []
    | some e => e :: (if entryKind (leNat (cellsRead s.mem e 8)) = 1 then State.walkFrom s x va f (l + 1) else [])

/-- A translation enters a cache of so many; which one leaves a full cache the manual does not say: a free value (log 34). -/
def State.tagIn (s : State) (cap : Nat) (l : List XTag) (t : XTag) : State × List XTag :=
  if l.contains t then (s, l)
  else if l.length < cap then (s, l ++ [t])
  else (s.drawn, l.eraseIdx (s.freeVal cap) ++ [t])
def State.coreTag (s : State) (core : Nat) (t : XTag) : State :=
  let (u, l) := s.tagIn 64 (mapGet [] s.tlbs core) t
  { u with tlbs := mapSet [] u.tlbs core l }
def State.dieTag (s : State) (die : Nat) (t : XTag) : State :=
  let (u, l) := s.tagIn 8192 (mapGet [] s.dtlbs die) t
  { u with dtlbs := mapSet [] u.dtlbs die l }

/-- Is a page's leaf, or a pointer on the way to it, in a cache? -/
def hasTag (l : List XTag) (ctx lev va : Nat) : Bool := l.contains ⟨ctx, lev, va / 2 ^ lvShift lev⟩
/-- Does a core's cache hold the translation of an address? -/
def State.cached (s : State) (core ctx va : Nat) : Bool := [2, 3, 4].any (fun l => hasTag (mapGet [] s.tlbs core) ctx l va)

/-- An access of a core translates an address: its own cache, then its die's, then a walk of the tables from the deepest pointer that the
die holds (R192). Answers the entries that the walk reads. The window region has no translation (R188). -/
def State.touch (s : State) (core ctx va : Nat) : State × List Nat :=
  if va ≥ 2 ^ 48 ∨ (winVa ≤ va ∧ va < winVa + 0x50000000) ∨ s.cached core ctx va then (s, [])
  else
    let s := s.count (dkey 0x3003 0x01)
    let die := s.dieOf core
    let shared := mapGet [] s.dtlbs die
    let leaf := (leafOf (s.ctx ctx).leaves va).bind (fun e => if e.2.acc then some (leafLevel e.2.size) else none)
    let keep := fun (s : State) => match leaf with
      | some l => s.coreTag core ⟨ctx, l, va / 2 ^ lvShift l⟩
      | none => s
    if (leaf.map (fun l => hasTag shared ctx l va)).getD false then (keep s, [])
    else
      let start := 1 + (([3, 2, 1].find? (fun l => hasTag shared ctx l va)).getD 0)
      let ws := s.walkFrom (s.ctx ctx) va (5 - start) start
      let s := if ws.isEmpty then s else s.count (dkey 0x3003 0x02)
      let s := (List.range (ws.length - 1)).foldl (fun (t : State) k => t.dieTag die ⟨ctx, start + k, va / 2 ^ lvShift (start + k)⟩) s
      let s := match leaf with
        | some l => s.dieTag die ⟨ctx, l, va / 2 ^ lvShift l⟩
        | none => s
      (keep s, ws)

/-- Entries leave every translation cache of the device (R193). -/
def State.dropTags (s : State) (out : XTag → Bool) : State :=
  let purge := fun (m : Map (List XTag)) => (m.map (fun e => (e.1, e.2.filter (fun t => !(out t))))).filter (fun e => !e.2.isEmpty)
  { s with tlbs := purge s.tlbs, dtlbs := purge s.dtlbs }

/-! Ownership. -/

def granuleBytes : Nat := 65536
/-- Granules of a save area: 14.0625 MiB (R208). -/
def saveGranules : Nat := 225

/-- Does a granule lie in a die's firmware reserve of the near tier (R495)? -/
def nearReserve (g : Nat) : Bool :=
  let o := g * granuleBytes
  decide (nearBase ≤ o ∧ o < nearBase + 0x300000000) && decide ((o - nearBase) % 0x60000000 ≥ 0x5C000000)

/-- Ownership of a granule (Table 14.2): the firmware's own granules, and the table's entries. -/
def State.own (s : State) (g : Nat) : Owner :=
  let fw := s.dev.fw.any (fun r => decide (r.1 ≤ g ∧ g < r.1 + r.2)) ||
    s.saves.any (fun r => r.2.2.contains g) || nearReserve g ||
    (decide (g * granuleBytes < 2 ^ 41) && decide (g * granuleBytes ≥ s.hbmBacked))
  if fw then { state := 4 } else (mapFind s.owner g).getD { state := if s.dev.scrubbed then 0 else 3 }

def State.setOwner (s : State) (g : Nat) (o : Owner) : State := { s with owner := mapSet {} s.owner g o }

/-- Does the page that holds an offset belong to a context, with the permission needed (R289 step 3)? A window offset is checked by
step 4 alone. -/
def State.ownedBy (s : State) (ctx o : Nat) (rd wr : Bool) : Bool :=
  let w := s.own (o / granuleBytes)
  w.state == 2 && !w.adm && w.ctx == ctx && (!rd || bitAt w.perm 1) && (!wr || bitAt w.perm 0)

/-! Writing the tables. -/

/-- A leaf (Table 07.4). -/
def leafWord (l : Leaf) : Nat :=
  l.target / 65536 % 2 ^ 48 * 65536 + (if l.acc then 2 ^ 11 else 0) + (if l.nc then 2 ^ 10 else 0) + 2 * 2 ^ 6 + (if l.x then 4 else 0) +
    (if l.w then 2 else 0) + (if l.r then 1 else 0)
/-- A pointer to the table in a granule: its TARGET is the table's global address, on this device (R189). -/
def State.pointerWord (s : State) (g : Nat) : Nat := s.dev.deviceId * 2 ^ 45 + g * 65536 + 2 ^ 6

/-- An entry is written, in both copies of its table (R225), and the old one leaves every translation cache (R193). -/
def State.setEntry (s : State) (ctx l va v : Nat) : State :=
  match (s.ctx ctx).entryAt l va with
  | none => s
  | some e =>
    let put := fun (s : State) (o : Nat) => ((s.tableRead o).devWrite o (leBytes 8 v)).1
    (put (put s e) (e + 4096)).dropTags (fun t => t == ⟨ctx, l, va / 2 ^ lvShift l⟩)

/-- The highest FREE HBM granule below g. Structural on fuel. -/
def State.highFree (s : State) : Nat → Nat → Option Nat
  | 0, _ => none
  | f + 1, g =>
    if g = 0 then none
    else match s.dev.fw.find? (fun r => decide (r.1 < g ∧ g ≤ r.1 + r.2)) with
    | some r => State.highFree s f r.1
    | none => if (s.own (g - 1)).state = 0 then some (g - 1) else State.highFree s f (g - 1)

/-- The table of a level that serves a virtual address stands, and the pointer to it; a new one takes the highest FREE HBM granule (R189,
R495). none: there is none. -/
def State.needTable (s : State) (ctx va l : Nat) : Option State :=
  let got := match mapFind (s.ctx ctx).tables (tabKey l va) with
    | some g => some (s, g)
    | none => (s.highFree 33554432 (s.hbmUsable / granuleBytes)).map (fun g =>
        ((s.setOwner g { state := 4 }).updCtx ctx (fun x => { x with tables := mapInsert x.tables (tabKey l va) g }), g))
  got.map (fun (t, g) =>
    let same := match (t.ctx ctx).entryAt (l - 1) va with
      | some e => leNat (cellsRead t.mem e 8) == t.pointerWord g
      | none => true
    if l = 1 || same then t else t.setEntry ctx (l - 1) va (t.pointerWord g))
/-- A leaf is written, under the tables that it needs. -/
def State.putLeaf (s : State) (ctx va : Nat) (lf : Leaf) : Option State :=
  (((List.range (leafLevel lf.size)).map (· + 1)).foldl (fun (a : Option State) l => a.bind (fun t => t.needTable ctx va l)) (some s)).map (fun t =>
    t.setEntry ctx (leafLevel lf.size) va (leafWord lf))

end Sys2Proof.Machine
end

