-- ==== Sys2Proof/Machine/LoadStore.lean ====
section
/-!
DEFINITION. Machine/LoadStore.lean: what LD and ST do, the core cache, the completion of off-core accesses, prefetch and data breakpoints
(R28 to R30, R59, R194, R204 to R206, R233, R490).
-/
namespace Sys2Proof.Machine

/-! The core cache (R194; log 12). -/

def State.cache (s : State) (core : Nat) : List Line := mapGet [] s.caches core
def State.setCache (s : State) (core : Nat) (l : List Line) : State := { s with caches := mapSet [] s.caches core l }
def lineHit (l : List Line) (ctx a : Nat) : Option Line := l.find? (fun x => x.addr == a && x.ctx == ctx)
/-- A hit makes its line the most recent of its set. -/
def touchLine (l : List Line) (ctx a : Nat) : List Line :=
  match takeFirst (fun x : Line => x.addr == a && x.ctx == ctx) l with
  | some (x, r) => x :: r
  | none => l
def dropLine (l : List Line) (ctx a : Nat) : List Line := l.filter (fun x => !(x.addr == a && x.ctx == ctx))
/-- A new line; the least recent line of a full set of 8 leaves (R194). -/
def fillLine (kib : Nat) (l : List Line) (x : Line) : List Line :=
  let sets := max 1 (kib * 1024 / 512)
  let set := fun (a : Nat) => a / 64 % sets
  let l := dropLine l x.ctx x.addr
  let mates := l.filter (fun y => set y.addr == set x.addr)
  if mates.length < 8 then x :: l
  else match mates.getLast? with
    | some v => x :: l.filter (fun y => !(y.addr == v.addr && y.ctx == v.ctx))
    | none => x :: l
/-- Write-through of bytes (address, byte) into a matching line. -/
def patchLine (x : Line) (cs : List (Nat × Byte)) : Line :=
  { x with data := (List.zip (List.range 64) x.data).map (fun (k, b) =>
      match cs.find? (fun c => c.1 == x.addr + k) with
      | some c => c.2
      | none => b) }
def State.patchCache (s : State) (core ctx : Nat) (cs : List (Nat × Byte)) : State :=
  s.setCache core ((s.cache core).map (fun x => if x.ctx = ctx then patchLine x cs else x))
def State.dropCached (s : State) (core ctx a : Nat) : State := s.setCache core (dropLine (s.cache core) ctx (a / 64 * 64))

/-- Lines that an acquire or FENCE at a scope invalidates (Table 09.1, R237, R238). A line still on its way was read before the acquire:
it is not put into the cache either, so that no later load hits it (R239, R241). -/
def State.invalidate (s : State) (core scope : Nat) : State :=
  if scope < 3 then s
  else
    let l := s.cache core
    let keep := if scope = 3 then l.filter (fun x => !(s.isLocal x.addr)) else []
    let s := { s with reqs := s.reqs.map (fun r =>
      if r.src == .core core && r.alloc && (scope == 4 || r.win || s.isLocal r.addr) then { r with alloc := false } else r) }
    if keep.length < l.length then (s.setCache core keep).count (dkey 0x3020 0x01) else s

/-! Requests of a group. -/

/-- The address a request carries: a window address of this device, or the global address. -/
def destReq (d : Dest) : Nat × Bool × Bool :=
  match d with
  | .win core off => (winBase + core * 0x200000 + off, true, false)
  | .glob a nc => (a, false, nc)

/-- A new thread request of a group: its address is translated through the caches, and a walk goes before it (R192). -/
def Iss.newReq (i : Iss) (s : State) (op : MemOp) (d : Dest) (va : Nat) (plain thread alloc held : Bool) : State × Nat :=
  let (a, win, nc) := destReq d
  let (s, walk) := if win then (s, []) else s.touch i.core i.ctx va
  ({ s with
      nextId := s.nextId + 1
      reqs := s.reqs ++ [{ id := s.nextId, src := .core i.core, ctx := i.ctx, slot := i.slot, op := op, addr := a, win := win,
                           va := va, plain := plain, thread := thread, alloc := alloc && !nc, held := held,
                           owner := i.grp.launch, gidx := i.grp.idx, ipc := i.path.pc, walk := walk,
                           dev := if win then s.dev.deviceId else gDevice a }] }, s.nextId)

def waitIds : Wait → List Nat
  | .access ids _ => ids
  | _ => []

/-- Groups that wait only for slots retire once every request holds one (Table 02.2). -/
def State.issueSweep (s : State) (ctx core : Nat) : State :=
  (s.img ctx core).groups.foldl (fun (t : State) e =>
    match mapFind (t.img ctx core).groups e.1 with
    | none => t
    | some g =>
      match g.wait with
      | .access ids .issue =>
        if ids.all (fun id => match t.req? id with | some r => r.ph != .waiting | none => true) then
          t.putGroup ctx core e.1 { g.step16 with wait := .none, wdog := t.now }
        else t
      | _ => t) s

/-- Slots are granted, queues filled, and groups that waited for slots go on (R29, R30, R198, R199, R233). -/
def State.pump (s : State) (ctx core : Nat) : State :=
  ((s.grant core).readmit.sendAway.sendOff).issueSweep ctx core

/-! Data breakpoints. -/

/-- Lanes of an access that a data breakpoint watches (R59, Table 02.8): kind 0 read, 1 write, 2 atomic. -/
def State.dataHits (s : State) (ctx core slot n kind : Nat) (addrs : List (Nat × Nat × Nat)) : Lanes :=
  let c := s.dv (dkey 0x4022 (0x11 + n))
  let a := s.dv (dkey 0x4022 (0x15 + n))
  let len := 2 ^ bits c 25 3
  if bitAt c 31 && decide (mapGet 4096 s.dbg.bpCtx (8 + n) = ctx) && decide (bits c 0 13 = core) &&
     (!(bitAt c 24) || decide (bits c 18 6 = slot)) && (bits c 28 2 == 3 || bits c 28 2 == kind) then
    addrs.foldl (fun m e => if e.2.1 < a + len ∧ a < e.2.1 + e.2.2 then m ||| laneBit e.1 else m) 0
  else 0

/-- Records the hits of an instruction's virtual accesses (lane, address, bytes); the group halts when the instruction retires. -/
def Iss.watch (i : Iss) (kind : Nat) (addrs : List (Nat × Nat × Nat)) : Iss :=
  (List.range 4).foldl (fun (i : Iss) n =>
    let m := i.s.dataHits i.ctx i.core i.slot n kind addrs
    if m = 0 then i
    else
      let a := (addrs.find? (fun e => m.getLsbD e.1)).map (fun e => e.2.1)
      { i with s := { i.s with dbg := { i.s.dbg with hits := mapSet (0, 0) i.s.dbg.hits n (a.getD 0, m) } },
               grp := { i.grp with halt := { i.grp.halt with req := true, cause := 3 } } }) i

/-! LD. -/

/-- Registers that an LD of SIZE writes and bytes per lane (R490). -/
def sizeBytes (n : Nat) : Nat := 2 ^ n
def sizeRegs (n : Nat) : Nat := if n ≤ 2 then 1 else if n = 3 then 2 else 4

/-- Loads a lane's bytes into the run at RD (R490). -/
def loadLane (rd size : Nat) (g : Group) (l : Nat) (bs : List Byte) : Group := g.setRun rd (sizeRegs size) l (leNat bs)

/-- MISALIGNED before any lane takes effect (R490); LOCAL_BOUNDS outside the space (R33). -/
def localCheck (rng : Nat × Nat) (n : Nat) (offs : List Nat) : Status :=
  if offs.any (fun o => decide (o % n ≠ 0)) then Code.misaligned
  else if offs.any (fun o => decide (o + n > rng.2)) then Code.localBounds
  else 0

def localBad (rng : Nat × Nat) (n : Nat) (offs : List Nat) : Nat :=
  ((offs.find? (fun o => decide (o % n ≠ 0))).orElse (fun _ => offs.find? (fun o => decide (o + n > rng.2)))).getD 0

/-- Distinct lines of lane addresses, ascending (R29). -/
def linesOf (as : List Nat) : List Nat := sortNat (as.map (fun a => a / 64 * 64))

/-- The first address of a list that passes a test, else 0: the failing access of a fault (Table 13.10). -/
def firstBad (p : Nat → Bool) (as : List Nat) : Nat := (as.find? p).getD 0
/-- The first virtual address that does not translate, or lies off-domain where that is not served. -/
def State.badVa (s : State) (ctx : Nat) (need : Need) (vas : List Nat) : Nat :=
  firstBad (fun va => let (st, d) := s.xlate ctx va need; st != 0 || (match d with | .glob a _ => gOff a | _ => false)) vas

/-- Translates a list of addresses; the first that fails gives the code. -/
def State.xlateAll (s : State) (ctx : Nat) (need : Need) (vas : List Nat) : Status × List (Nat × Dest) :=
  vas.foldl (fun (acc : Status × List (Nat × Dest)) va =>
    if acc.1 ≠ 0 then acc
    else let (st, d) := s.xlate ctx va need; if st ≠ 0 then (st, []) else (0, acc.2 ++ [(va, d)])) (0, [])

def destOff : Dest → Bool
  | .glob a _ => gOff a
  | _ => false

/-- The line's address in the cache: global, windows by their device-local window address. -/
def State.lineKey (s : State) (d : Dest) : Nat :=
  match d with
  | .win core off => mkGlobal s.dev.deviceId (winBase + core * 0x200000 + off)
  | .glob a _ => a
def destNc : Dest → Bool
  | .glob _ nc => nc
  | _ => false

/-- R205: consecutive ascending line misses of a group. -/
def Group.missStreak (g : Group) (missed : List Nat) : Group :=
  missed.foldl (fun g a => { g with streak := if a = g.lastMiss + 64 ∧ g.streak ≠ 0 then g.streak + 1 else 1, lastMiss := a }) g

/-- The data of a load, once all of its lines are there, goes to the registers (R28, R490). -/
def finishLoad (g : Group) (rd size : Nat) (addrs : List (Nat × Nat)) (lines : List (Nat × List Byte)) : Group :=
  addrs.foldl (fun g e =>
    match lines.find? (fun x => x.1 == e.2 / 64 * 64) with
    | some x => loadLane rd size g e.1 ((x.2.drop (e.2 % 64)).take (sizeBytes size))
    | none => g) g

/-- LD from virtual space (R28, R29, R194, R298). -/
def Iss.loadVirtual (i : Iss) (rd size cacheMode : Nat) (addrs : List (Nat × Nat)) : State :=
  if addrs.any (fun e => decide (e.2 % sizeBytes size ≠ 0)) then
    i.fault Code.misaligned (firstBad (fun a => decide (a % sizeBytes size ≠ 0)) (addrs.map Prod.snd))
  else
    let (st, ds) := i.s.xlateAll i.ctx .read (linesOf (addrs.map Prod.snd))
    let bad := i.s.badVa i.ctx .read (linesOf (addrs.map Prod.snd))
    if st ≠ 0 then i.fault st bad
    else if ds.any (fun d => destOff d.2) then i.fault Code.offdomainLoad bad
    else
      let i := i.watch 0 (addrs.map (fun e => (e.1, e.2, sizeBytes size)))
      let on := fun (d : Dest) => i.img.cacheKiB != 0 && cacheMode != 2 && !(destNc d)
      let look := fun (d : Nat × Dest) => if on d.2 then lineHit (i.s.cache i.core) i.ctx (i.s.lineKey d.2) else none
      let hits := ds.filterMap (fun d => (look d).map (fun x => (d.1, x.data)))
      let miss := ds.filter (fun d => (look d).isNone)
      let s := ds.foldl (fun (t : State) d =>
        if (look d).isSome then t.setCache i.core (touchLine (t.cache i.core) i.ctx (t.lineKey d.2)) else t) i.s
      -- the lines that miss are requested; one that hits but whose translation walks waits for the walk alone (R192)
      let (s, ids) := ds.foldl (fun (a : State × List Nat) d =>
        if (look d).isNone then
          let (t, id) := i.newReq a.1 (.rd 64) d.2 d.1 false false (cacheMode == 0 && i.img.cacheKiB != 0) false
          (t, a.2 ++ [id])
        else
          let (u, walk) := a.1.touch i.core i.ctx d.1
          if walk.isEmpty then (u, a.2)
          else
            let (t, id) := i.newReq u (.rd 0) d.2 d.1 false false false false
            (t.updReq id (fun r => { r with walk := walk, noslot := true }), a.2 ++ [id])) (s, [])
      if ids.isEmpty then { i with s := s }.retire (finishLoad i.grp rd size addrs hits)
      else
        let g := if cacheMode = 0 then i.grp.missStreak (miss.map Prod.fst) else i.grp
        (s.setGroup i.ctx i.core i.slot (g.waitFor s.now ids (.load rd size addrs hits))).pump i.ctx i.core

/-- What Table 02.4 and R23 allow an LD. -/
def ldLegal (w : IWord) (gr : Group) : Bool :=
  decide (bits (modNat w) 2 3 ≤ 4) && decide (bits (modNat w) 0 2 ≤ 2) && (spaceOf (bits (modNat w) 5 3)).isSome &&
    regsOk [(w.rd.toNat, sizeRegs (bits (modNat w) 2 3)), raUse w ((spaceOf (bits (modNat w) 5 3)).getD .virt)] gr

/-- The load of LD (R490). -/
def Iss.load (w : IWord) (i : Iss) : State :=
  let size := bits (modNat w) 2 3
  let rd := w.rd.toNat
  match spaceOf (bits (modNat w) 5 3) with
  | some .virt => i.loadVirtual rd size (bits (modNat w) 0 2) ((lanesOf i.act).map (fun l => (l, vaddr w i.grp l)))
  | some sp =>
    let rng := spaceRange i.img i.slot sp
    let offs := (lanesOf i.act).map (fun l => (l, laddr w i.grp l))
    let st := localCheck rng (sizeBytes size) (offs.map Prod.snd)
    if st ≠ 0 then i.fault st (localBad rng (sizeBytes size) (offs.map Prod.snd))
    else i.retire (offs.foldl (fun g e =>
      loadLane rd size g e.1 (cellsRead i.img.ls (rng.1 + e.2) (sizeBytes size))) i.grp)
  | none => i.fault Code.illegal

/-! ST. -/

/-- Lanes in the order their bytes are applied. The manual does not say which lane wins when two lanes of one ST write one byte:
when two do, the order starts at a free lane (log 6). -/
def storeLanes (act : Lanes) (free : Nat) : List Nat := (lanesOf act).filter (fun l => decide (free ≤ l)) ++ (lanesOf act).filter (fun l => decide (l < free))

/-- Do two accesses of n bytes in a list overlap? -/
def overlaps (n : Nat) : List Nat → Bool
  | [] => false
  | a :: r => r.any (fun b => decide (a < b + n ∧ b < a + n)) || overlaps n r

/-- Bytes that lanes store, later lanes winning: (address, byte), ascending and without repeats. -/
def storeCells (parts : List (Nat × List Byte)) : List (Nat × Byte) :=
  parts.foldl (fun m p => (zipFrom p.1 p.2).foldl (fun (m : Map Byte) c => mapInsert (mapErase m c.1) c.1 c.2) m) []

/-- ST to virtual space: one request per line, ascending (R29, R30, R194, R233, R298). `cells`: virtual address and byte. -/
def Iss.storeVirtual (i : Iss) (cells : List (Nat × Byte)) : State :=
  let lines := linesOf (cells.map Prod.fst)
  let (st, ds) := i.s.xlateAll i.ctx .write lines
  let bad := i.s.badVa i.ctx .write lines
  if st ≠ 0 then i.fault st bad
  else
    let off := ds.foldl (fun (a : Status) d => if a ≠ 0 then a else match d.2 with
      | .glob x _ => if gOff x then i.s.offCheck i.ctx x else 0
      | _ => 0) 0
    if off ≠ 0 then i.fault off bad
    else
      let (s, ids) := ds.foldl (fun (a : State × List Nat) d =>
        let cs := (cells.filter (fun c => c.1 / 64 * 64 == d.1)).map (fun c => (c.1 - d.1, c.2))
        let s := a.1.patchCache i.core i.ctx (cs.map (fun c => (a.1.lineKey d.2 + c.1, c.2)))
        let (t, id) := i.newReq s (.wr cs) d.2 d.1 true true false false
        (t, a.2 ++ [id])) (i.s, [])
      (s.setGroup i.ctx i.core i.slot { i.grp with wait := .access ids .issue }).pump i.ctx i.core

/-- What Table 02.4 and R23 allow an ST. -/
def stLegal (w : IWord) (gr : Group) : Bool :=
  decide (bits (modNat w) 2 3 ≤ 4) && decide (bits (modNat w) 0 2 = 0) && (spaceOf (bits (modNat w) 5 3)).isSome &&
    regsOk [(w.rb.toNat, sizeRegs (bits (modNat w) 2 3)), raUse w ((spaceOf (bits (modNat w) 5 3)).getD .virt)] gr

/-- Address of a lane of LD and ST: virtual, or an offset of the local store (R489, R490). -/
def lsAddr (w : IWord) (g : Group) (l : Nat) : Nat :=
  if spaceOf (bits (modNat w) 5 3) = some .virt then vaddr w g l else laddr w g l

/-- The store of ST (R490). -/
def Iss.store (w : IWord) (i : Iss) : State :=
  let size := bits (modNat w) 2 3
  let n := sizeBytes size
  let addr := lsAddr w i.grp
  let clash := overlaps n ((lanesOf i.act).map addr)
  let first := if clash then i.s.freeVal 32 else 0
  let i := if clash then { i with s := i.s.drawn } else i
  let cells : List (Nat × Byte) := storeCells ((storeLanes i.act first).map (fun l =>
    (addr l, leBytes n (i.grp.run64 w.rb.toNat (sizeRegs size) l))))
  match spaceOf (bits (modNat w) 5 3) with
  | some .virt =>
    if (lanesOf i.act).any (fun l => decide (addr l % n ≠ 0)) then
      i.fault Code.misaligned (firstBad (fun a => decide (a % n ≠ 0)) ((lanesOf i.act).map addr))
    else (i.watch 1 ((lanesOf i.act).map (fun l => (l, addr l, n)))).storeVirtual cells
  | some sp =>
    let rng := spaceRange i.img i.slot sp
    let st := localCheck rng n ((lanesOf i.act).map addr)
    if st ≠ 0 then i.fault st (localBad rng n ((lanesOf i.act).map addr))
    else { i with s := i.s.updImg i.ctx i.core (fun m => { m with ls := cellsPut m.ls (cells.map (fun (c : Nat × Byte) => (rng.1 + c.1, c.2))) }) }.retireP i.grp
  | none => i.fault Code.illegal

end Sys2Proof.Machine
end

