-- ==== Sys2Proof/Machine/Agent.lean ====
section
/-!
DEFINITION. Machine/Agent.lean: how the units that are no thread reach memory: the tensor mover, the array's stager, the Alder engines
and the ring commands (R51, R65, R172, R191, R298, R340). Each access is a request of up to 256 B that the unit waits for, in the slots
of its core and the queues of its target; only the firmware's own accesses that find room there are served at its event (log 13).
-/
namespace Sys2Proof.Machine

/-- A unit that accesses memory: where it stands, whose context it acts for, the number its requests carry. -/
structure Ag where
  src   : Src
  core  : Nat := 0
  ctx   : Nat
  slot  : Nat := 0
  owner : Nat := 0
  id    : Nat
  deriving DecidableEq, Repr

/-- What a read gives: bytes, a failure, or nothing yet. -/
inductive Got where
  | ok (bs : List Byte)
  | err (st : Status)
  | wait
  deriving DecidableEq, Repr

/-- The pieces of one range, in order: the first that is not there decides. -/
def Got.join : Got → Got → Got
  | .ok a, .ok b => .ok (a ++ b)
  | .ok _, g => g
  | g, _ => g

/-- A new request of a unit. A core's waits for one of the core's tensor-mover slots (R51, R65). -/
def State.agReq (s : State) (ag : Ag) (op : MemOp) (a va : Nat) : State :=
  let core := match ag.src with
    | .core _ => true
    | _ => false
  { s with
    nextId := s.nextId + 1
    reqs := s.reqs ++ [{ id := s.nextId, src := ag.src, ctx := ag.ctx, slot := ag.slot, op := op, addr := a, va := va,
                         ph := if core then .waiting else .slot, xfer := ag.id, owner := ag.owner, dev := gDevice a, raw := core }] }

/-- Is a request one of a unit's? A command's stays its own when another core takes it over (R340, R452). -/
def Ag.owns (ag : Ag) (r : Req) : Bool :=
  r.xfer == ag.id && (match ag.src, r.src with
    | .core _, .core _ => ag.id != 0
    | a, b => a == b)

/-- May the firmware be served at once: its block is not stopped, and its queue has room (log 13)? -/
def State.fwRoom (s : State) (ag : Ag) (o n : Nat) : Bool :=
  ag.src == .firmware && (blocksIn o n).all (fun p => s.queueRoom (s.bankOf p) .firmware && !(s.offStopped s.stopped.1 s.stopped.2 p))

/-- Bytes as a unit sees them that has writes of its own under way: those writes have replaced what they cover. -/
def State.overlay (s : State) (ag : Ag) (a : Nat) (bs : List Byte) : List Byte :=
  let ws := s.reqs.flatMap (fun r => match r.op with
    | .wr cs => if ag.owns r && r.ph != .done then cs.map (fun c => (r.addr + c.1, c.2)) else []
    | _ => [])
  if ws.isEmpty then bs
  else (zipFrom a bs).map (fun c => ((ws.reverse.find? (fun w => w.1 == c.1)).map Prod.snd).getD c.2)

/-- A read of bytes that lie in one page and one 256 B block of a global address. -/
def State.globRead (s : State) (ag : Ag) (a va n : Nat) : State × Got :=
  let off := if gOff a then s.offCheck ag.ctx a else 0
  if off ≠ 0 then (s, .err off)
  else if s.isLocal a && s.fwRoom ag (gOffset a) n then
    let (t, st, bs) := s.devRead (gOffset a) n
    (t, if st = 0 then .ok (t.overlay ag a bs) else .err st)
  else match s.reqs.find? (fun r => ag.owns r && !r.pref && r.addr == a && r.op == .rd n) with
  | some r => (s, if r.ph = .done then (if r.st = 0 then .ok (s.overlay ag a r.res) else .err r.st) else .wait)
  | none => (s.agReq ag (.rd n) a va, .wait)

/-- The run-ahead block of a unit that covers an address and may be used: fetched or on its way, not failed, not discarded (R203, R204). -/
def State.aheadAt (s : State) (ag : Ag) (va : Nat) : Option Req :=
  s.reqs.find? (fun r => ag.owns r && r.pref && r.alloc && r.va == va / 256 * 256 && (r.ph != .done || r.st == 0))

/-- A read of bytes that lie in one page and one 256 B block. -/
def State.agPiece (s : State) (ag : Ag) (need : Need) (va n : Nat) : State × Got :=
  let (st, d) := s.xlate ag.ctx va need
  if st ≠ 0 then (s, .err st)
  else match d with
  | .win core off =>
    if off + n > (s.img ag.ctx core).lsBytes then (s, .err Code.localBounds)
    else (if s.heldCtx core = some ag.ctx then s else s.count (dkey 0x3003 0x03), .ok (s.winRead ag.ctx core off n))
  | .glob a _ =>
    match s.aheadAt ag va with
    | some r => (s, if r.ph = .done then .ok (s.overlay ag a ((r.res.drop (va % 256)).take n)) else .wait)
    | none => s.globRead ag a va n

/-- A read of virtual space (Table 07.5). -/
def State.agRead (s : State) (ag : Ag) (need : Need) (va n : Nat) : State × Got :=
  (cut 256 va n).foldl (fun (a : State × Got) (p : Nat × Nat) =>
    let (t, g) := a.1.agPiece ag need p.1 p.2
    (t, a.2.join g)) (s, .ok [])

/-- A write of bytes to a global address. -/
def State.globWrite (s : State) (ag : Ag) (a va : Nat) (bs : List Byte) : State × Status :=
  let off := if gOff a then s.offCheck ag.ctx a else 0
  if off ≠ 0 then (s, off)
  else if s.isLocal a && s.fwRoom ag (gOffset a) bs.length then s.devWrite (gOffset a) bs
  else (s.agReq ag (.wr (zipFrom 0 bs)) a va, 0)

/-- A write to virtual space, piece by piece; the first failing piece ends it (Table 07.5). -/
def State.agWrite (s : State) (ag : Ag) (va : Nat) (bs : List Byte) : State × Status :=
  (cut 256 va bs.length).foldl (fun (a : State × Status) (p : Nat × Nat) =>
    if a.2 ≠ 0 then a
    else
      let s := a.1
      let part := (bs.drop (p.1 - va)).take p.2
      let (st, d) := s.xlate ag.ctx p.1 .write
      if st ≠ 0 then (s, st)
      else match d with
      | .win core off =>
        if off + p.2 > (s.img ag.ctx core).lsBytes then (s, Code.localBounds)
        else (s.winWrite ag.ctx core off (zipFrom 0 part), 0)
      | .glob x _ => s.globWrite ag x p.1 part) (s, 0)

/-! Spaces of a descriptor (Table 03.3): 0 virtual, 1 group local store, 2 core local store. -/

def agRange (s : State) (ag : Ag) (space : Nat) : Nat × Nat :=
  spaceRange (s.img ag.ctx ag.core) ag.slot (if space = 1 then .group else .core)

def State.spRead (s : State) (ag : Ag) (space : Nat) (need : Need) (a n : Nat) : State × Got :=
  if n = 0 then (s, .ok [])
  else if space = 0 then s.agRead ag need a n
  else
    let (base, lim) := agRange s ag space
    if a + n > lim then (s, .err Code.localBounds) else (s, .ok (cellsRead (s.img ag.ctx ag.core).ls (base + a) n))

def State.spWrite (s : State) (ag : Ag) (space a : Nat) (bs : List Byte) : State × Status :=
  if bs = [] then (s, 0)
  else if space = 0 then s.agWrite ag a bs
  else
    let (base, lim) := agRange s ag space
    if a + bs.length > lim then (s, Code.localBounds)
    else (s.updImg ag.ctx ag.core (fun m => { m with ls := cellsWrite m.ls (base + a) bs }), 0)

/-- Bytes at many addresses of a space, fetched run by run in ascending order. -/
def addrRuns (as : List Nat) : List (Nat × Nat) :=
  (sortNat as).foldl (fun acc a => match acc.getLast? with
    | some (o, n) => if o + n = a then acc.dropLast ++ [(o, n + 1)] else acc ++ [(a, 1)]
    | none => [(a, 1)]) []

/-- Bytes fetched: a table of addresses, a failure, or nothing yet. -/
inductive Fetched where
  | tbl (m : Map Byte)
  | err (st : Status)
  | wait
  deriving DecidableEq, Repr

/-- Two fetches, the first first: the first failure of those that are back decides, else a wait. -/
def Fetched.join (p g : Fetched) : Fetched :=
  match p, g with
  | .tbl m, .tbl n => .tbl (m ++ n)
  | .tbl _, g => g
  | .err e, _ => .err e
  | .wait, _ => .wait
def Fetched.add (p : Fetched) (a : Nat) (g : Got) : Fetched :=
  p.join (match g with | .ok bs => .tbl (zipFrom a bs) | .err e => .err e | .wait => .wait)

def State.spFetch (s : State) (ag : Ag) (space : Nat) (need : Need) (as : List Nat) : State × Fetched :=
  (addrRuns as).foldl (fun (acc : State × Fetched) (r : Nat × Nat) =>
    match acc.2 with
    | .err _ => acc
    | prev =>
      let (t, g) := acc.1.spRead ag space need r.1 r.2
      (t, prev.add r.1 g)) (s, .tbl [])

/-- Writes of single bytes of a space, run by run in ascending order. -/
def State.spPut (s : State) (ag : Ag) (space : Nat) (cs : Map Byte) : State × Status :=
  (runsOf cs).foldl (fun (acc : State × Status) r => if acc.2 ≠ 0 then acc else acc.1.spWrite ag space r.1 r.2) (s, 0)

/-- Is this a read? -/
def isRd (r : Req) : Bool :=
  match r.op with
  | .rd _ => true
  | .gath _ => true
  | _ => false

/-- The requests of a unit that are still under way, run-ahead apart (R206). -/
def State.agBusy (s : State) (ag : Ag) : Bool := s.reqs.any (fun r => ag.owns r && !r.pref && r.ph != .done)

/-- The virtual addresses that a request translates. -/
def Req.vas (r : Req) : List Nat :=
  match r.op with
  | .gath ss => ss.map Prod.fst
  | _ => [r.va]
/-- New requests of a core's units are translated; a walk goes before the slot (R192). -/
def State.agXlate (s : State) (core : Nat) : State :=
  s.reqs.foldl (fun (t : State) r =>
    if r.raw then
      let (u, walk) := r.vas.foldl (fun (a : State × List Nat) va =>
        let (u, w) := a.1.touch core r.ctx va
        (u, a.2 ++ w)) (t, [])
      u.updReq r.id (fun x => { x with raw := false, walk := walk })
    else t) s

/-- The requests that a unit has made go on their way: translation, slots, queues, links, gateways. -/
def State.agGo (s : State) (ag : Ag) : State :=
  let s := match ag.src with
    | .core n => (s.agXlate n).grant n
    | _ => s
  s.readmit.sendAway.sendOff

/-- A unit that waits keeps nothing of what it computed but the reads it has just asked for. -/
def State.agWait (s t : State) (ag : Ag) : State :=
  { s with nextId := t.nextId, reqs := s.reqs ++ (t.reqs.drop s.reqs.length).filter isRd }.agGo ag

/-- The writes of a unit that are done are taken out; the first that failed gives its code. -/
def State.agAbsorb (s : State) (ag : Ag) : State × Status :=
  let out := fun (r : Req) => ag.owns r && r.ph == .done && !(isRd r)
  ({ s with reqs := s.reqs.filter (fun r => !(out r)) },
   (s.reqs.filter out).foldl (fun (a : Status) r => if a ≠ 0 then a else r.st) 0)

/-- The reads of a unit are taken out when it has used them; what its run-ahead holds stays until it ends (R203). -/
def State.agDrop (s : State) (ag : Ag) : State :=
  { s with reqs := s.reqs.filter (fun r => !(ag.owns r && r.ph == .done && isRd r && !r.pref)) }
/-- A unit that ends leaves nothing in its core's run-ahead buffer (R203). -/
def State.agEnd (s : State) (ag : Ag) : State := { s with reqs := s.reqs.filter (fun r => !(ag.owns r && r.pref)) }

end Sys2Proof.Machine
end

