-- ==== Sys2Proof/Machine/Journal.lean ====
section
/-!
DEFINITION. Machine/Journal.lean: the journal: records and fragments (R398, R399), replay (R400), commit and failure of a persistent
write (R401), compaction (R402), and signed tokens (R379).
-/
namespace Sys2Proof.Machine

def State.updMgmt (s : State) (f : Mgmt → Mgmt) : State := { s with mgmt := f s.mgmt }

/-- Any rail at warning fences commits and flash programming device-wide (R426), and so does a power failure until it is recorded (R428). -/
def State.fencedFlash (s : State) : Bool := s.pwr.rails.any (fun e => decide (e.2.st ≠ 0)) || s.pwr.failed

def Mgmt.area (m : Mgmt) (b : Bool) : JArea := if b then m.b else m.a
def Mgmt.setArea (m : Mgmt) (b : Bool) (x : JArea) : Mgmt := if b then { m with b := x } else { m with a := x }

/-- Bytes of a record of n value bytes: a multiple of 16 from 32 up (R398). -/
def recBytesOf (n : Nat) : Nat := max 32 (16 * ceilDiv (n + 20) 16)
def JRec.size (r : JRec) : Nat := recBytesOf (r.val.length + if r.kind = 6 then 4 else 0)
/-- Bytes used in an area; its header takes 48 (R398). -/
def JArea.fill (x : JArea) : Nat := if x.header then 48 + (x.recs.map JRec.size).foldl (· + ·) 0 else 0
def JArea.ended (x : JArea) : Bool := x.recs.any (fun r => r.kind == 3)
def areaSize : Nat := 8388608

/-- The fragments of a long value (R399), SEQs filled in later. -/
def fragments (key total : Nat) : Nat → Nat → List Byte → List JRec
  | 0, _, _ => []
  | f + 1, off, v => if v = [] then [] else
      { kind := 6, key := key, seq := 0, val := v.take 232, off := off, total := total } :: fragments key total f (off + 232) (v.drop 232)
/-- The record or run of records of one value (R399). -/
def valueRecs (key : Nat) (v : List Byte) : List JRec :=
  if v.length ≤ 236 then [{ kind := 1, key := key, seq := 0, val := v }] else fragments key v.length (v.length / 232 + 1) 0 v
def entryBytes (key : Nat) : Nat := ((entryOf key).map Entry.bytes).getD 8
def JWrite.recs (w : JWrite) : List JRec :=
  match w.signed with
  | some bs => [{ kind := 5, key := w.key, seq := 0, val := bs }]
  | none => valueRecs w.key (leBytes (entryBytes w.key) w.val)

/-- Records numbered from a SEQ upward. -/
def numbered : Nat → List JRec → List JRec
  | _, [] => []
  | n, r :: t => { r with seq := n } :: numbered (n + 1) t

/-- Records appended to the active area. -/
def State.jAppend (s : State) (rs : List JRec) : State :=
  let m := s.mgmt
  let x := m.area m.areaB
  s.updMgmt (fun m => { (m.setArea m.areaB { x with recs := x.recs ++ numbered (m.seq + 1) rs }) with seq := m.seq + rs.length })

/-! Replay (R400). -/

/-- What a replay gathers: values of entries, none for a return to default; signed records by their tag; an unfinished run. -/
structure Replay where
  vals   : List (Nat × Option Nat) := []
  signed : Map (List Byte) := []
  run    : Option (Nat × List Byte) := none
  deriving DecidableEq, Repr

def setKey {α : Type} (l : List (Nat × α)) (k : Nat) (v : α) : List (Nat × α) := mapInsert (mapErase l k) k v

def Replay.one (p : Replay) (r : JRec) : Replay :=
  match r.kind with
  | 1 => { p with vals := setKey p.vals r.key (some (leNat r.val)), run := none }
  | 4 => { p with vals := setKey p.vals r.key none, run := none }
  | 5 => { p with signed := setKey p.signed r.key r.val, run := none }
  | 6 =>
    let have0 := match p.run with
      | some (k, bs) => if k = r.key then bs else []
      | none => []
    if r.off ≠ have0.length then { p with run := none }
    else
      let bs := have0 ++ r.val
      if bs.length ≥ r.total then { p with vals := setKey p.vals r.key (some (leNat bs)), run := none }
      else { p with run := some (r.key, bs) }
  | _ => { p with run := none }

/-- Applies records in order; answers what it gathered and how many it discarded at a torn one. `snap`: snapshot records left. -/
def replayGo (hseq : Nat) : Nat → Nat → Replay → List JRec → Replay × Nat
  | _, _, p, [] => (p, 0)
  | 0, next, p, r :: t =>
    if r.torn ∨ r.seq ≠ next ∨ r.kind = 0 ∨ r.kind = 2 ∨ 6 < r.kind then (p, (r :: t).length)
    else replayGo hseq 0 (next + 1) (p.one r) t
  | n + 1, next, p, r :: t =>
    if r.torn ∨ r.seq ≠ hseq ∨ r.kind = 0 ∨ r.kind = 2 ∨ 6 < r.kind then (p, (r :: t).length)
    else replayGo hseq n next (p.one r) t
def JArea.replay (x : JArea) : Replay × Nat := replayGo x.hseq x.snap x.base {} x.recs
/-- The area that governs (R400 step 1). -/
def Mgmt.governing (m : Mgmt) : Option Bool :=
  let okA := m.a.header && m.a.ended
  let okB := m.b.header && m.b.ended
  if okA && okB then some (decide (m.a.gen < m.b.gen)) else if okA then some false else if okB then some true else none

/-- The snapshot of what a replay gathered (R402 step 2). -/
def Replay.snapshot (p : Replay) : List JRec :=
  (p.vals.flatMap (fun e => match e.2 with
    | some v => if v = dictDefault e.1 then [] else valueRecs e.1 (leBytes (entryBytes e.1) v)
    | none => [])) ++
  p.signed.map (fun e => { kind := 5, key := e.1, seq := 0, val := e.2 })

/-- R402 as one step, from the records of an area to the other area. -/
def compacted (old : JArea) (gen s : Nat) : JArea × Nat :=
  let upTo := { old with recs := old.recs.filter (fun r => decide (r.seq ≤ s)) }
  let sn := (upTo.replay.1.snapshot).map (fun r => { r with seq := s })
  let later := old.recs.filter (fun r => decide (r.seq > s) && r.kind != 3 && !r.torn)
  let copied := numbered (s + 1) later
  let last := s + copied.length + 1
  ({ erased := false, header := true, gen := gen + 1, base := s + 1, hseq := s, snap := sn.length
     recs := sn ++ copied ++ [{ kind := 3, seq := last, val := leBytes 4 sn.length }] }, last)

def State.compactNow (s : State) : State :=
  let m := s.mgmt
  match m.compact with
  | none => s
  | some q =>
    let (x, last) := compacted (m.area m.areaB) (m.area m.areaB).gen q
    (s.updMgmt (fun m =>
      let m := m.setArea m.areaB { m.area m.areaB with erased := false, header := false }
      { (m.setArea (!m.areaB) x) with areaB := !m.areaB, seq := last, compact := none })).count (dkey 0xA000 0x06)

/-- Starts a compaction unless one runs (R402 step 1). -/
def State.beginCompact (s : State) : State :=
  if s.mgmt.compact.isSome then s else s.updMgmt (fun m => { m with compact := some m.seq })

/-! Writes. -/

/-- A write of the DT9's own: what it journals and when it takes effect. -/
def State.ownWrite (s : State) (w : JWrite) : State :=
  let s := s.updMgmt (fun m => { m with own := m.own ++ [w] })
  if w.eff = 1 ∧ w.signed = none then s.setDv w.key w.val else s
/-- An entry that takes its value at once and is journaled afterwards (R452 and the like). -/
def State.persist (s : State) (key v : Nat) (keep : Bool := false) : State :=
  s.ownWrite { key := key, val := v, old := s.dv key, began := s.now, eff := 1, keep := keep }

/-- The write whose record is programmed next: the earliest of those that failed late, the DT9's own, the request in hand. -/
inductive JNext where
  | late (w : JWrite)
  | own (w : JWrite)
  | hand (w : JWrite)
  | none
  deriving DecidableEq, Repr

def Mgmt.jNext (m : Mgmt) : JNext :=
  match m.late, m.own, m.hand with
  | w :: _, _, _ => .late w
  | [], w :: _, some h => if w.began ≤ h.began then .own w else .hand h
  | [], w :: _, none => .own w
  | [], [], some h => .hand h
  | [], [], none => .none

/-- May a write be programmed now: no fence, and room, or the other area is not what it waits for (R401, R402). -/
def State.jRoom (s : State) (w : JWrite) : Bool :=
  !s.fencedFlash &&
  decide (((s.mgmt.area s.mgmt.areaB).fill) + (w.recs.map JRec.size).foldl (· + ·) 0 ≤ areaSize)

/-- Programs a write's records; a compaction starts at 75 % (R402) and with the next write after a failed one (Table 13.14). -/
def State.program (s : State) (w : JWrite) : State :=
  let s := if s.mgmt.compactNext then (s.updMgmt (fun m => { m with compactNext := false })).beginCompact else s
  let s := s.jAppend w.recs
  if (s.mgmt.area s.mgmt.areaB).fill ≥ 6291456 then s.beginCompact else s

/-- The value of a committed write takes its effect (R396); one of the next reset comes back from the journal's replay. -/
def State.takeEffect (s : State) (w : JWrite) : State :=
  if w.signed.isSome ∨ w.eff = 1 ∨ w.eff = 3 then s else s.setDv w.key w.val

/-! Signed tokens (R379, Table 14.7). -/

structure Tok8 where
  sig       : BitVec 768
  binding   : Nat
  challenge : Nat
  sub       : Nat
  target    : Nat
  op        : Nat
  ver       : Nat

def tokFields (t : Token) : Tok8 :=
  let v := t.toNat
  { sig := BitVec.ofNat 768 (bits v 256 768), binding := bits v 128 128, challenge := bits v 64 64, sub := bits v 40 8,
    target := bits v 24 16, op := bits v 16 8, ver := bits v 0 8 }

/-- SHA-384 of the identity public key. -/
def State.idKeyHash (s : State) : BitVec 384 := Config.sha384 (leBytes 97 (s.dv (dkey 0x6000 0x02)))
/-- First 16 bytes of the SHA-384 of the bound object; zero when none is bound. -/
def bindingOf : Option (List Byte) → Nat
  | none => 0
  | some o => (Config.sha384 o).toNat % 2 ^ 128

/-- A token checked when its entry is written: the operation, for OP 1 and 4 its target, what BINDING covers. A failure counts and
writes a Yew record; a success uses the challenge up. -/
def State.checkToken (s : State) (t : Token) (op : Nat) (target sub : Option Nat) (bound : Option (List Byte)) : State × Status :=
  let f := tokFields t
  let key := if op = 6 ∨ op = 7 then Config.romKey else BitVec.ofNat 776 (s.dv (dkey 0x6001 0x01))
  let msg := leBytes 32 (t.toNat % 2 ^ 256) ++ leBytes 48 s.idKeyHash.toNat
  let bad : Bool := f.ver != 1 || f.op != op || (match target with | some x => x != f.target | none => false) ||
    (match sub with | some x => x != f.sub | none => false) || (decide (op ≤ 5) && s.dv (dkey 0x6001 0x01) == 0) ||
    f.binding != bindingOf bound || !(Config.ecdsaVerify key (Config.sha384 msg) f.sig)
  let stale : Bool := match s.mgmt.challenge with
    | none => true
    | some (c, at') => c != f.challenge || decide (s.opTime > at' + 300)
  if bad then ((s.count (dkey 0x6001 0x04)).raise Ev.tokenRefused 0 Code.tokenInvalid, Code.tokenInvalid)
  else if stale then ((s.count (dkey 0x6001 0x04)).raise Ev.tokenRefused 0 Code.tokenStale, Code.tokenStale)
  else (s.updMgmt (fun m => { m with challenge := none }), 0)

end Sys2Proof.Machine
end

