-- ==== Sys2Proof/Machine/RingOps.lean ====
section
/-!
DEFINITION. Machine/RingOps.lean: rings (R331 to R336), the fields of a command (Tables 13.6, 13.8), refusals (R343, R345) and the
end of a command (R343).
-/
namespace Sys2Proof.Machine

/-! Rings. -/

def State.ringsOf (s : State) (c : Nat) : Rings := mapGet {} s.rings c
def State.updRings (s : State) (c : Nat) (f : Rings → Rings) : State := { s with rings := mapUpd {} s.rings c f }
def State.ring (s : State) (c r : Nat) : Ring := mapGet {} (s.ringsOf c).sq r
def State.updRing (s : State) (c r : Nat) (f : Ring → Ring) : State := s.updRings c (fun x => { x with sq := mapUpd {} x.sq r f })
def State.updCq (s : State) (c : Nat) (f : Cq → Cq) : State := s.updRings c (fun x => { x with cq := f x.cq })
def State.updCmd (s : State) (c r : Nat) (f : Cmd → Cmd) : State := s.updRing c r (fun x => { x with cur := x.cur.map f })

/-- Fields of SQ_CTRL and CQ_CTRL (Table 13.4). -/
def ctlEn (v : Word) : Bool := v.getLsbD 31
def ctlLoc (v : Word) : Bool := v.getLsbD 30
def ctlLog (v : Word) : Nat := fieldOf v 0 5
def ctlSize (v : Word) : Nat := 2 ^ ctlLog v

/-- A unit of a command's work is done: its timeout starts anew (R346). -/
def State.progress (s : State) (c r : Nat) : State := s.updCmd c r (fun k => { k with prog := s.now })

/-! Commands (Table 13.6). -/

def cA0 (i : Nat) : Nat := bits i 464 48
def cA1 (i : Nat) : Nat := bits i 416 48
def cA2 (i : Nat) : Nat := bits i 368 48
def cRec (i : Nat) : Nat := bits i 320 48
def cArg0 (i : Nat) : Nat := bits i 256 64
def cArg1 (i : Nat) : Nat := bits i 192 64
def cArg2 (i : Nat) : Nat := bits i 128 64
def cOpc (i : Nat) : Nat := bits i 56 8
def cFlags (i : Nat) : Nat := bits i 48 8
def cTag (i : Nat) : Nat := bits i 32 16
def cDep (i : Nat) : Bool := bitAt i 31
def cIrq (i : Nat) : Bool := bitAt i 30
/-- The context a MAP, UNMAP, QUERY, ATTEST or administrative command acts on (R339). -/
def cTarget (ring ctx i : Nat) : Nat := if ctx = 4096 then (if bitAt i 12 then 4096 else bits i 0 12) else ring

/-- The context a command of a ring of context `ctx` acts on. -/
def targetOf (ctx i : Nat) : Nat := cTarget ctx ctx i

/-- The opcodes of Table 13.7. -/
def opcodes : List Nat :=
  [0x00, 0x01, 0x02, 0x03, 0x10, 0x20, 0x21, 0x22, 0x30, 0x31, 0x32, 0x40, 0x41, 0x50, 0x51, 0x52, 0x53, 0x60, 0x61, 0x62, 0x63, 0x64]

/-- A command's memory requests: made by the firmware, in the context's name (R340; log 13). -/
def cmdAg (ctx : Nat) (c : Cmd) : Ag := { src := .firmware, ctx := ctx, owner := 0, id := c.id }
/-- The core through whose tensor-mover paths COPY, FILL and GATHER move (R340): the first served core of the context's partition, else of
the device (log 13). -/
def State.bulkAg (s : State) (ctx : Nat) (c : Cmd) : Ag :=
  match (s.partCores ctx ++ s.servedCores).head? with
  | some n => { cmdAg ctx c with src := .core n, core := n }
  | none => cmdAg ctx c

/-- Every page of a range is mapped and accepted with the permission needed (R338). -/
def State.rangeOk (s : State) (ctx va n : Nat) (need : Need) : Bool :=
  (cut 65536 va n).all (fun p => (s.xlate ctx p.1 need).1 == 0 && (s.xlate ctx (p.1 + p.2 - 1) need).1 == 0)

/-! Completion rings. -/

/-- An MSI-X vector of a function; masked while its context is free (R336, R355). -/
def State.msix (s : State) (c v : Nat) : State := if (s.ctx c).st = 0 then s else s.emit (.msix c v)

/-- A record written to the host or to the context's memory. -/
def State.ringWrite (s : State) (c : Nat) (loc : Bool) (base off : Nat) (bs : List Byte) : State :=
  if loc then
    let ag : Ag := { src := .firmware, ctx := c, id := 0 }
    let t := (s.agWrite ag (base + off) bs).1.agGo ag
    { t with reqs := t.reqs.filter (fun r => !(r.src == .firmware && r.xfer == 0 && r.ph == .done)) }
  else s.emit (.hostWrite c (base + off) bs)

/-- Is the ring full (R335)? -/
def Cq.full (q : Cq) : Bool := (q.tail + 1) % ctlSize q.ctrl == q.head

/-- A record enters the ring: PHASE, CQ_TAIL, the interrupt conditions (R335, R336). -/
def State.cqWrite (s : State) (c : Nat) (rec : Nat) : State :=
  let q := (s.ringsOf c).cq
  let s := s.ringWrite c (ctlLoc q.ctrl) q.base.toNat (32 * q.tail) (leBytes 32 (setBits (rec % 2 ^ 256) 228 1 (if q.phase then 1 else 0)))
  let tail := (q.tail + 1) % ctlSize q.ctrl
  let unsig := q.unsig + 1
  let lim := fieldOf q.irq 16 16
  let now : Bool := bitAt rec 256 || (lim != 0 && decide (unsig ≥ lim))
  let s := s.updCq c (fun q => { q with
    tail := tail
    phase := if tail = 0 then !q.phase else q.phase
    unsig := if now then 0 else unsig
    since := if q.unsig = 0 then s.now else q.since })
  if now then s.msix c 0 else s

/-- A record goes to the ring, or, while it is full, to the overflow store (R335). -/
def State.post (s : State) (c rec : Nat) : State :=
  let q := (s.ringsOf c).cq
  if ctlEn q.ctrl && !q.full && q.spill.isEmpty then s.cqWrite c rec
  else
    let s := s.updCq c (fun q => { q with spill := q.spill ++ [rec] })
    let s := if q.spill.length = 63 then s.count (dkey 0x7080 0x06) else s
    if q.spill.isEmpty then s.msix c 1 else s
/-- Is fetching paused for a context, its overflow store holding 64 records (R335)? -/
def State.fetchPaused (s : State) (c : Nat) : Bool := decide ((s.ringsOf c).cq.spill.length ≥ 64)
/-- SQ_STATUS_r and CQ_STATUS as software reads them (Table 13.3): the reason of the last refusal, and bit 15. -/
def State.sqStatus (s : State) (c r : Nat) : Nat := (s.ring c r).status.toNat * 65536 + if s.fetchPaused c then 32768 else 0
def State.cqStatus (s : State) (c : Nat) : Nat :=
  (s.ringsOf c).cq.status.toNat * 65536 + if (s.ringsOf c).cq.spill.isEmpty then 0 else 32768

/-- Records leave the overflow store in order as room appears (R335). -/
def State.unspill : Nat → Nat → State → State
  | 0, _, s => s
  | n + 1, c, s =>
    let q := (s.ringsOf c).cq
    match q.spill with
    | [] => s
    | r :: t => if ctlEn q.ctrl && !q.full then State.unspill n c ((s.updCq c (fun q => { q with spill := t })).cqWrite c r) else s

/-! The end of a command. -/

/-- Ring record (Table 13.10), PHASE left 0. -/
def ringRecord (ring : Nat) (c : Cmd) (st : Status) (result detail us : Nat) : Nat :=
  st.toNat * 2 ^ 240 + cOpc c.img * 2 ^ 232 + ring * 2 ^ 229 + (c.seq % 65536) * 2 ^ 208 + cTag c.img * 2 ^ 192 +
    (result % 2 ^ 64) * 2 ^ 128 + (detail % 2 ^ 64) * 2 ^ 64 + min us (2 ^ 32 - 1) * 2 ^ 32

/-- Commands with a record of their own at REC (R343). -/
def hasRecord (opc : Nat) : Bool := opc == 0x10 || opc == 0x40 || opc == 0x41 || opc == 0x51

/-- Records and counts of a completion (R343, R354, R443); the ring goes on (R334). `body`: the detailed record without STATUS. -/
def State.complete (s : State) (ctx ring : Nat) (c : Cmd) (st : Status) (result detail body : Nat) : State :=
  let s := if hasRecord (cOpc c.img) ∧ cRec c.img ≠ 0 ∧ cRec c.img % 32 = 0 then
      s.ringWrite ctx true (cRec c.img) 0 (leBytes 32 (st.toNat * 2 ^ 240 + body % 2 ^ 240))
    else s
  let s := s.post ctx (ringRecord ring c st result detail ((s.now - c.t0) / 1000) + if cIrq c.img then 2 ^ 256 else 0)
  let s := (s.count (dkey 0x7080 0x01)).count (ctxKey ctx 0x04)
  let s := if st = Code.kernelDeadline then s.count (dkey 0x7080 0x03) else s
  let s := if Code.isFailure st then
      (s.setDv (ctxKey ctx 0x03) (st.toNat * 65536 + cOpc c.img * 256 + ring)).raise Ev.traceCompletion 8 st
    else s
  s.updRing ctx ring (fun r => { r with cur := none, failed := Code.isFailure st, fin := r.fin + 1 })

/-- A refusal (R345): counted in 0x7080:02. -/
def State.refuse (s : State) (ctx ring : Nat) (c : Cmd) (st : Status) (detail body : Nat) : State :=
  (s.count (dkey 0x7080 0x02)).complete ctx ring c st 0 detail body

/-- Of the reasons that hold, the one Table 13.12 lists first; among equals the lowest field (R343, R345). -/
def firstReason (l : List (Bool × Status × Nat)) : Option (Status × Nat) :=
  (l.filter (fun e => e.1)).foldl (fun (m : Option (Status × Nat)) e => match m with
    | none => some e.2
    | some x => if e.2.1.toNat < x.1.toNat ∨ (e.2.1 = x.1 ∧ e.2.2 < x.2) then some e.2 else some x) none

/-- The reasons every command can be refused for: an administrative command of a tenant, DEP after a failure, a bad REC, field 4
(R334, R338, R339). Fields are numbered as Table 13.6 lists them: A0 to A2 1 to 3, REC 4, ARG0 to ARG2 5 to 7, OPC 8. -/
def State.baseReasons (s : State) (ctx ring : Nat) (c : Cmd) : List (Bool × Status × Nat) :=
  [(cOpc c.img ≥ 0x60 && ctx != 4096, Code.notAdmin, 0),
   (cDep c.img && (s.ring ctx ring).failed, Code.priorFailed, 0),
   (cRec c.img != 0 && (cRec c.img % 32 != 0 || !(s.rangeOk ctx (cRec c.img) 32 .write)), Code.commandInvalid, 4)]

/-- An address operand a command needs: not 0, aligned, mapped over its bytes with its permission (R338). -/
def State.badAddr (s : State) (ctx a n align : Nat) (need : Need) : Bool :=
  a == 0 || a % align != 0 || !(s.rangeOk ctx a n need)

/-- A row of a ring command: it acts on the command the ring has fetched, if that is its own and has not begun. -/
def ringCmd (s : State) (ctx ring opc : Nat) (body : Cmd → State) : Res :=
  if !s.running then .next s
  else match (s.ring ctx ring).cur with
  | none => .next s
  | some c => if cOpc c.img ≠ opc ∨ c.stage ≠ 0 ∨ c.tearing then .next s else .next (body c)

/-- The same with the checks that refuse the command: `why` lists its own reasons. -/
def ringCmdChecked (s : State) (ctx ring opc : Nat) (why : Cmd → List (Bool × Status × Nat)) (body : Cmd → State) : Res :=
  ringCmd s ctx ring opc (fun c =>
    match firstReason (why c ++ s.baseReasons ctx ring c) with
    | some (st, d) => s.refuse ctx ring c st d 0
    | none => body c)

/-- Bodies that need no more: they complete with OK and a RESULT. -/
def State.okCmd (s : State) (ctx ring : Nat) (c : Cmd) (result : Nat) : State := s.complete ctx ring c 0 result 0 0

end Sys2Proof.Machine
end

