-- ==== Sys2Proof/Machine/Atomic.lean ====
section
/-!
DEFINITION. Machine/Atomic.lean: ATOM and RED (R38 to R41, R195, R298, R490).
-/
namespace Sys2Proof.Machine

/-- The combining sets of lane addresses: (address, lanes ascending), in ascending order of their lowest lane (R38). -/
def combiningSets (as : List (Nat × Nat)) : List (Nat × List Nat) :=
  as.foldl (fun acc e =>
    if acc.any (fun x => x.1 == e.2) then acc.map (fun x => if x.1 = e.2 then (x.1, x.2 ++ [e.1]) else x)
    else acc ++ [(e.2, [e.1])]) []

/-- Translates the distinct addresses of an atomic or lock, in order; off-domain ones give `off` (R298). -/
def Iss.atomDests (i : Iss) (need : Need) (off : Status) (vas : List Nat) : Status × List (Nat × Dest) :=
  let (st, ds) := i.s.xlateAll i.ctx need vas
  if st ≠ 0 then (st, [])
  else if ds.any (fun d => destOff d.2) then (off, []) else (0, ds)

/-- The line of an atomic, flag or lock leaves the issuing core's cache (R194). -/
def Iss.bypass (i : Iss) (s : State) (d : Dest) : State := s.dropCached i.core i.ctx (s.lineKey d)

/-- Operand of a lane: RB, or RB and RB + 1 for 64-bit types (R490). -/
def Iss.operand (i : Iss) (r typ l : Nat) : Nat := i.grp.run64 r (typBytes typ / 4) l

/-- May an operation be used with a TYPE (Table 02.4)? -/
def atomOk (op typ : Nat) (fetch : Bool) : Bool :=
  decide (typ ≤ 4) && (fetch || op != 7) && (typ != 4 || op == 0 || op == 1 || op == 2 || op == 6 || op == 7)

/-- One atomic on a local-store word (R39 to R41, R195): new store, old value. -/
def lsAtom (ls : List Host.Cell) (a : Nat) (op : Aop) (typ v w : Nat) : List Host.Cell × Nat :=
  let old := leNat (cellsRead ls a (typBytes typ))
  (cellsWrite ls a (leBytes (typBytes typ) (atomNew op typ old v w)), old)

/-- An atomic in a local-store space: it never leaves the core. -/
def Iss.atomLocal (i : Iss) (w : IWord) (sp : Space) (op : Aop) (typ : Nat) (fetch : Bool) : State :=
  let rng := spaceRange i.img i.slot sp
  let offs := (lanesOf i.act).map (fun l => (l, laddr w i.grp l))
  let st := localCheck rng (typBytes typ) (offs.map Prod.snd)
  if st ≠ 0 then i.fault st (localBad rng (typBytes typ) (offs.map Prod.snd))
  else
    let val := fun l => i.operand w.rb.toNat typ l
    let sets := if op = .cas then offs.map (fun e => (e.2, [e.1])) else combiningSets offs
    let (ls, g) := sets.foldl (fun (a : List Host.Cell × Group) e =>
      let vs := e.2.map val
      let (ls, old) := lsAtom a.1 (rng.1 + e.1) op typ (combineSet op typ vs) (i.operand w.rc.toNat typ (e.2.headD 0))
      let g := if fetch then
          (atomReturns op typ old (List.zip e.2 vs)).foldl (fun g x => g.setRun w.rd.toNat (typBytes typ / 4) x.1 x.2) a.2
        else a.2
      (ls, g)) (i.img.ls, i.grp)
    { i with s := i.s.updImg i.ctx i.core (fun m => { m with ls := ls }) }.retireP g

/-- An atomic in virtual space: one request a combining set, lane by lane for CAS (R38, R39). -/
def Iss.atomVirtual (i : Iss) (w : IWord) (op : Aop) (typ : Nat) (fetch : Bool) : State :=
  let as := (lanesOf i.act).map (fun l => (l, vaddr w i.grp l))
  if as.any (fun e => decide (e.2 % typBytes typ ≠ 0)) then
    i.fault Code.misaligned (firstBad (fun a => decide (a % typBytes typ ≠ 0)) (as.map Prod.snd))
  else
    let sets := combiningSets as
    let (st, ds) := i.atomDests .both (if fetch then Code.offdomainLoad else Code.accessDenied) (sets.map Prod.fst)
    if st ≠ 0 then i.fault st (i.s.badVa i.ctx .both (sets.map Prod.fst))
    else
      let i := i.watch 2 (as.map (fun e => (e.1, e.2, typBytes typ)))
      let s := ds.foldl (fun (t : State) d => i.bypass t d.2) i.s
      let val := fun l => i.operand w.rb.toNat typ l
      if op = .cas then
        match as with
        | [] => i.retireP i.grp
        | (l, a) :: rest =>
          match ds.find? (fun d => d.1 == a) with
          | none => i.fault Code.pageFault
          | some d =>
            let (s, id) := i.newReq s (.at .cas typ (val l) (i.operand w.rc.toNat typ l) true) d.2 a true true false false
            let left := rest.map (fun e => (e.1, e.2, val e.1, i.operand w.rc.toNat typ e.1))
            (s.setGroup i.ctx i.core i.slot { i.grp with wait := .access [id] (.cas w.rd.toNat typ l left) }).pump i.ctx i.core
      else
        let (s, ids) := (List.zip sets ds).foldl (fun (a : State × List (Nat × List (Nat × Nat))) e =>
          let vs := e.1.2.map val
          let (t, id) := i.newReq a.1 (.at op typ (combineSet op typ vs) 0 fetch) e.2.2 e.1.1 true true false false
          (t, a.2 ++ [(id, List.zip e.1.2 vs)])) (s, [])
        let p := if fetch then Pend.atom w.rd.toNat op typ ids else Pend.issue
        (s.setGroup i.ctx i.core i.slot { i.grp with wait := .access (ids.map Prod.fst) p }).pump i.ctx i.core

/-- ATOM and RED. -/
def atomic (fetch : Bool) (g : GRef) (w : IWord) (s : State) : Res :=
  let op := bits (modNat w) 5 3
  let typ := bits (modNat w) 2 3
  let n := typBytes typ / 4
  let sp := spaceOf (bits (modNat w) 0 2)
  issue s g w (fun gr => atomOk op typ fetch && sp.isSome &&
      regsOk (raUse w (sp.getD .virt) :: (w.rb.toNat, n) ::
        ((if fetch then [(w.rd.toNat, n)] else []) ++ (if op = 7 then [(w.rc.toNat, n)] else []))) gr) (fun i =>
    if i.act = 0 then i.retire i.grp
    else match sp with
    | some .virt => i.atomVirtual w (aopOf op) typ fetch
    | some sp => i.atomLocal w sp (aopOf op) typ fetch
    | none => i.fault Code.illegal)

/-- ATOM (R38, R41). -/
def execAtom (g : GRef) (w : IWord) (s : State) : Res := atomic true g w s
/-- RED (R38). -/
def execRed (g : GRef) (w : IWord) (s : State) : Res := atomic false g w s

end Sys2Proof.Machine
end

