-- ==== Sys2Proof/Machine/Ordering.lean ====
section
/-!
DEFINITION. Machine/Ordering.lean: FENCE, LD.ACQ, ST.REL, STORE.FLAG, LOCK.ACQ and LOCK.REL (R42 to R46, R234 to R238).
-/
namespace Sys2Proof.Machine

/-- A request of one group. -/
def Req.ofGroup (r : Req) (ctx core slot : Nat) (g : Group) : Bool :=
  r.src == .core core && r.ctx == ctx && r.slot == slot && r.owner == g.launch && r.gidx == g.idx

/-- Is a request's target within the reach of a scope (Table 09.1)? -/
def State.inReach (s : State) (scope : Nat) (r : Req) : Bool :=
  if scope = 4 then r.win || !(gOff r.addr) else r.win || s.isLocal r.addr

/-- Unapplied thread writes of the group within a scope's reach (R235); a failed one still counts until it is reported. -/
def Iss.writesOut (i : Iss) (scope : Nat) : List Nat :=
  (i.s.reqs.filter (fun r => r.ofGroup i.ctx i.core i.slot i.grp && r.thread && (r.ph != .done || r.st != 0) &&
    i.s.inReach scope r)).map Req.id

/-- Scope field of Table 02.4. -/
def scopeOf (w : IWord) : Nat := bits (modNat w) 0 3
def scopeOk (w : IWord) : Bool := decide (1 ≤ scopeOf w ∧ scopeOf w ≤ 4)

/-- FENCE (R238). -/
def execFence (g : GRef) (w : IWord) (s : State) : Res :=
  issue s g w (fun _ => scopeOk w && decide (modNat w < 8)) (fun i =>
    if i.act = 0 then i.retire i.grp
    else
      let ids := i.writesOut (scopeOf w)
      if ids.isEmpty then { i with s := i.s.invalidate i.core (scopeOf w) }.retire i.grp
      else i.s.setGroup i.ctx i.core i.slot (i.grp.waitFor i.s.now ids (.fence (scopeOf w))))

/-- LD.ACQ (R234, R237). -/
def execLdAcq (g : GRef) (w : IWord) (s : State) : Res :=
  issue s g w (fun gr => scopeOk w && decide (modNat w < 8) && regsOk [(w.rd.toNat, 1), (w.ra.toNat, 2)] gr) (fun i =>
    let as := (lanesOf i.act).map (fun l => (l, vaddr w i.grp l))
    if as.isEmpty then i.retire i.grp
    else if as.any (fun e => decide (e.2 % 4 ≠ 0)) then i.fault Code.misaligned (firstBad (fun a => decide (a % 4 ≠ 0)) (as.map Prod.snd))
    else
      let sets := combiningSets as
      let (st, ds) := i.atomDests .read Code.offdomainLoad (sets.map Prod.fst)
      if st ≠ 0 then i.fault st (i.s.badVa i.ctx .read (as.map Prod.snd))
      else
        let i := i.watch 0 (as.map (fun e => (e.1, e.2, 4)))
        let s := ds.foldl (fun (t : State) d => i.bypass t d.2) i.s
        let (s, ids) := (List.zip sets ds).foldl (fun (a : State × List (Nat × List Nat)) e =>
          let (t, id) := i.newReq a.1 (.rd 4) e.2.2 e.1.1 false false false false
          (t, a.2 ++ [(id, e.1.2)])) (s, [])
        (s.setGroup i.ctx i.core i.slot (i.grp.waitFor s.now (ids.map Prod.fst)
          (.acq w.rd.toNat (scopeOf w) ids))).pump i.ctx i.core)

/-- A release's requests, held while the writes and transfers it waits for are unapplied (R235, R236). -/
def Iss.release (i : Iss) (scope : Nat) (waits xwaits : List Nat) (reqs : List (MemOp × Dest × Nat)) : State :=
  let held := !(waits.isEmpty && xwaits.isEmpty)
  let (s, ids) := reqs.foldl (fun (a : State × List Nat) e =>
    let (t, id) := i.newReq a.1 e.1 e.2.1 e.2.2 false true false held
    (t, a.2 ++ [id])) (i.s, [])
  let s := if held then
      { s with nextId := s.nextId + 1,
               rels := s.rels ++ [{ id := s.nextId, core := i.core, slot := i.slot, launch := i.grp.launch, scope := scope,
                                    waits := waits, xwaits := xwaits, ids := ids }] }
    else s
  (s.setGroup i.ctx i.core i.slot { i.grp with wait := .access ids .issue }).pump i.ctx i.core

/-- Transfers of the group whose writes are still unacknowledged (R236); a failed one still counts until it is reported. -/
def Iss.transfersOut (i : Iss) : List Nat :=
  (i.img.xfers.filter (fun x => x.slot == i.slot && x.launch == i.grp.launch && x.gidx == i.grp.idx && (!x.fin || x.st != 0))).map Xfer.id

/-- Plain writes of the group to any device of the domain still unapplied (R236). -/
def Iss.plainOut (i : Iss) : List Nat :=
  (i.s.reqs.filter (fun r => r.ofGroup i.ctx i.core i.slot i.grp && r.plain && (r.ph != .done || r.st != 0) &&
    (r.win || !(gOff r.addr)))).map Req.id

/-- ST.REL and STORE.FLAG: RB's word of each active lane in ascending lane order (R234). -/
def releaseStore (flag : Bool) (g : GRef) (w : IWord) (s : State) : Res :=
  issue s g w (fun gr => scopeOk w && decide (modNat w < 8) && regsOk [(w.rb.toNat, 1), (w.ra.toNat, 2)] gr) (fun i =>
    let as := (lanesOf i.act).map (fun l => (l, vaddr w i.grp l))
    if as.isEmpty then i.retire i.grp
    else if as.any (fun e => decide (e.2 % 4 ≠ 0)) then i.fault Code.misaligned (firstBad (fun a => decide (a % 4 ≠ 0)) (as.map Prod.snd))
    else
      let (st, ds) := i.atomDests .write Code.accessDenied (as.map Prod.snd)
      if st ≠ 0 then i.fault st (i.s.badVa i.ctx .write (as.map Prod.snd))
      else
        let i := i.watch 1 (as.map (fun e => (e.1, e.2, 4)))
        let word := fun l => (i.grp.reg w.rb.toNat l).toNat
        let i : Iss := { i with s := (List.zip as ds).foldl (fun (t : State) e =>
          if flag then i.bypass t e.2.2 else t.patchCache i.core i.ctx (zipFrom (t.lineKey e.2.2) (leBytes 4 (word e.1.1)))) i.s }
        let op := fun l => if flag then MemOp.flag (word l) else .wr (zipFrom 0 (leBytes 4 (word l)))
        let waits := if flag then i.writesOut (scopeOf w) ++ i.plainOut else i.writesOut (scopeOf w)
        i.release (scopeOf w) waits (if flag then i.transfersOut else [])
          ((List.zip as ds).map (fun e => (op e.1.1, e.2.2, e.1.2))))

/-- ST.REL (R235). -/
def execStRel (g : GRef) (w : IWord) (s : State) : Res := releaseStore false g w s
/-- STORE.FLAG (R236). -/
def execStoreFlag (g : GRef) (w : IWord) (s : State) : Res := releaseStore true g w s

/-! Locks. -/

/-- Holder tag of a lane (Table 02.6). -/
def lockTag (dev core slot lane : Nat) : Nat := 2 ^ 31 + dev * 2 ^ 25 + core * 2 ^ 15 + slot * 2 ^ 9 + lane * 2 ^ 4

/-- A value of a lock word that is no tag of the group (R44). -/
def tagOutside (dev core slot v : Nat) : Bool := v / 2 ^ 9 != lockTag dev core slot 0 / 2 ^ 9

/-- What follows when every active lane of a LOCK.ACQ has made its attempt (R43, R44, R237). A success of any lane ends the back-off (log 102). -/
def finishLock (s : State) (g : Group) (core pd scope : Nat) (got all : Lanes) (outside : Bool) : State × Group :=
  match g.run with
  | none => (s, g)
  | some p =>
    let failed := all &&& ~~~got
    let cont := p.mask &&& ~~~failed
    let s := if got = 0 then s else s.invalidate core scope
    let g := { (g.setPred pd all got) with wait := .none, backoff := if got = 0 then g.backoff else 0, wdog := if got = 0 then g.wdog else s.now }
    if failed = 0 then (s, { g with run := some { p with pc := (p.pc + 16) % 2 ^ 64, retry := false } })
    else
      let park : Park := { pc := p.pc, mask := failed, fid := p.fid, outside := outside, tried := cont == 0 }
      if cont ≠ 0 then
        (s, { g with parked := g.parked ++ [park], run := some { p with pc := (p.pc + 16) % 2 ^ 64, mask := cont, retry := false } })
      else
        let others := if p.retry then g.parked else g.parked.map (fun k => { k with tried := false })
        (s, { g with parked := others ++ [park], run := none })

/-- One attempt against a lock word: 0 acquired, 1 failed, 2 misuse (R43). -/
def lockOutcome (own old : Nat) : Nat := if old = 0 then 0 else if old = own then 2 else 1

/-- LOCK.ACQ (R42, R43, R234). A misuse in a local space undoes it whole (log 102). -/
def execLockAcq (g : GRef) (w : IWord) (s : State) : Res :=
  let sp := spaceOf (bits (modNat w) 6 2)
  issue s g w (fun gr => scopeOk w && decide (bits (modNat w) 3 3 = 0) && sp.isSome && regsOk [raUse w (sp.getD .virt)] gr) (fun i =>
    let tag := fun l => lockTag i.s.dev.deviceId i.core i.slot l
    if i.act = 0 then i.retire i.grp
    else match sp with
    | some .virt =>
      let as := (lanesOf i.act).map (fun l => (l, vaddr w i.grp l))
      if as.any (fun e => decide (e.2 % 4 ≠ 0)) then i.fault Code.misaligned (firstBad (fun a => decide (a % 4 ≠ 0)) (as.map Prod.snd))
      else
        let (st, ds) := i.atomDests .both Code.offdomainLoad (as.map Prod.snd)
        if st ≠ 0 then i.fault st (i.s.badVa i.ctx .both (as.map Prod.snd))
        else
          let i := i.watch 2 (as.map (fun e => (e.1, e.2, 4)))
          let s := ds.foldl (fun (t : State) d => i.bypass t d.2) i.s
          (match List.zip as ds with
           | [] => i.retire i.grp
           | e :: rest =>
             let (s, id) := i.newReq s (.at .cas 1 0 (tag e.1.1) true) e.2.2 e.1.2 false true false false
             (s.setGroup i.ctx i.core i.slot (i.grp.waitFor s.now [id]
               (.lock w.pd.toNat (scopeOf w) e.1.1 (rest.map (fun x => x.1)) 0 i.act false))).pump i.ctx i.core)
    | some sp =>
      let rng := spaceRange i.img i.slot sp
      let offs := (lanesOf i.act).map (fun l => (l, laddr w i.grp l))
      let st := localCheck rng 4 (offs.map Prod.snd)
      if st ≠ 0 then i.fault st (localBad rng 4 (offs.map Prod.snd))
      else
        let (ls, got, outside, bad) := offs.foldl (fun (a : List Host.Cell × Lanes × Bool × Bool) e =>
          let (ls, got, outside, bad) := a
          let (ls', old) := lsAtom ls (rng.1 + e.2) .cas 1 0 (tag e.1)
          match lockOutcome (tag e.1) old with
          | 0 => (ls', got ||| laneBit e.1, outside, bad)
          | 1 => (ls', got, outside || tagOutside i.s.dev.deviceId i.core i.slot old, bad)
          | _ => (ls', got, outside, true)) (i.img.ls, 0, false, false)
        if bad then i.fault Code.lockMisuse
        else
          let (s, gr) := finishLock (i.s.updImg i.ctx i.core (fun m => { m with ls := ls })) i.grp i.core w.pd.toNat (scopeOf w) got i.act outside
          { i with s := s }.put gr
    | none => i.fault Code.illegal)

/-- Releases local lock words: the new store, or none when one does not hold its lane's own tag (R46). -/
def unlockLocal (dev core slot : Nat) (ls : List Host.Cell) (offs : List (Nat × Nat)) : Option (List Host.Cell) :=
  offs.foldl (fun a e => a.bind (fun ls =>
    let t := lockTag dev core slot e.1
    if leNat (cellsRead ls e.2 4) = t then some (cellsWrite ls e.2 (leBytes 4 0)) else none)) (some ls)

/-- LOCK.REL (R46, R234, R235). -/
def execLockRel (g : GRef) (w : IWord) (s : State) : Res :=
  let sp := spaceOf (bits (modNat w) 6 2)
  issue s g w (fun gr => scopeOk w && decide (bits (modNat w) 3 3 = 0) && sp.isSome && regsOk [raUse w (sp.getD .virt)] gr) (fun i =>
    let tag := fun l => lockTag i.s.dev.deviceId i.core i.slot l
    let op := fun l => MemOp.at .cas 1 (tag l) 0 true
    if i.act = 0 then i.retire i.grp
    else match sp with
    | some .virt =>
      let as := (lanesOf i.act).map (fun l => (l, vaddr w i.grp l))
      if as.any (fun e => decide (e.2 % 4 ≠ 0)) then i.fault Code.misaligned (firstBad (fun a => decide (a % 4 ≠ 0)) (as.map Prod.snd))
      else
        let (st, ds) := i.atomDests .both Code.accessDenied (as.map Prod.snd)
        if st ≠ 0 then i.fault st (i.s.badVa i.ctx .both (as.map Prod.snd))
        else
          let i := i.watch 2 (as.map (fun e => (e.1, e.2, 4)))
          let i : Iss := { i with s := ds.foldl (fun (t : State) d => i.bypass t d.2) i.s }
          i.release (scopeOf w) (i.writesOut (scopeOf w)) [] ((List.zip as ds).map (fun e => (op e.1.1, e.2.2, e.1.2)))
    | some sp =>
      let rng := spaceRange i.img i.slot sp
      let offs := (lanesOf i.act).map (fun l => (l, laddr w i.grp l))
      let st := localCheck rng 4 (offs.map Prod.snd)
      if st ≠ 0 then i.fault st (localBad rng 4 (offs.map Prod.snd))
      else
        let waits := i.writesOut (scopeOf w)
        if waits.isEmpty then
          (match unlockLocal i.s.dev.deviceId i.core i.slot i.img.ls (offs.map (fun e => (e.1, rng.1 + e.2))) with
           | none => i.fault Code.lockMisuse
           | some ls => ({ i with s := i.s.updImg i.ctx i.core (fun m => { m with ls := ls }) } : Iss).retireP i.grp)
        else
          let n := i.s.reqs.length
          let s := i.release (scopeOf w) waits [] (offs.map (fun e => (op e.1, Dest.win i.core (rng.1 + e.2), 0)))
          let s := { s with reqs := s.reqs.take n ++ (s.reqs.drop n).map (fun (r : Req) => { r with noslot := true, ph := .slot }) }
          s.issueSweep i.ctx i.core
    | none => i.fault Code.illegal)

end Sys2Proof.Machine
end

