-- ==== Sys2Proof/Machine/Response.lean ====
section
/-!
DEFINITION. Machine/Response.lean: the events of a core that no instruction issues: a group's start (R27, R341), responses
(R28, R30, R237, R238), releases (R235, R236, R251), the back-off and the watchdog (R44, R48), and stream prefetch (R204 to R206).
-/
namespace Sys2Proof.Machine

/-! Group start. -/

/-- A group of a launch starts in a slot (R23, R27): all registers zero, all lanes active, ready at once. -/
def newGroup (l : Launch) (idx now : Nat) : Group :=
  { idx := idx, launch := l.id, nregs := l.nregs, run := some { pc := l.entry, mask := 0xFFFFFFFF }, wdog := now }

/-- The next group of the core's launch starts in the lowest free slot, when both exist (R27, R341). -/
def State.startGroup (s : State) (ctx core : Nat) : State :=
  let i := s.img ctx core
  match s.launch? i.launch with
  | none => s
  | some l =>
    if l.fallen || decide (i.nextIdx ≥ l.groups) then s
    else match lowest i.nslots (fun k => (mapFind i.groups k).isNone) with
      | none => s
      | some k =>
        let lsBytes := 1572864 - 1024 * i.cacheKiB
        let s := s.setImg ctx core { i with
          groups := mapSet emptyGroup i.groups k (newGroup l i.nextIdx s.now), nextIdx := i.nextIdx + i.stride, lsBytes := lsBytes
          ls := i.ls.filter (fun e => decide (e.1 < lsBytes)) }
        (s.updLaunch l.id (fun l => { l with begun := l.begun.orElse (fun _ => some s.now) })).freezeSync ctx core

/-- GROUP_START (R27). -/
def execGroupStart (core : Fin 576) (s : State) : Res :=
  if !s.running then .next s
  else match s.liveCtx core.val with
    | some c => .next (s.startGroup c core.val)
    | none => .next s

/-! Releases. -/

/-- Releases that wait for one of some failed writes are never applied (R251), and neither are those that wait for them. Each
counts in 0x3020:03. Structural on fuel. -/
def State.dropRels : Nat → List Nat → State → State
  | 0, _, s => s
  | n + 1, ids, s =>
    let hit := s.rels.filter (fun r => r.waits.any ids.contains)
    if hit.isEmpty then s
    else
      let gone := hit.flatMap Rel.ids
      let t := { s with rels := s.rels.filter (fun r => !(r.waits.any ids.contains)), reqs := s.reqs.filter (fun r => !(gone.contains r.id)) }
      State.dropRels n gone (t.count (dkey 0x3020 0x03) hit.length)

/-- Is a wait of a release satisfied: the request applied, or gone after its acknowledgement? -/
def State.applied (s : State) (id : Nat) : Bool :=
  match s.req? id with
  | none => true
  | some r => r.ph == .done && r.st == 0

/-- The transfer with an identifier at a core of a context. -/
def State.xfer? (s : State) (ctx core id : Nat) : Option Xfer := (s.img ctx core).xfers.find? (fun x => x.id == id)

/-- Does a request release a lock (R46)? -/
def isUnlock (r : Req) : Bool :=
  match r.op with
  | .at .cas _ v 0 _ => v != 0 && r.thread && !r.plain
  | _ => false

/-- A group faults by a response: at the instruction that issued the request (R30, R49). A group that has ended leaves the fault to
its launch. -/
def State.faultReq (s : State) (r : Req) (core : Nat) (st : Status) : State :=
  let s := State.dropRels (s.rels.length + 1) [r.id] s
  match mapFind (s.img r.ctx core).groups r.slot with
  | some g =>
    if g.launch = r.owner ∧ g.idx = r.gidx then s.groupFault r.ctx core r.slot g st r.ipc r.va
    else (s.countCode r.ctx st).failLaunch r.owner st core r.slot r.ipc r.va
  | none => (s.countCode r.ctx st).failLaunch r.owner st core r.slot r.ipc r.va

/-! Responses. -/

/-- Address lists of a group's accesses: the own tag test of LOCK.ACQ (R43). -/
def State.ownTag (s : State) (core slot lane : Nat) : Nat := lockTag s.dev.deviceId core slot lane

/-- A group whose instruction is complete goes on after it. -/
def State.retireAt (s : State) (ctx core slot : Nat) (g : Group) (progress : Bool) : State :=
  s.putGroup ctx core slot (if progress then { g.step16 with wait := .none, wdog := s.now } else g.step16.resumed s.now)

/-- The instruction's view of a group outside its issue. -/
def State.issOf (s : State) (ctx core slot : Nat) (g : Group) : Iss :=
  { s := s, ctx := ctx, core := core, slot := slot, img := s.img ctx core, grp := g,
    path := g.run.getD { pc := 0, mask := 0 }, act := 0 }

/-- The next of several requests issued one after the other: CAS and LOCK.ACQ (R39, R43). -/
def State.nextAttempt (s : State) (ctx core slot : Nat) (g : Group) (op : MemOp) (va : Nat) (plain : Bool) (p : Pend) : State :=
  let (st, d) := s.xlate ctx va .both
  if st ≠ 0 then s.groupFault ctx core slot g st ((g.run.map Path.pc).getD 0) va
  else
    let i := s.issOf ctx core slot g
    let (t, id) := i.newReq s op d va plain true false false
    t.setGroup ctx core slot { g with wait := .access [id] p }

/-- A group takes the response of one of its requests (R28, R41, R43, R237, R238). `left`: its requests still out. What earlier lanes of a
misused LOCK.ACQ did in virtual space stands (log 102). -/
def State.deliver (s : State) (r : Req) (core : Nat) (g : Group) (left : List Nat) (p : Pend) : State :=
  let ctx := r.ctx
  let slot := r.slot
  let old := leNat r.res
  match p with
  | .load rd size addrs lines =>
    let lines := lines ++ [(r.va, r.res)]
    if left.isEmpty then s.retireAt ctx core slot (finishLoad g rd size addrs lines) false
    else s.setGroup ctx core slot { g with wait := .access left (.load rd size addrs lines) }
  | .atom rd op typ sets =>
    let mine := ((sets.find? (fun e => e.1 == r.id)).map Prod.snd).getD []
    let g := (atomReturns op typ old mine).foldl (fun g x => g.setRun rd (typBytes typ / 4) x.1 x.2) g
    if left.isEmpty then s.retireAt ctx core slot g true
    else s.setGroup ctx core slot { g with wait := .access left (.atom rd op typ sets) }
  | .cas rd typ lane rest =>
    let g := g.setRun rd (typBytes typ / 4) lane old
    (match rest with
     | [] => s.retireAt ctx core slot g true
     | (l, va, cmp, swap) :: more => s.nextAttempt ctx core slot g (.at .cas typ cmp swap true) va true (.cas rd typ l more))
  | .acq rd scope words =>
    let lanes := ((words.find? (fun e => e.1 == r.id)).map Prod.snd).getD []
    let g := lanes.foldl (fun g l => g.setReg rd l (BitVec.ofNat 32 old)) g
    if left.isEmpty then (s.invalidate core scope).retireAt ctx core slot g false
    else s.setGroup ctx core slot { g with wait := .access left (.acq rd scope words) }
  | .lock pd scope lane rest got all outside =>
    (match lockOutcome (s.ownTag core slot lane) old with
     | 2 => s.groupFault ctx core slot g Code.lockMisuse r.ipc r.va
     | k =>
       let got := if k = 0 then got ||| laneBit lane else got
       let outside := outside || (k == 1 && tagOutside s.dev.deviceId core slot old)
       (match rest with
        | [] =>
          let (t, g) := finishLock s (g.resumed s.now) core pd scope got all outside
          t.putGroup ctx core slot g
        | (l, va) :: more =>
          s.nextAttempt ctx core slot g (.at .cas 1 0 (s.ownTag core slot l) true) va false (.lock pd scope l more got all outside)))
  | .fence scope =>
    if left.isEmpty then ((s.countFree (dkey 0x3020 0x04)).invalidate core scope).retireAt ctx core slot g false
    else s.setGroup ctx core slot { g with wait := .access left (.fence scope) }
  | .issue =>
    if left.all (fun id => match s.req? id with | some x => x.ph != .waiting | none => true) then s.retireAt ctx core slot g true
    else s.setGroup ctx core slot { g with wait := .access left .issue }

/-- A request of a group is complete: the group takes it when it waits for it. -/
def State.notify (s : State) (r : Req) (core : Nat) : State :=
  match mapFind (s.img r.ctx core).groups r.slot with
  | none => s
  | some g =>
    if g.launch = r.owner ∧ g.idx = r.gidx then
      (match g.wait with
       | .access ids p =>
         if ids.contains r.id then s.deliver r core g (ids.filter (fun x => x != r.id)) p else s
       | _ => s)
    else s

/-- A thread request's response reaches its core: its slot is free, its line may be cached, its group takes it. -/
def State.respond (s : State) (r : Req) (core : Nat) : State :=
  let s := { s with reqs := s.reqs.filter (fun x => x.id != r.id) }
  let i := s.img r.ctx core
  let s := if r.alloc && r.st == 0 && s.liveCtx core == some r.ctx && i.cacheKiB != 0 then
      s.setCache core (fillLine i.cacheKiB (s.cache core)
        { addr := if r.win then mkGlobal s.dev.deviceId r.addr else r.addr, ctx := r.ctx, data := r.res, pref := r.pref })
    else s
  if r.pref then s
  else if r.st ≠ 0 then s.faultReq r core r.st
  else if isUnlock r && leNat r.res != (match r.op with | .at _ _ v _ _ => v | _ => 0) then s.faultReq r core Code.lockMisuse
  else s.notify r core

/-- ACCESS_RESPONSE (R28): the response of an applied or failed request of a thread; a window access is applied by the target core's
memory unit as it is answered (R195). -/
def execAccessResponse (req : Nat) (s : State) : Res :=
  if !s.running then .next s
  else match s.req? req with
  | none => .next s
  | some r =>
    match r.src with
    | .core n =>
      if r.xfer ≠ 0 then .next s
      else if r.ph = .done then .next ((s.respond r n).pump r.ctx n)
      else if r.win ∧ r.ph = .queued ∧ s.winTurn r then
        let s := s.applyReq r
        .next (((s.respond ((s.req? req).getD r) n)).pump r.ctx n)
      else .next s
    | _ => .next s

/-! Releases let go. -/

/-- The held requests of a release are let go; those of a local lock are applied at once by the core's memory unit (R46, R195). -/
def State.letGo (s : State) (ids : List Nat) : State :=
  ids.foldl (fun (t : State) id =>
    match t.req? id with
    | none => t
    | some r =>
      if r.noslot then
        let core := (r.addr - winBase) / 0x200000
        let off := (r.addr - winBase) % 0x200000
        let t := { t with reqs := t.reqs.filter (fun x => x.id != id) }
        match r.op with
        | .at op typ v w _ =>
          let ls := (t.img r.ctx core).ls
          if leNat (cellsRead ls off 4) = v then
            (t.updImg r.ctx core (fun m => { m with ls := (lsAtom ls off op typ v w).1 })).notify r core
          else t.faultReq r core Code.lockMisuse
        | _ => t
      else t.updReq id (fun x => { x with held := false })) s

/-- RELEASE_APPLY: a release whose writes are applied goes to its destination; one of whose transfers failed is never applied, and
its group faults with the transfer's code (R235, R236, R251). -/
def execReleaseApply (rel : Nat) (s : State) : Res :=
  if !s.running then .next s
  else match s.rels.find? (fun r => r.id == rel) with
  | none => .next s
  | some r =>
    match (r.ids.head?).bind s.req? with
    | none => .next { s with rels := s.rels.filter (fun x => x.id != rel) }
    | some q =>
      let xs := r.xwaits.filterMap (fun x => s.xfer? q.ctx r.core x)
      match xs.find? (fun x => x.fin && x.st != 0) with
      | some x =>
        let t := { s with rels := s.rels.filter (fun y => y.id != rel), reqs := s.reqs.filter (fun y => !(r.ids.contains y.id)) }
        .next (((State.dropRels (t.rels.length + 1) r.ids (t.count (dkey 0x3020 0x03))).faultReq q r.core x.st).pump q.ctx r.core)
      | none =>
        if r.waits.all s.applied && xs.all (fun x => x.fin) then
          .next ((({ s with rels := s.rels.filter (fun x => x.id != rel) }.countFree (dkey 0x3020 0x04)).letGo r.ids).pump q.ctx r.core)
        else .next s

/-! Back-off and watchdog. -/

/-- LOCK_BACKOFF_EXPIRY (R44): the parked lanes retry. -/
def execLockBackoffExpiry (g : GRef) (s : State) : Res :=
  if !s.running then .next s
  else match s.groupAt g.core.val g.slot.val with
  | none => .next s
  | some h =>
    if h.grp.wait = .backoff then
      .next (s.putGroup h.ctx g.core.val g.slot.val (({ h.grp with wait := .none }).retryWhere (fun _ => true)))
    else .next s

/-- Does the watchdog run: not during a halt, an off-core wait or a token wait (R48, R60)? -/
def Group.watched (g : Group) : Bool :=
  !g.halt.halted && (match g.wait with
    | .none => true
    | .gsync _ => true
    | .backoff => true
    | _ => false)

/-- Watchdog period, in ns (0x4010:01). -/
def State.watchdog (s : State) : Nat := 1000000 * s.dv (dkey 0x4010 0x01)

/-- GROUP_WATCHDOG_EXPIRY (R48): the period has passed without a progress event, pauses not counted. -/
def execGroupWatchdogExpiry (g : GRef) (s : State) : Res :=
  if !s.running then .next s
  else match s.groupAt g.core.val g.slot.val with
  | none => .next s
  | some h =>
    if h.grp.watched && decide (h.grp.wdog + s.watchdog ≤ s.now) then
      let pc := (h.grp.run.map Path.pc).getD ((h.grp.parked.head?.map Park.pc).getD 0)
      .next (s.groupFault h.ctx g.core.val g.slot.val h.grp Code.livelock pc)
    else .next s

/-! Stream prefetch. -/

/-- May a prefetch read a virtual address: an accepted, readable, local HBM or near-tier page of the context (R204)? -/
def State.prefetchable (s : State) (ctx va : Nat) : Option (Nat × Bool) :=
  match leafOf (s.ctx ctx).leaves va with
  | none => none
  | some (p, l) =>
    let a := leafTarget p l va
    if l.acc && l.r && s.isLocal a && (match s.region (gOffset a) with | .hbm => true | .near => true | _ => false) then some (a, l.nc)
    else none

/-- Is a line one of the 4 that follow a group's last miss, in its 64 KiB region (R205)? -/
def streamTarget (g : Group) (line : Nat) : Bool :=
  decide (g.streak ≥ 3) && decide (line % 64 = 0) && decide (g.lastMiss < line) && decide (line ≤ g.lastMiss + 256) &&
  decide (line / 65536 = g.lastMiss / 65536)

/-- STREAM_PREFETCH (R204 to R206): fetches a line ahead of a group's ascending misses, or drops it. -/
def execStreamPrefetch (g : GRef) (line : Nat) (s : State) : Res :=
  let core := g.core.val
  if !s.running || s.dv (dkey 0x3002 0x02) == 0 then .next s
  else match s.groupAt core g.slot.val with
  | none => .next s
  | some h =>
    if !(streamTarget h.grp line) || h.img.cacheKiB == 0 || decide (slotsUsed s.reqs core + 5 > 32) then .next s
    else match s.prefetchable h.ctx line with
      | none => .next (s.count (dkey 0x3002 0x04))
      | some (a, nc) =>
        if nc then .next (s.count (dkey 0x3002 0x04))
        else if (lineHit (s.cache core) h.ctx a).isSome then .next s
        else
          let r : Req := { id := s.nextId, src := .core core, ctx := h.ctx, slot := g.slot.val, op := .rd 64, addr := a, va := line,
                           ph := .slot, alloc := true, pref := true, owner := h.grp.launch, gidx := h.grp.idx, dev := s.dev.deviceId }
          if s.slotFree r core then
            .next ((({ s with nextId := s.nextId + 1, reqs := s.reqs ++ [r] }).count (dkey 0x3002 0x03)).pump h.ctx core)
          else .next s

end Sys2Proof.Machine
end

