-- ==== Sys2Proof/Machine/Integer.lean ====
section
/-!
DEFINITION. Machine/Integer.lean: the integer instructions, class 0x1 of Table 02.5: two's complement, results modulo 2^32 (R37).
-/
namespace Sys2Proof.Machine

/-- A vector instruction: RD in every active lane from the lane's operands (R36, R37). -/
def laneOp (g : GRef) (w : IWord) (s : State) (legal : Bool) (srcs : List (Nat × Nat)) (f : Group → Nat → Word) : Res :=
  issue s g w (fun gr => legal && regsOk ((w.rd.toNat, 1) :: srcs) gr) (fun i =>
    i.retire (i.grp.setLanes w.rd.toNat i.act (fun l => f i.grp l)))

def raUse1 (w : IWord) : Nat × Nat := (w.ra.toNat, 1)
def rcUse (w : IWord) : Nat × Nat := (w.rc.toNat, 1)
/-- Value of RA in a lane. -/
def opA (w : IWord) (g : Group) (l : Nat) : Word := g.reg w.ra.toNat l
/-- Value of RC in a lane. -/
def opC (w : IWord) (g : Group) (l : Nat) : Word := g.reg w.rc.toNat l

/-- RA and RB, or IMM[31:0], with MOD[0] alone defined. -/
def laneOp2 (g : GRef) (w : IWord) (s : State) (f : Word → Word → Word) : Res :=
  laneOp g w s (modImm w) (raUse1 w :: rbUse w) (fun gr l => f (opA w gr l) (opB w gr l))

/-- SHL and SHR: a count of 32 or more gives 0 (R37). -/
def shlWord (a c : Word) : Word := if c.toNat ≥ 32 then 0 else a <<< c.toNat
def shrWord (a c : Word) : Word := if c.toNat ≥ 32 then 0 else a >>> c.toNat
/-- SAR: a count of 32 or more gives 32 copies of bit 31 (R37). -/
def sarWord (a c : Word) : Word := a.sshiftRight (min c.toNat 31)
/-- Leading zero bits, 32 for zero (R37). -/
def lzcWord (a : Word) : Word := if a = 0 then 32 else BitVec.ofNat 32 (31 - a.toNat.log2)
def bcntWord (a : Word) : Word := BitVec.ofNat 32 ((List.range 32).filter (fun k => a.getLsbD k)).length

/-- Comparison of IMIN and IMAX: MOD[1] = 1 unsigned (R37). -/
def lessWord (w : IWord) (a b : Word) : Bool := if bitAt (modNat w) 1 then a.ult b else a.slt b

def execIadd (g : GRef) (w : IWord) (s : State) : Res := laneOp2 g w s (· + ·)
def execIsub (g : GRef) (w : IWord) (s : State) : Res := laneOp2 g w s (· - ·)
def execImul (g : GRef) (w : IWord) (s : State) : Res := laneOp2 g w s (· * ·)
def execImla (g : GRef) (w : IWord) (s : State) : Res :=
  laneOp g w s (modImm w) (raUse1 w :: rcUse w :: rbUse w) (fun gr l => opA w gr l * opB w gr l + opC w gr l)
def execImin (g : GRef) (w : IWord) (s : State) : Res :=
  laneOp g w s (decide (modNat w < 4)) (raUse1 w :: rbUse w)
    (fun gr l => if lessWord w (opB w gr l) (opA w gr l) then opB w gr l else opA w gr l)
def execImax (g : GRef) (w : IWord) (s : State) : Res :=
  laneOp g w s (decide (modNat w < 4)) (raUse1 w :: rbUse w)
    (fun gr l => if lessWord w (opA w gr l) (opB w gr l) then opB w gr l else opA w gr l)
def execAnd (g : GRef) (w : IWord) (s : State) : Res := laneOp2 g w s (· &&& ·)
def execOr (g : GRef) (w : IWord) (s : State) : Res := laneOp2 g w s (· ||| ·)
def execXor (g : GRef) (w : IWord) (s : State) : Res := laneOp2 g w s (· ^^^ ·)
def execShl (g : GRef) (w : IWord) (s : State) : Res := laneOp2 g w s shlWord
def execShr (g : GRef) (w : IWord) (s : State) : Res := laneOp2 g w s shrWord
def execSar (g : GRef) (w : IWord) (s : State) : Res := laneOp2 g w s sarWord
def execBcnt (g : GRef) (w : IWord) (s : State) : Res :=
  laneOp g w s (modZero w) [raUse1 w] (fun gr l => bcntWord (opA w gr l))
def execLzc (g : GRef) (w : IWord) (s : State) : Res :=
  laneOp g w s (modZero w) [raUse1 w] (fun gr l => lzcWord (opA w gr l))

/-- ICMP writes the comparison that IMM[35:32] selects to PD (R37). -/
def execIcmp (g : GRef) (w : IWord) (s : State) : Res :=
  let sel := immBits w 32 4
  issue s g w (fun gr => decide (modNat w < 4) && decide (sel ≤ 5) && regsOk (raUse1 w :: rbUse w) gr) (fun i =>
    i.retire (i.grp.setPred w.pd.toNat i.act
      (lanesWhere i.act (fun l => icmpSel sel (bitAt (modNat w) 1) (opA w i.grp l) (opB w i.grp l)))))

/-- CSEL selects by the predicate IMM[34:32] (R37). -/
def execCsel (g : GRef) (w : IWord) (s : State) : Res :=
  laneOp g w s (modImm w) (raUse1 w :: rbUse w)
    (fun gr l => if (gr.pred (immBits w 32 3)).getLsbD l then opA w gr l else opB w gr l)

end Sys2Proof.Machine
end

