-- ==== Sys2Proof/Machine/FpLane.lean ====
section
/-!
DEFINITION. Machine/FpLane.lean: the FP32 instructions, class 0x2 of Table 02.5, and the packed multiply-adds (R109 to R111). They
feed no numeric counter.
-/
namespace Sys2Proof.Machine

def fval (x : Word) : Ex := fp32Val x.toNat
def fword (y : Ex) : Word := BitVec.ofNat 32 (fp32Bits y)

/-- One rounding of a function of RA and RB. -/
def fpOp2 (g : GRef) (w : IWord) (s : State) (f : Ex → Ex → Ex) : Res :=
  laneOp2 g w s (fun a b => fword (f (fval a) (fval b)))
/-- One rounding of a function of RA. -/
def fpOp1 (g : GRef) (w : IWord) (s : State) (f : Ex → Ex) : Res :=
  laneOp g w s (modZero w) [raUse1 w] (fun gr l => fword (f (fval (opA w gr l))))

def execFadd (g : GRef) (w : IWord) (s : State) : Res := fpOp2 g w s Ex.add
def execFmul (g : GRef) (w : IWord) (s : State) : Res := fpOp2 g w s Ex.mul
/-- FMA: one rounding of RA × RB + RC (R109). -/
def execFma (g : GRef) (w : IWord) (s : State) : Res :=
  laneOp g w s (modImm w) (raUse1 w :: rcUse w :: rbUse w)
    (fun gr l => fword (Ex.add (Ex.mul (fval (opA w gr l)) (fval (opB w gr l))) (fval (opC w gr l))))
def execFmin (g : GRef) (w : IWord) (s : State) : Res := fpOp2 g w s exMin
def execFmax (g : GRef) (w : IWord) (s : State) : Res := fpOp2 g w s exMax
/-- FCMP: IMM[35:32] selects the comparison written to PD (R110). -/
def execFcmp (g : GRef) (w : IWord) (s : State) : Res :=
  let sel := immBits w 32 4
  issue s g w (fun gr => modImm w && decide (sel ≤ 7) && regsOk (raUse1 w :: rbUse w) gr) (fun i =>
    i.retire (i.grp.setPred w.pd.toNat i.act
      (lanesWhere i.act (fun l => fcmpSel sel (fval (opA w i.grp l)) (fval (opB w i.grp l))))))
def execRcp (g : GRef) (w : IWord) (s : State) : Res := fpOp1 g w s rcpEx
def execRsqrt (g : GRef) (w : IWord) (s : State) : Res := fpOp1 g w s rsqrtEx
def execExp2 (g : GRef) (w : IWord) (s : State) : Res := fpOp1 g w s exp2Ex
def execLog2 (g : GRef) (w : IWord) (s : State) : Res := fpOp1 g w s log2Ex

/-- Two packed elements, each RA × RB + RC rounded once (R111). -/
def packedFma (f : Fmt) (a b c : Word) : Word :=
  let el := fun (k : Nat) =>
    let v := fun (x : Word) => decodeFp f (bits x.toNat (16 * k) 16)
    encodeFp f (roundTo f (Ex.add (Ex.mul (v a) (v b)) (v c)))
  BitVec.ofNat 32 (el 0 + el 1 * 65536)

def execPfmaH (g : GRef) (w : IWord) (s : State) : Res :=
  laneOp g w s (modImm w) (raUse1 w :: rcUse w :: rbUse w)
    (fun gr l => packedFma fp16 (opA w gr l) (opB w gr l) (opC w gr l))
def execPfmaB (g : GRef) (w : IWord) (s : State) : Res :=
  laneOp g w s (modImm w) (raUse1 w :: rcUse w :: rbUse w)
    (fun gr l => packedFma bf16 (opA w gr l) (opB w gr l) (opC w gr l))

end Sys2Proof.Machine
end

