-- ==== Sys2Proof/Machine/Convert.lean ====
section
/-!
DEFINITION. Machine/Convert.lean: CVT (R113, R114, R118) and the lane exchanges LXCH, LVOTE and BSEL (R37).
-/
namespace Sys2Proof.Machine

/-- A source value and whether it came in as an overflow (OCP import, R96). -/
structure Srcv where
  v    : Ex
  ovf : Bool := false

/-- Import of the OCP encoding: the codes of 256 to 448 become infinity (R96). -/
def importOcp (c : Nat) : Srcv :=
  match decodeFp ocp8 c with
  | .fin n m e => if aboveMax e4m3 m e then ⟨.inf n, true⟩ else ⟨.fin n m e, false⟩
  | x => ⟨x, false⟩

/-- Selector values of Table 04.5. -/
def selBits (k : Nat) : Nat := if k = 1 ∨ k = 2 then 16 else if k = 3 ∨ k = 4 ∨ k = 5 then 8 else 32
def selFmt (k : Nat) : Fmt :=
  match k with
  | 1 => fp16 | 2 => bf16 | 3 => e5m2 | 4 => e4m3 | 5 => e4m3 | _ => fp32
def selVal (k c : Nat) : Srcv :=
  match k with
  | 5 => importOcp c
  | 6 => ⟨Ex.ofInt (signedOf 32 c), false⟩
  | 7 => ⟨Ex.ofNat c, false⟩
  | k => ⟨decodeFp (selFmt k) c, false⟩

/-- Elements beyond which SSEL and DSEL are illegal. -/
def selMax (k : Nat) : Nat := 32 / selBits k

/-- May a destination be rounded stochastically (R107)? -/
def srDest (k : Nat) : Bool := decide (2 ≤ k ∧ k ≤ 5)

/-- Code of a rounded value in a destination format, R96 export for the OCP encoding, with its counts (R118). -/
def putValue (f : Fmt) (ocp : Bool) (src : Srcv) (res : Ex) : Nat × List Nat :=
  if ocp then
    let n := res.isNan || res.isInf
    let c := match res with
      | .nan => 0x7F
      | .inf s => if s then 0xFF else 0x7F
      | x => encodeFp e4m3 x
    (c, convCounts f src.v res src.ovf n)
  else (encodeFp f res, convCounts f src.v res src.ovf false)

/-- Control word fields of CVT (Table 04.5). -/
structure CvtCtl where
  src : Nat
  dst : Nat
  ssel : Nat
  dsel : Nat
  rmode : Nat

def cvtCtl (w : IWord) : CvtCtl :=
  let c := immHi w
  ⟨bits c 28 4, bits c 24 4, bits c 22 2, bits c 20 2, bits c 18 2⟩

/-- R114: the control words CVT accepts. -/
def cvtLegal (w : IWord) : Bool :=
  let c := cvtCtl w
  decide (c.src < 8) && decide (c.dst < 8) && decide (c.ssel < selMax c.src) && decide (c.dsel < selMax c.dst) &&
  decide (c.rmode < 3) && (c.rmode != 1 || srDest c.dst) && (c.rmode != 2 || decide (6 ≤ c.dst)) &&
  !(decide (6 ≤ c.src) && decide (6 ≤ c.dst)) && decide (bits (immHi w) 0 18 = 0) && modZero w

/-- One lane of CVT: the code placed in RD over RC's other bits, and the counts; `u` is the lane's draw. -/
def cvtLane (c : CvtCtl) (a cc u : Nat) : Nat × List Nat :=
  let sv := selVal c.src (bits a (selBits c.src * c.ssel) (selBits c.src))
  if c.dst = 6 then (ofSigned 32 (toIntSat (-(2 ^ 31 : Nat)) (2 ^ 31 - 1 : Nat) (c.rmode == 2) sv.v), [0, 0, 0, 0])
  else if c.dst = 7 then (ofSigned 32 (toIntSat 0 (2 ^ 32 - 1 : Nat) (c.rmode == 2) sv.v), [0, 0, 0, 0])
  else
    let f := selFmt c.dst
    let r := if c.rmode = 1 then roundSr f sv.v u else roundTo f sv.v
    let (code, cnt) := putValue f (c.dst == 5) sv r
    if selBits c.dst = 32 then (code, cnt) else (setBits cc (selBits c.dst * c.dsel) (selBits c.dst) code, cnt)

/-- Adds a lane's numeric counts to its launch and to the device-wide totals (R119). -/
def State.launchCounts (s : State) (launch : Nat) (c : List Nat) : State :=
  if c.all (· == 0) then s
  else (s.updLaunch launch (fun l => { l with cnt := addCounts l.cnt c })).numTotals c

/-- CVT (R114). A stochastic conversion takes the lane's next draw (R107, R108). -/
def execCvt (g : GRef) (w : IWord) (s : State) : Res :=
  let c := cvtCtl w
  issue s g w (fun gr => cvtLegal w && regsOk ((w.rd.toNat, 1) :: raUse1 w :: (if selBits c.dst < 32 then [rcUse w] else [])) gr)
    (fun i =>
      let l := i.s.launch? i.grp.launch
      let seed := (l.map Launch.seed).getD 0
      let num := (l.map Launch.number).getD 0
      let sr := c.rmode == 1
      let res := (lanesOf i.act).map (fun ln =>
        (ln, cvtLane c (opA w i.grp ln).toNat (opC w i.grp ln).toNat
          (if sr then draw seed num i.grp.idx ln (mapGet 0 i.grp.draws ln) else 0)))
      let gr := res.foldl (fun gr e => gr.setReg w.rd.toNat e.1 (BitVec.ofNat 32 e.2.1)) i.grp
      let gr := if sr then (lanesOf i.act).foldl (fun gr ln => { gr with draws := mapUpd 0 gr.draws ln (· + 1) }) gr else gr
      let s := i.s.launchCounts i.grp.launch (res.foldl (fun a e => addCounts a e.2.2) [0, 0, 0, 0])
      let s := if sr then s.count (dkey 0x4040 0x06) (laneCount i.act) else s
      { i with s := s }.retire gr)

/-- Source lane of LXCH: none when outside 0 to 31 or inactive (R37). -/
def lxchSource (mode : Nat) (l v : Nat) : Option Nat :=
  match mode with
  | 0 => if v < 32 then some v else none
  | 1 => if v ≤ l then some (l - v) else none
  | 2 => if l + v < 32 then some (l + v) else none
  | _ => if l ^^^ v < 32 then some (l ^^^ v) else none

/-- LXCH (R37). -/
def execLxch (g : GRef) (w : IWord) (s : State) : Res :=
  issue s g w (fun gr => decide (modNat w < 8) && regsOk ((w.rd.toNat, 1) :: raUse1 w :: rbUse w) gr) (fun i =>
    i.retire (i.grp.setLanes w.rd.toNat i.act (fun l =>
      match lxchSource (bits (modNat w) 1 2) l (opB w i.grp l).toNat with
      | some j => if i.act.getLsbD j then opA w i.grp j else opA w i.grp l
      | none => opA w i.grp l)))

/-- LVOTE reduces its guard over the active lanes of the path (R36, R37). -/
def execLvote (g : GRef) (w : IWord) (s : State) : Res :=
  let mode := bits (modNat w) 1 2
  issue s g w (fun gr => decide (modNat w < 8) && !(bitAt (modNat w) 0) && (mode != 3 || regsOk [(w.rd.toNat, 1)] gr)) (fun i =>
    let gm := guardMask i.grp w
    if mode = 3 then i.retire (i.grp.setLanes w.rd.toNat i.path.mask (fun _ => i.path.mask &&& gm))
    else i.retire (i.grp.setPred w.pd.toNat i.path.mask (if voteBit mode i.path.mask gm then i.path.mask else 0)))

/-- BSEL: nibble k of RC selects byte k of RD (R37). -/
def bselWord (a b c : Word) : Word :=
  BitVec.ofNat 32 ((List.range 4).foldl (fun acc k =>
    let n := bits c.toNat (4 * k) 4
    let v := if n < 4 then bits a.toNat (8 * n) 8 else if n < 8 then bits b.toNat (8 * (n - 4)) 8 else 0
    acc + v * 2 ^ (8 * k)) 0)

def execBsel (g : GRef) (w : IWord) (s : State) : Res :=
  laneOp g w s (modImm w) (raUse1 w :: rcUse w :: rbUse w)
    (fun gr l => bselWord (opA w gr l) (opB w gr l) (opC w gr l))

end Sys2Proof.Machine
end

