-- ==== Sys2Proof/Machine/Tensor.lean ====
section
/-!
DEFINITION. Machine/Tensor.lean: elements of tensors as the tensor mover and the array place them (R68, R97, R102, R103, R115, R492),
their values (R98, R100, R103), and conversion of elements and blocks (R99, R101, R104, R107, R113, R118).
-/
namespace Sys2Proof.Machine

/-- Extents of a transfer: TRANS = 1 swaps dimensions 0 and 1 (R492). -/
def Desc.exts (d : Desc) : List Nat := if d.trans then [d.e1, d.e0, d.e2, d.e3] else [d.e0, d.e1, d.e2, d.e3]
def Desc.ext (d : Desc) (k : Nat) : Nat := (d.exts[k]?).getD 1

/-- Indices of the element of a linear index (R115). -/
def Desc.unlin (d : Desc) (i : Nat) : Nat × Nat × Nat × Nat :=
  (i % d.ext 0, i / d.ext 0 % d.ext 1, i / (d.ext 0 * d.ext 1) % d.ext 2, i / (d.ext 0 * d.ext 1 * d.ext 2))

/-- Byte offset of the extension plane of a P24 tensor from BASE (R102). -/
def Desc.extOff (d : Desc) : Nat := 256 * ceilDiv (2 * d.count) 256

/-- Where the bits of an element lie, least significant part first: (byte address, bit, bits). -/
def Desc.parts (d : Desc) (i0 i1 i2 i3 : Nat) : List (Nat × Nat × Nat) :=
  let (s0, s1) := if d.trans then (i1, i0) else (i0, i1)
  let row := d.base + s1 * d.st1 + i2 * d.st2 + i3 * d.st3
  if d.fmt = 0x0B then [(row + 260 * (s0 / 256) + 4 + s0 % 256, 0, 8)]
  else if d.fmt = 0x0A then
    [(row + 2 * s0, 0, 16), (d.base + d.extOff + (s0 + d.e0 * (s1 + d.e1 * (i2 + d.e2 * i3))), 0, 8)]
  else
    let (a, b) := d.elemAt s0 s1 i2 i3
    [(a, b, elemBits d.fmt)]

def partBytes (p : Nat × Nat × Nat) : List Nat := (List.range (ceilDiv (p.2.1 + p.2.2) 8)).map (fun k => p.1 + k)
/-- The code of an element, given the bytes of memory. -/
def partsCode (f : Nat → Byte) (ps : List (Nat × Nat × Nat)) : Nat :=
  (ps.foldl (fun (a : Nat × Nat) p =>
    (a.1 + bits (leNat ((partBytes p).map f)) p.2.1 p.2.2 * 2 ^ a.2, a.2 + p.2.2)) (0, 0)).1
/-- A code as writes of single bytes with the bits they replace: (address, mask, bits). -/
def partsPut (code : Nat) (ps : List (Nat × Nat × Nat)) : List (Nat × Nat × Nat) :=
  (ps.foldl (fun (a : List (Nat × Nat × Nat) × Nat) p =>
    let v := bits code a.2 p.2.2 * 2 ^ p.2.1
    let m := (2 ^ p.2.2 - 1) * 2 ^ p.2.1
    (a.1 ++ (List.range (ceilDiv (p.2.1 + p.2.2) 8)).map (fun k => (p.1 + k, bits m (8 * k) 8, bits v (8 * k) 8)), a.2 + p.2.2))
    ([], 0)).1

/-- Block of an MX element and its place on the block axis (R115): line, block. -/
def Desc.mxBlock (d : Desc) (saxis i0 i1 i2 i3 : Nat) : Nat × Nat :=
  if saxis = 0 then (i1 + d.ext 1 * (i2 + d.ext 2 * i3), i0 / 32) else (i0 + d.ext 0 * (i2 + d.ext 2 * i3), i1 / 32)
/-- Address of the scale of an MX block (R115). -/
def Desc.mxScaleAt (d : Desc) (saxis i0 i1 i2 i3 : Nat) : Nat :=
  let (l, b) := d.mxBlock saxis i0 i1 i2 i3
  d.scale + l * (d.ext saxis / 32) + b
/-- Address of the 4 B scale of an M8 element's block (R103). -/
def Desc.m8ScaleAt (d : Desc) (i0 : Nat) : Nat := d.base + 260 * (i0 / 256)

/-! Values. -/

def mxScale (v : Ex) (s : Nat) : Ex := if s = 255 then .nan else v.scale ((s : Int) - 127)

/-- Unbiased exponent of a BF16 value, −126 for zero and subnormals (R100). -/
def bfExp (h : Ex) : Int := if h.isZero then -126 else max h.lg (-126)
/-- R100. -/
def p24Val (h x : Nat) : Ex :=
  let hv := decodeFp bf16 h
  if !hv.isFin ∨ x = 0 then hv else Ex.add hv ((Ex.ofInt (signedOf 8 x)).scale (bfExp hv - 15))

/-- R101: h and x of an exact value. -/
def p24Code (y : Ex) : Nat × Nat :=
  let h := roundTo bf16 y
  if !h.isFin then (encodeFp bf16 h, 0)
  else
    let t := (Ex.sub y h).scale (15 - bfExp h)
    (encodeFp bf16 h, ofSigned 8 (toIntSat (-128) 127 false t))

/-- The exact value of a source element from its code and its block's scale code (R96, R98, R100, R103, R113). -/
def elemVal (fmt : Nat) (ocp : Bool) (code scale : Nat) : Srcv :=
  if isMx fmt then ⟨mxScale (decodeFp (fmtOf fmt) code) scale, false⟩
  else if fmt = 0x0A then ⟨p24Val (bits code 0 16) (bits code 16 8), false⟩
  else if fmt = 0x0B then ⟨rFp32 (Ex.mul (decodeFp e4m3 code) (fp32Val scale)), false⟩
  else if ocp then importOcp code
  else ⟨decodeFp (fmtOf fmt) code, false⟩

/-! Destinations without blocks. -/

/-- R106, R107 or R101 and the counts of R118. `u`: the draw of a stochastic conversion. -/
def elemCode (fmt : Nat) (ocp : Bool) (src : Srcv) (u : Option Nat) : Nat × List Nat :=
  if fmt = 0x0A then
    let (h, x) := p24Code src.v
    let hv := decodeFp bf16 h
    let v := p24Val h x
    let b := fun (q : Bool) => if q then 1 else 0
    (h + x * 2 ^ 16, [b (src.ovf || (src.v.isFin && hv.isInf)), b (src.v.isFin && !src.v.isZero && v.isZero),
                     b (!src.v.isNan && v.isNan), b (v.isFin && !v.isZero && decide (v.lg < -126))])
  else
    let f := fmtOf fmt
    let r := match u with
      | some d => roundSr f src.v d
      | none => roundTo f src.v
    putValue f ocp src r

/-! Blocks. -/

/-- What a block conversion gives: the scale code, the element codes, the counts, whether it got the NaN scale. -/
structure BlockOut where
  scale : Nat
  codes : List Nat
  cnt   : List Nat
  isNan : Bool := false
  deriving DecidableEq, Repr

/-- A block given the NaN scale: every element reads NaN (R99, R104, R118). `ovf`: the exponent was beyond 127. -/
def nanBlock (scale : Nat) (xs : List Srcv) (ovf : Bool) : BlockOut :=
  let b := fun (q : Bool) => if q then 1 else 0
  { scale := scale, codes := xs.map (fun _ => 0), isNan := true
    cnt := xs.foldl (fun a x => addCounts a [b (x.ovf || (ovf && x.v.isFin)), 0, b (!x.v.isNan), 0]) [0, 0, 0, 0] }

/-- The greatest magnitude of finite values; zero for none. -/
def exAmax (xs : List Srcv) : Ex := xs.foldl (fun m x => if Ex.lt m x.v.abs then x.v.abs else m) Ex.zero

/-- Rounds the elements of a block divided by 2^e. -/
def blockCodes (f : Fmt) (e : Int) (xs : List Srcv) (us : List (Option Nat)) : List (Nat × List Nat) :=
  (List.zip xs us).map (fun (x, u) =>
    let y : Srcv := ⟨x.v.scale (-e), x.ovf⟩
    putValue f false y (match u with
      | some d => roundSr f y.v d
      | none => roundTo f y.v))

/-- R99. -/
def mxBlockOut (fmt : Nat) (xs : List Srcv) (us : List (Option Nat)) : BlockOut :=
  let f := fmtOf fmt
  if xs.any (fun x => !x.v.isFin) then nanBlock 255 xs false
  else
    let amax := exAmax xs
    let e0 : Int := if amax.isZero then 0 else amax.lg - f.emax
    let ovf := match roundRaw f (amax.scale (-e0)) with
      | .fin _ m e => aboveMax f m e
      | _ => true
    let e : Int := if amax.isZero then 0 else max (if ovf then e0 + 1 else e0) (-127)
    if e > 127 then nanBlock 255 xs true
    else
      let cs := blockCodes f e xs us
      { scale := (e + 127).toNat, codes := cs.map Prod.fst, cnt := cs.foldl (fun a c => addCounts a c.2) [0, 0, 0, 0] }

/-- The least e with |y| ≤ 240 × 2^e. -/
def m8Exp (amax : Ex) : Int :=
  let e := amax.lg - 7
  if Ex.lt (.fin false 240 e) amax then e + 1 else e

/-- R104. -/
def m8BlockOut (xs : List Srcv) : BlockOut :=
  if xs.any (fun x => !x.v.isFin) then nanBlock 0x7FC00000 xs false
  else
    let amax := exAmax xs
    let e : Int := if amax.isZero then 0 else min (max (m8Exp amax) (-140)) 127
    let cs := blockCodes e4m3 e xs (xs.map (fun _ => none))
    { scale := if amax.isZero then 0x3F800000 else encodeFp fp32 (.fin false 1 e), codes := cs.map Prod.fst
      cnt := cs.foldl (fun a c => addCounts a c.2) [0, 0, 0, 0] }

/-! Checks of a transfer's descriptors (R492, R102, R103, R115). -/

def Desc.badFields (d : Desc) (rowan : Bool) : Bool :=
  d.ver != 1 || d.space == 3 || d.exts.any (· == 0) || decide (d.fmt > 0x0C) ||
  [d.base, d.st1, d.st2, d.st3].any (fun x => decide (x % elemAlign d.fmt ≠ 0)) ||
  d.spform != 0 || d.dkind != 0 || d.dsrc != 0 || d.bmask != 0 || (d.smeta != 0 && !rowan) ||
  (isMx d.fmt != (d.scale != 0)) || (d.trans && decide (5 ≤ d.fmt ∧ d.fmt ≤ 0x0B)) ||
  (d.fmt == 0x0A && !(d.st1 == 2 * d.e0 && d.st2 == d.st1 * d.e1 && d.st3 == d.st2 * d.e2)) ||
  (d.fmt == 0x0B && !(d.e1 == 1 && d.e2 == 1 && d.e3 == 1 && d.base % 4 == 0))

/-- An MX side's block axis is a multiple of 32 (R115). -/
def Desc.badAxis (d : Desc) (saxis : Nat) : Bool := isMx d.fmt && decide (d.ext saxis % 32 ≠ 0)

/-- Destinations that stochastic rounding may have (R107). -/
def srFmt (fmt : Nat) : Bool := decide (2 ≤ fmt ∧ fmt ≤ 6)

end Sys2Proof.Machine
end

