-- ==== Sys2Proof/Machine/TensorMover.lean ====
section
/-!
DEFINITION. Machine/TensorMover.lean: the tensor mover: issue and tokens (R50, R52, R53, R491, R492), the units of a transfer (R51,
R99 to R104, R107, R115, R202, R493, R494), its end (R52, R116, R119) and run-ahead (R203, R204).
-/
namespace Sys2Proof.Machine

/-! Tokens. -/

def Group.toks (g : Group) (array : Bool) : Map Tok := if array then g.arTok else g.tmTok
def Group.setToks (g : Group) (array : Bool) (m : Map Tok) : Group := if array then { g with arTok := m } else { g with tmTok := m }
def freeTok (m : Map Tok) : Option Nat := lowest 8 (fun t => (mapFind m t).isNone)
/-- The token issued first (R53). -/
def oldestTok (m : Map Tok) : Option (Nat × Tok) :=
  m.foldl (fun (a : Option (Nat × Tok)) e => match a with
    | none => some e
    | some x => if e.2.order < x.2.order then some e else a) none

/-- Does a status fault the group of a WAIT with RD = ZR: any but OK of the tensor mover (R52), a failure of the array (R75)? -/
def waitFaults (array : Bool) (st : Status) : Bool := if array then Code.isFailure st else st != 0

/-- The token an issue takes: the group with a token freed by an implicit WAIT, a fault of it, or the token to wait for (R50, R53). -/
inductive TokFor where
  | take (g : Group) (t : Nat)
  | fault (st : Status)
  | wait (t : Nat)
  deriving DecidableEq, Repr

def Group.tokFor (g : Group) (array : Bool) : TokFor :=
  let m := g.toks array
  match freeTok m with
  | some t => .take g t
  | none =>
    match oldestTok m with
    | none => .wait 0
    | some (t, k) =>
      match k.st with
      | none => .wait t
      | some st => if waitFaults array st then .fault st else .take (g.setToks array (mapErase m t)) t

/-- Gives a token to a unit, its number to RD in the active lanes (R491). -/
def Group.useTok (g : Group) (array : Bool) (t unit rd : Nat) (act : Lanes) : Group :=
  let g := g.setToks array (mapInsert (mapErase (g.toks array) t) t { order := g.tokSeq, unit := unit })
  ({ g with tokSeq := g.tokSeq + 1 }).setLanes rd act (fun _ => BitVec.ofNat 32 t)

/-- A wait for a token that has ended: a failing status faults without a destination, else it is written, the token is free, and an
explicit WAIT retires (R52, R53, R75). An implicit one lets its instruction issue again. -/
def State.endWait (s : State) (ctx core slot : Nat) (g : Group) (array : Bool) (t rd : Nat) (act : Lanes) (implicit : Bool)
    (st : Status) : State :=
  let pc := (g.run.map Path.pc).getD 0
  if (implicit || rd == 0) && waitFaults array st then s.groupFault ctx core slot g st pc
  else
    let g := { (g.setToks array (mapErase (g.toks array) t)) with wait := .none, wdog := s.now }
    if implicit then s.putGroup ctx core slot g
    else s.putGroup ctx core slot (g.setLanes rd act (fun _ => st.setWidth 32)).step16

/-- A unit's token ends (R52, R76): the group that owns it, if it still lives, sees the status. -/
def State.endToken (s : State) (ctx core slot launch gidx : Nat) (array : Bool) (t unit : Nat) (st : Status) : State :=
  match mapFind (s.img ctx core).groups slot with
  | none => s
  | some g =>
    if g.launch ≠ launch ∨ g.idx ≠ gidx then s
    else
      match mapFind (g.toks array) t with
      | none => s
      | some k =>
        if k.unit ≠ unit then s
        else
          let g := g.setToks array (mapInsert (mapErase (g.toks array) t) t { k with st := some st })
          match g.wait with
          | .token a w rd act implicit =>
            if a = array ∧ w = t then s.endWait ctx core slot g array t rd act implicit st else s.setGroup ctx core slot g
          | _ => s.setGroup ctx core slot g

/-- WAIT on a token (R52, R75). -/
def Iss.waitTok (i : Iss) (array : Bool) (rd ra : Nat) : State :=
  let t := leadReg i ra
  match mapFind (i.grp.toks array) t with
  | none => i.fault Code.illegal
  | some k =>
    match k.st with
    | none => i.s.setGroup i.ctx i.core i.slot { i.grp with wait := .token array t rd i.act false }
    | some st => i.s.endWait i.ctx i.core i.slot i.grp array t rd i.act false st

/-- POLL of a token: 0xFFFF while its unit runs; a final status frees it (R52, R75). -/
def Iss.pollTok (i : Iss) (array : Bool) (rd ra : Nat) : State :=
  let t := leadReg i ra
  match mapFind (i.grp.toks array) t with
  | none => i.fault Code.illegal
  | some k =>
    let st := k.st.getD Code.running
    let g := if k.st.isSome then i.grp.setToks array (mapErase (i.grp.toks array) t) else i.grp
    let g := g.setLanes rd i.act (fun _ => st.setWidth 32)
    if array then i.retire g else i.retireP g

/-! Issue. -/

/-- The checks of descriptor or control-block offsets (R72, R492): MISALIGNED of any, then LOCAL_BOUNDS (the order: log 39). -/
def offCheck64 (i : Iss) (os : List Nat) : Status × Nat :=
  match os.find? (fun o => decide (o % 64 ≠ 0)) with
  | some o => (Code.misaligned, o)
  | none =>
    match os.find? (fun o => decide (o + 64 > i.img.lsBytes)) with
    | some o => (Code.localBounds, o)
    | none => (0, 0)

def descAt (ls : List Host.Cell) (o : Nat) : Nat := leNat (cellsRead ls o 64)

/-- Fields of RC of a TM.COPY (Table 04.6). -/
def rcRecEn (rc : Nat) : Bool := bitAt rc 31
def rcMode (rc : Nat) : Nat := bits rc 29 2
def rcOcpSrc (rc : Nat) : Bool := bitAt rc 28
def rcOcpDst (rc : Nat) : Bool := bitAt rc 27
def rcAxis (rc : Nat) : Nat := bits rc 26 1
def rcRec (rc : Nat) : Nat := 32 * bits rc 0 16

/-- R115: is a TM.COPY a bulk conversion? -/
def isConv (sf df rc : Nat) : Bool := sf != df || rcOcpSrc rc != rcOcpDst rc

/-- Fields of a Rowan control block (Table 05.8). -/
def rwTable (v : Nat) : Nat := 64 * bits v 336 16
def rwSize (v : Nat) : Nat := bits v 333 3
def rwEntries (v : Nat) : Nat := 8192 * 2 ^ rwSize v
/-- R135. -/
def rwBad (v off lsBytes : Nat) : Bool :=
  decide (rwSize v > 4) || decide (rwTable v + 8 * rwEntries v > lsBytes) ||
  (decide (rwTable v < off + 64) && decide (off < rwTable v + 8 * rwEntries v))

/-- Is a scatter a Rowan insert (R137)? -/
def isInsert (d : Desc) : Bool := d.space == 2 && d.fmt == 0 && d.smeta != 0

/-- The checks made before a transfer touches any tensor data (R492, R493, R115, R116, R135, R137). Of a bad descriptor and a bad list the
descriptor is reported (log 39). -/
def xferCheck (i : Image) (x : Xfer) : Status :=
  let sd := descOf x.src
  let dd := descOf x.dst
  let list := fun (n : Nat) => if x.rc % 4 ≠ 0 ∨ x.rc + 4 * n > i.lsBytes then Code.localBounds else 0
  match x.kind with
  | .fill => if dd.badFields false then Code.descriptorInvalid else 0
  | .copy =>
    let ax := rcAxis x.rc
    let conv := isConv sd.fmt dd.fmt x.rc
    if sd.badFields false || dd.badFields false then Code.descriptorInvalid
    else if conv && (sd.exts != dd.exts || sd.badAxis ax || dd.badAxis ax || (rcOcpSrc x.rc && sd.fmt != 4) ||
        (rcOcpDst x.rc && dd.fmt != 4) || (rcMode x.rc == 1 && !(srFmt dd.fmt)) || decide (rcMode x.rc ≥ 2) ||
        decide (bits x.rc 16 10 ≠ 0) || sd.fmt == 0x0C || dd.fmt == 0x0C) then Code.descriptorInvalid
    else if !conv && (sd.count != dd.count || (isMx sd.fmt && (sd.exts != dd.exts || sd.badAxis ax))) then Code.descriptorInvalid
    else if rcRecEn x.rc ∧ rcRec x.rc + 32 > i.lsBytes then Code.localBounds
    else 0
  | .gather =>
    if sd.badFields false || dd.badFields false || sd.fmt != dd.fmt || sd.ext 0 != dd.ext 0 then Code.descriptorInvalid
    else list (dd.ext 1 * dd.ext 2 * dd.ext 3)
  | .scatter =>
    if sd.badFields false || dd.badFields false || sd.fmt != dd.fmt || sd.ext 0 != dd.ext 0 then Code.descriptorInvalid
    else list (sd.ext 1 * sd.ext 2 * sd.ext 3)
  | .insert =>
    if sd.badFields false || dd.badFields true || decide (sd.fmt > 4) || decide (dd.smeta % 64 ≠ 0) ||
        decide (dd.smeta + 64 > i.lsBytes) then Code.descriptorInvalid
    else if rwBad (descAt i.ls dd.smeta) dd.smeta i.lsBytes then Code.descriptorInvalid
    else list sd.count

/-- Elements a transfer moves. -/
def xferTotal (x : Xfer) : Nat :=
  match x.kind with
  | .fill => (descOf x.dst).count
  | .gather => (descOf x.dst).count
  | _ => (descOf x.src).count

/-- A transfer issues: it takes a token and its descriptors, RC and the stream of its draws are fixed (R50, R53, R108, R492). -/
def Iss.tmIssue (i : Iss) (kind : XKind) (w : IWord) : State :=
  if i.act = 0 then i.retire i.grp
  else
    let so := leadReg i w.ra.toNat
    let d := leadReg i w.rb.toNat
    let (st, bad) := offCheck64 i (if kind = .fill then [d] else [so, d])
    if st ≠ 0 then i.fault st bad
    else match i.grp.tokFor false with
    | .fault e => i.fault e
    | .wait t => i.s.setGroup i.ctx i.core i.slot { i.grp with wait := .token false t 0 0 true }
    | .take g t =>
      let src := if kind = .fill then 0 else descAt i.img.ls so
      let dst := descAt i.img.ls d
      let rc := leadReg i w.rc.toNat
      let kind := if kind = .scatter ∧ isInsert (descOf dst) then .insert else kind
      let sr := kind == .copy && isConv (descOf src).fmt (descOf dst).fmt rc && rcMode rc == 1
      let l := i.s.launch? g.launch
      let x : Xfer := { id := i.s.nextId, slot := i.slot, launch := g.launch, token := t, kind := kind, src := src, dst := dst, rc := rc,
                        ctx := i.ctx, gidx := g.idx, seed := (l.map Launch.seed).getD 0, number := (l.map Launch.number).getD 0,
                        bulkNo := g.bulk, recOff := if kind = .copy ∧ rcRecEn rc then some (rcRec rc) else none }
      let st := xferCheck i.img x
      let x := { x with total := xferTotal x, st := st, fin := st != 0,
                        recOff := if (x.recOff.map (fun o => decide (o + 32 ≤ i.img.lsBytes))).getD false then x.recOff else none }
      let s := i.s.bumpId.updImg i.ctx i.core (fun m => { m with xfers := m.xfers ++ [x] })
      { i with s := s }.retireP ({ (g.useTok false t x.id w.rd.toNat i.act) with bulk := if sr then g.bulk + 1 else g.bulk })

/-- Registers a tensor-mover instruction names. -/
def tmRegs (w : IWord) (ra rc : Bool) (gr : Group) : Bool :=
  modZero w && regsOk ([(w.rd.toNat, 1), (w.rb.toNat, 1)] ++ (if ra then [(w.ra.toNat, 1)] else []) ++
    (if rc then [(w.rc.toNat, 1)] else [])) gr

/-- TM.COPY (R50, R115). -/
def execTmCopy (g : GRef) (w : IWord) (s : State) : Res := issue s g w (tmRegs w true true) (fun i => i.tmIssue .copy w)
/-- TM.GATHER (R50, R493). -/
def execTmGather (g : GRef) (w : IWord) (s : State) : Res := issue s g w (tmRegs w true true) (fun i => i.tmIssue .gather w)
/-- TM.SCATTER (R50, R137, R493). -/
def execTmScatter (g : GRef) (w : IWord) (s : State) : Res := issue s g w (tmRegs w true true) (fun i => i.tmIssue .scatter w)
/-- TM.FILL (R50, R494). -/
def execTmFill (g : GRef) (w : IWord) (s : State) : Res := issue s g w (tmRegs w false true) (fun i => i.tmIssue .fill w)

def tokRegs (w : IWord) (gr : Group) : Bool := modZero w && regsOk [(w.rd.toNat, 1), (w.ra.toNat, 1)] gr

/-- TM.WAIT (R52). -/
def execTmWait (g : GRef) (w : IWord) (s : State) : Res :=
  issue s g w (tokRegs w) (fun i => if i.act = 0 then i.retire i.grp else i.waitTok false w.rd.toNat w.ra.toNat)
/-- TM.POLL (R52). -/
def execTmPoll (g : GRef) (w : IWord) (s : State) : Res :=
  issue s g w (tokRegs w) (fun i => if i.act = 0 then i.retire i.grp else i.pollTok false w.rd.toNat w.ra.toNat)

/-! Units. -/

/-- Code of an element of a fill (R494). -/
def fillCode (fmt rc : Nat) : Nat :=
  if fmt = 0x0A then bits rc 0 24 else if fmt = 0x0C then rc * (2 ^ 32 + 1) else bits rc 0 (elemBits fmt)

def xferAg (x : Xfer) (core : Nat) : Ag :=
  { src := .core core, core := core, ctx := x.ctx, slot := x.slot, owner := x.launch, id := x.id }

/-- Source element of linear index i, as indices of the source's dimensions (R493). -/
def srcIx (x : Xfer) (sd dd : Desc) (list : Nat → Nat) (i : Nat) : Nat × Nat × Nat × Nat :=
  if x.kind = .gather then (i % dd.ext 0, list (i / dd.ext 0), 0, 0) else sd.unlin i
def dstIx (x : Xfer) (sd dd : Desc) (list : Nat → Nat) (i : Nat) : Nat × Nat × Nat × Nat :=
  if x.kind = .scatter then (i % sd.ext 0, list (i / sd.ext 0), 0, 0) else dd.unlin i

def Desc.partsOf (d : Desc) (e : Nat × Nat × Nat × Nat) : List (Nat × Nat × Nat) := d.parts e.1 e.2.1 e.2.2.1 e.2.2.2

/-- Elements that are written together: a whole destination block of a conversion, 256 elements of M8, else one (R99, R104). -/
def atomSize (x : Xfer) (dd : Desc) : Nat :=
  if x.kind = .copy ∧ dd.fmt = 0x0B then 256
  else if x.kind = .copy ∧ isMx dd.fmt ∧ isConv (descOf x.src).fmt dd.fmt x.rc then 32
  else 1
/-- How many such groups a transfer has; the last block of an M8 tensor may be short (R103). -/
def atomCount (x : Xfer) (dd : Desc) : Nat := ceilDiv x.total (atomSize x dd)
/-- Linear indices of the b-th such group; on block axis 1 its elements lie EXT0 apart (R115). -/
def atomAt (x : Xfer) (dd : Desc) (b : Nat) : List Nat :=
  let n := atomSize x dd
  if n = 256 then (List.range (min 256 (x.total - 256 * b))).map (fun k => 256 * b + k)
  else if n = 32 ∧ rcAxis x.rc = 1 then (List.range 32).map (fun k => 32 * dd.ext 0 * (b / dd.ext 0) + b % dd.ext 0 + dd.ext 0 * k)
  else (List.range n).map (fun k => n * b + k)
/-- The groups in the order in which the transfer takes them: ascending destination address (R51), writes to one address in list order
(R493); a gather and an insert keep the order of their index lists (R137, R202; log 39). -/
def atomOrder (x : Xfer) (sd dd : Desc) (list : Nat → Nat) : List Nat :=
  let n := atomCount x dd
  if x.kind = .gather ∨ x.kind = .insert then List.range n
  else
    (sortNat ((List.range n).map (fun b =>
      (((dd.partsOf (dstIx x sd dd list ((atomAt x dd b).headD 0))).head?).map (fun q => 8 * q.1 + q.2.1)).getD 0 * 2 ^ 64 + b))).map (fun v => v % 2 ^ 64)

/-- Sectors of 32 B that some elements of a source row touch, ascending (R202). -/
def elemSectors (sd : Desc) (row first n : Nat) : List Nat :=
  sortNat ((List.range n).flatMap (fun k => ((sd.partsOf (first + k, row, 0, 0)).flatMap partBytes).map (· / 32)))
def rowSectors (sd : Desc) (row : Nat) : List Nat := elemSectors sd row 0 (sd.ext 0)

/-- Rows of a gather from row r whose sectors fit one request of 256 B (R202). Structural on fuel. -/
def gatherRows (sd : Desc) (list : Nat → Nat) : Nat → Nat → Nat → Nat
  | 0, _, _ => 0
  | f + 1, r, used =>
    let k := (rowSectors sd (list r)).length
    if used + k ≤ 8 then 1 + gatherRows sd list f (r + 1) (used + k) else 0
/-- Elements of a row from one on whose sectors fit one request of 256 B, at least one (R202). Structural on fuel. -/
def gatherPart (sd : Desc) (row first : Nat) : Nat → Nat → Nat
  | 0, n => max 1 n
  | f + 1, n => if (elemSectors sd row first (n + 1)).length ≤ 8 then gatherPart sd row first f (n + 1) else max 1 n

/-- Groups of the next unit, up to 256 B of the destination (R51); a gather takes whole rows while they fit (R202). -/
def unitAtoms (x : Xfer) (sd dd : Desc) (list : Nat → Nat) : Nat :=
  let n := atomSize x dd
  let left := ceilDiv (x.total - x.done) n
  let k := match x.kind with
    | .insert => 1
    | .gather =>
      let r := x.done / dd.ext 0
      let e := x.done % dd.ext 0
      let rows := if e = 0 then gatherRows sd list (min 8 (x.total / dd.ext 0 - r)) r 0 else 0
      if rows = 0 then gatherPart sd (list r) e (min 2048 (dd.ext 0 - e)) 0 else rows * dd.ext 0
    | .scatter => 2048 / elemBits sd.fmt
    | .fill => 2048 / elemBits dd.fmt
    | .copy =>
      if isConv sd.fmt dd.fmt x.rc then 64
      else if dd.fmt = 7 ∨ dd.fmt = 8 then 320 else 2048 / elemBits dd.fmt
  min left (max 1 (k / n))

/-- What a unit writes, as byte, mask and bits, and what it counts. -/
structure UnitOut where
  puts : List (Nat × Nat × Nat)
  cnt  : List Nat := [0, 0, 0, 0, 0]

def bytePuts (a : Nat) (v n : Nat) : List (Nat × Nat × Nat) := (List.range n).map (fun k => (a + k, 255, bits v (8 * k) 8))

/-- A unit of a bulk conversion (R99, R101, R104, R113, R118): its groups of elements. `f`: bytes of the source. -/
def convUnit (x : Xfer) (sd dd : Desc) (f : Nat → Byte) (atoms : List (List Nat)) : UnitOut :=
  let ax := rcAxis x.rc
  let val := fun (i : Nat) =>
    let e := sd.unlin i
    let sc := if isMx sd.fmt then (f (sd.mxScaleAt ax e.1 e.2.1 e.2.2.1 e.2.2.2)).toNat
      else if sd.fmt = 0x0B then leNat ((List.range 4).map (fun q => f (sd.m8ScaleAt e.1 + q))) else 0
    elemVal sd.fmt (rcOcpSrc x.rc) (partsCode f (sd.partsOf e)) sc
  let u := fun (i : Nat) => if rcMode x.rc = 1 then some (draw x.seed x.number x.gidx (32 + x.bulkNo % 65536) i) else none
  if isMx dd.fmt ∨ dd.fmt = 0x0B then
    atoms.foldl (fun (o : UnitOut) blk =>
      let xs := blk.map val
      let out := if dd.fmt = 0x0B then m8BlockOut xs else mxBlockOut dd.fmt xs (blk.map u)
      let e := dd.unlin (blk.headD 0)
      { puts := o.puts ++ (if dd.fmt = 0x0B then bytePuts (dd.m8ScaleAt e.1) out.scale 4
                           else bytePuts (dd.mxScaleAt ax e.1 e.2.1 e.2.2.1 e.2.2.2) out.scale 1) ++
                (List.zip blk out.codes).flatMap (fun p => partsPut p.2 (dd.partsOf (dd.unlin p.1)))
        cnt := addCounts o.cnt (out.cnt ++ [if out.isNan then 1 else 0]) }) { puts := [] }
  else
    atoms.flatten.foldl (fun (o : UnitOut) i =>
      let (c, n) := elemCode dd.fmt (rcOcpDst x.rc) (val i) (u i)
      { puts := o.puts ++ partsPut c (dd.partsOf (dd.unlin i)), cnt := addCounts o.cnt (n ++ [0]) }) { puts := [] }

/-- A unit that moves bits (R492, R493, R494). A gather or scatter of MX rows moves their elements; of their block scales the manual says
nothing, and they stay (log 39). -/
def moveUnit (x : Xfer) (sd dd : Desc) (list : Nat → Nat) (f : Nat → Byte) (is : List Nat) : UnitOut :=
  if x.kind = .copy ∧ dd.fmt = 0x0B then
    let i := is.headD 0
    { puts := (List.range 260).map (fun q => (dd.m8ScaleAt i + q, 255, (f (sd.m8ScaleAt i + q)).toNat)) }
  else
    { puts := is.flatMap (fun i =>
        let e := dstIx x sd dd list i
        let se := srcIx x sd dd list i
        let ax := rcAxis x.rc
        partsPut (if x.kind = .fill then fillCode dd.fmt x.rc else partsCode f (sd.partsOf se)) (dd.partsOf e) ++
        (if x.kind = .copy ∧ isMx dd.fmt ∧ (if ax = 0 then e.1 else e.2.1) % 32 = 0 then
           bytePuts (dd.mxScaleAt ax e.1 e.2.1 e.2.2.1 e.2.2.2) (f (sd.mxScaleAt ax se.1 se.2.1 se.2.2.1 se.2.2.2)).toNat 1
         else [])) }

/-- Source bytes a unit reads. -/
def unitSource (x : Xfer) (sd dd : Desc) (list : Nat → Nat) (is : List Nat) : List Nat :=
  if x.kind = .fill then []
  else if x.kind = .copy ∧ sd.fmt = 0x0B ∧ dd.fmt = 0x0B then (List.range 260).map (fun q => sd.m8ScaleAt (is.headD 0) + q)
  else is.flatMap (fun i =>
    let e := srcIx x sd dd list i
    (sd.partsOf e).flatMap partBytes ++
    (if x.kind ≠ .copy then [] else if isMx sd.fmt then [sd.mxScaleAt (rcAxis x.rc) e.1 e.2.1 e.2.2.1 e.2.2.2]
     else if sd.fmt = 0x0B then (List.range 4).map (fun q => sd.m8ScaleAt e.1 + q) else []))

/-- The bits of several puts on one byte: masks joined, later bits on top. -/
def joinPuts (ps : List (Nat × Nat × Nat)) : Map (Nat × Nat) :=
  ps.foldl (fun (m : Map (Nat × Nat)) p =>
    let (mk, v) := mapGet (0, 0) m p.1
    mapInsert (mapErase m p.1) p.1 (mk ||| p.2.1, (v - (v &&& p.2.1)) ||| p.2.2)) []

/-- Writes bits: a byte written in part keeps its other bits. -/
def State.putBits (s : State) (ag : Ag) (space : Nat) (ps : List (Nat × Nat × Nat)) : State × Got :=
  let m := joinPuts ps
  let (s, old) := s.spFetch ag space .write ((m.filter (fun e => decide (e.2.1 ≠ 255))).map Prod.fst)
  match old with
  | .err st => (s, .err st)
  | .wait => (s, .wait)
  | .tbl t =>
    let (s, st) := s.spPut ag space (m.map (fun e =>
      let o := (mapGet (0 : Byte) t e.1).toNat
      (e.1, BitVec.ofNat 8 (((o ||| e.2.1) - e.2.1) ||| e.2.2))))
    (s, if st = 0 then .ok [] else .err st)

/-- Loads of up to 256 B of a run, none across 4 KiB (R286). -/
def loadsOf (a n : Nat) : List (Nat × Nat) :=
  (cut 4096 a n).flatMap (fun p => (List.range (ceilDiv p.2 256)).map (fun k => (p.1 + 256 * k, min 256 (p.2 - 256 * k))))
/-- The bytes of a row that lies elsewhere: one load, where its bytes are one run of up to 256 B (R202). -/
def State.rowFetch (s : State) (ag : Ag) (bytes : List Nat) : State × Fetched :=
  ((addrRuns bytes).flatMap (fun r => loadsOf r.1 r.2)).foldl (fun (acc : State × Fetched) (r : Nat × Nat) =>
    let (t, g) := acc.1.agPiece ag .read r.1 r.2
    (t, acc.2.add r.1 g)) (s, .tbl [])

/-- The source of a unit of a gather in virtual space, byte addresses by row (R202, R228): the sectors on this device as one request; rows
elsewhere one load each; windows at once. -/
def State.gatherFetch (s : State) (ag : Ag) (rows : List (List Nat)) : State × Fetched :=
  let near := fun (q : Nat) => match s.xlate ag.ctx (32 * q) .read with
    | (0, .glob a _) => if s.isLocal a then some a else none
    | _ => none
  let secs := rows.flatten.foldl (fun (l : List Nat) a => if l.contains (a / 32) then l else l ++ [a / 32]) []
  let mine := secs.filterMap (fun q => (near q).map (fun a => (q, a)))
  let (s, rest) := rows.foldl (fun (acc : State × Fetched) row =>
    let (t, g) := acc.1.rowFetch ag (row.filter (fun a => (near (a / 32)).isNone))
    (t, acc.2.join g)) (s, .tbl [])
  if mine.isEmpty then (s, rest)
  else
    let op : MemOp := .gath (mine.map (fun e => (32 * e.1, e.2)))
    match s.reqs.find? (fun r => ag.owns r && r.op == op) with
    | none => (s.agReq ag op ((mine.headD (0, 0)).2) (32 * (mine.headD (0, 0)).1), rest.join .wait)
    | some r =>
      (s, rest.join (if r.ph ≠ .done then .wait else if r.st ≠ 0 then .err r.st else
        .tbl ((List.zip (List.range mine.length) mine).flatMap (fun e =>
          zipFrom (32 * e.2.1) (s.overlay ag e.2.2 ((r.res.drop (32 * e.1)).take 32))))))

/-- One unit, the elements of some groups: the state after it, or a failure, or a wait. -/
def State.xferUnit (s : State) (core : Nat) (x : Xfer) (atoms : List (List Nat)) : State × Got × List Nat :=
  let ag := xferAg x core
  let sd := descOf x.src
  let dd := descOf x.dst
  let ls := (s.img x.ctx core).ls
  let list := fun (r : Nat) => leNat (cellsRead ls (x.rc + 4 * r) 4)
  let is := atoms.flatten
  let rows := (sortNat (is.map (· / dd.ext 0))).map (fun r => unitSource x sd dd list (is.filter (fun i => decide (i / dd.ext 0 = r))))
  let (s, src) := if x.kind = .gather ∧ sd.space = 0 then s.gatherFetch ag rows
    else s.spFetch ag sd.space .read (unitSource x sd dd list is)
  match src with
  | .err st => (s, .err st, [])
  | .wait => (s, .wait, [])
  | .tbl t =>
    let f := fun (a : Nat) => mapGet (0 : Byte) t a
    let o := if x.kind = .copy ∧ isConv sd.fmt dd.fmt x.rc then convUnit x sd dd f atoms else moveUnit x sd dd list f atoms.flatten
    let (s, g) := s.putBits ag dd.space o.puts
    match g with
    | .ok _ => (s, .ok [], o.cnt)
    | e => (s, e, [])

/-! Rowan inserts (R136 to R138). -/

def rwHash (entries key : Nat) : Nat := ((key * 0x9E3779B1) % 2 ^ 32) / 2 ^ (32 - log2 (entries / 4))

/-- One insert: the control block and table in the core's local store, or a spill to a log. -/
def State.rowanInsert (s : State) (ag : Ag) (cb key v : Nat) : State × Status :=
  let img := s.img ag.ctx ag.core
  let blk := descAt img.ls cb
  let put := fun (t : State) (b : Nat) => t.updImg ag.ctx ag.core (fun m => { m with ls := cellsWrite m.ls cb (leBytes 64 b) })
  let sat := fun (b lo : Nat) => setBits b lo 32 (satAdd (2 ^ 32 - 1) (bits b lo 32) 1)
  if key = 0xFFFFFFFF then (put (s.count (dkey 0x4050 0x02)) (sat blk 96), 0)
  else
    let set := rwHash (rwEntries blk) key
    let at' := fun (w : Nat) => rwTable blk + 8 * (4 * set + w)
    let keyAt := fun (w : Nat) => leNat (cellsRead img.ls (at' w) 4)
    let blk' := sat blk 160
    match lowest 4 (fun w => keyAt w == key) with
    | some w =>
      let old := leNat (cellsRead img.ls (at' w + 4) 4)
      let s := s.updImg ag.ctx ag.core (fun m => { m with ls := cellsWrite m.ls (at' w + 4) (leBytes 4 (fp32Bits (Ex.add (fp32Val old) (fp32Val v)))) })
      (put s (sat blk' 128), 0)
    | none =>
      match lowest 4 (fun w => keyAt w == 0xFFFFFFFF) with
      | some w =>
        let s := s.updImg ag.ctx ag.core (fun m => { m with ls := cellsWrite m.ls (at' w) (leBytes 4 key ++ leBytes 4 v) })
        (put s blk', 0)
      | none =>
        let near := bits blk 224 32
        let hbm := bits blk 192 32
        let spill := fun (a lo n : Nat) =>
          let (t, st) := s.agWrite ag a (leBytes 4 key ++ leBytes 4 v)
          if st ≠ 0 then (t, st) else (put (t.count (dkey 0x4050 0x05)) (setBits blk' lo 32 (n + 1)), (0 : Status))
        if near < bits blk 384 32 then spill (bits blk 464 48 + 8 * near) 224 near
        else if hbm < bits blk 352 32 then spill (bits blk 416 48 + 8 * hbm) 192 hbm
        else (s.count (dkey 0x4050 0x06), Code.rowanOverflow)

/-- Does a strict launch fault at a bad key (R131)? -/
def State.strictLaunch (s : State) (id : Nat) : Bool := ((s.launch? id).map Launch.strict).getD false

/-- The insert of one element of a scatter (R137). A bad key of a strict launch faults the issuing group (R131). -/
def State.insertUnit (s : State) (core : Nat) (x : Xfer) : State × Got :=
  let ag := xferAg x core
  let sd := descOf x.src
  let e := sd.unlin x.done
  let (s, src) := s.spFetch ag sd.space .read ((sd.partsOf e).flatMap partBytes)
  match src with
  | .err st => (s, .err st)
  | .wait => (s, .wait)
  | .tbl t =>
    let v := elemVal sd.fmt false (partsCode (fun a => mapGet (0 : Byte) t a) (sd.partsOf e)) 0
    let key := leNat (cellsRead (s.img x.ctx core).ls (x.rc + 4 * x.done) 4)
    let (s, st) := s.rowanInsert ag (descOf x.dst).smeta key (fp32Bits v.v)
    if st ≠ 0 then (s, .err st)
    else if key = 0xFFFFFFFF ∧ s.strictLaunch x.launch then
      (match mapFind (s.img x.ctx core).groups x.slot with
       | some g =>
         if g.launch = x.launch ∧ g.idx = x.gidx then s.groupFault x.ctx core x.slot g Code.indexFault ((g.run.map Path.pc).getD 0)
         else s.failLaunch x.launch Code.indexFault core x.slot 0
       | none => s.failLaunch x.launch Code.indexFault core x.slot 0, .ok [])
    else (s, .ok [])

/-- May the insert unit take this scatter now: no earlier scatter of the core, and no earlier drain of its block, is unfinished? -/
def insertTurn (i : Image) (x : Xfer) : Bool :=
  !(i.xfers.any (fun y => y.kind == .insert && decide (y.id < x.id) && decide (y.done < y.total) && y.st == 0)) &&
  !(i.mxq.any (fun m => m.kind == .drain && decide (m.id < x.id) && m.ra == (descOf x.dst).smeta))

/-! Events. -/

/-- Gateway frames that still carry writes of a unit (R242, R307). -/
def State.frameHolds (s : State) (id : Nat) : Bool :=
  s.gws.any (fun g => g.2.streams.any (fun st => st.frames.any (fun f => f.xfers.contains id)))

/-- The open frames that carry the writes of a unit are closed after its last request (R303). -/
def State.closeFor (s : State) (id : Nat) : State :=
  (List.range 4).foldl (fun (t : State) g =>
    (t.gw g).streams.foldl (fun (t : State) st =>
      if st.frames.any (fun f => !f.closed && f.xfers.contains id) then t.closeFrame g st else t) t) s

def State.updXfer (s : State) (ctx core id : Nat) (f : Xfer → Xfer) : State :=
  s.updImg ctx core (fun m => { m with xfers := modifyWhere (fun x => x.id == id) f m.xfers })

/-- Units whose writes are all back count, in order, up to a write that failed (R116). -/
def State.settleUnits (s : State) (ag : Ag) (x : Xfer) : Xfer :=
  let back := fun (u : Nat × Nat × List Nat) =>
    !(s.reqs.any (fun r => ag.owns r && !(isRd r) && decide (r.id < u.1) && (r.ph != .done || r.st != 0))) && (x.bad == 0 || decide (u.1 ≤ x.bad))
  let ready := x.flying.takeWhile back
  { x with flying := x.flying.drop ready.length
           elems := ready.foldl (fun n u => n + u.2.1) x.elems
           cnt := ready.foldl (fun c u => if u.2.2.isEmpty then c else addCounts c u.2.2) x.cnt }

/-- One step of a transfer: writes that have come back are taken, and the next unit runs, unless requests of it still wait for slots. A
unit that fails is tried as one group, so that what was written before the failure is what the record counts (R116). -/
def State.tmStep (s0 : State) (ctx core : Nat) (x : Xfer) : State :=
  let ag := xferAg x core
  let fails := (s0.reqs.filter (fun r => ag.owns r && !(isRd r) && r.ph == .done && r.st != 0)).map Req.id
  let x := if x.bad = 0 then { x with bad := (fails.min?).getD 0 } else x
  let (s, wst) := s0.agAbsorb ag
  let x := s.settleUnits ag (if x.st = 0 then { x with st := wst } else x)
  let s := s.updXfer ctx core x.id (fun _ => x)
  let s := if x.st ≠ 0 ∨ x.done ≥ x.total then
      let s := (s.agDrop ag).closeFor x.id
      if s.agBusy ag || s.frameHolds x.id then s else (s.agEnd ag).updXfer ctx core x.id (fun y => { y with fin := true })
    else if s.reqs.any (fun r => ag.owns r && r.ph == .waiting && !r.pref) then s
    else if x.kind = .insert then
      if insertTurn (s.img ctx core) x then
        match s.insertUnit core x with
        | (t, .ok _) => (t.agDrop ag).updXfer ctx core x.id (fun y => { y with done := y.done + 1, elems := y.elems + 1 })
        | (t, .err e) => (t.agDrop ag).updXfer ctx core x.id (fun y => { y with st := e })
        | (t, .wait) => s.agWait t ag
      else s
    else
      let sd := descOf x.src
      let dd := descOf x.dst
      let ls := (s.img ctx core).ls
      let list := fun (r : Nat) => leNat (cellsRead ls (x.rc + 4 * r) 4)
      let atoms := ((atomOrder x sd dd list).drop (x.done / atomSize x dd)).map (atomAt x dd)
      let ok := fun (t : State) (as : List (List Nat)) (c : List Nat) =>
        let n := as.flatten.length
        let u := t.agDrop ag
        u.updXfer ctx core x.id (fun y => u.settleUnits ag { y with done := y.done + n, flying := y.flying ++ [(t.nextId, n, c)] })
      let many := atoms.take (unitAtoms x sd dd list)
      match s.xferUnit core x many with
      | (t, .ok _, c) => ok t many c
      | (t, .wait, _) => s.agWait t ag
      | (_, .err _, _) =>
        match s.xferUnit core x (atoms.take 1) with
        | (t, .ok _, c) => ok t (atoms.take 1) c
        | (t, .wait, _) => s.agWait t ag
        | (_, .err e, _) => (s.agDrop ag).updXfer ctx core x.id (fun y => { y with st := e })
  s.agGo ag

/-- TM_RESPONSE (R51): the transfer goes on with its next request. -/
def execTmResponse (core : Fin 576) (xfer : Nat) (s : State) : Res :=
  if !s.running then .next s
  else match s.liveCtx core.val with
  | none => .next s
  | some c =>
    match s.xfer? c core.val xfer with
    | none => .next s
    | some x => if x.fin then .next s else .next (s.tmStep c core.val x)

/-- Conversion record (Table 04.7): STATUS as R116 orders. -/
def convRecord (x : Xfer) : Nat :=
  let st := if x.st ≠ 0 then x.st else if x.cnt.any (· != 0) then Code.numericFlagged else 0
  let mode := if isConv (descOf x.src).fmt (descOf x.dst).fmt x.rc ∧ x.st ≠ Code.descriptorInvalid then rcMode x.rc else 0
  st.toNat * 2 ^ 240 + mode * 2 ^ 224 + bits x.elems 0 64 * 2 ^ 160 +
  (List.zip [128, 96, 64, 32, 0] x.cnt).foldl (fun a e => a + bits e.2 0 32 * 2 ^ e.1) 0

/-- Releases that wait for a failed transfer are never applied, and their groups fault with its code (R235, R236, R251). -/
def State.failRels (s : State) (ctx core id : Nat) (st : Status) : State :=
  (s.rels.filter (fun r => r.core == core && r.xwaits.contains id)).foldl (fun (t : State) r =>
    match (r.ids.head?).bind t.req? with
    | some q =>
      if q.ctx = ctx then
        let u := { t with rels := t.rels.filter (fun y => y.id != r.id), reqs := t.reqs.filter (fun y => !(r.ids.contains y.id)) }
        (State.dropRels (u.rels.length + 1) r.ids (u.count (dkey 0x3020 0x03))).faultReq q core st
      else t
    | none => t) s

/-- What a transfer that ends leaves: its record, and its counts in the device's totals (R116, R119). -/
def State.xferReport (s : State) (core : Nat) (x : Xfer) : State :=
  let s := match x.recOff with
    | some o => s.updImg x.ctx core (fun m => { m with ls := cellsWrite m.ls o (leBytes 32 (convRecord x)) })
    | none => s
  let s := s.numTotals x.cnt
  let sr := x.kind == .copy && isConv (descOf x.src).fmt (descOf x.dst).fmt x.rc && rcMode x.rc == 1
  if sr ∧ x.elems ≠ 0 then s.count (dkey 0x4040 0x06) x.elems else s

/-- The transfers of a core's image that satisfy p end with a code, those whose requests are all back with their own (R116, R120). -/
def State.xfersEnd (s : State) (ctx core : Nat) (p : Xfer → Bool) (code : Status) : State :=
  ((s.img ctx core).xfers.filter p).foldl (fun (t : State) x =>
    let x := t.settleUnits (xferAg x core) x
    t.xferReport core (if x.fin ∨ x.st ≠ 0 then x else { x with st := code })) s

/-- TM_TOKEN_COMPLETE (R52, R116, R119): every request of the transfer is back. -/
def execTmTokenComplete (core : Fin 576) (xfer : Nat) (s : State) : Res :=
  let core := core.val
  if !s.running then .next s
  else match s.liveCtx core with
  | none => .next s
  | some c =>
    match s.xfer? c core xfer with
    | none => .next s
    | some x =>
      if !x.fin then .next s
      else
        let s := s.updImg c core (fun m => { m with xfers := m.xfers.filter (fun y => y.id != xfer) })
        let s := (s.xferReport core x).countCode c x.st
        let s := if x.st ≠ 0 then s.failRels c core xfer x.st else s
        .next (s.endToken c core x.slot x.launch x.gidx false x.token xfer x.st)

/-! Run-ahead. -/

/-- The extent of a descriptor: from its lowest to past its highest element (R203). -/
def Desc.extent (d : Desc) : Nat × Nat :=
  let last := (d.parts (d.ext 0 - 1) (d.ext 1 - 1) (d.ext 2 - 1) (d.ext 3 - 1)).flatMap partBytes
  (d.base, last.foldl max d.base + 1)

/-- May run-ahead ask for a block now: aligned, and at most 16 KiB ahead of the requests (R203)? -/
def aheadTurn (pos block : Nat) : Bool := decide (block % 256 = 0) && decide (pos / 256 * 256 ≤ block) && decide (block ≤ pos + 16384)
/-- Do all bytes of a block lie within an extent (R204)? -/
def Desc.holds (d : Desc) (block : Nat) : Bool := decide (d.extent.1 ≤ block ∧ block + 256 ≤ d.extent.2)

/-- A run-ahead block is asked for, or dropped and counted (R204). It leaves 8 slots free, counts towards the caps and queues, and waits for
none (R206); the core's buffer of 32 KiB holds what has come. -/
def State.aheadFetch (s : State) (ag : Ag) (core : Nat) (d : Desc) (block : Nat) : State :=
  if s.reqs.any (fun r => ag.owns r && r.pref && r.va == block) then s
  else match (if d.holds block then s.prefetchable ag.ctx block else none) with
  | none => s.count (dkey 0x3002 0x04)
  | some (a, _) =>
    let r : Req := { id := s.nextId, src := ag.src, ctx := ag.ctx, slot := ag.slot, op := .rd 256, addr := a, va := block, ph := .slot,
                     xfer := ag.id, owner := ag.owner, dev := s.dev.deviceId, pref := true, alloc := true }
    if decide (moverUsed s.reqs core + 9 > 64) || !(s.capFree r) ||
        decide ((s.reqs.filter (fun x => x.src == .core core && x.pref && x.xfer != 0)).length ≥ 128) then s
    else ({ s with nextId := s.nextId + 1, reqs := s.reqs ++ [r] }.count (dkey 0x3002 0x03)).agGo ag

/-- How far the requests of an array operation have come in an operand: past the last byte asked for, at first its lowest (R203). -/
def State.opPos (s : State) (ag : Ag) (d : Desc) : Nat :=
  (s.reqs.filter (fun r => ag.owns r && !r.pref && isRd r && decide (d.extent.1 ≤ r.va ∧ r.va < d.extent.2))).foldl (fun m r => max m (r.va + opBytes r.op)) d.base

/-- RUNAHEAD_PREFETCH (R203, R204, R206): for the source of a TM.COPY, or an operand in virtual space of the running operation. -/
def execRunaheadPrefetch (core : Fin 576) (xfer block : Nat) (s : State) : Res :=
  let core := core.val
  if !s.running || s.dv (dkey 0x3002 0x01) == 0 then .next s
  else match s.liveCtx core with
  | none => .next s
  | some c =>
    let i := s.img c core
    match s.xfer? c core xfer with
    | some x =>
      let d := descOf x.src
      let list := fun (r : Nat) => leNat (cellsRead i.ls (x.rc + 4 * r) 4)
      let next := (((atomOrder x d (descOf x.dst) list).drop (x.done / atomSize x (descOf x.dst))).map (atomAt x (descOf x.dst))).flatten.headD 0
      let pos := ((d.partsOf (d.unlin next)).map Prod.fst).headD d.base
      if x.kind = .copy ∧ d.space = 0 ∧ !x.fin ∧ x.done < x.total ∧ aheadTurn pos block then .next (s.aheadFetch (xferAg x core) core d block)
      else .next s
    | none =>
      match i.mxq.find? (fun m => m.id == xfer && m.started) with
      | none => .next s
      | some m =>
        let ag : Ag := { src := .core core, core := core, ctx := m.ctx, slot := m.slot, owner := m.launch, id := m.id }
        match (([m.a, m.b, m.c].filter (· ≠ 0)).map descOf).find? (fun d => d.space == 0 && aheadTurn (s.opPos ag d) block) with
        | some d => .next (s.aheadFetch ag core d block)
        | none => .next s

end Sys2Proof.Machine
end

