-- ==== Sys2Proof/Machine/CmdOps.lean ====
section
/-!
DEFINITION. Machine/CmdOps.lean: NOP, FENCE, SIGNAL, WAIT, COPY, FILL and GATHER (R340). A command at stage 0 has not been checked; one
that waits for memory beyond this device stays, and its row carries it on.
-/
namespace Sys2Proof.Machine

/-- A row of a ring command that may take several events: checked at its first, then carried on. -/
def ringRow (s : State) (ctx ring opc : Nat) (why : Cmd → List (Bool × Status × Nat)) (go : Cmd → State) : Res :=
  if !s.running then .next s
  else match (s.ring ctx ring).cur with
  | none => .next s
  | some c =>
    if cOpc c.img ≠ opc ∨ c.tearing then .next s
    else if c.stage ≠ 0 then .next (go c)
    else match firstReason (why c ++ s.baseReasons ctx ring c) with
      | some (st, d) => .next (s.refuse ctx ring c st d 0)
      | none => .next (go c)

/-- NOP. -/
def execCmdNop (ctx : Fin 4097) (ring : Fin 8) (s : State) : Res :=
  ringCmdChecked s ctx.val ring.val 0x00 (fun _ => []) (fun c => s.okCmd ctx.val ring.val c 0)

/-- Has every command a FENCE waits for completed? -/
def State.fenceDone (s : State) (ctx ring : Nat) (c : Cmd) : Bool :=
  c.bells.all (fun b => b.1 == ring || !(bitAt (cFlags c.img) 0) || decide (b.2 ≤ (s.ring ctx b.1).fin))

/-- FENCE: its own ring's earlier commands have completed when it starts (R334). -/
def execCmdFence (ctx : Fin 4097) (ring : Fin 8) (s : State) : Res :=
  ringRow s ctx.val ring.val 0x01 (fun _ => []) (fun c =>
    if s.fenceDone ctx.val ring.val c then s.okCmd ctx.val ring.val c 0
    else s.updCmd ctx.val ring.val (fun c => { c with stage := 1 }))

/-- Does a virtual address lead beyond the domain? -/
def State.offVa (s : State) (ctx va : Nat) : Bool :=
  match leafOf (s.ctx ctx).leaves va with
  | some (p, l) => gOff (leafTarget p l va)
  | none => false

/-- The checks of a flag word (R338, R340). -/
def State.flagReasons (s : State) (ctx : Nat) (c : Cmd) (need : Need) : List (Bool × Status × Nat) :=
  [(s.badAddr ctx (cA0 c.img) 4 4 need, Code.commandInvalid, 1), (s.offVa ctx (cA0 c.img), Code.accessDenied, 1)]

/-- Applies a flag of the firmware: at once on this device, as a request elsewhere. -/
def State.flagWrite (s : State) (ag : Ag) (va v : Nat) : State × Status :=
  let (st, d) := s.xlate ag.ctx va .write
  if st ≠ 0 then (s, st)
  else match d with
  | .win core off =>
    if off + 4 > (s.img ag.ctx core).lsBytes then (s, Code.localBounds)
    else ((s.count (dkey 0x3020 0x02)).winWrite ag.ctx core off (zipFrom 0 (leBytes 4 v)), 0)
  | .glob a _ =>
    if s.isLocal a && s.fwRoom ag (gOffset a) 4 then
      let (t, st) := s.devWrite (gOffset a) (leBytes 4 v)
      (if st = 0 then t.count (dkey 0x3020 0x02) else t, st)
    else ((s.agReq ag (.flag v) a va).agGo ag, 0)

/-- SIGNAL: the commands before it in its ring have completed, so its release waits for nothing (R236, R334). -/
def execSignal (ctx : Fin 4097) (ring : Fin 8) (s : State) : Res :=
  ringRow s ctx.val ring.val 0x02 (fun c => s.flagReasons ctx.val c .write) (fun c =>
    let ag := cmdAg ctx.val c
    if c.stage = 0 then
      let (t, st) := s.flagWrite ag (cA0 c.img) (cArg0 c.img % 2 ^ 32)
      if st ≠ 0 then (t.countCode ctx.val st).complete ctx.val ring.val c st 0 (cA0 c.img) 0
      else if t.reqs.any ag.owns then
        t.updCmd ctx.val ring.val (fun c => { c with stage := 1 })
      else t.okCmd ctx.val ring.val c 0
    else if s.agBusy ag then s.agGo ag
    else
      let (t, st) := s.agAbsorb ag
      t.complete ctx.val ring.val c st 0 (if st = 0 then 0 else cA0 c.img) 0)

/-- WAIT: checked; its polls follow. -/
def execWait (ctx : Fin 4097) (ring : Fin 8) (s : State) : Res :=
  ringCmdChecked s ctx.val ring.val 0x03 (fun c => s.flagReasons ctx.val c .read) (fun _ =>
    s.updCmd ctx.val ring.val (fun c => { c with stage := 1 }))

/-- WAIT_POLL: one read of the word with acquire semantics; a value at least ARG0 ends the wait (R237, R340). -/
def execWaitPoll (ctx : Fin 4097) (ring : Fin 8) (s : State) : Res :=
  if !s.running then .next s
  else match (s.ring ctx.val ring.val).cur with
  | none => .next s
  | some c =>
    if cOpc c.img ≠ 0x03 ∨ c.stage ≠ 1 ∨ c.tearing then .next s
    else
      let ag := cmdAg ctx.val c
      match s.agRead ag .read (cA0 c.img) 4 with
      | (t, .wait) => .next (s.agWait t ag)
      | (t, .err st) => .next (((t.agDrop ag).countCode ctx.val st).complete ctx.val ring.val c st 0 (cA0 c.img) 0)
      | (t, .ok bs) =>
        let t := t.agDrop ag
        if leNat bs ≥ cArg0 c.img % 2 ^ 32 then .next (t.okCmd ctx.val ring.val c (leNat bs)) else .next t

/-! COPY, FILL, GATHER. -/

/-- What a unit of a bulk command comes to. -/
inductive Moved where
  | ok
  | wait
  | err (st : Status) (va : Nat)
  deriving DecidableEq, Repr

/-- Address of the first part of a range a read fails at. -/
def State.badRead (s : State) (ag : Ag) (va n : Nat) : Nat :=
  (((cut 64 va n).find? (fun p => match (s.agPiece ag .read p.1 p.2).2 with
    | .err _ => true
    | _ => false)).map Prod.fst).getD va
/-- Address of the first part of a range a write fails at. -/
def State.badWrite (s : State) (ag : Ag) (va : Nat) (bs : List Byte) : Nat :=
  (((cut 64 va bs.length).find? (fun p => (s.agWrite ag p.1 ((bs.drop (p.1 - va)).take p.2)).2 ≠ 0)).map Prod.fst).getD va

/-- Writes a unit's bytes. -/
def State.putUnit (s : State) (ag : Ag) (va : Nat) (bs : List Byte) : State × Moved :=
  let (t, st) := s.agWrite ag va bs
  if st = 0 then (t, .ok) else (t, .err st (s.badWrite ag va bs))

/-- COPY: n bytes from `at'` on. -/
def State.copyUnit (s : State) (ag : Ag) (img at' n : Nat) : State × Moved :=
  match s.agRead ag .read (cA0 img + at') n with
  | (t, .wait) => (t, .wait)
  | (t, .err st) => (t, .err st (s.badRead ag (cA0 img + at') n))
  | (t, .ok bs) => t.putUnit ag (cA1 img + at') bs

/-- Bytes of a FILL pattern from destination byte k on (R340). -/
def fillBytes (pat k n : Nat) : List Byte := (List.range n).map (fun i => BitVec.ofNat 8 (pat / 2 ^ (8 * ((k + i) % 8))))
def State.fillUnit (s : State) (ag : Ag) (img at' n : Nat) : State × Moved :=
  s.putUnit ag (cA1 img + at') (fillBytes (cArg1 img) at' n)

def gRows (img : Nat) : Nat := bits (cArg0 img) 0 32
def gRowBytes (img : Nat) : Nat := bits (cArg0 img) 32 16
/-- GATHER: rows `at'` to `at' + n - 1` of the destination, each the row its index names. -/
def State.gatherUnit (s : State) (ag : Ag) (img at' n : Nat) : State × Moved :=
  match s.agRead ag .read (cA2 img + 4 * at') (4 * n) with
  | (t, .wait) => (t, .wait)
  | (t, .err st) => (t, .err st (s.badRead ag (cA2 img + 4 * at') (4 * n)))
  | (t, .ok ix) =>
    let rb := gRowBytes img
    (List.range n).foldl (fun (a : State × Moved) k =>
      match a.2 with
      | .err _ _ => a
      | m =>
        let va := cA0 img + rb * leNat ((ix.drop (4 * k)).take 4)
        match a.1.agRead ag .read va rb with
        | (u, .wait) => (u, .wait)
        | (u, .err st) => (u, .err st (a.1.badRead ag va rb))
        | (u, .ok bs) => if m = .wait then (u, .wait) else u.putUnit ag (cA1 img + rb * (at' + k)) bs) (t, .ok)

/-- The end of a bulk command once its writes are acknowledged (R307). -/
def State.bulkEnd (s : State) (ctx ring : Nat) (ag : Ag) (st : Status) (va : Nat) : State :=
  let s := ((s.agDrop ag).closeFor ag.id).agGo ag
  match (s.ring ctx ring).cur with
  | none => s
  | some c =>
    let (st, va) := match c.done with
      | some (d, _, a, _) => if d ≠ 0 then (d, a) else (st, va)
      | none => (st, va)
    if s.agBusy ag || s.frameHolds ag.id then s.updCmd ctx ring (fun c => { c with stage := 2, done := some (st, 0, va, 0) })
    else (s.countCode ctx st).complete ctx ring c st c.aux va 0

/-- One event of a bulk command: units of 1 MiB (R346), `total` and `per` in bytes or rows. Without a placement it waits (R357). -/
def State.bulk (s : State) (ctx ring : Nat) (c : Cmd) (total per : Nat) (unit : State → Ag → Nat → Nat → Nat → State × Moved) : State :=
  let ag := s.bulkAg ctx c
  let s := if c.stage = 0 then s.updCmd ctx ring (fun c => { c with stage := 1 }) else s
  let (s, wst) := s.agAbsorb ag
  if c.stage = 2 ∨ wst ≠ 0 then s.bulkEnd ctx ring ag wst 0
  else if (s.ctx ctx).groves = 0 ∧ c.aux = 0 then s
  else
    let n := min per (total - c.aux)
    match unit s ag c.img c.aux n with
    | (t, .wait) => s.agWait t ag
    | (t, .err st va) => t.bulkEnd ctx ring ag st va
    | (t, .ok) =>
      let t := (t.agDrop ag).updCmd ctx ring (fun c => { c with aux := c.aux + n, prog := t.now })
      if c.aux + n ≥ total then t.bulkEnd ctx ring ag 0 0 else t.agGo ag

/-- The checks of COPY, FILL and GATHER: `ops` names each address with its field number, bytes, alignment and permission. -/
def State.bulkReasons (s : State) (ctx : Nat) (ops : List (Nat × Nat × Nat × Nat × Need)) : List (Bool × Status × Nat) :=
  (s.perDie == 0, Code.gradeInvalid, 0) ::
    ops.map (fun e => (s.badAddr ctx e.2.1 e.2.2.1 e.2.2.2.1 e.2.2.2.2, Code.commandInvalid, e.1))

def execCopy (ctx : Fin 4097) (ring : Fin 8) (s : State) : Res :=
  ringRow s ctx.val ring.val 0x20
    (fun c => s.bulkReasons ctx.val [(1, cA0 c.img, cArg0 c.img, 1, .read), (2, cA1 c.img, cArg0 c.img, 1, .write)])
    (fun c => s.bulk ctx.val ring.val c (cArg0 c.img) 1048576 State.copyUnit)

def execFill (ctx : Fin 4097) (ring : Fin 8) (s : State) : Res :=
  ringRow s ctx.val ring.val 0x21
    (fun c => s.bulkReasons ctx.val [(2, cA1 c.img, cArg0 c.img, 1, .write)])
    (fun c => s.bulk ctx.val ring.val c (cArg0 c.img) 1048576 State.fillUnit)

def execGather (ctx : Fin 4097) (ring : Fin 8) (s : State) : Res :=
  ringRow s ctx.val ring.val 0x22
    (fun c => s.bulkReasons ctx.val [(2, cA1 c.img, gRows c.img * gRowBytes c.img, 1, .write), (3, cA2 c.img, 4 * gRows c.img, 4, .read)] ++
      [(s.badAddr ctx.val (cA0 c.img) 1 1 .read, Code.commandInvalid, 1),
       (gRowBytes c.img == 0 || decide (gRowBytes c.img > 4096), Code.commandInvalid, 5)])
    (fun c => s.bulk ctx.val ring.val c (gRows c.img) (max 1 (1048576 / gRowBytes c.img)) State.gatherUnit)

/-! A command that ends from outside. -/

/-- Is a request one of a command's? -/
def Req.ofCmd (r : Req) (id : Nat) : Bool :=
  r.xfer == id && id != 0 && (match r.src with | .port _ => false | .gateway _ => false | _ => true)
/-- What a command's requests leave behind: those not yet made are not made, answers to the others are discarded. -/
def State.dropWork (s : State) (id : Nat) : State :=
  { s with reqs := (s.reqs.filter (fun r => !(r.ofCmd id && (r.ph == .done || r.ph == .slot || r.ph == .waiting)))).map (fun r =>
      if r.ofCmd id then { r with xfer := 0 } else r) }

/-- A command whose frame or request has failed keeps the first failure for its end (R307). -/
def Cmd.failed (c : Cmd) (id : Nat) (st : Status) : Cmd :=
  if c.id = id ∧ st ≠ 0 ∧ (c.done.map (fun d => d.1)).getD 0 = 0 then { c with done := some (st, 0, 0, 0) } else c
def State.failCmd (s : State) (id : Nat) (st : Status) : State :=
  { s with rings := s.rings.map (fun e =>
      (e.1, { e.2 with sq := e.2.sq.map (fun r => (r.1, { r.2 with cur := r.2.cur.map (fun c => c.failed id st) })) })) }

end Sys2Proof.Machine
end

