-- ==== Sys2Proof/Machine/Report.lean ====
section
/-!
DEFINITION. Machine/Report.lean: full-context reports of arrays and Alder engines (R439, R442, Table 17.2) and the due time of
self-tests (R449).
-/
namespace Sys2Proof.Machine

/-- Hottest of the working sensors from `base` on; 0 when none has been read. -/
def State.hottest (s : State) (base n : Nat) : Int :=
  ((List.range n).foldl (fun (m : Option Int) k =>
    let x := mapGet {} s.pwr.sensors (base + k)
    if x.read && !x.failed then some (match m with | some y => max y x.temp | none => x.temp) else m) none).getD 0
def State.rail (s : State) (k : Nat) : RailP := mapGet {} s.pwr.rails k

/-- DETAIL area of a full-context record (Table 17.2). The local cycle count is a free value (log 6). -/
def State.fullLow (s : State) (opcode ctx ring seq lcore pcore : Nat) (temp : Int) (mv token d1 : Nat) : Nat :=
  s.freeVal (2 ^ 64) * 2 ^ 192 + (opcode % 256) * 2 ^ 184 + (ctx % 4096) * 2 ^ 172 + (if ctx = 4096 then 2 ^ 171 else 0) +
    (ring % 8) * 2 ^ 168 + (seq % 65536) * 2 ^ 152 + (lcore % 1024) * 2 ^ 142 + (pcore % 1024) * 2 ^ 132 + ofSigned 8 temp * 2 ^ 124 +
    (mv % 65536) * 2 ^ 108 + (token % 16) * 2 ^ 104 + d1 % 2 ^ 64

/-- Command number of a launch's ring entry. -/
def State.cmdSeq (s : State) (ctx ring : Nat) : Nat :=
  (((mapGet ({} : Ring) (mapGet {} s.rings ctx).sq ring).cur).map Cmd.seq).getD 0

/-- Opcode of an array queue entry. -/
def MKind.opcode : MKind → Nat
  | .mxa => 0x80
  | .cmpr => 0x83
  | .drain => 0x84

/-- ARRAY_FAULT: an operation ended by UNCORRECTABLE, CORE_FENCED, MEMORY_LOST or POWER_RESET. `pos`: the pass and row it had come to,
none where that is a free value. -/
def State.raiseArray (s : State) (core : Nat) (op : MxOp) (st : Status) (pos : Option Nat) : State :=
  if st = Code.uncorrectable ∨ st = Code.coreFenced ∨ st = Code.memoryLost ∨ st = Code.powerReset then
    let p := s.physAny core
    let ring := ((s.launch? op.launch).map Launch.ring).getD 0
    let at' := pos.getD (s.drawn.freeVal (2 ^ 64))
    (s.raiseAs Ev.arrayFault 1 p st 0 (s.fullLow op.kind.opcode op.ctx ring (s.cmdSeq op.ctx ring) core p
      (s.hottest (80 * s.dieOf core) 80) (s.rail (s.dieOf core)).mv op.token at')).drawn.drawn
  else s

/-- Is a forced self-test of a physical core due (R449)? -/
def State.katDue (s : State) (p : Nat) : Bool :=
  let k := mapGet {} s.rep.kats p
  k.rerun.isSome || decide (s.now ≥ max k.last s.rep.opStart + s.dv (dkey 0x7000 0x06) * 1000000000)

end Sys2Proof.Machine
end

