-- ==== Sys2Proof/Machine/Alder.lean ====
section
/-!
DEFINITION. Machine/Alder.lean: OPT_STEP and the Alder engines (R165, R172 to R182).
-/
namespace Sys2Proof.Machine

/-! Fields of the step block (Table 06.9) and of a mask header (Table 06.7). -/

def oP (b : Nat) : Nat := bits b 976 48
def oM (b : Nat) : Nat := bits b 928 48
def oV (b : Nat) : Nat := bits b 880 48
def oF (b : Nat) : Nat := bits b 832 48
def oG (b : Nat) : Nat := bits b 784 48
def oMask (b : Nat) : Nat := bits b 736 48
def oRows (b : Nat) : Nat := bits b 704 32
def oCols (b : Nat) : Nat := bits b 672 32
/-- The k-th of the FP32 fields from LR on: LR, BETA1, BETA2, EPS, WD, BC1, BC2, GNORM, MAXNORM, TRMAX. -/
def oF32 (b k : Nat) : Ex := fp32Val (bits b (640 - 32 * k) 32)
def oRule (b : Nat) : Nat := bits b 348 4
def oClip (b : Nat) : Bool := bitAt b 347
def oZero (b : Nat) : Bool := bitAt b 346
def oCount (b : Nat) : Nat := oRows b * oCols b
def oChunks (b : Nat) : Nat := ceilDiv (oCount b) 2048

def mkBits (h : Nat) : Nat := bits h 80 48
def mkStride (h : Nat) : Nat := bits h 64 16
def mkRow0 (h : Nat) : Nat := bits h 32 32
def mkCol0 (h : Nat) : Nat := bits h 8 24
def mkKind (h : Nat) : Nat := bits h 6 2
def mkBad (h : Nat) : Bool := decide (mkKind h ≥ 2) || (mkKind h == 0 && mkStride h % 8 != 0)
/-- Byte and bit of an element's mask bit (R165). -/
def mkBit (h i j : Nat) : Nat × Nat :=
  if mkKind h = 0 then
    let c := (mkCol0 h + j) / 128
    (mkBits h + (mkRow0 h + i) / 128 * mkStride h + c / 8, c % 8)
  else (mkBits h + (mkRow0 h + i) / 8, (mkRow0 h + i) % 8)

/-- Extension plane of a P24 tensor of n elements (R102). -/
def extAt (base n : Nat) : Nat := base + 256 * ceilDiv (2 * n) 256
/-- Bytes of an M8 tensor of n elements (R103). -/
def m8Bytes (n : Nat) : Nat := 260 * (n / 256) + (if n % 256 = 0 then 0 else 4 + n % 256)

/-- Is a range mapped to this device's HBM with R and W (R174)? -/
def State.hbmBoth (s : State) (ctx va n : Nat) : Bool :=
  decide (va + n ≤ 2 ^ 48) && (cut 65536 va n).all (fun p => match s.xlate ctx p.1 .both with
    | (st, .glob a _) => st == 0 && s.isLocal a && s.region (gOffset a) == .hbm
    | _ => false)

/-- Runs of bytes that hold a tensor's mask bits. -/
def mkRanges (h rows cols : Nat) : List (Nat × Nat) :=
  if mkKind h = 0 then
    let c0 := mkCol0 h / 128 / 8
    let c1 := (mkCol0 h + cols - 1) / 128 / 8
    (List.range ((mkRow0 h + rows - 1) / 128 - mkRow0 h / 128 + 1)).map (fun k =>
      (mkBits h + (mkRow0 h / 128 + k) * mkStride h + c0, c1 - c0 + 1))
  else [(mkBits h + mkRow0 h / 8, (mkRow0 h + rows - 1) / 8 - mkRow0 h / 8 + 1)]

/-- The reasons of R174, with the mask header found (0: none named). -/
def State.optBad (s : State) (ctx b : Nat) (hdr : Option Nat) : Bool :=
  let r := oRule b
  let n := oCount b
  let has := fun (l : List Nat) => l.contains r
  let nan := fun (k : Nat) => !(oF32 b k).isFin
  decide (r > 4) || n == 0 || oP b % 256 != 0 || oG b % 64 != 0 || oM b % 4 != 0 || oV b % 4 != 0 || oF b % 4 != 0 || oP b == 0 || oG b == 0 ||
  (has [0, 1, 2, 4] && oM b == 0) || (has [1, 3, 4] && oV b == 0) || (has [3] && oF b == 0) ||
  (has [0, 2] && oV b != 0) || (has [0, 1, 2, 4] && oF b != 0) ||
  [0, 1, 2, 3, 4, 5, 6, 8, 9].any nan ||
  (has [1, 4] && (oF32 b 5).isZero) || (has [1, 3, 4] && (oF32 b 6).isZero) || ((oF32 b 9).neg && !(oF32 b 9).isZero) ||
  oMask b % 16 != 0 || hdr.isNone || (match hdr with | some h => oMask b != 0 && mkBad h | none => true) ||
  !(s.hbmBoth ctx (oP b) (2 * n)) || !(s.hbmBoth ctx (extAt (oP b) n) n) || !(s.hbmBoth ctx (oG b) (4 * n)) ||
  (oM b != 0 && !(s.hbmBoth ctx (oM b) (m8Bytes n))) ||
  (oV b != 0 && !(s.hbmBoth ctx (oV b) (if r = 3 then 4 * oRows b else m8Bytes n))) ||
  (oF b != 0 && !(s.hbmBoth ctx (oF b) (4 * oCols b))) ||
  (oMask b != 0 && !((mkRanges (hdr.getD 0) (oRows b) (oCols b)).all (fun e => s.hbmBoth ctx e.1 e.2)))

/-! Reading and writing a tensor's elements. -/

/-- Runs of an ascending list of numbers: (first, how many). -/
def runsIdx (xs : List Nat) : List (Nat × Nat) :=
  xs.foldr (fun x acc => match acc with
    | (a, n) :: r => if x + 1 = a then (x, n + 1) :: r else (x, 1) :: (a, n) :: r
    | [] => [(x, 1)]) []

/-- A read of an engine. While its data is on the way the status is that of work under way, 0xFFFF, and the chunk is tried again. -/
def State.engRead (s : State) (ag : Ag) (va n : Nat) : State × Status × List Byte :=
  if n = 0 then (s, 0, [])
  else match s.agRead ag .read va n with
    | (t, .ok bs) => (t, 0, bs)
    | (t, .err e) => (t, e, [])
    | (t, .wait) => (t, Code.running, [])

/-- Codes of the elements of an array of `w`-byte elements whose indices are listed ascending. -/
def State.engElems (s : State) (ag : Ag) (base w : Nat) (xs : List Nat) : State × Status × List Nat :=
  (runsIdx xs).foldl (fun (a : State × Status × List Nat) e =>
    if a.2.1 ≠ 0 then a
    else
      let (t, st, bs) := a.1.engRead ag (base + w * e.1) (w * e.2)
      (t, st, a.2.2 ++ (List.range e.2).map (fun k => leNat ((bs.drop (w * k)).take w)))) (s, 0, [])
def State.engPut (s : State) (ag : Ag) (base w : Nat) (xs : List (Nat × Nat)) : State × Status :=
  (runsIdx (xs.map Prod.fst)).foldl (fun (a : State × Status) e =>
    if a.2 ≠ 0 then a
    else a.1.agWrite ag (base + w * e.1) ((xs.filter (fun x => decide (e.1 ≤ x.1 ∧ x.1 < e.1 + e.2))).flatMap (fun x => leBytes w x.2))) (s, 0)

/-- The 256-element blocks that hold some listed index. -/
def m8Blocks (xs : List Nat) : List Nat := sortNat (xs.map (fun x => x / 256))
/-- Values of M8 elements, ascending (R103). -/
def State.engM8 (s : State) (ag : Ag) (base : Nat) (xs : List Nat) : State × Status × List Ex :=
  (m8Blocks xs).foldl (fun (a : State × Status × List Ex) b =>
    if a.2.1 ≠ 0 then a
    else
      let mine := (xs.filter (fun x => x / 256 == b)).map (fun x => x % 256)
      let (t, st, sc) := a.1.engElems ag (base + 260 * b) 4 [0]
      let (t, st', cs) := t.engElems ag (base + 260 * b + 4) 1 mine
      (t, if st ≠ 0 then st else st', a.2.2 ++ cs.map (fun c => (elemVal 0x0B false c (sc.headD 0)).v))) (s, 0, [])

def OCnt.add (a b : OCnt) : OCnt := { c := addCounts a.c b.c, nan := a.nan + b.nan, sat := a.sat + b.sat }

/-- An unmasked element of a block that keeps its scale (R175). Its counts judge the source and the element (R118): in a block whose scale
is NaN every element reads as NaN. -/
def keptCode (scale : Nat) (x : Ex) : Nat × OCnt :=
  let sc := fp32Val scale
  let y := Ex.div x sc
  let sat := x.isFin && Ex.lt (.fin false 240 0) y.abs
  let r := if !x.isFin then x else if sat then .fin y.neg 240 0 else roundTo e4m3 y
  (encodeFp e4m3 r, { c := convCounts e4m3 x (if sc.isNan then .nan else r) false false, sat := if sat then 1 else 0 })

/-- Writes M8 elements (index, value) of a tensor of n elements, block by block (R104, R175); also what the codes read back as. -/
def State.engPutM8 (s : State) (ag : Ag) (base n : Nat) (xs : List (Nat × Ex)) : State × Status × OCnt × List Ex :=
  (m8Blocks (xs.map Prod.fst)).foldl (fun (a : State × Status × OCnt × List Ex) b =>
    let (s, st, cnt, back) := a
    if st ≠ 0 then a
    else
      let mine := xs.filter (fun x => x.1 / 256 == b)
      let at' := base + 260 * b
      if mine.length = min 256 (n - 256 * b) then
        let o := m8BlockOut (mine.map (fun x => ⟨x.2, false⟩))
        let (t, st) := s.agWrite ag at' (leBytes 4 o.scale ++ o.codes.map (BitVec.ofNat 8))
        (t, st, cnt.add { c := o.cnt, nan := if o.isNan then 1 else 0 }, back ++ o.codes.map (fun c => (elemVal 0x0B false c o.scale).v))
      else
        let (t, st, sc) := s.engElems ag at' 4 [0]
        let sc := sc.headD 0
        let cs := mine.map (fun x => (x.1 % 256, keptCode sc x.2))
        let (t, st') := if st ≠ 0 then (t, st) else t.engPut ag (at' + 4) 1 (cs.map (fun c => (c.1, c.2.1)))
        (t, st', cs.foldl (fun m c => m.add c.2.2) cnt, back ++ cs.map (fun c => (elemVal 0x0B false c.2.1 sc).v))) (s, 0, {}, [])

/-! Chunks. -/

/-- r() and the operations of R176. -/
def rMul (a b : Ex) : Ex := rFp32 (Ex.mul a b)
def rAdd (a b : Ex) : Ex := rFp32 (Ex.add a b)
def rSub (a b : Ex) : Ex := rFp32 (Ex.sub a b)
def rDiv (a b : Ex) : Ex := rFp32 (Ex.div a b)
def rSqrt (a : Ex) : Ex := rFp32 (Ex.sqrt a)
def rTree (l : List Ex) : Ex := (treeList rAdd l).getD Ex.zero

/-- Clip scale s (R175). -/
def clipScale (b : Nat) : Ex := if oClip b && Ex.numLt (oF32 b 8) (oF32 b 7) then rDiv (oF32 b 8) (oF32 b 7) else Ex.one
/-- Does a step write nothing (R175)? -/
def clipSkips (b : Nat) : Bool := oClip b && (!(oF32 b 7).isFin || ((oF32 b 7).neg && !(oF32 b 7).isZero))
def clipped (b g : Nat) : Ex :=
  let sc := clipScale b
  if sc = Ex.one then fp32Val g else rMul (fp32Val g) sc

/-- Indices of a chunk that are not masked. -/
def State.unmasked (s : State) (ag : Ag) (b hdr : Nat) (idx : List Nat) : State × Status × List Nat :=
  if oMask b = 0 then (s, 0, idx)
  else
    let at' := idx.map (fun x => (x, mkBit hdr (x / oCols b) (x % oCols b)))
    let need := sortNat (at'.map (fun e => e.2.1))
    let (t, st, bs) := s.engElems ag 0 1 need
    let tab := List.zip need bs
    (t, st, (at'.filter (fun e => bitAt (mapGet 0 tab e.2.1) e.2.2)).map Prod.fst)
def chunkIdx (b c : Nat) : List Nat := (List.range (min 2048 (oCount b - 2048 * c))).map (fun k => 2048 * c + k)

/-- Parameters as FP32 values (R100, R102). -/
def State.engParams (s : State) (ag : Ag) (b : Nat) (xs : List Nat) : State × Status × List Ex :=
  let (s, st, hs) := s.engElems ag (oP b) 2 xs
  let (s, st', es) := if st ≠ 0 then (s, st, []) else s.engElems ag (extAt (oP b) (oCount b)) 1 xs
  (s, st', List.zipWith p24Val hs es)
def State.engPutParams (s : State) (ag : Ag) (b : Nat) (xs : List (Nat × Ex)) : State × Status × OCnt :=
  let cs := xs.map (fun x => (x.1, elemCode 0x0A false ⟨x.2, false⟩ none))
  let (s, st) := s.engPut ag (oP b) 2 (cs.map (fun c => (c.1, c.2.1 % 65536)))
  let (s, st) := if st ≠ 0 then (s, st) else s.engPut ag (extAt (oP b) (oCount b)) 1 (cs.map (fun c => (c.1, c.2.1 / 65536)))
  (s, st, { c := cs.foldl (fun m c => addCounts m c.2.2) [0, 0, 0, 0] })
def State.engZeroG (s : State) (ag : Ag) (b : Nat) (xs : List Nat) : State × Status :=
  if oZero b then s.engPut ag (oG b) 4 (xs.map (fun x => (x, 0))) else (s, 0)

/-- The new p, m and v of one element under rules 0 to 2 (R176). -/
def optElem (b : Nat) (p g m v : Ex) : Ex × Ex × Ex :=
  let lr := oF32 b 0
  let b1 := oF32 b 1
  let b2 := oF32 b 2
  let wd := oF32 b 4
  let c1 := rSub Ex.one b1
  let c2 := rSub Ex.one b2
  match oRule b with
  | 0 =>
    let m := rAdd (rMul b1 m) g
    (rSub p (rMul lr (rAdd m (rMul wd p))), m, v)
  | 2 =>
    let k := rAdd (rMul b1 m) (rMul c1 g)
    let u := if k.isNan then Ex.nan else if k.isZero then Ex.zero else if k.neg then Ex.one.negate else Ex.one
    (rSub p (rMul lr (rAdd u (rMul wd p))), rAdd (rMul b2 m) (rMul c2 g), v)
  | _ =>
    let m := rAdd (rMul b1 m) (rMul c1 g)
    let v := rAdd (rMul b2 v) (rMul c2 (rMul g g))
    let u := rDiv (rDiv m (oF32 b 5)) (rAdd (rSqrt (rDiv v (oF32 b 6))) (oF32 b 3))
    (rSub p (rMul lr (rAdd u (rMul wd p))), m, v)

/-- w of rule 4 (R178). -/
def trustW (b : Nat) (p m v : Ex) : Ex :=
  rAdd (rDiv (rDiv m (oF32 b 5)) (rAdd (rSqrt (rDiv v (oF32 b 6))) (oF32 b 3))) (rMul (oF32 b 4) p)

def firstCode (l : List Status) : Status := l.foldl (fun a x => if a ≠ 0 then a else x) 0

/-- The writes of a chunk: parameters, moments, gradients; a failing one abandons the chunk (R181). -/
def State.chunkWrite (s : State) (ag : Ag) (b : Nat) (ps ms vs : List (Nat × Ex)) (zs : List Nat) : State × ChunkOut × List Ex × List Ex :=
  let n := oCount b
  let (t, st, cp) := if ps.isEmpty then (s, 0, {}) else s.engPutParams ag b ps
  let (t, st, cm, bm) := if st ≠ 0 ∨ ms.isEmpty = true then (t, st, {}, []) else t.engPutM8 ag (oM b) n ms
  let (t, st, cv, bv) := if st ≠ 0 ∨ vs.isEmpty = true then (t, st, {}, []) else t.engPutM8 ag (oV b) n vs
  let (t, st) := if st ≠ 0 then (t, st) else t.engZeroG ag b zs
  if st ≠ 0 then (s, { st := st }, [], [])
  else (t, { n := ps.length, cnt := (cp.add cm).add cv }, bm, bv)

/-- Rules 0 to 2, and pass 1 of rule 4. -/
def State.chunkPlain (s : State) (ag : Ag) (b : Nat) (xs : List Nat) : State × ChunkOut :=
  let (s, e1, ps) := s.engParams ag b xs
  let (s, e2, gs) := s.engElems ag (oG b) 4 xs
  let (s, e3, ms) := s.engM8 ag (oM b) xs
  let (s, e4, vs) := if oV b = 0 then (s, 0, xs.map (fun _ => Ex.zero)) else s.engM8 ag (oV b) xs
  let e := firstCode [e1, e2, e3, e4]
  if e ≠ 0 then (s, { st := e })
  else
    let outs := (List.zip (List.zip ps (gs.map (clipped b))) (List.zip ms vs)).map (fun q => optElem b q.1.1 q.1.2 q.2.1 q.2.2)
    let put := fun (f : Ex × Ex × Ex → Ex) => List.zip xs (outs.map f)
    let (s, o, bm, bv) := s.chunkWrite ag b (if oRule b = 4 then [] else put (fun q => q.1)) (put (fun q => q.2.1))
      (if oV b = 0 then [] else put (fun q => q.2.2)) xs
    if oRule b = 4 ∧ o.st = 0 then
      let ws := List.zipWith (fun p (q : Ex × Ex) => trustW b p q.1 q.2) ps (List.zip bm bv)
      (s, { o with sums := some (fp32Bits (rTree (ps.map (fun p => rMul p p))), fp32Bits (rTree (ws.map (fun w => rMul w w)))) })
    else (s, o)

/-- Pass 2 of rule 4. -/
def State.chunkTrust (s : State) (ag : Ag) (b ratio : Nat) (xs : List Nat) : State × ChunkOut :=
  let (s, e1, ps) := s.engParams ag b xs
  let (s, e2, ms) := s.engM8 ag (oM b) xs
  let (s, e3, vs) := s.engM8 ag (oV b) xs
  let e := firstCode [e1, e2, e3]
  if e ≠ 0 then (s, { st := e })
  else
    let new := (List.zip ps (List.zip ms vs)).map (fun q => rSub q.1 (rMul (rMul (oF32 b 0) (fp32Val ratio)) (trustW b q.1 q.2.1 q.2.2)))
    let (s, o, _, _) := s.chunkWrite ag b (List.zip xs new) [] [] []
    (s, o)

/-- rm of rule 3: the mean of every row factor (R177). -/
def State.rowMean (s : State) (ag : Ag) (b : Nat) : State × Status × Ex :=
  let (s, st, fr) := s.engElems ag (oV b) 4 (List.range (oRows b))
  (s, st, rDiv (rTree (fr.map fp32Val)) (Ex.ofNat (oRows b)))

/-- Pass 2 of rule 3. -/
def State.chunkFactored (s : State) (ag : Ag) (b : Nat) (xs : List Nat) : State × ChunkOut :=
  let (s, e0, rm) := s.rowMean ag b
  let (s, e1, ps) := s.engParams ag b xs
  let (s, e2, gs) := s.engElems ag (oG b) 4 xs
  let (s, e3, ms) := if oM b = 0 then (s, 0, xs.map (fun _ => Ex.zero)) else s.engM8 ag (oM b) xs
  let rows := sortNat (xs.map (fun x => x / oCols b))
  let cols := sortNat (xs.map (fun x => x % oCols b))
  let (s, e4, fr) := s.engElems ag (oV b) 4 rows
  let (s, e5, fc) := s.engElems ag (oF b) 4 cols
  let e := firstCode [e0, e1, e2, e3, e4, e5]
  if e ≠ 0 then (s, { st := e })
  else
    let b1 := oF32 b 1
    let c1 := rSub Ex.one b1
    let one := fun (x : Nat) (p g m : Ex) =>
      let fri := fp32Val (mapGet 0 (List.zip rows fr) (x / oCols b))
      let fcj := fp32Val (mapGet 0 (List.zip cols fc) (x % oCols b))
      let vh := if rm.isZero then Ex.zero else rDiv (rDiv (rMul fri fcj) rm) (oF32 b 6)
      let m := if oM b = 0 then m else rAdd (rMul b1 m) (rMul c1 g)
      let mh := if oM b = 0 then g else rDiv m (oF32 b 5)
      let u := rDiv mh (rAdd (rSqrt vh) (oF32 b 3))
      (rSub p (rMul (oF32 b 0) (rAdd u (rMul (oF32 b 4) p))), m)
    let outs := (List.zip xs (List.zip ps (List.zip (gs.map (clipped b)) ms))).map (fun q => (q.1, one q.1 q.2.1 q.2.2.1 q.2.2.2))
    let (s, o, _, _) := s.chunkWrite ag b (outs.map (fun q => (q.1, q.2.1))) (if oM b = 0 then [] else outs.map (fun q => (q.1, q.2.2))) [] xs
    (s, o)

/-- The factors at the end of pass 1 of rule 3 (R177): rows and columns that hold an unmasked element. -/
def State.factors (s : State) (ag : Ag) (b hdr : Nat) : State × ChunkOut :=
  let n := oCount b
  let (s, e0, xs) := s.unmasked ag b hdr (List.range n)
  let (s, e1, gs) := s.engElems ag (oG b) 4 xs
  let rows := sortNat (xs.map (fun x => x / oCols b))
  let cols := sortNat (xs.map (fun x => x % oCols b))
  let (s, e2, fr) := s.engElems ag (oV b) 4 rows
  let (s, e3, fc) := s.engElems ag (oF b) 4 cols
  let e := firstCode [e0, e1, e2, e3]
  if e ≠ 0 then (s, { st := e })
  else
    let sq := (List.zip xs gs).map (fun q => (q.1, rMul (clipped b q.2) (clipped b q.2)))
    let b2 := oF32 b 2
    let c2 := rSub Ex.one b2
    let new := fun (old : Nat) (l : List Ex) (d : Nat) => rAdd (rMul b2 (fp32Val old)) (rMul c2 (rDiv (rTree l) (Ex.ofNat d)))
    let nr := (List.zip rows fr).map (fun q => (q.1, new q.2 ((sq.filter (fun x => x.1 / oCols b == q.1)).map Prod.snd) (oCols b)))
    let nc := (List.zip cols fc).map (fun q => (q.1, new q.2 ((sq.filter (fun x => x.1 % oCols b == q.1)).map Prod.snd) (oRows b)))
    let (t, st) := s.engPut ag (oV b) 4 (nr.map (fun q => (q.1, fp32Bits q.2)))
    let (t, st) := if st ≠ 0 then (t, st) else t.engPut ag (oF b) 4 (nc.map (fun q => (q.1, fp32Bits q.2)))
    if st ≠ 0 then (s, { st := st })
    else (t, { cnt := { c := (nr ++ nc).foldl (fun m q => addCounts m (convCounts fp32 q.2 q.2 false false)) [0, 0, 0, 0] } })

/-- One chunk of a step's pass. -/
def State.chunkRun (s : State) (ag : Ag) (o : OptStep) (c : Nat) : State × ChunkOut :=
  let (s, e, xs) := s.unmasked ag o.blk o.mask (chunkIdx o.blk c)
  if e ≠ 0 then (s, { st := e })
  else if xs.isEmpty then (s, {})
  else if oRule o.blk = 3 ∧ o.pass = 1 then
    let (s, e, _) := s.engElems ag (oG o.blk) 4 xs
    (s, { st := e })
  else if oRule o.blk = 3 then s.chunkFactored ag o.blk xs
  else if oRule o.blk = 4 ∧ o.pass = 2 then s.chunkTrust ag o.blk o.ratio xs
  else s.chunkPlain ag o.blk xs

/-! Steps. -/

def OptStep.key (o : OptStep) : Nat := 8 * o.ctx + o.ring
def State.updStep (s : State) (key : Nat) (f : OptStep → OptStep) : State :=
  { s with alder := { s.alder with steps := modifyWhere (fun o => o.key == key) f s.alder.steps } }

/-- Body of the completion record (Table 06.11). -/
def OptStep.body (o : OptStep) : Nat :=
  let c := fun (k : Nat) => min ((o.cnt[k]?).getD 0) (2 ^ 32 - 1)
  oRule o.blk * 2 ^ 236 + (o.updated % 2 ^ 40) * 2 ^ 192 + o.ratio * 2 ^ 160 + c 0 * 2 ^ 128 + c 1 * 2 ^ 96 + c 2 * 2 ^ 64 + c 3 * 2 ^ 32 +
    min o.nanBlk 65535 * 2 ^ 16 + min o.satur 65535

/-- A step ends (R180, R182). `quiet`: its context is destroyed, and no record is written (R181). -/
def State.stepEnd (s : State) (o : OptStep) (quiet : Bool) : State :=
  let s := { s with alder := { s.alder with steps := s.alder.steps.filter (fun x => x.key != o.key) } }
  let st := if Code.isFailure o.st ∨ o.st = Code.optSkipped then o.st else if o.cnt.any (fun n => n != 0) then Code.numericFlagged else 0
  let s := s.count (dkey 0x3080 0x01)
  let s := if st = Code.optSkipped then s.count (dkey 0x3080 0x03) else if Code.isFailure st then s.count (dkey 0x3080 0x04) else s
  let s := if o.satur = 0 then s else s.count (dkey 0x3080 0x05) o.satur
  let s := if o.nanBlk = 0 then s else s.count (dkey 0x4040 0x05) o.nanBlk
  let s := (s.numTotals o.cnt).countCode o.ctx st
  match (s.ring o.ctx o.ring).cur with
  | none => s
  | some c =>
    let c := if quiet then { c with img := setBits c.img 320 48 0 } else c
    (s.dropWork c.id).complete o.ctx o.ring c st 0 0 o.body

/-- A pass is over: the next one begins, or the step ends. The factors of rule 3 are the firmware's to write: while their reads are on the
way, nothing has happened. -/
def State.passEnd (s : State) (ag : Ag) (o : OptStep) : State :=
  let r := oRule o.blk
  let all := List.range (oChunks o.blk)
  if r = 3 ∧ o.pass = 1 then
    let (t, q) := s.factors ag o.blk o.mask
    if q.st = Code.running then s.agWait t ag
    else
      let t := (t.agDrop ag).agGo ag
      let o := { o with pass := 2, left := all, cnt := addCounts o.cnt q.cnt.c }
      if q.st ≠ 0 then t.stepEnd { o with st := q.st } false else t.updStep o.key (fun _ => o)
  else if r = 4 ∧ o.pass = 1 then
    let b := o.blk
    let sp := rTree (o.sums.map (fun e => fp32Val e.2.1))
    let sw := rTree (o.sums.map (fun e => fp32Val e.2.2))
    let odd := fun (x : Ex) => x.isZero || !x.isFin
    let ratio := if odd sp || odd sw then Ex.one else rDiv (rSqrt sp) (rSqrt sw)
    let tr := oF32 b 9
    let ratio := if Ex.lt Ex.zero tr && Ex.lt tr ratio then tr else ratio
    s.updStep o.key (fun _ => { o with pass := 2, left := all, ratio := fp32Bits ratio })
  else s.stepEnd o false

/-- OPT_STEP (R173 to R175): checked; its chunks then wait for their engines. -/
def execOptStep (ctx : Fin 4097) (ring : Fin 8) (s : State) : Res :=
  ringCmd s ctx.val ring.val 0x41 (fun c =>
    let ag := cmdAg ctx.val c
    let badBlock := s.badAddr ctx.val (cA0 c.img) 128 128 .read
    match (if badBlock then (s, Got.ok []) else s.agRead ag .read (cA0 c.img) 128) with
    | (t, .wait) => s.agWait t ag
    | (t, .err e) => ((t.agDrop ag).countCode ctx.val e).complete ctx.val ring.val c e 0 (cA0 c.img) 0
    | (t, .ok bs) =>
      let b := leNat bs
      match (if badBlock ∨ oMask b = 0 ∨ oMask b % 16 ≠ 0 ∨ (t.rangeOk ctx.val (oMask b) 16 .read) = false then (t, Got.ok [])
             else t.agRead ag .read (oMask b) 16) with
      | (t, .wait) => s.agWait t ag
      | (t, .err e) => ((t.agDrop ag).countCode ctx.val e).complete ctx.val ring.val c e 0 (oMask b) 0
      | (t, .ok hs) =>
        let t := t.agDrop ag
        let hdr := if oMask b = 0 then some 0 else if hs = [] then none else some (leNat hs)
        let why := [(badBlock, Code.commandInvalid, 1), (!badBlock && t.optBad ctx.val b hdr, Code.optParams, 1)] ++
          t.baseReasons ctx.val ring.val c
        match firstReason why with
        | some (st, d) => t.refuse ctx.val ring.val c st d 0
        | none =>
          let o : OptStep := { ctx := ctx.val, ring := ring.val, blk := b, mask := hdr.getD 0, left := List.range (oChunks b)
                               ratio := if oRule b = 4 then 0x3F800000 else fp32Bits (clipScale b) }
          let t := { t with alder := { t.alder with steps := t.alder.steps ++ [o] } }
          let t := t.updCmd ctx.val ring.val (fun c => { c with stage := 1 })
          if clipSkips b then t.stepEnd { o with st := Code.optSkipped, ratio := 0x3F800000 } false else t)

/-! Engines. -/

def State.engineOk (s : State) (k : Nat) : Bool := !(bitAt (s.dv (dkey 0x3080 0x06)) k)
/-- The engine of a chunk (R172): that of the stack of its first P24 byte, else one that takes over. -/
def State.engineOf (s : State) (o : OptStep) (c : Nat) : Option Nat :=
  let k := match s.xlate o.ctx (oP o.blk + 4096 * c) .both with
    | (_, .glob a _) => (s.place (gOffset a)).stack
    | _ => 0
  if s.engineOk k then some k
  else if s.engineOk (k ^^^ 2) then some (k ^^^ 2)
  else ((List.range 16).map (fun i => (k + 1 + i) % 16)).find? s.engineOk

/-- Does an engine pause: a supply warning on its die or stack, a map-out of its stack (R181)? -/
def State.enginePaused (s : State) (e : Nat) : Bool :=
  s.stopped.2.contains e ||
    (decide (s.hbm.mapout.step ≠ 0) && (match s.hbm.mapout.queue.head? with | some q => q % 16 == e | none => false))

/-- The step with a chunk for an engine that follows the one it served last, and its first such chunk (R172). -/
def State.engineNext (s : State) (e : Nat) : Option (OptStep × Nat) :=
  let all := s.alder.steps.filterMap (fun o => (o.left.find? (fun c => s.engineOf o c == some e)).map (fun c => (o, c)))
  let l := mapGet 0 s.alder.last e
  let least := fun (x : List (OptStep × Nat)) => x.foldl (fun (m : Option (OptStep × Nat)) p => match m with
    | none => some p
    | some q => if p.1.key < q.1.key then some p else some q) none
  (least (all.filter (fun p => decide (p.1.key + 1 > l)))).orElse (fun _ => least all)

/-- An engine in the name of a step's command, for one chunk. -/
def engAg (ctx e c : Nat) (cmd : Cmd) : Ag := { src := .alder e, ctx := ctx, slot := c, id := cmd.id }

/-- A chunk has failed: what is not written of it and later chunks are abandoned, and the step ends with its code (R181). -/
def State.chunkFail (s : State) (o : OptStep) (seq e c : Nat) (st : Status) : State :=
  let d := dieOfStack e
  let low := s.fullLow 0x41 o.ctx o.ring seq 0x3FF 0x3FF (s.hottest (640 + 4 * d) 4) (s.rail (16 + d)).mv 0 c
  ((s.raiseAs Ev.alderFault 3 e st 0 low).drawn).stepEnd { o with st := st } false

/-- Are the writes of a chunk all back? -/
def State.chunkBack (s : State) (ag : Ag) : Bool := !(s.reqs.any (fun r => ag.owns r && r.slot == ag.slot && !(isRd r) && r.ph != .done))

/-- The first chunk of a step whose writes are back counts, or fails the step; a step with no chunk left goes to its next pass (R180,
R181). -/
def State.chunkSettle (s : State) (o : OptStep) : State :=
  match (s.ring o.ctx o.ring).cur with
  | none => s
  | some cmd =>
    match o.flying.find? (fun f => s.chunkBack (engAg o.ctx f.2.1 f.1 cmd)) with
    | some (c, e, q) =>
      let mine := fun (r : Req) => (engAg o.ctx e c cmd).owns r && r.slot == c && !(isRd r)
      let st := firstCode ((s.reqs.filter mine).map Req.st)
      let s := { s with reqs := s.reqs.filter (fun r => !(mine r)) }
      if st ≠ 0 then s.chunkFail o cmd.seq e c st
      else
        let o := { o with flying := o.flying.filter (fun f => f.1 != c), updated := o.updated + q.n, cnt := addCounts o.cnt q.cnt.c
                          nanBlk := o.nanBlk + q.cnt.nan, satur := o.satur + q.cnt.sat
                          sums := match q.sums with | some v => setKey o.sums c v | none => o.sums }
        let s := ((if q.n = 0 then s else s.count (dkey 0x3080 0x02) q.n).updStep o.key (fun _ => o)).progress o.ctx o.ring
        if o.left.isEmpty && o.flying.isEmpty then s.passEnd (cmdAg o.ctx cmd) o else s
    | none => if o.left.isEmpty && o.flying.isEmpty then s.passEnd (cmdAg o.ctx cmd) o else s
def State.alderSettle (s : State) : State :=
  s.alder.steps.foldl (fun (t : State) o =>
    match t.alder.steps.find? (fun x => x.key == o.key) with
    | some x => t.chunkSettle x
    | none => t) s

/-- An engine carries out the next chunk it serves: it reads all it needs, computes the whole chunk and only then writes (R172). While a
read is on the way nothing of the chunk has happened. -/
def State.alderRun (s : State) (e : Nat) : State :=
  match s.engineNext e with
  | none => s
  | some (o, c) =>
    match (s.ring o.ctx o.ring).cur with
    | none => s
    | some cmd =>
      if s.agBusy (cmdAg o.ctx cmd) then s
      else
        let ag := engAg o.ctx e c cmd
        let (t, q) := s.chunkRun ag o c
        if q.st = Code.running then s.agWait t ag
        else
          let t := ({ (t.agDrop ag) with alder := { t.alder with last := mapSet 0 t.alder.last e (o.key + 1) } }.agGo ag).countFree (dkey 0x3080 0x07)
          if q.st ≠ 0 then t.chunkFail o cmd.seq e c q.st
          else t.updStep o.key (fun o => { o with left := o.left.filter (fun x => x != c), flying := o.flying ++ [(c, e, q)] })

/-- ALDER_CHUNK: an engine goes on with the next chunk it serves; chunks whose writes are back are counted. -/
def execAlderChunk (engine : Fin 16) (s : State) : Res :=
  let e := engine.val
  if !s.running || !(s.engineOk e) || s.enginePaused e || s.pwr.domOff.contains (864 + e) then .next s
  else .next (s.alderSettle.alderRun e).alderSettle

end Sys2Proof.Machine
end

