-- ==== Sys2Proof/Machine/ArrayMath.lean ====
section
/-!
DEFINITION. Machine/ArrayMath.lean: what one column of the array computes: pairing classes and K per cycle (R66, Table 03.2), leaves
(R79, R81, R83), the sum tree (R80), selection with index (R84), accumulation and the numeric counters (R85).
-/
namespace Sys2Proof.Machine

/-- Pairing classes of Table 03.2. -/
inductive PClass where
  | f32 | c16 | c8 | mx86 | mx4
  deriving DecidableEq, Repr

def pclass (fmt : Nat) : Option PClass :=
  match fmt with
  | 0x00 => some .f32
  | 0x01 => some .c16 | 0x02 => some .c16 | 0x0A => some .c16
  | 0x03 => some .c8 | 0x04 => some .c8
  | 0x05 => some .mx86 | 0x06 => some .mx86 | 0x07 => some .mx86 | 0x08 => some .mx86
  | 0x09 => some .mx4
  | _ => none

/-- kc of a class (Table 03.2). -/
def PClass.kc : PClass → Nat
  | .f32 => 16 | .c16 => 64 | .c8 => 128 | .mx86 => 128 | .mx4 => 256

/-- Modes of Table 03.4. -/
def isArg (mode : Nat) : Bool := mode == 5 || mode == 6
def isSum (mode : Nat) : Bool := decide (mode ≤ 2)
/-- Formats of Table 03.8, with the LOP restriction of FP32. -/
def modeClass (mode lop : Nat) (c : PClass) : Bool :=
  match mode with
  | 0 => true
  | 1 => c == .c8 || c == .c16
  | 2 => c == .c8 || c == .c16
  | 3 => c == .c8 || c == .c16 || c == .f32
  | 4 => c == .c8 || c == .c16 || c == .f32
  | _ => c == .c8 || c == .c16 || (c == .f32 && lop == 0)

/-- A present leaf: its exact value, its index, whether an operand was NaN, whether all were finite, whether its cell is gated. -/
structure Lf where
  v    : Ex
  ix   : Nat
  nan  : Bool
  fin  : Bool
  gate : Bool
  deriving DecidableEq, Repr

/-- The leaf operation of a mode on two operands (Table 03.8); `bmul`: ARGMIN and ARGMAX with LOP = 1. -/
def leafVal (mode : Nat) (bmul : Bool) (a b : Ex) : Ex :=
  match mode with
  | 0 => Ex.mul a b
  | 1 => (Ex.sub a b).abs
  | 2 => let d := Ex.sub a b; Ex.mul d d
  | _ => if bmul then Ex.mul a b else Ex.add a b

/-- R87: one operand zero, the other finite. -/
def gated (a b : Ex) : Bool := (a.isZero && b.isFin) || (b.isZero && a.isFin)

def leafOf1 (mode : Nat) (bmul : Bool) (ix : Nat) (a b : Ex) : Lf :=
  { v := leafVal mode bmul a b, ix := ix, nan := a.isNan || b.isNan, fin := a.isFin && b.isFin, gate := gated a b }

/-- The three pieces of a finite FP32 operand (R81). -/
def pieces3 : Ex → List Ex
  | .fin n m e => [.fin n (m / 2 ^ 16) (e + 16), .fin n (m / 2 ^ 8 % 256) (e + 8), .fin n (m % 256) e]
  | x => [x, x, x]

/-- The eight leaves of one FP32 product (R81); gating is judged for each (R87; log 103). -/
def fp32Leaves (ix : Nat) (a b : Ex) : List (Option Lf) :=
  if a.isFin && b.isFin then
    let p := pieces3 a
    let q := pieces3 b
    [(0, 0), (0, 1), (1, 0), (0, 2), (1, 1), (2, 0), (1, 2), (2, 1)].map (fun (i, j) =>
      some (leafOf1 0 false ix ((p[i]?).getD Ex.zero) ((q[j]?).getD Ex.zero)))
  else some (leafOf1 0 false ix a b) :: List.replicate 7 none

/-- The operands of a slot: logical index, A's value, B's value; none for an absent position. -/
abbrev Slot := Option (Nat × Ex × Ex)

def slotLeaf (mode : Nat) (bmul : Bool) : Slot → Option Lf
  | none => none
  | some (k, a, b) => some (leafOf1 mode bmul k a b)

/-- Two products of one cell of the MX 4 class (Table 03.6). -/
def pairLeaf : Slot → Slot → Option Lf
  | some (k, a, b), some (_, c, d) =>
    some { v := Ex.add (Ex.mul a b) (Ex.mul c d), ix := k, nan := a.isNan || b.isNan || c.isNan || d.isNan
           fin := a.isFin && b.isFin && c.isFin && d.isFin, gate := gated a b && gated c d }
  | some (k, a, b), none => some (leafOf1 0 false k a b)
  | none, some (k, a, b) => some (leafOf1 0 false k a b)
  | none, none => none

def pairSlots : List Slot → List (Option Lf)
  | a :: b :: r => pairLeaf a b :: pairSlots r
  | [a] => [pairLeaf a none]
  | [] => []

/-- The 128 leaves of a chunk from its slots in order (Table 03.6, R83). -/
def leavesOf (c : PClass) (mode : Nat) (bmul : Bool) (slots : List Slot) : List (Option Lf) :=
  match c with
  | .c8 => slots.map (slotLeaf mode bmul)
  | .mx86 => slots.map (slotLeaf mode bmul)
  | .c16 => slots.flatMap (fun x => [slotLeaf mode bmul x, none])
  | .mx4 => pairSlots slots
  | .f32 => slots.flatMap (fun x => match x with
      | none => List.replicate 8 none
      | some (k, a, b) => if mode = 0 then fp32Leaves k a b else some (leafOf1 mode bmul k a b) :: List.replicate 7 none)

/-- A sum node (R80). -/
def sumNode : Option Ex → Option Ex → Option Ex
  | none, none => none
  | some x, none => some (rFp32 x)
  | none, some y => some (rFp32 y)
  | some x, some y => some (rFp32 (Ex.add x y))

/-- One value wins over another (R84); `maxi` reverses the order of values. -/
def wins (maxi : Bool) (v1 : Ex) (i1 : Nat) (v2 : Ex) (i2 : Nat) : Bool :=
  if v1.isNan && v2.isNan then decide (i1 < i2)
  else if v1.isNan then true
  else if v2.isNan then false
  else
    let lt := if maxi then Ex.lt v2 v1 else Ex.lt v1 v2
    let gt := if maxi then Ex.lt v1 v2 else Ex.lt v2 v1
    lt || (!gt && decide (i1 < i2))

/-- A selecting node: an absent leaf loses (R83, R84). -/
def selNode (maxi : Bool) : Option Lf → Option Lf → Option Lf
  | none, y => y
  | x, none => x
  | some x, some y => if wins maxi y.v y.ix x.v x.ix then some y else some x

def treeOpt {α : Type} (f : Option α → Option α → Option α) (l : List (Option α)) : Option α :=
  ((treeFuel f 8 l).head?).getD none

/-- Does a mode select the greater value? -/
def maxMode (mode : Nat) : Bool := mode == 4 || mode == 6

/-- Start values (Table 03.8). -/
def identity (mode : Nat) : Ex × Nat :=
  if isSum mode then (.fin false 0 0, 0) else if maxMode mode then (.inf true, 0xFFFFFFFF) else (.inf false, 0xFFFFFFFF)

/-- A chunk: the value that joins the accumulator with its index, the exact value behind it, and what it came from. -/
structure Chunk where
  v     : Ex
  ix    : Nat
  exact : Ex
  nan   : Bool
  fin   : Bool
  gates : Nat
  deriving DecidableEq, Repr

/-- R80, R83: the chunk of a list of leaves; none when every leaf is absent. -/
def chunkOf (mode : Nat) (ls : List (Option Lf)) : Option Chunk :=
  let ps := ls.filterMap id
  let nan := ps.any Lf.nan
  let gates := if mode = 0 then (ps.filter Lf.gate).length else 0
  if isSum mode then
    (treeOpt sumNode (ls.map (fun o => o.map Lf.v))).map (fun v =>
      { v := rFp32 v, ix := 0, exact := ps.tail.foldl (fun a l => Ex.add a l.v) ((ps.head?.map Lf.v).getD Ex.zero), nan := nan
        fin := ps.all Lf.fin, gates := gates })
  else
    (treeOpt (selNode (maxMode mode)) ls).map (fun l =>
      { v := rFp32 l.v, ix := l.ix, exact := l.v, nan := nan, fin := l.fin, gates := gates })

/-- Subnormal in FP32. -/
def isSubn (v : Ex) : Bool := v.isFin && !v.isZero && decide (v.lg < -126)

/-- R85: counts of one written value: written, exact before rounding, all inputs finite, a NaN among the inputs. -/
def accCounts (w exact : Ex) (fin nan : Bool) : List Nat :=
  let b := fun (q : Bool) => if q then 1 else 0
  [b (w.isInf && fin), b (w.isZero && !exact.isZero && exact.isFin), b (w.isNan && !nan), b (isSubn w)]

/-- R80, R83, R84: an accumulator meets a chunk: what is written, and its counts. -/
def accumulate (mode : Nat) (acc : Ex × Nat) (c : Chunk) : (Ex × Nat) × List Nat :=
  if isSum mode then
    let exact := Ex.add acc.1 c.exact
    let w := rFp32 (Ex.add acc.1 c.v)
    ((w, 0), accCounts w exact (acc.1.isFin && c.fin) (c.nan || acc.1.isNan))
  else if wins (maxMode mode) acc.1 acc.2 c.v c.ix then
    (acc, accCounts acc.1 acc.1 false (c.nan || acc.1.isNan))
  else ((c.v, c.ix), accCounts c.v c.exact c.fin (c.nan || acc.1.isNan))

/-- R82: two accumulators combined. -/
def combine2 (mode : Nat) (x y : Ex × Nat) : (Ex × Nat) × List Nat :=
  accumulate mode x { v := y.1, ix := y.2, exact := y.1, nan := y.1.isNan, fin := y.1.isFin, gates := 0 }

end Sys2Proof.Machine
end

