-- ==== Sys2Proof/Machine/ArrayQueue.lean ====
section
/-!
DEFINITION. Machine/ArrayQueue.lean: the array queue: MXA.ASYNC, MXA.CMPR and RWN.DRAIN issue (R72 to R75, R132, R139), waits, and the
validation of an operation (R66, R67, R69 to R71, R91, R122, R129, R132, R135, R140 to R142, R158, R159, R164).
-/
namespace Sys2Proof.Machine

/-! Control words. -/

def mxMode (ctl : Nat) : Nat := bits ctl 60 4
def mxLop (ctl : Nat) : Nat := bits ctl 59 1
def mxInit (ctl : Nat) : Bool := bitAt ctl 58
def mxNacc (ctl : Nat) : Nat := 2 ^ bits ctl 56 2
def mxMerge (ctl : Nat) : Bool := bitAt ctl 55
def mxSpec (ctl : Nat) : Bool := bitAt ctl 54
/-- The record offset of a control word (Tables 03.4 and 05.6, R139); none for 0xFFFF. -/
def mxRec (ctl : Nat) : Option Nat := if bits ctl 32 16 = 0xFFFF then none else some (32 * bits ctl 32 16)

/-! Issue. -/

/-- An operation enters the queue and takes its token (R72, R74). -/
def Iss.mxEnter (i : Iss) (g : Group) (t : Nat) (op : MxOp) (rd : Nat) (act : Lanes) : State :=
  let op := { op with id := i.s.nextId, token := t }
  let s := i.s.bumpId.updImg i.ctx i.core (fun m => { m with mxq := m.mxq ++ [op] })
  { i with s := s }.retireP (g.useTok true t op.id rd act)

/-- The issue of an operation whose offsets are `offs` (R72, R74, R75, R132, R139, R491). -/
def Iss.mxIssue (i : Iss) (w : IWord) (kind : MKind) (offs : List Nat) (mk : MxOp → MxOp) : State :=
  if i.act = 0 then i.retire i.grp
  else
    let ctl := w.imm.toNat
    let (st, bad) := offCheck64 i offs
    let rec' := mxRec ctl
    if st ≠ 0 then i.fault st bad
    else if (rec'.map (fun o => decide (o + 32 > i.img.lsBytes))).getD false then i.fault Code.localBounds (rec'.getD 0)
    else match i.grp.tokFor true with
    | .fault e => i.fault e
    | .wait t => i.s.setGroup i.ctx i.core i.slot { i.grp with wait := .token true t 0 0 true }
    | .take g t =>
      let l := i.s.launch? g.launch
      let f := fun (p : Launch → Bool) => (l.map p).getD false
      let op := mk { id := 0, kind := kind, slot := i.slot, launch := g.launch, group := g.idx, token := 0, ctx := i.ctx, ctl := ctl,
                     strict := f Launch.strict, spec := f Launch.spec, saved := f Launch.savem, recOff := rec' }
      if i.img.mxq.length < 16 then i.mxEnter g t op w.rd.toNat i.act
      else (i.s.count (dkey 0x4030 0x06)).setGroup i.ctx i.core i.slot { g with wait := .queue op w.rd.toNat i.act }

/-- MXA.ASYNC (R72, R73). -/
def execMxaAsync (g : GRef) (w : IWord) (s : State) : Res :=
  issue s g w (fun gr => modZero w && regsOk [(w.rd.toNat, 1), (w.ra.toNat, 1), (w.rb.toNat, 1), (w.rc.toNat, 1)] gr) (fun i =>
    let a := leadReg i w.ra.toNat
    let b := leadReg i w.rb.toNat
    let c := leadReg i w.rc.toNat
    i.mxIssue w .mxa [a, b, c] (fun op => { op with a := descAt i.img.ls a, b := descAt i.img.ls b, c := descAt i.img.ls c }))

/-- MXA.CMPR (R132). -/
def execMxaCmpr (g : GRef) (w : IWord) (s : State) : Res :=
  issue s g w (fun gr => modZero w && regsOk [(w.rd.toNat, 1), (w.ra.toNat, 1), (w.rb.toNat, 1)] gr) (fun i =>
    let a := leadReg i w.ra.toNat
    let b := leadReg i w.rb.toNat
    i.mxIssue w .cmpr [a, b] (fun op => { op with a := descAt i.img.ls a, b := descAt i.img.ls b }))

/-- RWN.DRAIN (R139). In clear mode the output descriptor is not used. -/
def execRwnDrain (g : GRef) (w : IWord) (s : State) : Res :=
  issue s g w (fun gr => modZero w && regsOk [(w.rd.toNat, 1), (w.ra.toNat, 1), (w.rb.toNat, 1)] gr) (fun i =>
    let a := leadReg i w.ra.toNat
    let b := leadReg i w.rb.toNat
    let clear := bitAt w.imm.toNat 63
    i.mxIssue w .drain (if clear then [a] else [a, b]) (fun op => { op with ra := a, b := if clear then 0 else descAt i.img.ls b }))

/-- MXA.WAIT (R75). -/
def execMxaWait (g : GRef) (w : IWord) (s : State) : Res :=
  issue s g w (tokRegs w) (fun i => if i.act = 0 then i.retire i.grp else i.waitTok true w.rd.toNat w.ra.toNat)
/-- MXA.POLL (R75). -/
def execMxaPoll (g : GRef) (w : IWord) (s : State) : Res :=
  issue s g w (tokRegs w) (fun i => if i.act = 0 then i.retire i.grp else i.pollTok true w.rd.toNat w.ra.toNat)

/-- MXA_QUEUE_ADMIT (R74): a group that waited for an entry takes one, and its instruction retires. -/
def execMxaQueueAdmit (g : GRef) (s : State) : Res :=
  if !s.running then .next s
  else match s.groupAt g.core.val g.slot.val with
  | none => .next s
  | some h =>
    match h.grp.wait with
    | .queue op rd act =>
      if h.img.mxq.length ≥ 16 then .next s
      else match freeTok h.grp.arTok with
        | none => .next s
        | some t =>
          let grp := { h.grp with wait := .none }
          .next ((s.issOf h.ctx g.core.val g.slot.val grp).mxEnter grp t op rd act)
    | _ => .next s

/-! Validation. -/

/-- The geometry of a product: extents of A, B and C by role (R69). -/
structure Geo where
  m : Nat
  n : Nat
  k : Nat
  deriving DecidableEq, Repr

def geoOf (op : MxOp) : Geo := ⟨(descOf op.a).ext 1, (descOf op.b).ext 0, (descOf op.a).ext 0⟩

/-- Speculation block fields (Table 05.10). -/
def sbOff (v lo : Nat) : Nat := 64 * bits v lo 16
def sbP (v : Nat) : Nat := sbOff v 1008
def sbQ (v : Nat) : Nat := sbOff v 992
def sbH (v : Nat) : Nat := sbOff v 976
def sbW2 (v : Nat) : Nat := sbOff v 960
def sbC2 (v : Nat) : Nat := sbOff v 944
def sbScr (v : Nat) : Nat := sbOff v 928
def sbThresh (v : Nat) : Nat := bits v 896 32
def sbSet (v : Nat) : Nat := bits v 888 8
def sbConsumer (v : Nat) : Bool := bitAt v 887
def sbFence (v : Nat) : Bool := bitAt v 886
def sbSample (v : Nat) : Nat := bits v 880 6
def sbAct (v : Nat) : Nat := bits v 878 2
def sbRank (v : Nat) : Nat := bits v 869 9

/-- The speculation block of an operation with SPEC = 1, if it lies in the local store and is aligned. -/
def specBlock (i : Image) (op : MxOp) : Option Nat :=
  let o := (descOf op.c).smeta
  if o ≠ 0 ∧ o % 64 = 0 ∧ o + 128 ≤ i.lsBytes then some (leNat (cellsRead i.ls o 128)) else none

/-- Does an operation run as a producer with prediction (R141, Table 05.12)? -/
def isProducer (i : Image) (op : MxOp) : Bool :=
  mxSpec op.ctl && mxMode op.ctl == 0 && ((specBlock i op).map (fun v => !(sbConsumer v))).getD false
def isConsumer (i : Image) (op : MxOp) : Bool :=
  mxSpec op.ctl && ((specBlock i op).map sbConsumer).getD false

/-- Byte after the last element of a tensor in its space, without packing. -/
def Desc.endAt (d : Desc) (size : Nat) : Nat :=
  d.base + d.e0 * size + (d.e1 - 1) * d.st1 + (d.e2 - 1) * d.st2 + (d.e3 - 1) * d.st3
/-- A region in a local space lies outside it (R71, R142). -/
def outside (i : Image) (slot : Nat) (d : Desc) : Bool :=
  d.space != 0 && decide (d.endAt (elemBits d.fmt / 8) > (spaceRange i slot (if d.space = 1 then .group else .core)).2)

/-- The checks of R71 on the form of one descriptor. -/
def descForm (d : Desc) : Bool := d.ver != 1 || d.space == 3 || d.exts.any (· == 0) || decide (d.fmt > 0x0C)
/-- The checks of R71 on one descriptor; a CSR operand's strides are ignored (R125). -/
def descBad (d : Desc) : Bool :=
  descForm d || (if d.spform = 3 then [d.base] else [d.base, d.st1, d.st2, d.st3]).any (fun x => decide (x % elemAlign d.fmt ≠ 0))

/-- The checks of R67, R70, R71 on an operand. -/
def operandBad (d : Desc) (k : Nat) : Bool :=
  descBad d || (pclass d.fmt).isNone || d.ext 2 != 1 || d.ext 3 != 1 || d.dsrc != 0 || d.dkind != 0 || d.bmask != 0 ||
  (isMx d.fmt && decide (k % 32 ≠ 0)) || ((d.fmt == 7 || d.fmt == 8) && decide (d.e0 % 4 ≠ 0)) || (isMx d.fmt != (d.scale != 0))

/-- Fields of a derivative header (Table 06.3). -/
def dhSaved (v : Nat) : Nat := bits v 464 48
def dhRowsum (v : Nat) : Nat := bits v 416 48
def dhStride (v : Nat) : Nat := bits v 392 24
def dhAlpha (v : Nat) : Nat := bits v 360 32
def dhYfmt (v : Nat) : Nat := bits v 355 5
def dhSpace (v : Nat) : Nat := bits v 353 2
def dhKind (v : Nat) : Nat := bits v 349 4
/-- Bytes of one row of the saved tensor (R158, Table 06.4). -/
def dhRow (v n : Nat) : Nat :=
  let k := dhKind v
  if k ≤ 2 then ceilDiv n 8 else if k ≤ 5 then n * (elemBits (dhYfmt v) / 8) else ceilDiv n 2

/-- R159: the header of C. -/
def derivBad (i : Image) (c : Desc) (n nacc : Nat) (merge : Bool) : Bool :=
  if c.dkind = 0 then false
  else
    let v := descAt i.ls c.dsrc
    decide (c.dkind > 2) || c.dsrc == 0 || decide (c.dsrc % 64 ≠ 0) || decide (c.dsrc + 64 > i.lsBytes) ||
    decide (dhKind v > 7) || dhSpace v == 3 || (decide (3 ≤ dhKind v ∧ dhKind v ≤ 5) && decide (dhYfmt v > 4)) ||
    (dhKind v == 5 && dhRowsum v == 0) || decide (dhStride v < dhRow v n) ||
    (c.dkind == 2 && decide (3 ≤ dhKind v ∧ dhKind v ≤ 5)) || (decide (nacc > 1) && !merge)

/-- R142: a producer's block and descriptors. -/
def producerBad (i : Image) (op : MxOp) (v : Nat) (g : Geo) : Bool :=
  let p := descOf (descAt i.ls (sbP v))
  let q := descOf (descAt i.ls (sbQ v))
  let h := descOf (descAt i.ls (sbH v))
  let w2 := descOf (descAt i.ls (sbW2 v))
  let c2 := descOf (descAt i.ls (sbC2 v))
  let r := sbRank v
  let fmts := fun (d : Desc) => d.fmt == 3 || d.fmt == 4 || d.fmt == 9
  [sbP v, sbQ v, sbH v, sbW2 v, sbC2 v].any (fun o => decide (o + 64 > i.lsBytes)) ||
  sbSet v == 0 || decide (sbAct v > 1) || r == 0 || decide (r > 256) || operandBad p g.k || operandBad q r || descBad h || descBad w2 || descBad c2 ||
  p.ext 0 != r || p.ext 1 != g.k || q.ext 0 != g.n || q.ext 1 != r || !(fmts p) || !(fmts q) ||
  decide (h.fmt > 4) || h.ext 0 != g.n || h.ext 1 != g.m || decide (g.n > 4096) ||
  outside i op.slot (descOf op.c) || decide (sbScr v + 4 * g.m * r > i.lsBytes) || outside i op.slot c2 || outside i op.slot h ||
  (decide (mxNacc op.ctl > 1) && !(mxMerge op.ctl))

/-- DESCRIPTOR_INVALID of an array operation (R67, R69 to R71, R123, R124, R142, R159); of sparse headers that R70 does not judge: log 103. -/
def mxDescBad (i : Image) (width : Nat) (op : MxOp) : Bool :=
  let a := descOf op.a
  let b := descOf op.b
  let c := descOf op.c
  let g := geoOf op
  let mode := mxMode op.ctl
  let nacc := mxNacc op.ctl
  let prod := isProducer i op
  operandBad a g.k || operandBad b g.k || descForm c ||
  b.ext 1 != (if b.spform = 1 then g.k / 2 else g.k) || c.e0 != g.n || c.e1 != g.m || c.e2 != nacc || c.e3 != 1 || c.trans ||
  decide (g.n > (if prod then 4096 else width)) || c.space == 0 ||
  (decide (mode ≤ 6) && c.fmt != (if isArg mode then 0x0C else 0)) || [c.base, c.st1, c.st2].any (fun x => decide (x % 4 ≠ 0)) ||
  c.scale != 0 || c.spform != 0 || (c.smeta != 0 && !(mxSpec op.ctl)) || outside i op.slot c ||
  (b.spform == 1 && decide (g.k % 8 ≠ 0)) || (b.spform == 2 && decide (g.k % 16 ≠ 0)) ||
  (a.spform != 0 && a.smeta == 0) || (b.spform != 0 && b.smeta == 0) || (a.spform == 3 && decide (a.smeta % 16 ≠ 0)) ||
  decide (c.bmask % 16 ≠ 0) ||
  (mxSpec op.ctl && (specBlock i op).isNone) || (prod && producerBad i op ((specBlock i op).getD 0) g) ||
  derivBad i c g.n nacc (mxMerge op.ctl)

/-- Formats of Table 05.1. -/
def sparseFmt (form fmt : Nat) : Bool :=
  match form with
  | 0 => true
  | 1 => decide (2 ≤ fmt ∧ fmt ≤ 4)
  | 2 => decide (fmt ≤ 4) || fmt == 0x0A
  | 3 => decide (fmt ≤ 4) || fmt == 0x0A
  | _ => true

/-- MODE_FORMAT of an array operation (R66, R71, R91, R122, R129, R140, R141, R159, R164). -/
def mxModeBad (i : Image) (op : MxOp) : Bool :=
  let a := descOf op.a
  let b := descOf op.b
  let c := descOf op.c
  let mode := mxMode op.ctl
  decide (mode > 6) || (mxLop op.ctl == 1 && !(isArg mode)) || pclass a.fmt != pclass b.fmt ||
  (match pclass a.fmt with
   | some k => !(modeClass mode (mxLop op.ctl) k)
   | none => false) ||
  !(a.spform == 0 || a.spform == 3 || a.spform == 4) || decide (b.spform > 2) || !(sparseFmt a.spform a.fmt) ||
  !(sparseFmt b.spform b.fmt) || (b.spform == 1 && b.trans) || (a.spform == 3 && a.trans) ||
  (a.spform == 3 && b.spform != 0) || (a.spform == 4 && mode != 0) || (mxSpec op.ctl && !op.spec) ||
  (isConsumer i op && (mode != 0 || mxNacc op.ctl != 1)) || (c.dkind != 0 && mode != 0) || (c.dkind == 2 && !op.saved) ||
  (c.dkind == 1 && isProducer i op)

/-- R132: the checks of a compression. -/
def cmprBad (op : MxOp) : Bool :=
  let a := descOf op.a
  let b := descOf op.b
  descBad a || descBad b || !(decide (2 ≤ a.fmt ∧ a.fmt ≤ 4)) || a.fmt != b.fmt || a.spform != 0 || b.spform != 1 ||
  b.e1 != a.e1 / 2 || a.e0 != b.e0 || decide (a.e1 % 8 ≠ 0) || a.trans || b.trans ||
  a.e2 != 1 || a.e3 != 1 || b.e2 != 1 || b.e3 != 1 ||
  a.scale != 0 || b.scale != 0 || a.smeta != 0 || b.smeta == 0 || a.dsrc != 0 || b.dsrc != 0 || a.dkind != 0 || b.dkind != 0 ||
  a.bmask != 0 || b.bmask != 0

/-- R135, R139: the checks of a drain. -/
def drainBad (i : Image) (op : MxOp) : Bool :=
  rwBad (descAt i.ls op.ra) op.ra i.lsBytes ||
  (!(bitAt op.ctl 63) && (let d := descOf op.b; descBad d || d.fmt != 0x0C))

/-- What validation finds (R71, R132, R135): a broken descriptor rule is reported before a mode or format rule. -/
def mxValidate (i : Image) (width : Nat) (op : MxOp) : Status :=
  match op.kind with
  | .mxa => if mxDescBad i width op then Code.descriptorInvalid else if mxModeBad i op then Code.modeFormat else 0
  | .cmpr => if cmprBad op then Code.descriptorInvalid else 0
  | .drain => if drainBad i op then Code.descriptorInvalid else 0

/-- Writes SET_STATUS of a speculation block (Table 05.10). -/
def State.setStatus (s : State) (ctx core off : Nat) (st : Status) : State :=
  s.updImg ctx core (fun m => { m with ls := setStatusAt m.ls off st })

/-- The head operation of a queue begins: validated, and a producer's SET_STATUS becomes 0xFFFF. -/
def State.mxBegin (s : State) (c core : Nat) (op : MxOp) (rest : List MxOp) : State :=
  let i := s.img c core
  let op := { op with started := true, st := mxValidate i (s.width core) op }
  let s := s.setImg c core { i with mxq := op :: rest }
  if op.kind = .mxa ∧ op.st = 0 ∧ isProducer i op then s.setStatus c core (descOf op.c).smeta 0xFFFF else s

def State.die (s : State) (d : Nat) : DieP := mapGet {} s.pwr.dies d
def State.updDie (s : State) (d : Nat) (f : DieP → DieP) : State := { s with pwr := { s.pwr with dies := mapUpd {} s.pwr.dies d f } }

/-- MXA_OP_START (R63, R71, R74): the operation at the head of the queue begins, once no self-test is due (R449) and the start governor
has admitted it: at once when no window is open, else in its grove's window (R423). -/
def execMxaOpStart (core : Fin 576) (s : State) : Res :=
  let core := core.val
  if !s.running then .next s
  else match s.liveCtx core with
  | none => .next s
  | some c =>
    let i := s.img c core
    match i.mxq with
    | [] => .next s
    | op :: rest =>
      if op.started || op.gov == 1 || s.katDue (s.physAny core) then .next s
      else if op.gov = 2 then .next (s.mxBegin c core op rest)
      else if (s.die (s.dieOf core)).window then
        .next ((s.setImg c core { i with mxq := { op with gov := 1 } :: rest }).count (dkey 0x2020 0x06))
      else .next ((s.updDie (s.dieOf core) (fun d => { d with window := true, grove := core / 8 })).mxBegin c core op rest)

end Sys2Proof.Machine
end

