-- ==== Sys2Proof/Machine/ArrayOp.lean ====
section
/-!
DEFINITION. Machine/ArrayOp.lean: how an array operation is carried out: stationary tiles and moving rows (R63, R69, R78), sparse forms
(R123 to R126, R130), masks (R165, R166), accumulation, merge (R80, R82) and the derivative epilogue (R158 to R163).
-/
namespace Sys2Proof.Machine

/-- An operation under way: the state, why it stopped or that it waits for data, and what its record counts. -/
structure Prog where
  s      : State
  stop   : Status := 0
  wait   : Bool := false
  cnt    : List Nat := [0, 0, 0, 0]
  passes : Nat := 0
  rows   : Nat := 0
  bad    : Nat := 0
  skipped : Nat := 0
  gates  : Nat := 0
  merged : Bool := false
  row    : Nat := 0                       -- the row that entered last in its pass
  lim    : Option Nat := none             -- rows that may still enter before the operation is stopped, and the code that stops it
  halt   : Status := 0
  csr    : Map (List (Nat × Nat)) := []   -- CSR elements of the rows read so far: (k, element), ascending k

def Prog.go (p : Prog) : Bool := p.stop == 0 && !p.wait
/-- A step of the operation, unless it has stopped. -/
def Prog.do (p : Prog) (f : Prog → Prog) : Prog := if p.go then f p else p
/-- Row m of a pass or of the epilogue enters, unless the operation is stopped at this boundary (Table 03.10, R163). -/
def Prog.enter (p : Prog) (m : Nat) : Prog :=
  match p.lim with
  | some 0 => { p with stop := p.halt }
  | some (n + 1) => { p with row := m, lim := some n }
  | none => { p with row := m }
/-- An operation that is stopped ends with the code, though its last row has entered. -/
def Prog.halted (p : Prog) : Prog := if p.go && p.lim.isSome then { p with stop := p.halt } else p
def Prog.fold {α : Type} (p : Prog) (l : List α) (f : Prog → α → Prog) : Prog := l.foldl (fun p a => p.do (fun p => f p a)) p

/-- What stays the same while an operation runs. `conv`: the format A's elements are converted to first (R143). -/
structure OpCtx where
  ag    : Ag
  a     : Desc
  b     : Desc
  c     : Desc
  g     : Geo
  cls   : PClass
  mode  : Nat
  bmul  : Bool
  nacc  : Nat
  init  : Bool
  strict : Bool
  conv  : Option Nat := none
  masked : Nat → Nat → Bool := fun _ _ => false
  csrAt : Nat × Nat := (0, 0)              -- ROWPTR and COLIDX

/-- Bytes at addresses of a space; a failure stops the operation with its code (R78). -/
def Prog.fetch (p : Prog) (ag : Ag) (space : Nat) (as : List Nat) : Prog × Map Byte :=
  if !p.go then (p, [])
  else match p.s.spFetch ag space .read as with
  | (t, .tbl m) => ({ p with s := t }, m)
  | (t, .err st) => ({ p with s := t, stop := st }, [])
  | (t, .wait) => ({ p with s := t, wait := true }, [])

def tblNat (m : Map Byte) (a n : Nat) : Nat := leNat ((List.range n).map (fun k => mapGet (0 : Byte) m (a + k)))

/-- Counts a bad index (R130); a strict launch stops at the first (R131). -/
def Prog.badIndex (p : Prog) (strict : Bool) (n : Nat) : Prog :=
  if n = 0 then p else if strict then { p with bad := p.bad + 1, stop := Code.indexFault } else { p with bad := p.bad + n }

/-! Operand elements. -/

/-- Bytes of the stored element (s0, s1). -/
def Desc.cellBytes (d : Desc) (s0 s1 : Nat) : List Nat :=
  let (a, b) := d.elemAt s0 s1 0 0
  partBytes (a, b, elemBits d.fmt)
def Desc.cellCode (d : Desc) (m : Map Byte) (s0 s1 : Nat) : Nat :=
  let (a, b) := d.elemAt s0 s1 0 0
  partsCode (fun x => mapGet (0 : Byte) m x) [(a, b, elemBits d.fmt)]

/-- Value of an operand element; `sc` the scale code of its block. -/
def opndVal (fmt code sc : Nat) : Ex :=
  let v := decodeFp (fmtOf fmt) code
  if isMx fmt then mxScale v sc else v

/-- The stationary tile: tables of bytes by stored line, scale bytes, 2:4 nibbles. -/
structure Tile where
  lines  : Map (Map Byte) := []
  scales : Map Byte := []
  nibs   : Map Byte := []

/-- Loads the tile of stored rows `ks` and columns `cols`, row k only in the columns `want k` (R63, R69, R124); scales from the operand's own
space (log 103). -/
def Prog.loadTile (p : Prog) (o : OpCtx) (ks cols : List Nat) (want : Nat → Nat → Bool) : Prog × Tile :=
  let b := o.b
  let lines := if b.trans then cols.map (fun n => (n, ks.filter (fun k => want k n))) else ks.map (fun k => (k, cols.filter (want k)))
  let (p, ls) := lines.foldl (fun (acc : Prog × Map (Map Byte)) e =>
    let (p, m) := acc.1.fetch o.ag b.space (e.2.flatMap (fun s0 => b.cellBytes s0 e.1))
    (p, acc.2 ++ [(e.1, m)])) (p, [])
  let blocks := sortNat (ks.map (· / 32))
  let (p, sc) := if isMx b.fmt then p.fetch o.ag b.space (cols.flatMap (fun n => blocks.map (fun k => b.scale + n * (o.g.k / 32) + k)))
    else (p, [])
  let (p, nb) := if b.spform = 1 then
      p.fetch o.ag b.space (cols.flatMap (fun n => (sortNat (ks.map (fun q => q / 2 / 2))).map (fun h => b.smeta + n * (o.g.k / 8) + h)))
    else (p, [])
  (p, { lines := ls, scales := sc, nibs := nb })

/-- B's element of stored row k and column n. -/
def Tile.val (t : Tile) (o : OpCtx) (k n : Nat) : Ex :=
  let b := o.b
  let (s0, s1) := if b.trans then (k, n) else (n, k)
  opndVal b.fmt (b.cellCode (mapGet [] t.lines s1) s0 s1) (mapGet (0 : Byte) t.scales (b.scale + n * (o.g.k / 32) + k / 32)).toNat

/-- Logical row that stored row q of a 2:4 operand stands for in column n (R123). -/
def Tile.row24 (t : Tile) (o : OpCtx) (q n : Nat) : Nat :=
  let g := q / 2
  let byte := (mapGet (0 : Byte) t.nibs (o.b.smeta + n * (o.g.k / 8) + g / 2)).toNat
  let nib := bits byte (if g % 2 = 0 then 0 else 4) 4
  4 * g + (if q % 2 = 0 then nib % 4 else nib / 4)

/-- Elements of a row converted to the predictor's format (R143): R106, or R99 over each block of 32 along K. -/
def convRow (fmt : Nat) (xs : List (Nat × Ex)) : List (Nat × Ex) :=
  if isMx fmt then
    (sortNat (xs.map (fun x => x.1 / 32))).flatMap (fun b =>
      let blk := xs.filter (fun x => x.1 / 32 == b)
      let out := mxBlockOut fmt (blk.map (fun x => ⟨x.2, false⟩)) (blk.map (fun _ => none))
      (List.zip blk out.codes).map (fun e => (e.1.1, opndVal fmt e.2 out.scale)))
  else xs.map (fun x => (x.1, roundTo (fmtOf fmt) x.2))

/-- Elements of moving row m at logical positions ks. -/
def Prog.rowVals (p : Prog) (o : OpCtx) (m : Nat) (ks : List Nat) : Prog × List (Nat × Ex) :=
  let a := o.a
  let at' := fun (k : Nat) => if a.trans then (m, k) else (k, m)
  let (p, t) := p.fetch o.ag a.space (ks.flatMap (fun k => a.cellBytes (at' k).1 (at' k).2))
  let (p, sc) := if isMx a.fmt then
      p.fetch o.ag a.space ((sortNat (ks.map (· / 32))).map (fun b => a.scale + m * (o.g.k / 32) + b))
    else (p, [])
  let xs := ks.map (fun k => (k, opndVal a.fmt (a.cellCode t (at' k).1 (at' k).2)
    (mapGet (0 : Byte) sc (a.scale + m * (o.g.k / 32) + k / 32)).toNat))
  (p, match o.conv with
      | some f => convRow f xs
      | none => xs)

def valAt (xs : List (Nat × Ex)) (k : Nat) : Ex := ((xs.find? (fun x => x.1 == k)).map Prod.snd).getD Ex.zero

/-! CSR rows (R125, R130). -/

/-- The valid elements of a row, ascending k, and how many are bad: beyond K, or a column the row has named before. -/
def csrValid (k : Nat) : List (Nat × Nat) → List (Nat × Nat) × Nat
  | es => es.foldl (fun (acc : List (Nat × Nat) × Nat) e =>
      if e.1 ≥ k ∨ acc.1.any (fun x => x.1 == e.1) then (acc.1, acc.2 + 1) else (acc.1.filter (fun x => decide (x.1 < e.1)) ++ [e] ++
        acc.1.filter (fun x => decide (x.1 > e.1)), acc.2)) ([], 0)

/-- Reads the pointers and indices of a row the first time it streams. -/
def Prog.csrRow (p : Prog) (o : OpCtx) (m : Nat) : Prog :=
  if (mapFind p.csr m).isSome then p
  else
    let (rp, ci) := o.csrAt
    let (p, t) := p.fetch o.ag o.a.space ((List.range 8).map (fun k => rp + 4 * m + k))
    p.do (fun p =>
      let lo := tblNat t (rp + 4 * m) 4
      let hi := tblNat t (rp + 4 * m + 4) 4
      if hi < lo then { (p.badIndex o.strict 1) with csr := p.csr ++ [(m, [])] }
      else
        let (p, x) := p.fetch o.ag o.a.space ((List.range (4 * (hi - lo))).map (fun k => ci + 4 * lo + k))
        p.do (fun p =>
          let (ok, bad) := csrValid o.g.k ((List.range (hi - lo)).map (fun j => (tblNat x (ci + 4 * (lo + j)) 4, lo + j)))
          { (p.badIndex o.strict bad) with csr := p.csr ++ [(m, ok)] }))

/-- Values of CSR elements: (k, value). -/
def Prog.csrVals (p : Prog) (o : OpCtx) (es : List (Nat × Nat)) : Prog × List (Nat × Ex) :=
  let sz := elemBits o.a.fmt / 8
  let (p, t) := p.fetch o.ag o.a.space (es.flatMap (fun e => (List.range sz).map (fun k => o.a.base + e.2 * sz + k)))
  let xs := es.map (fun e => (e.1, opndVal o.a.fmt (tblNat t (o.a.base + e.2 * sz) sz) 0))
  (p, match o.conv with
      | some f => convRow f xs
      | none => xs)

/-! Accumulators. -/

def OpCtx.accAddr (o : OpCtx) (acc m n : Nat) : Nat := o.c.base + n * (elemBits o.c.fmt / 8) + m * o.c.st1 + acc * o.c.st2

def State.accRead (s : State) (o : OpCtx) (acc m n : Nat) : Ex × Nat :=
  let (base, _) := agRange s o.ag o.c.space
  let ls := (s.img o.ag.ctx o.ag.core).ls
  let a := base + o.accAddr acc m n
  (fp32Val (leNat (cellsRead ls a 4)), if isArg o.mode then leNat (cellsRead ls (a + 4) 4) else 0)
def State.accWrite (s : State) (o : OpCtx) (acc m n : Nat) (v : Ex × Nat) : State :=
  let (base, _) := agRange s o.ag o.c.space
  let bs := leBytes 4 (encodeFp fp32 v.1) ++ if isArg o.mode then leBytes 4 v.2 else []
  s.updImg o.ag.ctx o.ag.core (fun i => { i with ls := cellsWrite i.ls (base + o.accAddr acc m n) bs })

/-- Writes the identity to accumulators of a row's columns (R80, R124, R126). -/
def State.accInit (s : State) (o : OpCtx) (accs : List Nat) (m : Nat) (cols : List Nat) : State :=
  accs.foldl (fun (s : State) a =>
    (cols.filter (fun n => !(o.masked m n))).foldl (fun (s : State) n => s.accWrite o a m n (identity o.mode)) s) s

/-- A row's slots meet the accumulator of pass p in every column (R80): `slots n`: the slots of column n. -/
def Prog.chunkRow (p : Prog) (o : OpCtx) (acc m : Nat) (cols : List Nat) (slots : Nat → List Slot) : Prog :=
  (cols.filter (fun n => !(o.masked m n))).foldl (fun (p : Prog) n =>
    match chunkOf o.mode (leavesOf o.cls o.mode o.bmul (slots n)) with
    | none => p
    | some c =>
      let (w, k) := accumulate o.mode (p.s.accRead o acc m n) c
      { p with s := p.s.accWrite o acc m n w, cnt := addCounts p.cnt k, gates := p.gates + c.gates }) p

/-! Passes. -/

/-- Present K-block rows of a tile (R124), and the set bits beyond the columns of the product (R130). -/
def Prog.blockRows (p : Prog) (o : OpCtx) (cols : List Nat) : Prog × List (Nat × Nat) × Nat :=
  let (p, t) := p.fetch o.ag o.b.space ((List.range (o.g.k / 16)).map (fun r => o.b.smeta + r))
  let rows := (List.range (o.g.k / 16)).map (fun r => (r, (mapGet (0 : Byte) t (o.b.smeta + r)).toNat))
  let nb := ceilDiv o.g.n 16
  (p, rows.filter (fun e => cols.any (fun n => bitAt e.2 (n / 16))),
   (rows.map (fun e => ((List.range 8).filter (fun c => decide (c ≥ nb) && bitAt e.2 c)).length)).foldl (· + ·) 0)

/-- Passes of an operation (R63, R123 to R125). -/
def OpCtx.passCount (o : OpCtx) (present : Nat) : Nat :=
  let kc := o.cls.kc
  if o.a.spform = 3 then ceilDiv o.g.k (8 * kc)
  else if o.b.spform = 1 then ceilDiv (o.g.k / 2) kc
  else if o.b.spform = 2 then ceilDiv (16 * present) kc
  else ceilDiv o.g.k kc

/-- Stored rows of B in a pass, slot by slot; `blocks`: the present K-block rows. -/
def OpCtx.passRows (o : OpCtx) (blocks : List (Nat × Nat)) (p : Nat) : List Nat :=
  let kc := o.cls.kc
  let upto := fun (step lim : Nat) => ((List.range step).map (fun j => p * step + j)).filter (fun k => decide (k < lim))
  if o.a.spform = 3 then upto (8 * kc) o.g.k
  else if o.b.spform = 1 then upto kc (o.g.k / 2)
  else if o.b.spform = 2 then
    ((blocks.drop (p * (kc / 16))).take (kc / 16)).flatMap (fun e => (List.range 16).map (fun t => 16 * e.1 + t))
  else upto kc o.g.k

/-- Slots padded to the width of the class. -/
def padTo (n : Nat) (l : List Slot) : List Slot := l ++ List.replicate (n - l.length) none

/-- A dense, 2:4 or block row: its slots in column n. -/
def rowSlots (o : OpCtx) (t : Tile) (blocks : List (Nat × Nat)) (rows : List Nat) (xs : List (Nat × Ex)) (n : Nat) : List Slot :=
  padTo o.cls.kc (rows.map (fun q =>
    if o.b.spform = 1 then
      let k := t.row24 o q n
      if k < o.g.k then some (k, valAt xs k, t.val o q n) else none
    else if o.b.spform = 2 then
      match blocks.find? (fun e => e.1 == q / 16) with
      | some e => if bitAt e.2 (n / 16) then some (q, valAt xs q, t.val o q n) else none
      | none => none
    else some (q, valAt xs q, t.val o q n)))

/-- Pieces of a list, n at a time. Structural on fuel. -/
def chunksOf {α : Type} (n : Nat) : Nat → List α → List (List α)
  | 0, _ => []
  | f + 1, l => if l.isEmpty then [] else l.take n :: chunksOf n f (l.drop n)

/-- Moving row m in pass p: skipped rows (R126, R166), CSR pieces (R125), or one chunk. -/
def Prog.rowStep (p : Prog) (o : OpCtx) (t : Tile) (blocks : List (Nat × Nat)) (pass m : Nat) (rows cols : List Nat) : Prog :=
  let acc := pass % o.nacc
  let fresh := fun (s : State) => if pass < o.nacc ∧ o.init then s.accInit o [acc] m cols else s
  if (List.range o.g.n).all (o.masked m) then p
  else
  let p := p.enter m
  if !p.go then p
  else if o.a.spform = 4 then
    let (p, b) := p.fetch o.ag o.a.space [o.a.smeta + m / 8]
    p.do (fun p =>
      if bitAt (mapGet (0 : Byte) b (o.a.smeta + m / 8)).toNat (m % 8) then
        { p with skipped := p.skipped + 1, s := if o.init ∧ pass = 0 then p.s.accInit o (List.range o.nacc) m cols else p.s }
      else
        let ks := if o.b.spform = 1 then ((List.range (2 * rows.length)).map (fun j => 2 * rows.headD 0 + j)) else rows
        let (p, xs) := p.rowVals o m ks
        p.do (fun p => { (({ p with s := fresh p.s }).chunkRow o acc m cols (rowSlots o t blocks rows xs)) with rows := p.rows + 1 }))
  else if o.a.spform = 3 then
    (p.csrRow o m).do (fun p =>
      let win := 8 * o.cls.kc
      let es := (mapGet [] p.csr m).filter (fun e => decide (e.1 / win = pass))
      if es.isEmpty then { p with s := fresh p.s, skipped := p.skipped + 1 }
      else
        let (p, xs) := p.csrVals o es
        p.do (fun p =>
          let step := o.cls.kc / 8
          { ((chunksOf step (xs.length + 1) xs).foldl (fun (p : Prog) piece =>
              p.chunkRow o acc m cols (fun n => padTo o.cls.kc (piece.map (fun x => some (x.1, x.2, t.val o x.1 n)))))
              { p with s := fresh p.s }) with rows := p.rows + 1 }))
  else
    let ks := if o.b.spform = 1 then ((List.range (2 * rows.length)).map (fun j => 2 * rows.headD 0 + j)) else rows
    let (p, xs) := p.rowVals o m ks
    p.do (fun p => { (({ p with s := fresh p.s }).chunkRow o acc m cols (rowSlots o t blocks rows xs)) with rows := p.rows + 1 })

/-- One K-pass over a tile of columns (R63, R78). -/
def Prog.passStep (p : Prog) (o : OpCtx) (blocks : List (Nat × Nat)) (pass : Nat) (cols : List Nat) : Prog :=
  let rows := o.passRows blocks pass
  let want := fun (k n : Nat) => if o.b.spform = 2 then
      (match blocks.find? (fun e => e.1 == k / 16) with
       | some e => bitAt e.2 (n / 16)
       | none => false)
    else true
  let (p, t) := ({ p with row := 0 }).loadTile o rows cols want
  (p.fold (List.range o.g.m) (fun p m => p.rowStep o t blocks pass m rows cols)).do (fun p => { p with passes := p.passes + 1 })

/-- All K-passes of a tile of columns. `first`: the tile whose bitmap is counted. -/
def Prog.runTile (p : Prog) (o : OpCtx) (first : Bool) (cols : List Nat) : Prog :=
  if o.b.spform = 2 then
    let (p, blocks, bad) := p.blockRows o cols
    p.do (fun p =>
      let p := if first then p.badIndex o.strict bad else p
      p.do (fun p =>
        let p := { p with skipped := p.skipped + (o.g.k / 16 - blocks.length) }
        let p := if blocks.isEmpty ∧ o.init then
            { p with s := (List.range o.g.m).foldl (fun (s : State) m => s.accInit o (List.range o.nacc) m cols) p.s }
          else p
        p.fold (List.range (o.passCount blocks.length)) (fun p k => p.passStep o blocks k cols)))
  else p.fold (List.range (o.passCount 0)) (fun p k => p.passStep o [] k cols)

/-- Columns cut into tiles of the array width. -/
def tilesOf (width : Nat) (cols : List Nat) : List (List Nat) := chunksOf width (cols.length + 1) cols

/-- The merge of one element (R82). Structural on fuel: w halves. -/
def Prog.mergeElem (o : OpCtx) (m n : Nat) : Nat → Nat → Prog → Prog
  | 0, _, p => p
  | f + 1, w, p =>
    if w ≤ 1 then p
    else
      Prog.mergeElem o m n f (w / 2) ((List.range (w / 2)).foldl (fun (p : Prog) i =>
        let (v, k) := combine2 o.mode (p.s.accRead o (2 * i) m n) (p.s.accRead o (2 * i + 1) m n)
        { p with s := p.s.accWrite o i m n v, cnt := addCounts p.cnt k }) p)

/-- R82: the merge over the columns given. -/
def Prog.merge (p : Prog) (o : OpCtx) (cols : List Nat) : Prog :=
  p.do (fun p =>
    { ((List.range o.g.m).foldl (fun (p : Prog) m =>
        (cols.filter (fun n => !(o.masked m n))).foldl (fun (p : Prog) n => p.mergeElem o m n 4 o.nacc) p) p) with merged := true })

/-! Masks (R165). -/

/-- The bits of a mask header: weight row and column of an element, whether its bit is 0. -/
structure MaskHdr where
  at'     : Nat
  stride : Nat
  row0   : Nat
  col0   : Nat
  kind   : Nat
  deriving DecidableEq, Repr

def maskHdr (v : Nat) : MaskHdr := ⟨bits v 80 48, bits v 64 16, bits v 32 32, bits v 8 24, bits v 6 2⟩
def MaskHdr.bad (h : MaskHdr) : Bool := decide (h.kind > 1) || (h.kind == 0 && decide (h.stride % 8 ≠ 0))
/-- Byte and bit of element (m, n). -/
def MaskHdr.place (h : MaskHdr) (m n : Nat) : Nat × Nat :=
  if h.kind = 0 then
    let c := (h.col0 + n) / 128
    (h.at' + (h.row0 + m) / 128 * h.stride + c / 8, c % 8)
  else (h.at' + (h.row0 + m) / 8, (h.row0 + m) % 8)

/-- Reads a mask for M × N elements before the first pass (R166): which elements are masked. -/
def Prog.readMask (p : Prog) (ag : Ag) (bmask m n : Nat) : Prog × (Nat → Nat → Bool) :=
  if bmask = 0 then (p, fun _ _ => false)
  else
    let (p, t) := p.fetch ag 0 ((List.range 16).map (fun k => bmask + k))
    if !p.go then (p, fun _ _ => false)
    else
      let h := maskHdr (tblNat t bmask 16)
      if h.bad then ({ p with stop := Code.descriptorInvalid }, fun _ _ => false)
      else
        let ms := (List.range m).filter (fun i => i == 0 || h.kind == 1 || decide ((h.row0 + i) % 128 = 0))
        let ns := (List.range n).filter (fun j => j == 0 || (h.kind == 0 && decide ((h.col0 + j) % 128 = 0)))
        let (p, x) := p.fetch ag 0 (ms.flatMap (fun i => ns.map (fun j => (h.place i j).1)))
        (p, fun i j => !(bitAt (mapGet (0 : Byte) x (h.place i j).1).toNat (h.place i j).2))

/-! The derivative epilogue (R158 to R163). -/

/-- Breakpoints of Table 06.5 in halves. -/
def derivPoints (kind : Nat) : List Int :=
  if kind = 6 then [-8, -6, -5, -4, -3, -2, -1, 0, 1, 2, 3, 4, 5, 6, 8]
  else [-16, -12, -10, -8, -6, -4, -2, 0, 2, 4, 6, 8, 10, 12, 16]
/-- Slopes × 1,024 of Table 06.5. -/
def derivSlopes (kind : Nat) : List Int :=
  if kind = 6 then [0, -3, -23, -61, -114, -126, 1, 312, 712, 1023, 1150, 1138, 1085, 1047, 1027, 1024]
  else [0, -6, -19, -39, -72, -102, -42, 266, 758, 1066, 1126, 1096, 1063, 1043, 1030, 1024]
/-- R161. -/
def derivCode (kind : Nat) (z : Ex) : Nat :=
  if z.isNan then 15 else ((derivPoints kind).filter (fun b => !(Ex.numLt z ((Ex.ofInt b).scale (-1))))).length
def derivSlope (kind code : Nat) : Ex := (Ex.ofInt ((derivSlopes kind)[code]?.getD 0)).scale (-10)

/-- What DKIND 2 saves of a value (R162). -/
def derivSave (kind : Nat) (z : Ex) : Nat :=
  if kind = 1 then (if Ex.numLt Ex.zero z && Ex.numLt z (Ex.ofNat 6) then 1 else 0)
  else if kind ≤ 2 then (if Ex.numLt Ex.zero z then 1 else 0)
  else derivCode kind z

/-- What DKIND 1 makes of dy (R162): `d` the saved bit, code or exact Y, `s` the row sum. -/
def derivApply (kind : Nat) (alpha dy : Ex) (bit : Nat) (y s : Ex) : Ex × Ex :=
  let r := rFp32
  let one := Ex.one
  let out := fun (x : Ex) => (r x, x)
  if kind ≤ 1 then (if bit = 1 then (dy, dy) else (Ex.zero, Ex.zero))
  else if kind = 2 then (if bit = 1 then (dy, dy) else out (Ex.mul dy alpha))
  else if kind = 3 then out (Ex.mul dy (r (Ex.mul y (r (Ex.sub one y)))))
  else if kind = 4 then out (Ex.mul dy (r (Ex.sub one (r (Ex.mul y y)))))
  else if kind = 5 then out (Ex.mul y (r (Ex.sub dy s)))
  else out (Ex.mul dy (derivSlope kind bit))

/-- Where the saved datum of (m, n) lies (R158): byte, bit, bits. -/
def savedAt (v m n : Nat) : Nat × Nat × Nat :=
  let row := dhSaved v + m * dhStride v
  let k := dhKind v
  if k ≤ 2 then (row + n / 8, n % 8, 1)
  else if k ≤ 5 then
    let w := elemBits (dhYfmt v)
    (row + n * (w / 8), 0, w)
  else (row + n / 2, 4 * (n % 2), 4)

/-- The epilogue of one row. `zOf n`: what is saved for column n when it is not the accumulator. -/
def Prog.epiRow (p : Prog) (o : OpCtx) (v : Nat) (cols : List Nat) (zOf : Nat → Option Ex) (m : Nat) : Prog :=
  let ns := cols.filter (fun n => !(o.masked m n))
  let z := fun (s : State) (n : Nat) => (zOf n).getD (s.accRead o 0 m n).1
  if ns.isEmpty then p
  else if o.c.dkind = 2 then
    let puts := ns.flatMap (fun n => partsPut (derivSave (dhKind v) (z p.s n)) [savedAt v m n])
    let (t, g) := p.s.putBits o.ag (dhSpace v) puts
    match g with
    | .ok _ => { p with s := t.count (dkey 0x4060 0x02) ns.length }
    | .err e => { p with s := t, stop := e }
    | .wait => { p with s := t, wait := true }
  else
    let (p, t) := p.fetch o.ag (dhSpace v) (ns.flatMap (fun n => partBytes (savedAt v m n)))
    let (p, rs) := if dhKind v = 5 then p.fetch o.ag (dhSpace v) ((List.range 4).map (fun k => dhRowsum v + 4 * m + k)) else (p, [])
    p.do (fun p =>
      let p := ns.foldl (fun (p : Prog) n =>
        let dy := (p.s.accRead o 0 m n).1
        let code := partsCode (fun x => mapGet (0 : Byte) t x) [savedAt v m n]
        let y := decodeFp (fmtOf (dhYfmt v)) code
        let s := fp32Val (tblNat rs (dhRowsum v + 4 * m) 4)
        let alpha := fp32Val (dhAlpha v)
        let (w, exact) := derivApply (dhKind v) alpha dy code y s
        let nan := dy.isNan || (decide (3 ≤ dhKind v ∧ dhKind v ≤ 5) && y.isNan) || (dhKind v == 5 && s.isNan) || (dhKind v == 2 && alpha.isNan)
        let fin := dy.isFin && (!(decide (3 ≤ dhKind v ∧ dhKind v ≤ 5)) || y.isFin) && (dhKind v != 5 || s.isFin) && (dhKind v != 2 || alpha.isFin)
        { p with s := p.s.accWrite o 0 m n (w, 0), cnt := addCounts p.cnt (accCounts w exact fin nan) }) p
      { p with s := p.s.count (dkey 0x4060 0x01) ns.length })

/-- The epilogue over the columns given, row by row (R163). -/
def Prog.epilogue (p : Prog) (o : OpCtx) (cols : List Nat) (zOf : Nat → Option Ex) : Prog :=
  if o.c.dkind = 0 then p
  else
    let v := descAt (p.s.img o.ag.ctx o.ag.core).ls o.c.dsrc
    p.fold (List.range o.g.m) (fun p m => (p.enter m).do (fun p => p.epiRow o v cols zOf m))

end Sys2Proof.Machine
end

