-- ==== Sys2Proof/Machine/Speculate.lean ====
section
/-!
DEFINITION. Machine/Speculate.lean: neuron prediction (R140 to R153): the phases of a producer, check tiles, corrections, consumers and the
end of a set.
-/
namespace Sys2Proof.Machine

def opAg (op : MxOp) (core : Nat) : Ag :=
  { src := .core core, core := core, ctx := op.ctx, slot := op.slot, owner := op.launch, id := op.id }

/-- The context of an operation's passes. -/
def opCtx (op : MxOp) (core : Nat) : OpCtx :=
  let a := descOf op.a
  { ag := opAg op core, a := a, b := descOf op.b, c := descOf op.c, g := geoOf op, cls := (pclass a.fmt).getD .f32, mode := mxMode op.ctl,
    bmul := mxLop op.ctl == 1, nacc := mxNacc op.ctl, init := mxInit op.ctl, strict := op.strict }

/-- The CSR header of A, read before the first pass (R125). -/
def Prog.withCsr (p : Prog) (o : OpCtx) : Prog × OpCtx :=
  if o.a.spform ≠ 3 then (p, o)
  else
    let (p, t) := p.fetch o.ag o.a.space ((List.range 16).map (fun k => o.a.smeta + k))
    let v := tblNat t o.a.smeta 16
    (p, { o with csrAt := (bits v 0 48, bits v 64 48) })

/-- A dense FP32 block in the core's local store. -/
def scratchDesc (base n m : Nat) : Desc :=
  { descOf 0 with base := base, e0 := n, e1 := m, e2 := 1, e3 := 1, st1 := 4 * n, ver := 1, space := 2, fmt := 0 }

/-! Activation (R143). -/

def actOf (act : Nat) (z : Ex) : Ex :=
  if Ex.numLt Ex.zero z then (if act = 1 && Ex.numLt (Ex.ofNat 6) z then Ex.ofNat 6 else z) else Ex.zero

/-- Writes values into column n of H, rounded to its format (R106). -/
def Prog.putH (p : Prog) (o : OpCtx) (h : Desc) (n : Nat) (f : State → Nat → Ex) : Prog :=
  let ms := (List.range o.g.m).filter (fun m => !(o.masked m n))
  let puts := ms.flatMap (fun m => partsPut (elemCode h.fmt false ⟨f p.s m, false⟩ none).1 (h.parts n m 0 0))
  match p.s.putBits o.ag h.space puts with
  | (t, .ok _) => { p with s := t }
  | (t, .err e) => { p with s := t, stop := e }
  | (t, .wait) => { p with s := t, wait := true }

/-! Sets. -/

def State.updSet (s : State) (ctx core opid : Nat) (f : SpecSet → SpecSet) : State :=
  s.updImg ctx core (fun m => { m with sets := modifyWhere (fun x => x.op.id == opid) f m.sets })

/-- MISS_RATE as FP32 and MISS_EST (R148). -/
def missRate (proven checked : Nat) : Nat :=
  if checked = 0 then fp32Bits Ex.one else fp32Bits (Ex.div (Ex.ofNat proven) (Ex.ofNat checked))
def missEst (deferred proven checked : Nat) : Nat :=
  if checked = 0 then deferred
  else
    let n := proven * (deferred - checked)
    let q := n / checked
    let r := n % checked
    if 2 * r > checked ∨ (2 * r = checked ∧ q % 2 = 1) then q + 1 else q

/-- Flag code of a set: the first of R150's order that applies (R130, R148, R149). -/
def setFlag (x : SpecSet) : Status :=
  if !(sbFence x.img) then Code.unchecked else if sbSample x.img > 0 then Code.sampled else if x.bad then Code.indexRange else 0

/-- The results and SET_STATUS of a set are written (R148, R150). -/
def State.writeSet (s : State) (ctx core : Nat) (x : SpecSet) (st : Status) : State :=
  let lo32 := fun (v lo n : Nat) => setBits v lo 32 (min n (2 ^ 32 - 1))
  s.updImg ctx core (fun m =>
    let v := leNat (cellsRead m.ls x.block 128)
    let v := lo32 (lo32 (lo32 (lo32 v 480 x.deferred) 448 x.checked) 416 x.proven) 384 x.qfull
    let v := setBits (setBits v 352 32 (missEst x.deferred x.proven x.checked)) 320 32 (missRate x.proven x.checked)
    { m with ls := cellsWrite m.ls x.block (leBytes 128 (setBits v 304 16 st.toNat)) })

/-- A set leaves its core. -/
def State.dropSet (s : State) (ctx core : Nat) (x : SpecSet) : State :=
  s.updImg ctx core (fun m => { m with sets := m.sets.filter (fun y => y.op.id != x.op.id) })

/-- A set with no check and no correction left has its status written; one with FENCE = 1 stays for its consumer (R147, R149). -/
def State.settleSet (s : State) (ctx core : Nat) (x : SpecSet) : State :=
  if x.left.isEmpty && x.corr.isEmpty then
    let s := s.writeSet ctx core x (setFlag x)
    if sbFence x.img then s else s.dropSet ctx core x
  else s

/-- Corrections of columns, ascending (R146): C2 receives H[:, n] ⊗ W2[n, :]. -/
def Prog.correct (p : Prog) (op : MxOp) (core : Nat) (x : SpecSet) (ns : List Nat) : Prog :=
  let o := opCtx op core
  let h := descOf x.h
  let w := descOf x.w2
  let c2 := descOf x.c2
  let oc : OpCtx := { o with c := c2, mode := 0, nacc := 1 }
  p.fold ns (fun p n =>
    let js := List.range (w.ext 0)
    let (p, hb) := p.fetch o.ag h.space ((List.range o.g.m).flatMap (fun m => (h.parts n m 0 0).flatMap partBytes))
    let (p, wb) := p.fetch o.ag w.space (js.flatMap (fun j => w.cellBytes (if w.trans then n else j) (if w.trans then j else n)))
    let (p, sc) := if isMx w.fmt then p.fetch o.ag w.space (js.map (fun j => w.scale + j * (o.g.n / 32) + n / 32)) else (p, [])
    p.do (fun p =>
      { p with s := (List.range o.g.m).foldl (fun (s : State) m =>
          let hv := decodeFp (fmtOf h.fmt) (partsCode (fun a => mapGet (0 : Byte) hb a) (h.parts n m 0 0))
          js.foldl (fun (s : State) j =>
            let wv := opndVal w.fmt (w.cellCode wb (if w.trans then n else j) (if w.trans then j else n))
              (mapGet (0 : Byte) sc (w.scale + j * (o.g.n / 32) + n / 32)).toNat
            let c := (s.accRead oc 0 m j).1
            s.accWrite oc 0 m j (rFp32 (Ex.add c (Ex.mul hv wv)), 0)) s) p.s }))

/-- The next check tile of a set (R145, R148): exact columns, proven ones written to H, their saved data rewritten (R164). `p`: a tile's
own, which has read nothing yet. -/
def Prog.checkTile (p : Prog) (op : MxOp) (core width : Nat) (x : SpecSet) : Prog × SpecSet :=
  let s1 := sbSample x.img + 1
  let due := x.left.filter (fun n => n % s1 == 0)
  let cols := due.take width
  let (p, o) := p.withCsr (opCtx op core)
  let (p, mask) := p.readMask o.ag o.c.bmask o.g.m o.g.n
  let o := { o with masked := mask }
  let p := ((p.runTile o false cols).do (fun p => if mxMerge op.ctl then p.merge o cols else p))
  if !p.go then (p, x)
  else
    let proven := cols.filter (fun n => (List.range o.g.m).any (fun m =>
      !(o.masked m n) && (let z := (p.s.accRead o 0 m n).1; z.isNan || Ex.numLt Ex.zero z)))
    let p := p.fold proven (fun p n => p.putH o (descOf x.h) n (fun s m => actOf (sbAct x.img) (s.accRead o 0 m n).1))
    let p := if o.c.dkind = 2 then p.epilogue o cols (fun _ => none) else p
    (p, { x with left := due.drop width, corr := x.corr ++ proven, checked := x.checked + cols.length,
                 proven := x.proven + proven.length, bad := x.bad || decide (p.bad ≠ 0) })

/-- What a check tile counts in the device's entries: gated cells, numeric totals (R87, R119). Its indices are those its producer has
counted (R130). -/
def Prog.tileCounts (p : Prog) : State :=
  (if p.gates ≠ 0 then p.s.count (dkey 0x4030 0x05) p.gates else p.s).numTotals p.cnt
/-- Counts of a finished check tile. -/
def State.checkCounts (s : State) (x y : SpecSet) : State :=
  let s := if y.checked > x.checked then s.count (dkey 0x4051 0x02) (y.checked - x.checked) else s
  if y.proven > x.proven then s.count (dkey 0x4051 0x03) (y.proven - x.proven) else s

/-- Every check of a set that is left, then every correction, ascending (R147). Structural on fuel: a tile at a time, each a run of its
own, which leaves the consumer's indices and counts alone (R152, R153). -/
def Prog.drainSet (op : MxOp) (core width : Nat) : Nat → SpecSet → Prog → Prog × SpecSet
  | 0, x, p => (p, x)
  | f + 1, x, p =>
    if !p.go then (p, x)
    else if x.left.isEmpty then ((p.correct op core x x.corr), { x with corr := [] })
    else
      let (q, y) := ({ s := p.s, lim := p.lim, halt := p.halt : Prog }).checkTile op core width x
      let r := { p with s := q.tileCounts, stop := q.stop, wait := q.wait, lim := q.lim, row := q.row }
      if !q.go then (r, x) else Prog.drainSet op core width f y { r with s := r.s.checkCounts x y }

/-! A producer (R143, R144). -/

/-- Column scores of the estimate (R143): the greatest of a column. -/
def exTop (l : List Ex) : Ex :=
  match l with
  | [] => .nan
  | a :: r => r.foldl exMax a

/-- Phases 1 and 2: the estimates by column, kept in the running operation alone: rows of ẑ. -/
def Prog.predict (p : Prog) (o : OpCtx) (width : Nat) (v : Nat) : Prog × List Ex :=
  let ls := (p.s.img o.ag.ctx o.ag.core).ls
  let pd := descOf (descAt ls (sbP v))
  let qd := descOf (descAt ls (sbQ v))
  let r := sbRank v
  let c1 := scratchDesc (sbScr v) r o.g.m
  let o1 : OpCtx := { o with b := pd, c := c1, g := ⟨o.g.m, r, o.g.k⟩, cls := (pclass pd.fmt).getD .c8, mode := 0, nacc := 1, init := true,
                             conv := some pd.fmt, masked := fun _ _ => false }
  let (p, o1) := p.withCsr o1
  let p1 := p.fold (tilesOf width (List.range r)) (fun p cols => p.runTile o1 false cols)
  let u := { c1 with e2 := 1, e3 := 1 }
  let o2 : OpCtx := { o with a := u, b := qd, c := c1, g := ⟨o.g.m, o.g.n, r⟩, cls := (pclass qd.fmt).getD .c8, mode := 0, nacc := 1,
                             init := true, conv := some qd.fmt, masked := fun _ _ => false }
  -- ẑ is not stored: a tile of it is computed in the scratch's place of a copy of the state, and only its scores are kept
  (tilesOf width (List.range o.g.n)).foldl (fun (acc : Prog × List Ex) cols =>
    let (p, out) := acc
    if !p.go then acc
    else
      let wide : Desc := { c1 with base := 0, space := 2, st1 := 4 * o.g.n, e0 := o.g.n }
      let o3 := { o2 with c := wide }
      let q := (List.range (o2.passCount 0)).foldl (fun (q : Prog × List (Nat × List (Ex × Nat))) k =>
        let (p, acc) := q
        let rows := o2.passRows [] k
        let (p, t) := p.loadTile o2 rows cols (fun _ _ => true)
        let (p, acc) := (List.range o.g.m).foldl (fun (z : Prog × List (Nat × List (Ex × Nat))) m =>
          let p := z.1.do (fun p => p.enter m)
          let acc := z.2
          if !p.go then (p, acc)
          else
            let (p, xs) := p.rowVals o2 m rows
            let old := mapGet (cols.map (fun _ => (identity 0))) acc m
            let chunks := cols.map (fun n => chunkOf 0 (leavesOf o2.cls 0 false (rowSlots o3 t [] rows xs n)))
            let new := (List.zip chunks old).map (fun e => match e.1 with
              | none => e.2
              | some c => (accumulate 0 e.2 c).1)
            ({ p with rows := p.rows + 1, gates := p.gates + (chunks.filterMap id |>.map Chunk.gates).foldl (· + ·) 0 },
             acc.filter (fun e => e.1 != m) ++ [(m, new)])) (p, acc)
        (if p.go then { p with passes := p.passes + 1 } else p, acc)) (p, ([] : List (Nat × List (Ex × Nat))))
      let zs := (List.range cols.length).map (fun j => exTop (q.2.map (fun e => ((e.2[j]?).getD (Ex.nan, 0)).1)))
      (q.1, out ++ zs)) (p1, [])

/-- Neurons that the check queue of a core holds (R144). -/
def Image.checkQueue (i : Image) : Nat := (i.sets.map (fun x => x.left.length)).foldl (· + ·) 0

/-- The predicted-active columns, the deferred ones, and those computed because the queue was full (R143, R144). -/
def selectCols (thresh : Ex) (room : Nat) (scores : List Ex) : List Nat × List Nat × Nat :=
  (List.zip (List.range scores.length) scores).foldl (fun (a : List Nat × List Nat × Nat) e =>
    if e.2.isNan || Ex.numLt thresh e.2 then (a.1 ++ [e.1], a.2)
    else if a.2.1.length < room then (a.1, a.2.1 ++ [e.1], a.2.2)
    else (a.1 ++ [e.1], a.2.1, a.2.2 + 1)) ([], [], 0)

/-- The producer's four phases; the set it leaves behind. -/
def Prog.producer (p : Prog) (op : MxOp) (core width : Nat) (o : OpCtx) (v : Nat) : Prog × SpecSet :=
  let i := p.s.img op.ctx core
  let h := descOf (descAt i.ls (sbH v))
  let x0 : SpecSet := { set := sbSet v, op := op, block := (descOf op.c).smeta, img := v, h := descAt i.ls (sbH v),
                        w2 := descAt i.ls (sbW2 v), c2 := descAt i.ls (sbC2 v) }
  let (q, scores) := p.predict o width v
  if !q.go then (q, x0)
  else
    let (act, def', full) := selectCols (fp32Val (sbThresh v)) (4096 - i.checkQueue) scores
    let x := { x0 with left := def', deferred := def'.length, qfull := full }
    let q := { q with cnt := [0, 0, 0, 0], skipped := 0 }
    let q := q.fold (List.zip (List.range (act.length + 1)) (tilesOf width act)) (fun q t => q.runTile o (t.1 == 0) t.2)
    let q := q.do (fun q => if mxMerge op.ctl then q.merge o act else q)
    let clear := fun (s : State) => (List.range o.g.m).foldl (fun (s : State) m => s.accInit o (List.range o.nacc) m def') s
    let q := if o.init then q.do (fun q => { q with s := clear q.s }) else q
    let q := q.fold act (fun q n => q.putH o h n (fun s m => actOf (sbAct v) (s.accRead o 0 m n).1))
    let q := q.fold def' (fun q n => q.putH o h n (fun _ _ => Ex.zero))
    let q := q.do (fun q => q.epilogue o (List.range o.g.n) (fun n => if def'.contains n then some Ex.zero else none))
    (q, { x with bad := decide (q.bad ≠ 0) })

end Sys2Proof.Machine
end

