-- ==== Sys2Proof/Machine/ArrayRun.lean ====
section
/-!
DEFINITION. Machine/ArrayRun.lean: the end of array operations: products (R63, R76, R147, R150, R152), compressions (R132 to R134), drains
(R139), their records and tokens, and the check tiles (R145, R149, R151).
-/
namespace Sys2Proof.Machine

/-- What an operation's record holds beside STATUS: bits [239:0] of Tables 03.5, 05.7 and 05.9. -/
structure OpOut where
  s    : State
  st   : Status
  body : Nat := 0
  wait : Bool := false
  pos  : Option Nat := none    -- pass [63:32] and row [31:0] it had come to

/-! Products. -/

/-- The flag code of R150 and R76. -/
def flagCode (flags : List Status) : Status :=
  if flags.contains Code.unchecked then Code.unchecked
  else if flags.contains Code.sampled then Code.sampled
  else if flags.contains Code.indexRange then Code.indexRange
  else 0

/-- The record of a product (Tables 03.5 and 05.11). -/
def mxBody (op : MxOp) (narrow nopred qfull : Bool) (p : Prog) : Nat :=
  let f := fun (b : Bool) (k : Nat) => if b then 2 ^ k else 0
  let sat := fun (lim n : Nat) => min n lim
  let aux := if (descOf op.a).spform ≠ 0 ∨ (descOf op.b).spform ≠ 0 ∨ mxSpec op.ctl then
      sat 0xFFFF p.bad * 2 ^ 16 + f nopred 15 + f qfull 14 + sat 0x3FFF p.skipped else 0
  mxMode op.ctl * 2 ^ 236 + f narrow 235 + f p.merged 234 + sat (2 ^ 32 - 1) p.passes * 2 ^ 192 + sat (2 ^ 32 - 1) p.rows * 2 ^ 160 +
    (List.zip [128, 96, 64, 32] p.cnt).foldl (fun a e => a + e.2 * 2 ^ e.1) 0 + aux

/-- A consumer's sets: earlier producers of the same launch with its SET. -/
def consumerSets (i : Image) (op : MxOp) : List SpecSet :=
  i.sets.filter (fun x => x.set == sbSet ((specBlock i op).getD 0) && x.op.launch == op.launch)

/-- A consumer forces the checks and corrections of its sets (R147). -/
def Prog.consume (p : Prog) (op : MxOp) (core width : Nat) : Prog :=
  p.fold (consumerSets (p.s.img op.ctx core) op) (fun p x =>
    let (q, y) := Prog.drainSet x.op core width (x.left.length + 2) x p
    if q.wait then q
    else
      let st := if q.stop ≠ 0 then q.stop else setFlag y
      { q with s := (q.s.writeSet op.ctx core y st).dropSet op.ctx core y })

/-- Counts of a finished product (Tables 03.11, 05.15, 06.13). -/
def State.mxCounts (s : State) (op : MxOp) (p : Prog) (maskedRows : Nat) : State :=
  let s := if p.gates ≠ 0 then s.count (dkey 0x4030 0x05) p.gates else s
  let s := if p.bad ≠ 0 then s.count (dkey 0x4050 0x02) p.bad else s
  let s := if maskedRows ≠ 0 then s.count (dkey 0x4060 0x03) maskedRows else s
  let s := if (descOf op.a).spform ≠ 0 ∨ (descOf op.b).spform ≠ 0 then s.count (dkey 0x4050 0x01) else s
  s.numTotals p.cnt

/-- A product runs to its end (R63 to R85, R123 to R166), or until `lim` rows have entered, where `halt` stops it (Table 03.10). -/
def State.runMxa (s : State) (op : MxOp) (core width : Nat) (lim : Option Nat := none) (halt : Status := 0) : OpOut :=
  let i := s.img op.ctx core
  let v := (specBlock i op).getD 0
  let prod := isProducer i op
  let cons := isConsumer i op && mxMode op.ctl == 0
  let (p, o) := ({ s := s, lim := lim, halt := halt : Prog }).withCsr (opCtx op core)
  let (p, mask) := p.readMask o.ag o.c.bmask o.g.m o.g.n
  let o := { o with masked := mask }
  let cols := List.range o.g.n
  let maskedRows := if o.c.bmask = 0 then 0 else ((List.range o.g.m).filter (fun m => cols.all (o.masked m))).length
  let allMasked := o.c.bmask != 0 && decide (maskedRows = o.g.m)
  let (p, x) :=
    if !p.go || allMasked then (p, none)
    else if prod then
      let (q, x) := p.producer op core width o v
      (q, some x)
    else
      let q := p.runTile o true cols
      let q := if mxMerge op.ctl && decide (o.nacc > 1) then q.merge o cols else q
      let q := if cons then q.do (fun q => q.consume op core width) else q
      (q.do (fun q => q.epilogue o cols (fun _ => none)), none)
  let p := p.halted
  if p.wait then { s := p.s, st := 0, wait := true }
  else
    let nopred := mxSpec op.ctl && mxMode op.ctl != 0
    let def' := (x.map SpecSet.deferred).getD 0
    let full := (x.map SpecSet.qfull).getD 0
    let p := if prod then { p with skipped := def' } else p
    let flags := (match x with
      | some y => [setFlag y]
      | none => if cons && !allMasked then (consumerSets i op).map (fun y => if sbSample y.img > 0 then Code.sampled else 0) else []) ++
      (if p.bad > 0 then [Code.indexRange] else [])
    let flag := flagCode flags
    let st := if p.stop ≠ 0 then p.stop else if flag ≠ 0 then flag else if p.cnt.any (· != 0) then Code.numericFlagged else 0
    let t := p.s.mxCounts op p maskedRows
    let t := if nopred then t.count (dkey 0x4051 0x04) else t
    let t := if def' ≠ 0 then t.count (dkey 0x4051 0x01) def' else t
    let t := if full ≠ 0 then t.count (dkey 0x4051 0x06) full else t
    let t := match x with
      | none => if prod then t.setStatus op.ctx core (descOf op.c).smeta p.stop else t
      | some y =>
        if p.stop ≠ 0 then t.setStatus op.ctx core y.block p.stop
        else (t.updImg op.ctx core (fun m => { m with sets := m.sets ++ [y] })).settleSet op.ctx core y
    { s := t, st := st, body := mxBody op (decide (width = 120)) nopred (decide (full ≠ 0)) p, pos := some (p.passes * 2 ^ 32 + p.row) }

/-! Compression (R132 to R134). -/

/-- Rank of an element code: a NaN above every magnitude; zero for ±0. -/
def cmprRank (fmt code : Nat) : Nat :=
  if (decodeFp (fmtOf fmt) code).isNan then 2 ^ 16 else code % 2 ^ (elemBits fmt - 1)

/-- The two positions a group keeps (R133), and how many non-zeros it has. -/
def keepTwo (ranks : List Nat) : List Nat × Nat :=
  let r := fun (i : Nat) => (ranks[i]?).getD 0
  let nz := (List.range 4).filter (fun i => r i != 0)
  let best := fun (l : List Nat) => l.foldl (fun (m : Option Nat) i => match m with
    | none => some i
    | some j => if r i > r j then some i else some j) none
  let keep := if nz.length ≤ 2 then (nz ++ (List.range 4).filter (fun i => !(nz.contains i))).take 2
    else
      let a := (best nz).getD 0
      let b := (best (nz.filter (· != a))).getD 0
      [a, b]
  (sortNat keep, nz.length)

/-- A compression runs to its end. -/
def State.runCmpr (s : State) (op : MxOp) (core : Nat) : OpOut :=
  let ag := opAg op core
  let a := descOf op.a
  let b := descOf op.b
  let k := a.e1
  let p : Prog := { s := s }
  let (p, lines) := (List.range k).foldl (fun (acc : Prog × Map (Map Byte)) r =>
    let (p, m) := acc.1.fetch ag a.space ((List.range a.e0).flatMap (fun n => a.cellBytes n r))
    (p, acc.2 ++ [(r, m)])) (p, [])
  if p.wait then { s := p.s, st := 0, wait := true }
  else if p.stop ≠ 0 then { s := p.s, st := p.stop }
  else
    let code := fun (r n : Nat) => a.cellCode (mapGet [] lines r) n r
    let groups := (List.range a.e0).flatMap (fun n => (List.range (k / 4)).map (fun g => (n, g)))
    let kept := groups.map (fun e => (e, keepTwo ((List.range 4).map (fun j => cmprRank a.fmt (code (4 * e.2 + j) e.1)))))
    let off := (kept.filter (fun e => decide (e.2.2 > 2))).length
    let lost := (kept.map (fun e => e.2.2 - 2)).foldl (· + ·) 0
    let body := fun (o l : Nat) => min groups.length (2 ^ 32 - 1) * 2 ^ 192 + min o (2 ^ 32 - 1) * 2 ^ 160 + min l (2 ^ 32 - 1) * 2 ^ 128
    if !(bitAt op.ctl 63) ∧ off > 0 then
      { s := p.s.count (dkey 0x4050 0x03), st := Code.sparsePattern, body := body off 0 }
    else
      let puts := kept.flatMap (fun e =>
        let (n, g) := e.1
        let at0 := fun (j : Nat) => (e.2.1[j]?).getD 0
        let w := fun (j : Nat) =>
          let (ad, bit) := b.elemAt n (2 * g + j) 0 0
          partsPut (code (4 * g + at0 j) n) [(ad, bit, elemBits b.fmt)]
        w 0 ++ w 1 ++ partsPut (at0 0 + 4 * at0 1) [(b.smeta + n * (k / 8) + g / 2, 4 * (g % 2), 4)])
      match p.s.putBits ag b.space puts with
      | (t, .ok _) =>
        let t := if lost ≠ 0 then t.count (dkey 0x4050 0x04) lost else t
        { s := t, st := 0, body := body off lost }
      | (t, .err e) => { s := t, st := e, body := body off lost }
      | (t, .wait) => { s := t, st := 0, wait := true }

/-! Drain (R139). -/

/-- May a drain run: every insert to its block that issued before it is applied? -/
def drainTurn (i : Image) (op : MxOp) : Bool :=
  !(i.xfers.any (fun x => x.kind == .insert && decide (x.id < op.id) && (descOf x.dst).smeta == op.ra && decide (x.done < x.total) && x.st == 0))

/-- Clears a table: every key empty, no record used. -/
def State.rwClear (s : State) (ctx core cb : Nat) : State :=
  s.updImg ctx core (fun m =>
    let v := descAt m.ls cb
    let ls := (List.range (rwEntries v)).foldl (fun ls e => cellsWrite ls (rwTable v + 8 * e) (leBytes 4 0xFFFFFFFF)) m.ls
    { m with ls := cellsWrite ls cb (leBytes 64 (setBits (setBits v 224 32 0) 192 32 0)) })

/-- Values of the distinct keys of a list of records, ascending keys, each in the order given (R139). -/
def byKey (rs : List (Nat × Nat)) : List (Nat × List Nat) :=
  (sortNat (rs.map Prod.fst)).map (fun k => (k, (rs.filter (fun r => r.1 == k)).map Prod.snd))

/-- A drain runs to its end. -/
def State.runDrain (s : State) (op : MxOp) (core : Nat) : OpOut :=
  let ag := opAg op core
  let ls := (s.img op.ctx core).ls
  let v := descAt ls op.ra
  if bitAt op.ctl 63 then { s := s.rwClear op.ctx core op.ra, st := 0 }
  else
    let d := descOf op.b
    let word := fun (a : Nat) => leNat (cellsRead ls a 4)
    let tab := ((List.range (rwEntries v)).map (fun e => (word (rwTable v + 8 * e), word (rwTable v + 8 * e + 4)))).filter
      (fun e => e.1 != 0xFFFFFFFF)
    let p : Prog := { s := s }
    let near := bits v 224 32
    let hbm := bits v 192 32
    let (p, nb) := p.fetch ag 0 ((List.range (8 * near)).map (fun k => bits v 464 48 + k))
    let (p, hb) := p.fetch ag 0 ((List.range (8 * hbm)).map (fun k => bits v 416 48 + k))
    if p.wait then { s := p.s, st := 0, wait := true }
    else if p.stop ≠ 0 then { s := p.s, st := p.stop }
    else
      let logOf := fun (m : Map Byte) (base n : Nat) => (List.range n).map (fun k => (tblNat m (base + 8 * k) 4, tblNat m (base + 8 * k + 4) 4))
      let pairs := (byKey (tab ++ logOf nb (bits v 464 48) near ++ logOf hb (bits v 416 48) hbm)).map (fun e =>
        (e.1, (treeList (fun a b => atomStep .add 4 a b) e.2).getD 0))
      let out := pairs.take d.e0
      let (t, st) := p.s.spWrite ag d.space d.base (out.flatMap (fun e => leBytes 4 e.2 ++ leBytes 4 e.1))
      let body := out.length * 2 ^ 192 + tab.length * 2 ^ 160 + near * 2 ^ 128 + hbm * 2 ^ 96
      if st ≠ 0 then { s := t, st := st, body := body }
      else if pairs.length > d.e0 then { s := t.count (dkey 0x4050 0x06), st := Code.rowanOverflow, body := body }
      else { s := t.rwClear op.ctx core op.ra, st := 0, body := body }

/-! Completion. -/

/-- The next queued operation follows at once: its first row is no start (R423). -/
def admitHead : List MxOp → List MxOp
  | [] => []
  | o :: r => { o with gov := 2 } :: r

/-- An operation ends: its record, its token, its queue entry, and the fault of a strict launch (R74 to R76, R131). -/
def State.mxEnd (s : State) (core : Nat) (op : MxOp) (st : Status) (body : Nat) (pos : Option Nat) : State :=
  let ctx := op.ctx
  let s := (s.agEnd (opAg op core)).updImg ctx core (fun m =>
    let ls := match op.recOff with
      | some o => cellsWrite m.ls o (leBytes 32 (st.toNat * 2 ^ 240 + body % 2 ^ 240))
      | none => m.ls
    { m with ls := ls, mxq := admitHead (m.mxq.filter (fun x => x.id != op.id)) })
  let s := s.raiseArray core op st pos
  let s := (s.count (dkey 0x4030 0x02)).countCode ctx st
  let s := if Code.isFailure st then s.count (dkey 0x4030 0x03) else s
  let s := s.endToken ctx core op.slot op.launch op.group true op.token op.id st
  let s := if st = Code.indexFault then
      match mapFind (s.img ctx core).groups op.slot with
      | some g =>
        if g.launch = op.launch ∧ g.idx = op.group then s.groupFault ctx core op.slot g st ((g.run.map Path.pc).getD 0)
        else s.failLaunch op.launch st core op.slot 0
      | none => s.failLaunch op.launch st core op.slot 0
    else s
  if op.st = 0 then s.countFree (dkey 0x4030 0x04) else s

/-- What the head operation comes to. -/
def State.mxRun (s : State) (op : MxOp) (core width : Nat) : OpOut :=
  let narrow := if width = 120 then 2 ^ 235 else 0
  if op.st ≠ 0 then
    { s := s, st := op.st, body := if op.kind = .mxa then mxMode op.ctl * 2 ^ 236 + narrow else 0 }
  else match op.kind with
  | .mxa => s.runMxa op core width
  | .cmpr => s.runCmpr op core
  | .drain => s.runDrain op core

/-- The running operation of a launch that ends is stopped at a row boundary, which one is free; its record counts what it applied
(Table 03.10). An operation that waits for data has applied nothing. -/
def State.mxStop (s : State) (core : Nat) (op : MxOp) (code : Status) : State :=
  let width := s.width core
  let bare := if op.kind = .mxa then mxMode op.ctl * 2 ^ 236 + (if width = 120 then 2 ^ 235 else 0) else 0
  let (s, body, pos) := match op.outcome with
    | some (_, body) => (s, body, none)
    | none =>
      if op.kind ≠ MKind.mxa ∨ op.st ≠ 0 then (s, bare, some 0)
      else
        let o := s.drawn.runMxa op core width (some (s.freeVal (2 ^ 32))) code
        if !o.wait then (o.s, o.body, o.pos)
        else (if isProducer (s.img op.ctx core) op then s.drawn.setStatus op.ctx core (descOf op.c).smeta code else s.drawn, bare, some 0)
  let s := ((s.raiseArray core op code pos).count (dkey 0x4030 0x02)).count (dkey 0x4030 0x03)
  let s := if op.st = 0 then s.countFree (dkey 0x4030 0x04) else s
  (s.agEnd (opAg op core)).updImg op.ctx core (fun m =>
    { m with mxq := admitHead (m.mxq.filter (fun x => x.id != op.id))
             ls := match op.recOff with
               | some r => cellsWrite m.ls r (leBytes 32 (code.toNat * 2 ^ 240 + body % 2 ^ 240))
               | none => m.ls })

def State.updOp (s : State) (ctx core id : Nat) (f : MxOp → MxOp) : State :=
  s.updImg ctx core (fun m => { m with mxq := modifyWhere (fun x => x.id == id) f m.mxq })

/-- Has a launch fallen, and its code. -/
def State.launchFallen (s : State) (id : Nat) : Bool := ((s.launch? id).map Launch.fallen).getD false
def State.launchCode (s : State) (id : Nat) : Status := ((s.launch? id).map Launch.st).getD 0

/-- MXA_OP_COMPLETE (R76): the running operation finishes; one of a launch that has fallen stops instead (Table 03.10). With data still
on its way it asks for it and waits (R65), and with writes on their way it waits for their acknowledgements (R163). -/
def execMxaOpComplete (core : Fin 576) (s : State) : Res :=
  let core := core.val
  if !s.running then .next s
  else match s.liveCtx core with
  | none => .next s
  | some c =>
    let i := s.img c core
    match i.mxq.head? with
    | none => .next s
    | some op =>
      let ag := opAg op core
      if !op.started then .next s
      else if s.launchFallen op.launch then .next ((s.mxStop core op (s.launchCode op.launch)).agGo ag)
      else if op.kind = .drain ∧ !(drainTurn i op) then .next s
      else match op.outcome with
      | some (st, body) =>
        let (s, wst) := s.agAbsorb ag
        let st := if Code.isFailure st ∨ wst = 0 then st else wst
        if s.agBusy ag then .next (s.updOp c core op.id (fun x => { x with outcome := some (st, body) }))
        else .next ((s.mxEnd core op st body none).agGo ag)
      | none =>
        let o := s.mxRun op core (s.width core)
        if o.wait then .next (s.agWait o.s ag)
        else
          let s := o.s.agDrop ag
          if s.agBusy ag then .next ((s.updOp c core op.id (fun x => { x with outcome := some (o.st, o.body) })).agGo ag)
          else .next ((s.mxEnd core op o.st o.body o.pos).agGo ag)

/-- Have all groups of a launch ended? -/
def State.launchOver (s : State) (id : Nat) : Bool :=
  match s.launch? id with
  | none => true
  | some l => decide (l.ended ≥ l.groups)

/-- SPEC_CHECK_TILE (R145, R149, R151): the next check tile of the first set that has one, as filler while the array queue is empty; with
FENCE = 0 its corrections follow at once. A set whose launch has ended without a consumer is then closed, its corrections applied. -/
def execSpecCheckTile (core : Fin 576) (s : State) : Res :=
  let core := core.val
  if !s.running then .next s
  else match s.liveCtx core with
  | none => .next s
  | some c =>
    let i := s.img c core
    if !i.mxq.isEmpty then .next s
    else match i.sets.find? (fun x => !x.left.isEmpty) with
    | some x =>
      let (p, y) := ({ s := s : Prog }).checkTile x.op core (s.width core) x
      let p := { p with s := p.tileCounts }
      let p := if p.go ∧ !(sbFence x.img) then p.correct x.op core x (y.corr.drop x.corr.length) else p
      let y := if sbFence x.img then y else { y with corr := [] }
      let ag := opAg x.op core
      if p.wait then .next (s.agWait p.s ag)
      else if p.stop ≠ 0 then .next ((((p.s.agDrop ag).writeSet c core x p.stop).dropSet c core x).agGo ag)
      else
        let t := (((p.s.agDrop ag).checkCounts x y).count (dkey 0x4051 0x07) p.rows).count (dkey 0x2020 0x04) p.rows
        .next ((((t.updSet c core x.op.id (fun _ => y)).settleSet c core y).agGo ag).countFree (dkey 0x4030 0x04))
    | none =>
      match i.sets.find? (fun x => s.launchOver x.op.launch) with
      | none => .next s
      | some x =>
        let p := ({ s := s : Prog }).correct x.op core x x.corr
        if p.wait then .next (s.agWait p.s (opAg x.op core))
        else
          let st := if p.stop ≠ 0 then p.stop else setFlag x
          let t := ((p.s.agDrop (opAg x.op core)).writeSet c core x st).dropSet c core x
          .next (((t.count (dkey 0x4051 0x05)).updLaunch x.op.launch (fun l => { l with flags := l.flags ++ [Code.unchecked.toNat] })).agGo (opAg x.op core))

end Sys2Proof.Machine
end

