-- ==== Sys2Proof/Machine/Access.lean ====
section
/-!
DEFINITION. Machine/Access.lean: who may read and write an entry of the object dictionary (R393, R395, R397, R461).
-/
namespace Sys2Proof.Machine

/-- Classes bit of a requester: 0 M, 1 H, 2 T. -/
def clsBit : Cls → Nat
  | .m _ => 0
  | .h => 1
  | .t _ => 2
def clsT : Cls → Bool
  | .t _ => true
  | _ => false
/-- The session of a requester, as R459 and Table 17.3 record it. -/
def clsSession : Cls → Nat
  | .m n => n
  | _ => 0

def keyIndex (key : Nat) : Nat := key / 256
def keySub (key : Nat) : Nat := key % 256
/-- Is an index that of a context's record? -/
def isCtxIndex (i : Nat) : Bool := decide (0x9000 ≤ i ∧ i ≤ 0x9FFF)
/-- The context a key's record belongs to. -/
def keyCtx (key : Nat) : Nat := if keyIndex key = 0x8100 then 4096 else keyIndex key - 0x9000
/-- Sub-indices that 0x8100 does not provide (R397). -/
def notAt8100 (sub : Nat) : Bool := sub == 0x60 || sub == 0x61 || decide (0x70 ≤ sub ∧ sub ≤ 0x73)

/-- The row of an entry that exists (R393, R397). -/
def entryAt (key : Nat) : Option Entry := if keyIndex key = 0x8100 && notAt8100 (keySub key) then none else entryOf key

/-- The classes of an entry: at 0x8100, H takes what T has (R397). -/
def Entry.classesAt (e : Entry) (key : Nat) : Nat :=
  if keyIndex key = 0x8100 then bits e.classes 0 1 + (if bitAt e.classes 1 || bitAt e.classes 2 then 2 else 0) + (if bitAt e.classes 3 then 8 else 0)
  else e.classes

/-- Does class T reach a record: only that of its own context, and never 0x8100 (R395, R397)? -/
def clsReaches (c : Cls) (key : Nat) : Bool :=
  match c with
  | .t ctx => if isCtxIndex (keyIndex key) then keyIndex key == 0x9000 + ctx else keyIndex key != 0x8100
  | _ => true

/-- May a class read an entry? -/
def mayRead (c : Cls) (key : Nat) : Bool :=
  match entryAt key with
  | none => false
  | some e => bitAt (e.classesAt key) (clsBit c) && clsReaches c key
/-- May a class write it: a listed class, or M or H where the row lists V? Counters take zero from each class their row lists (R464). -/
def mayWrite (c : Cls) (key : Nat) : Bool :=
  match entryAt key with
  | none => false
  | some e =>
    let l := e.classesAt key
    clsReaches c key && (bitAt l (clsBit c) || (bitAt l 3 && !(clsT c))) && (e.acc != .ro || e.counter != 0)

end Sys2Proof.Machine
end

