-- ==== Sys2Proof/Machine/Control.lean ====
section
/-!
DEFINITION. Machine/Control.lean: the control instructions, class 0x0 of Table 02.5 (R24 to R27, R35, R37, R47).
-/
namespace Sys2Proof.Machine

/-- Address of the instruction after the running one. -/
def Iss.nextPc (i : Iss) : Nat := (i.path.pc + 16) % 2 ^ 64

/-- Splits the running path, or faults with DIVERGENCE_DEPTH (R24, R25). -/
def Iss.branch (i : Iss) (g : Group) (rpc : Nat) (paths : List (Nat × Lanes)) : State :=
  match g.split i.path rpc paths with
  | none => i.fault Code.divergence
  | some g => i.put g

/-- Reconvergence point: IMM[63:32] from the branch's own address (R35). -/
def Iss.rpc (i : Iss) (w : IWord) : Nat := branchTo i.path.pc (BitVec.ofNat 32 (immHi w))

/-- The paths of a direct branch: the lanes whose guard is true at the target, the others at the next instruction; the path of
the lowest lane runs first (R24). -/
def Iss.takenPaths (i : Iss) (w : IWord) : List (Nat × Lanes) :=
  let rest := i.path.mask &&& ~~~i.act
  let t := (branchTo i.path.pc (immLo w), i.act)
  let n := (i.nextPc, rest)
  if i.act = 0 then [n] else if rest = 0 then [t]
  else if lowestLane i.act < lowestLane rest then [t, n] else [n, t]

/-- The paths of an indirect branch; lanes whose guard is false go on at the next instruction (R26, R36). -/
def Iss.indirect (i : Iss) (w : IWord) : List (Nat × Lanes) :=
  groupTargets ((lanesOf i.path.mask).map (fun l =>
    (l, if i.act.getLsbD l then i.grp.run64 w.ra.toNat 2 l else i.nextPc)))

/-- Some active lane's target has a bit of [63:48] set (R188, R489). -/
def Iss.farTarget (i : Iss) (w : IWord) : Bool := (lanesOf i.act).any (fun l => decide (i.grp.run64 w.ra.toNat 2 l ≥ 2 ^ 48))

def execNop (g : GRef) (w : IWord) (s : State) : Res := issue s g w (fun _ => modZero w) (fun i => i.retire i.grp)

/-- BRA (R24). -/
def execBra (g : GRef) (w : IWord) (s : State) : Res :=
  issue s g w (fun _ => modZero w) (fun i => i.branch i.grp (i.rpc w) (i.takenPaths w))

/-- BRI (R26). -/
def execBri (g : GRef) (w : IWord) (s : State) : Res :=
  issue s g w (fun gr => modZero w && regsOk [(w.ra.toNat, 2)] gr) (fun i =>
    if i.farTarget w then i.fault Code.pageFault else i.branch i.grp (i.rpc w) (i.indirect w))

/-- CALL writes the return address and branches (R26, R489); lanes whose guard is false go on, as at a BRA. -/
def execCall (g : GRef) (w : IWord) (s : State) : Res :=
  issue s g w (fun gr => modZero w && regsOk [(w.rd.toNat, 2)] gr) (fun i =>
    i.branch (i.grp.setRuns w.rd.toNat 2 i.act (fun _ => i.nextPc)) (i.rpc w) (i.takenPaths w))

/-- RET branches to RA and splits as BRI does (R26). -/
def execRet (g : GRef) (w : IWord) (s : State) : Res :=
  issue s g w (fun gr => modZero w && regsOk [(w.ra.toNat, 2)] gr) (fun i =>
    if i.farTarget w then i.fault Code.pageFault else i.branch i.grp (i.rpc w) (i.indirect w))

/-- GSYNC sets that hold every lane that has not exited are emptied (R37). -/
def Group.trimSyncs (g : Group) : Group :=
  { g with gsyncs := g.gsyncs.filter (fun e => g.alive &&& ~~~e.2 != 0) }

/-- EXIT removes the active lanes (R27). Parked lanes retry when the path's lanes have all exited (R45). -/
def execExit (g : GRef) (w : IWord) (s : State) : Res :=
  issue s g w (fun _ => modZero w) (fun i =>
    if i.act = 0 then i.retire i.grp
    else
      let rest := i.path.mask &&& ~~~i.act
      let gr := ({ i.grp with alive := i.grp.alive &&& ~~~i.act, wdog := i.s.now }).trimSyncs
      let gr := if rest = 0 then ({ gr with run := none }).retryWhere (fun _ => true)
                else { gr with run := some { i.path with pc := i.nextPc, mask := rest, retry := false } }
      (i.put gr).gsyncSweep i.ctx i.core)

/-- YIELD: the next pending path runs and this one waits behind it (R47). -/
def execYield (g : GRef) (w : IWord) (s : State) : Res :=
  issue s g w (fun _ => modZero w) (fun i =>
    match i.grp.stack with
    | [] => i.retireP i.grp
    | p :: r =>
      if i.act = 0 then i.retire i.grp
      else i.put { i.grp with run := some p, stack := { i.path with pc := i.nextPc, retry := false } :: r, wdog := i.s.now })

/-- GSYNC (R37). -/
def execGsync (g : GRef) (w : IWord) (s : State) : Res :=
  issue s g w (fun _ => modZero w) (fun i =>
    let id := immBits w 0 4
    let seen := mapGet (0 : Lanes) i.grp.gsyncs id
    if i.act = 0 then i.retire i.grp
    else if seen ≠ 0 ∧ seen &&& i.act = 0 then
      i.retire ({ i.grp with gsyncs := mapSet 0 i.grp.gsyncs id (seen ||| i.act) }).trimSyncs
    else
      let gr := ({ i.grp with gsyncs := mapSet 0 i.grp.gsyncs id i.act }).trimSyncs
      (i.s.setGroup i.ctx i.core i.slot { gr with wait := .gsync id }).gsyncSweep i.ctx i.core)

/-- Does a debugger hold a context: does 0x4020:01 name it, with a valid token for a tenant context (R37, R54)? -/
def State.debugged (s : State) (ctx : Nat) : Bool :=
  let t := s.dv (dkey 0x4020 0x01)
  if bitAt t 48 then ctx == 4096 else decide (bits t 36 12 = ctx) && s.dbg.auth.contains ctx

/-- BKPT (R37). -/
def execBkpt (g : GRef) (w : IWord) (s : State) : Res :=
  issue s g w (fun _ => modZero w) (fun i =>
    if i.s.debugged i.ctx && i.act != 0 then
      (i.retire { i.grp with halt := { halted := true, cause := 4, since := i.s.now, step := i.grp.halt.step } }).freezeSync i.ctx i.core
    else i.retire i.grp)

/-- Value of a special register, none for an illegal selector (R35). The cycle counter is a free value (log 6). -/
def Iss.special (i : Iss) (sel l : Nat) : Option Nat :=
  match sel with
  | 0 => some l
  | 1 => some i.slot
  | 2 => some i.grp.idx
  | 3 => some i.core
  | 4 => some (i.core / 8)
  | 5 => some i.ctx
  | 6 => some (i.s.width i.core)
  | 7 => some (i.s.freeVal (2 ^ 64))
  | 8 => some i.s.dev.deviceId
  | _ => none

/-- SRD (R35). -/
def execSrd (g : GRef) (w : IWord) (s : State) : Res :=
  let sel := immBits w 0 8
  let n := if sel = 7 then 2 else 1
  issue s g w (fun gr => modZero w && decide (sel ≤ 8) && regsOk [(w.rd.toNat, n)] gr) (fun i =>
    let i' : Iss := { i with s := if sel = 7 then i.s.drawn else i.s }
    i'.retire (i.grp.setRuns w.rd.toNat n i.act (fun l => (i.special sel l).getD 0)))

end Sys2Proof.Machine
end

