-- ==== Sys2Proof/Machine/Serve.lean ====
section
/-!
DEFINITION. Machine/Serve.lean: the answers of requests that came from outside: response
packets (R284, R285, R288) and completions of far bulk frames (R305, R306).
-/
namespace Sys2Proof.Machine

/-! Responses. -/

/-- Response packet of a request of a port (Tables 11.1 to 11.3). For such a request `slot` is the requester's SIDX, `gidx` the key. -/
def State.replyPkt (s : State) (r : Req) : TxPkt :=
  let h := fun (pt len : Nat) => pktHeader pt len r.dev s.dev.deviceId r.slot r.tag r.ctx (r.st.toNat * 2 ^ 48)
  let slots := match r.op with
    | .rd n => if r.st = 0 then h 0x8 (1 + ceilDiv n 16) :: slotsOf r.res else [h 0x8 1]
    | .at _ _ _ _ true => if r.st = 0 then [h 0xA 2, leNat r.res] else [h 0xA 1]
    | _ => [h 0x9 1]
  { vc := 1, key := r.gidx, slots := slots }

/-- The response of a request leaves by its port, unless it was sent already (R294) or the port is down (R279); the request ends. -/
def State.reply (s : State) (r : Req) : State :=
  let s := { s with reqs := s.reqs.filter (fun x => x.id != r.id) }
  match r.src with
  | .port p =>
    if r.expired || !(s.port p).active then s
    else s.updPort p (fun x => { x with txq := x.txq ++ [s.replyPkt r] })
  | _ => s

/-- A request that fails its checks is accepted at the check and answered with the code (R289, R290). -/
def State.denyPkt (s : State) (p : Nat) (r : Req) (st : Status) : State := ((s.acceptPkt p r).oweFlag p r).reply { r with st := st, res := [] }
/-- A destroyed context's unaccepted requests fail (Table 11.9). -/
def State.denyWaiting (s : State) (ctx : Nat) : State :=
  s.reqs.foldl (fun (t : State) r => match r.src with
    | .port p => if r.ph = .waiting ∧ r.ctx = ctx then t.denyPkt p r Code.accessDenied else t
    | _ => t) s

/-- Key of a far stream. -/
def rkey (ctx domain device stream : Nat) : Nat := ((ctx * 4096 + domain) * 64 + device) * 4 + stream

/-- A far frame whose requests are all done is answered: COMPLETE for a write, READ_DATA for a read (R305, R306). -/
def State.answerFrame (s : State) (g : Nat) (rs : RStream) (f : RFrame) : State :=
  let stream := rs.key % 4
  let device := rs.key / 4 % 64
  let domain := rs.key / 256 % 4096
  let ctx := rs.key / 1048576
  let done := f.reqs.map (fun e => (e.2, s.req? e.1))
  let code := done.foldl (fun (a : Status) e => if a ≠ 0 then a else (match e.2 with | some r => r.st | none => Code.remoteTimeout)) f.st
  let ids := f.reqs.map Prod.fst
  let recs : List Rec := if f.ftype = 1 then
      done.map (fun e => match e.2 with
        | some r => if r.st = 0 then { rtype := 3, device := r.dev, offset := gOffset r.addr, rtag := e.1, len := r.res.length, data := r.res }
                    else { rtype := 3, device := r.dev, offset := gOffset r.addr, rtag := e.1 }
        | none => { rtype := 3, device := s.dev.deviceId, offset := 0, rtag := e.1 })
    else []
  let ds := match (s.ctx ctx).bindFor domain with
    | none => []
    | some n => s.larchAll { gw := g, dst := f.src, ctx := ctx, bind := n, ftype := if f.ftype = 1 then 2 else 3, stream := stream, seq := f.seq,
                             peer := device, st := code } recs
  let s := { s with reqs := s.reqs.filter (fun r => !(ids.contains r.id)) }
  let s := s.updGw g (fun x => { x with rstreams := modifyWhere (fun y => y.key == rs.key) (fun y => { y with
    done := ((f.seq, if f.ftype = 1 then [] else ds) :: y.done.filter (fun d => d.1 != f.seq)).take 64
    frames := y.frames.filter (fun z => z.seq != f.seq) }) x.rstreams })
  (s.count (dkey (0x5040 + g) 0x07)).larchEmits g ds

/-- Every far frame that is due is answered. -/
def State.gwSweep (s : State) : State :=
  (List.range 4).foldl (fun (t : State) g =>
    (t.gw g).rstreams.foldl (fun (t : State) rs =>
      rs.frames.foldl (fun (t : State) f =>
        if f.run && f.reqs.all (fun e => match t.req? e.1 with | some r => r.ph == .done | none => true) then t.answerFrame g rs f
        else t) t) t) s

/-- What follows when a request is done, by who made it: a core's waits for its response; a port's is answered; a gateway's frame may
be complete; the firmware's ends. -/
def State.afterDone (s : State) (id : Nat) : State :=
  match s.req? id with
  | none => s
  | some r =>
    match r.src with
    | .port p => (s.oweFlag p r).reply r
    | .gateway _ => s.gwSweep
    | .firmware => if r.xfer = 0 then { s with reqs := s.reqs.filter (fun x => x.id != id) } else s
    | _ => s

end Sys2Proof.Machine
end

