-- ==== Sys2Proof/Machine/LaunchOps.lean ====
section
/-!
DEFINITION. Machine/LaunchOps.lean: what a launch is checked for, when it fits, how it starts and ends (R31 to R34, R90, R140, R168 to
R170, R337, R341 to R343, R348, R370).
-/
namespace Sys2Proof.Machine

/-! Fields of LAUNCH (Table 13.8). -/

def lCode (i : Nat) : Nat := bits i 464 48
def lParam (i : Nat) : Nat := bits i 416 48
def lRlist (i : Nat) : Nat := bits i 368 48
def lGroups (i : Nat) : Nat := bits i 288 32
def lCores (i : Nat) : Nat := bits i 272 16
def lDeadline (i : Nat) : Nat := bits i 260 12
def lCacheKiB (i : Nat) : Nat := 256 * bits i 254 2
def lRegs (i : Nat) : Nat := match bits i 252 2 with | 0 => 32 | 1 => 64 | 2 => 128 | _ => 255
def lShared (i : Nat) : Nat := 4096 * bits i 243 9
def lGroupLs (i : Nat) : Nat := 4096 * bits i 234 9
def lPlen (i : Nat) : Nat := 64 * bits i 227 7
def lReplay (i : Nat) : Bool := bitAt i 55
def lSpec (i : Nat) : Bool := bitAt i 54
def lSaveMask (i : Nat) : Bool := bitAt i 53

/-- Resident groups per core (R32). -/
def occupancy (i : Nat) : Nat :=
  let ls := 1572864 - 1024 * lCacheKiB i
  let regs := if lRegs i = 255 then 256 else lRegs i
  if lShared i > ls then 0
  else
    let lim := if lGroupLs i = 0 then 64 else (ls - lShared i) / lGroupLs i
    min 64 (min (2048 / regs) lim)

/-- Code object header (Table 13.9). -/
structure Header where
  size  : Nat
  entry : Nat
  wagn  : Bool
  deriving DecidableEq, Repr

/-- A page a context may fetch from (R496): the device-local offset. -/
def State.fetchAt (s : State) (ctx va : Nat) : Option Nat :=
  match s.xlate ctx va .fetch with
  | (st, .glob a _) => if st = 0 then some (gOffset a) else none
  | _ => none
/-- Every page of a code object passes the fetch check (R342, R496). -/
def State.codePages (s : State) (ctx code size : Nat) : Bool := (cut 65536 code size).all (fun p => (s.fetchAt ctx p.1).isSome)
/-- The header, where it can be read and keeps Table 13.9, and all its pages pass. -/
def State.codeHeader (s : State) (ctx code : Nat) : State × Option Header :=
  match s.fetchAt ctx code with
  | none => (s, none)
  | some o =>
    let (t, st, bs) := s.devRead o 64
    let v := leNat bs
    let h : Header := { size := bits v 480 32, entry := bits v 448 32, wagn := bitAt v 447 }
    if st ≠ 0 ∨ h.size < 64 ∨ h.entry % 16 ≠ 0 ∨ h.entry ≥ h.size then (t, none)
    else if t.codePages ctx code h.size then (t, some h) else (t, none)

/-- Cores of a partition a launch may take (R90, R341). -/
def State.launchCores (s : State) (ctx : Nat) (wagn : Bool) : List Nat :=
  (s.partCores ctx).filter (fun n => wagn || s.width n == 128)

/-- Does a launch fit its partition as it is (R90, R341, R342)? -/
def State.launchFit (s : State) (ctx cores : Nat) (wagn : Bool) : Status :=
  if (s.ctx ctx).groves = 0 then 0
  else if cores > (s.partCores ctx).length ∨ s.partCores ctx = [] then Code.launchResources
  else if cores > (s.launchCores ctx wagn).length ∨ s.launchCores ctx wagn = [] then Code.launchWidth
  else 0

/-- The reasons a LAUNCH of its own is refused for (R17, R34, R90, R140, R338, R342), with the header found. -/
def State.launchReasons (s : State) (ctx img : Nat) (h : Option Header) : List (Bool × Status × Nat) :=
  let wagn := (h.map Header.wagn).getD true
  let fit := s.launchFit ctx (lCores img) wagn
  [(lCode img == 0 || lCode img % 4096 != 0, Code.commandInvalid, 1),
   (lPlen img != 0 && s.badAddr ctx (lParam img) (lPlen img) 64 .read, Code.commandInvalid, 2),
   (decide (lDeadline img > 3600), Code.commandInvalid, 7),
   (s.perDie == 0, Code.gradeInvalid, 0),
   (lGroups img == 0, Code.launchResources, 5),
   (fit == Code.launchResources, Code.launchResources, 6),
   (occupancy img == 0, Code.launchResources, if lShared img > 1572864 - 1024 * lCacheKiB img then 10 else 11),
   (decide (lPlen img > 4096) || decide (lPlen img > lShared img), Code.launchResources, 12),
   (fit == Code.launchWidth, Code.launchWidth, 6),
   (lSpec img && s.dv (ctxKey ctx 0x31) == 0, Code.specDisabled, 15),
   (!(lReplay img) && lRlist img != 0, Code.replayInvalid, 3),
   (h.isNone, Code.launchCode, 1)]

/-- A launch as its command describes it; seed and number are captured by the caller (R108, R121, R347). -/
def State.makeLaunch (s : State) (ctx ring img : Nat) (h : Header) (num : Nat) (entry : Bool) : Launch :=
  let d := if lDeadline img = 0 then s.dv (dkey 0x8000 0x01) else lDeadline img
  let cap := s.dv (ctxKey ctx 0x02)
  { id := s.nextId, ctx := ctx, ring := ring, cmd := img, code := lCode img, size := h.size, entry := lCode img + h.entry, wagn := h.wagn
    groups := lGroups img, nregs := lRegs img, seed := s.dv (ctxKey ctx 0x20), number := num
    strict := s.dv (ctxKey ctx 0x30) = 1, spec := lSpec img, savem := lSaveMask img
    deadline := if cap = 0 then d else min d cap, isEntry := entry }

/-- Is the code object of a launch measured and locked (R370)? -/
def Ctx.measuredCode (x : Ctx) (code size : Nat) : Bool := x.locked.contains (code, size)

/-- W is cleared in the leaves of a code object's pages and in the ownership of its local granules (R370). -/
def State.lockPages (s : State) (ctx code size : Nat) : State :=
  let x := s.ctx ctx
  let hit := fun (e : Nat × Leaf) => decide (65536 * e.1 < code + size ∧ code < 65536 * e.1 + leafBytes e.2.size)
  let s := s.setCtx ctx { x with leaves := x.leaves.map (fun e => if hit e then (e.1, { e.2 with w := false }) else e) }
  let s := (x.leaves.filter hit).foldl (fun (t : State) e => t.setEntry ctx (leafLevel e.2.size) (65536 * e.1) (leafWord { e.2 with w := false })) s
  { s with owner := s.owner.map (fun e =>
      if e.2.state = 2 ∧ x.leaves.any (fun l => hit l && s.isLocal l.2.target &&
          decide (gOffset l.2.target / granuleBytes ≤ e.1 ∧ e.1 < (gOffset l.2.target + leafBytes l.2.size) / granuleBytes))
      then (e.1, { e.2 with perm := setBits e.2.perm 0 1 0 }) else e) }

/-! The end of a launch. -/

/-- Numeric counters and flags of a LAUNCH record (Table 13.11). -/
def Launch.status (l : Launch) : Status :=
  let f := l.flags
  if l.st ≠ 0 then l.st
  else if f.contains Code.unchecked.toNat then Code.unchecked
  else if f.contains Code.sampled.toNat then Code.sampled
  else if f.contains Code.indexRange.toNat then Code.indexRange
  else if f.contains Code.numericFlagged.toNat ∨ l.cnt.any (fun n => n != 0) then Code.numericFlagged
  else 0
def Launch.record (l : Launch) (replay : Nat) : Nat :=
  let sat := fun (k : Nat) => min ((l.cnt[k]?).getD 0) (2 ^ 32 - 1)
  (replay % 65536) * 2 ^ 224 + (l.fcore % 1024) * 2 ^ 214 + (l.fslot % 64) * 2 ^ 208 + (l.fpc % 2 ^ 32) * 2 ^ 160 +
    sat 0 * 2 ^ 128 + sat 1 * 2 ^ 96 + sat 2 * 2 ^ 64 + sat 3 * 2 ^ 32 + min l.ended (2 ^ 32 - 1)

/-- Work of a launch that is neither a group nor an outstanding request: array operations, sets, transfers, frames (R341, R307). -/
def State.launchWork (s : State) (l : Launch) : Bool :=
  l.cores.any (fun n =>
    let i := s.img l.ctx n
    i.mxq.any (fun o => o.launch == l.id) || i.sets.any (fun x => x.op.launch == l.id) ||
    i.xfers.any (fun x => x.launch == l.id && !x.fin)) ||
  s.gws.any (fun g => g.2.streams.any (fun x => x.frames.any (fun f => f.launches.contains l.id)))
/-- Requests of a launch that are not answered yet. -/
def State.launchReqs (s : State) (l : Launch) : Bool := s.reqs.any (fun r => r.owner == l.id && l.id != 0 && r.ph != .done)

/-- The cores of a launch are released; what its requests left behind is discarded. -/
def State.releaseCores (s : State) (l : Launch) : State :=
  let s := l.cores.foldl (fun (t : State) n => (t.xfersEnd l.ctx n (fun x => x.launch == l.id) l.st).updImg l.ctx n (fun i =>
    if i.launch = l.id then { i with launch := 0, nslots := 0, groups := [], xfers := [], mxq := [], sets := [] } else i)) s
  { s with launches := s.launches.filter (fun x => x.id != l.id)
           reqs := s.reqs.filter (fun r => !(r.owner == l.id && l.id != 0 && r.ph == .done)) }

/-- R348 steps 2 to 4 as far as they go at once: queued array operations and checks are discarded, a running one leaves its record
with the code, and so does a bulk conversion (R116); requests that hold no slot and releases that are held are never made. -/
def State.quenchLaunch (s : State) (l : Launch) (code : Status) : State :=
  let s := l.cores.foldl (fun (t : State) n =>
    let i := t.img l.ctx n
    let t := i.mxq.foldl (fun (t : State) o =>
      if o.launch = l.id ∧ o.started then t.mxStop n o code else t) t
    let t := i.sets.foldl (fun (t : State) x => if x.op.launch = l.id then t.setStatus l.ctx n x.block code else t) t
    let t := t.xfersEnd l.ctx n (fun x => x.launch == l.id) code
    t.updImg l.ctx n (fun m => { m with mxq := m.mxq.filter (fun o => o.launch != l.id)
                                        sets := m.sets.filter (fun x => x.op.launch != l.id)
                                        xfers := m.xfers.filter (fun x => x.launch != l.id) })) s
  { s with reqs := s.reqs.filter (fun r => !(r.owner == l.id && (r.ph == .waiting || r.held || r.pref)))
           rels := s.rels.filter (fun r => r.launch != l.id) }

/-- A launch ends: its cores are free, its command goes on. -/
def State.endLaunch (s : State) (l : Launch) (st : Status) (replay : Nat) : State :=
  let s := s.releaseCores l
  match (s.ring l.ctx l.ring).cur with
  | none => s
  | some c => s.complete l.ctx l.ring c st l.ended l.faddr (l.record replay)

end Sys2Proof.Machine
end

