-- ==== Sys2Proof/Machine/LaunchCmds.lean ====
section
/-!
DEFINITION. Machine/LaunchCmds.lean: LAUNCH from its check to its record (R90, R168 to R170, R337, R341 to R343, R346 to R348, R370).
A LAUNCH command stands at stage 1 while its code is hashed, 2 while it waits for replay entries or cores, 3 while it runs;
`launch` is the launch it runs now, `aux` the main one.
-/
namespace Sys2Proof.Machine

/-- What reading a replay list gives (R168, R170). -/
inductive RList where
  | wait
  | bad
  | ok (l : List (Nat × Nat))
  deriving DecidableEq, Repr

/-- Reads the list entry by entry, at most 256, up to LAST. -/
def readReplay (ag : Ag) : Nat → Nat → List (Nat × Nat) → State → State × RList
  | 0, _, _, s => (s, .bad)
  | n + 1, a, acc, s =>
    match s.agRead ag .read a 128 with
    | (t, .wait) => (t, .wait)
    | (t, .err _) => (t, .bad)
    | (t, .ok bs) =>
      let v := leNat bs
      let acc := acc ++ [(bits v 512 512, bits v 480 32)]
      if bitAt v 479 then (t, .ok acc) else readReplay ag n (a + 128) acc t

/-- Would an entry be refused by its own check (R170)? -/
def State.entryBad (s : State) (ctx img : Nat) : State × Bool :=
  let (t, h) := s.codeHeader ctx (lCode img)
  (t, cOpc img != 0x10 || lReplay img || (firstReason (t.launchReasons ctx img h)).isSome)

def State.entriesBad (s : State) (ctx : Nat) (l : List (Nat × Nat)) : State × Bool :=
  l.foldl (fun (a : State × Bool) e => let (t, b) := a.1.entryBad ctx e.1; (t, a.2 || b)) (s, false)

/-- An accepted launch: seed and number captured, SR_LAUNCH advanced (R108, R121). -/
def State.acceptLaunch (s : State) (ctx ring : Nat) (c : Cmd) (h : Header) (l : List (Nat × Nat)) : State :=
  let num := s.dv (ctxKey ctx 0x21)
  let id := s.nextId
  let s := { s with launches := s.launches ++ [{ s.makeLaunch ctx ring c.img h num false with replay := l }] }
  let s := (s.bumpId.setDv (ctxKey ctx 0x21) ((num + 1) % 2 ^ 32))
  s.updCmd ctx ring (fun c => { c with launch := id, aux := id
                                       stage := if (s.ctx ctx).measuredCode (lCode c.img) h.size then 2 else 1 })

/-- LAUNCH: checked, and queued for cores (R342). -/
def execLaunch (ctx : Fin 4097) (ring : Fin 8) (s : State) : Res :=
  ringCmd s ctx.val ring.val 0x10 (fun c =>
    let (s1, h) := s.codeHeader ctx.val (lCode c.img)
    let (s2, rl) := if lReplay c.img then
        (if lRlist c.img % 128 ≠ 0 ∨ lRlist c.img = 0 then (s1, RList.bad) else readReplay (cmdAg ctx.val c) 256 (lRlist c.img) [] s1)
      else (s1, .ok [])
    match rl with
    | .wait => s.agWait s2 (cmdAg ctx.val c)
    | _ =>
      let l := match rl with | .ok l => l | _ => []
      let (s3, eb) := s2.entriesBad ctx.val l
      let s3 := s3.agDrop (cmdAg ctx.val c)
      let why := s3.launchReasons ctx.val c.img h ++ [(rl == .bad || eb, Code.replayInvalid, 3)] ++ s3.baseReasons ctx.val ring.val c
      match firstReason why, h with
      | some (st, d), _ =>
        (if st = Code.replayInvalid then s3.count (dkey 0x4060 0x05) else s3).refuse ctx.val ring.val c st d (65535 * 2 ^ 224)
      | none, some h => s3.acceptLaunch ctx.val ring.val c h l
      | none, none => s3)

/-- A launch command at a stage, with the launch it runs. -/
def launchCmd (s : State) (ctx ring stage : Nat) (body : Cmd → Launch → State) : Res :=
  if !s.running then .next s
  else match (s.ring ctx ring).cur with
  | none => .next s
  | some c =>
    if cOpc c.img ≠ 0x10 ∨ c.stage ≠ stage then .next s
    else match s.launch? c.launch with
    | none => .next s
    | some l => .next (body c l)

/-- CODE_MEASURE: the object's hash extends M_CTX, which stays zero for the administrative context (Table 14.5); its pages are locked
(R369, R370). -/
def execCodeMeasure (ctx : Fin 4097) (ring : Fin 8) (s : State) : Res :=
  launchCmd s ctx.val ring.val 1 (fun _ l =>
    let s := s.updCmd ctx.val ring.val (fun c => { c with stage := 2 })
    if l.fallen ∨ (s.ctx ctx.val).measuredCode l.code l.size then s
    else
      let bytes := (cut 65536 l.code l.size).flatMap (fun p => match s.fetchAt ctx.val p.1 with
        | some o => s.rawRead o p.2
        | none => [])
      let h := Config.sha384 bytes
      (s.lockPages ctx.val l.code l.size).updCtx ctx.val (fun x => { x with
        mctx := if ctx.val = 4096 then 0 else Config.sha384 (leBytes 48 x.mctx.toNat ++ leBytes 48 h.toNat)
        codeCount := x.codeCount + 1
        locked := x.locked ++ [(l.code, l.size)]
        measured := mapSet 0 x.measured l.code h }))

/-- The main launch completes with what ended its replay (R170). -/
def State.endReplay (s : State) (main entry : Launch) (st : Status) : State :=
  let s := s.releaseCores entry
  s.endLaunch { main with st := st, fcore := entry.fcore, fslot := entry.fslot, fpc := entry.fpc, faddr := entry.faddr } st main.rindex

/-- REPLAY_ENTRY_START: the next entry becomes the launch that runs, with what the LAUNCH captured when it was accepted (R120, R131);
one that is refused now ends the replay (R169, R170). -/
def execReplayEntryStart (ctx : Fin 4097) (ring : Fin 8) (s : State) : Res :=
  launchCmd s ctx.val ring.val 2 (fun c main =>
    match main.replay with
    | [] => s
    | (img, srl) :: rest =>
      if main.fallen ∨ c.launch ≠ c.aux then s
      else
        let s := s.updLaunch main.id (fun l => { l with replay := rest })
        let (s, h) := s.codeHeader ctx.val (lCode img)
        match firstReason (s.launchReasons ctx.val img h), h with
        | some (st, _), _ => s.endLaunch { main with st := st } st main.rindex
        | none, none => s
        | none, some h =>
          let id := s.nextId
          let e := { s.makeLaunch ctx.val ring.val img h srl true with seed := main.seed, strict := main.strict }
          let s := ({ s with launches := s.launches ++ [e] }).bumpId
          s.updCmd ctx.val ring.val (fun c => { c with launch := id
                                                       stage := if (s.ctx ctx.val).measuredCode (lCode img) h.size then 2 else 1 }))

/-- Does any exchange hold the context's partition (R317)? -/
def State.exchanging (s : State) (ctx : Nat) : Bool := (mapFind s.exch ctx).isSome

/-- What ends a launch that does not run: the command completes at once (R341). -/
def State.dropLaunch (s : State) (l : Launch) (st : Status) : State :=
  if l.isEntry then
    match (s.ring l.ctx l.ring).cur.bind (fun c => s.launch? c.aux) with
    | some main => s.endReplay main l st
    | none => s.releaseCores l
  else s.endLaunch { l with st := st } st 65535

/-- LAUNCH_START: the launch takes its cores, its parameters are copied, its groups may start (R32, R33, R341). A core whose
cache size changes discards its lines (R194). -/
def execLaunchStart (ctx : Fin 4097) (ring : Fin 8) (s : State) : Res :=
  launchCmd s ctx.val ring.val 2 (fun c l =>
    let x := s.ctx ctx.val
    if l.fallen || !l.replay.isEmpty || x.groves == 0 || s.exchanging ctx.val || (ctx.val == 4096 && x.quiesceBy != 0) then s
    else
      let fit := s.launchFit ctx.val (lCores l.cmd) l.wagn
      let all := s.launchCores ctx.val l.wagn
      let free := all.filter (fun n => (s.img ctx.val n).launch == 0)
      let n := if lCores l.cmd = 0 then all.length else lCores l.cmd
      if fit ≠ 0 then s.dropLaunch l fit
      else if free.length < n ∨ all.any (fun k => s.liveCtx k != some ctx.val) then s
      else
        match (if lPlen l.cmd = 0 then (s, Got.ok []) else s.agRead (cmdAg ctx.val c) .read (lParam l.cmd) (lPlen l.cmd)) with
        | (t, .wait) => s.agWait t (cmdAg ctx.val c)
        | (t, .err st) => (t.countCode ctx.val st).dropLaunch l st
        | (t, .ok ps) =>
          let cores := free.take n
          let t := t.agDrop (cmdAg ctx.val c)
          let t := (List.zip (List.range n) cores).foldl (fun (t : State) e =>
            { t.updImg ctx.val e.2 (fun i => { i with
                shared := lShared l.cmd, grpBytes := lGroupLs l.cmd, launch := l.id, nslots := occupancy l.cmd, groups := []
                nextIdx := e.1, stride := n, last := 0, served := 0, cacheKiB := lCacheKiB l.cmd
                xfers := [], mxq := [], sets := [], ls := cellsWrite i.ls 0 ps }) with
              caches := if (t.img ctx.val e.2).cacheKiB = lCacheKiB l.cmd then t.caches else mapErase t.caches e.2 }) t
          (t.updLaunch l.id (fun l => { l with cores := cores })).updCmd ctx.val ring.val (fun c => { c with stage := 3 }))

/-- LAUNCH_COMPLETE: every group has ended, the array, the checks and the frames are done (R151, R169, R307, R341). -/
def execLaunchComplete (ctx : Fin 4097) (ring : Fin 8) (s : State) : Res :=
  launchCmd s ctx.val ring.val 3 (fun c l =>
    if l.fallen || decide (l.ended < l.groups) || s.launchWork l || s.launchReqs l then s
    else if l.isEntry then
      ((s.releaseCores l).count (dkey 0x4060 0x04)).updLaunch c.aux (fun m => { m with
          rindex := m.rindex + 1, flags := m.flags ++ l.flags, cnt := List.zipWith (· + ·) m.cnt l.cnt })
        |>.updCmd ctx.val ring.val (fun c => { c with launch := c.aux, stage := 2 })
    else s.endLaunch l l.status 65535)

/-- LAUNCH_TEARDOWN (R49, R348): what the launch left is discarded, and once its requests are answered its cores are released and
its records posted. -/
def execLaunchTeardown (ctx : Fin 4097) (ring : Fin 8) (s : State) : Res :=
  if !s.running then .next s
  else match (s.ring ctx.val ring.val).cur with
  | none => .next s
  | some c =>
    match s.launch? c.launch with
    | none => .next s
    | some l =>
      if cOpc c.img ≠ 0x10 ∨ !l.fallen then .next s
      else
        let s := s.quenchLaunch l l.st
        if s.launchReqs l then .next (s.updCmd ctx.val ring.val (fun c => { c with tearing := true }))
        else .next (s.dropLaunch l l.st)

/-- Is every group of a launch halted (R60)? -/
def State.allHalted (s : State) (l : Launch) : Bool :=
  let gs := l.cores.flatMap (fun n => ((s.img l.ctx n).groups.filter (fun e => e.2.launch == l.id)).map Prod.snd)
  !gs.isEmpty && gs.all (fun g => g.halt.halted)

/-- KERNEL_DEADLINE_EXPIRY (R346, R347): the deadline, from the start of the first group, pauses not counted; it is paused while every
group of the launch is halted (R60). -/
def execKernelDeadlineExpiry (ctx : Fin 4097) (ring : Fin 8) (s : State) : Res :=
  launchCmd s ctx.val ring.val 3 (fun _ l =>
    if l.fallen || !((l.begun.map (fun t => s.past t (1000 * ms * l.deadline))).getD false) || s.allHalted l then s
    else s.failLaunch l.id Code.kernelDeadline 0 0 l.code)

end Sys2Proof.Machine
end

