-- ==== Sys2Proof/Machine/Yew.lean ====
section
/-!
DEFINITION. Machine/Yew.lean: the Yew recorder (R442, R455 to R460) and the alarm queue's records (R444, R445).
-/
namespace Sys2Proof.Machine

/-- Slots of the recorder, and of one 64 KiB sector. -/
def yewSlots : Nat := 262144
def yewSector : Nat := 1024

/-- A record in a slot (Table 17.2), its CRC over bytes 0 to 59. -/
def yewBits (y : Yew) (slot gen : Nat) : Nat :=
  let v := y.opTime % 2 ^ 32 * 2 ^ 448 + y.cycles % 2 ^ 32 * 2 ^ 416 + slot % 2 ^ 24 * 2 ^ 392 + y.kind * 2 ^ 384 + y.cls * 2 ^ 376 +
    y.unit % 2 ^ 16 * 2 ^ 360 + y.event * 2 ^ 344 + y.st.toNat * 2 ^ 328 + gen % 2 ^ 16 * 2 ^ 312 + (if y.alarmed then 2 ^ 311 else 0) +
    (if y.coalesced then 2 ^ 310 else 0) + y.detail0 % 2 ^ 48 * 2 ^ 256 + y.low % 2 ^ 256
  v + (crc32c (leBytes 60 v)).toNat * 2 ^ 480

def State.updRep (s : State) (f : Rep → Rep) : State := { s with rep := f s.rep }
def State.yewPut (s : State) (slot : Nat) (y : Yew) : State :=
  s.updRep (fun r => { r with log := mapSet 0 r.log slot (yewBits y slot r.gen) })
/-- A record of the recorder's own (unit class 16). -/
def State.yewOwn (s : State) (kind event : Nat) (ds : List Nat) : Yew :=
  { kind := kind, cls := 16, unit := 0, event := event, low := details ds, opTime := s.opTime, cycles := s.powerCycles }

/-- The recorder is full: its last slot, where it is erased, takes the KIND 5 record (R456). -/
def State.yewFull (s : State) : State :=
  let s := if mapGet 0 s.rep.log 262143 = 0 ∧ !(s.rep.torn.contains 262143) then
      s.yewPut 262143 (s.yewOwn 5 Ev.recorderFull [s.dv (dkey 0x7020 0x07)])
    else s
  (s.updRep (fun r => { r with full := true })).raise Ev.recorderFull 0

/-- YEW_PROGRAM (R455, R456): the oldest staged record takes the next slot, unless programming is fenced or its sector waits for its
erase. -/
def execYewProgram (s : State) : Res :=
  let n := s.rep.nextSlot
  match s.rep.staging with
  | [] => .next s
  | y :: rest =>
    if !s.rep.started || s.fencedFlash || s.rep.full || decide (n > 262142) || (s.rep.erasing != 0 && decide (s.rep.erasing ≤ n / yewSector + 1)) ||
        s.dev.phase == .held || s.dev.phase == .noRefclk then .next s
    else
      let s := (s.updRep (fun r => { r with staging := rest, nextSlot := n + 1 })).yewPut n y
      .next (if n = 262142 then s.yewFull else s)

/-- Erases a sector. -/
def State.yewErase (s : State) (sector : Nat) : State :=
  s.updRep (fun r => { r with
    log := r.log.filter (fun e => decide (e.1 / yewSector ≠ sector))
    torn := r.torn.filter (fun k => decide (k / yewSector ≠ sector)) })

/-- A clear by an OP 2 token (R459): who asked is the class and session. -/
def State.yewClearNow (s : State) (cls session : Nat) : State :=
  let y := s.yewOwn 4 0 [s.rep.nextSlot, s.dv (dkey 0x7020 0x06), cls + session * 2 ^ 32]
  let s := (s.yewErase 0).updRep (fun r => { r with gen := (r.gen + 1) % 65536, nextSlot := 1, full := false, erasing := 2 })
  ((s.yewPut 0 y).setDv (dkey 0x7020 0x06) 0).setDv (dkey 0x7020 0x07) 0

/-- YEW_SECTOR_ERASE (R459, R460): the next sector is erased; after the first one of a start-up clear slot 0 takes its KIND 4 record. -/
def execYewSectorErase (s : State) : Res :=
  if s.rep.erasing = 0 ∨ s.fencedFlash = true ∨ s.dev.phase = .held ∨ s.dev.phase = .noRefclk then .next s
  else
    let k := s.rep.erasing - 1
    let s := s.yewErase k
    let s := if k = 0 then s.yewPut 0 (s.yewOwn 4 0 []) else s
    .next (s.updRep (fun r => { r with erasing := if k ≥ 255 then 0 else k + 2 }))

/-- Valid records of the governing generation, by slot. -/
def Rep.logged (r : Rep) (gen : Nat) : List Nat :=
  (r.log.filter (fun e => decide (bits e.2 312 16 = gen) && !(r.torn.contains e.1))).map Prod.fst
/-- Is a slot erased? -/
def Rep.blank (r : Rep) (slot : Nat) : Bool := mapGet 0 r.log slot == 0 && !(r.torn.contains slot)

/-- The scan at start (R460). -/
def State.yewScan (s : State) : State :=
  let head := mapGet 0 s.rep.log 0
  let s := s.updRep (fun r => { r with staging := [], started := true, full := false, erasing := 0 })
  if head = 0 ∨ s.rep.torn.contains 0 ∨ bits head 384 8 ≠ 4 then
    s.updRep (fun r => { r with gen := 0, nextSlot := 1, erasing := 1 })
  else
    let gen := bits head 312 16
    let good := s.rep.logged gen
    let h := good.foldl max 0
    let used := (s.rep.log.map Prod.fst ++ s.rep.torn)
    let clean := !(used.any (fun k => decide (h < k ∧ k / yewSector = h / yewSector)))
    let resume := if clean then h + 1 else (h / yewSector + 1) * yewSector
    let dirty := (used.filter (fun k => decide (k ≥ (resume + yewSector - 1) / yewSector * yewSector))).foldl
      (fun (m : Option Nat) k => match m with | none => some (k / yewSector) | some x => some (min x (k / yewSector))) none
    let torn := (resume - 1) - (good.filter (fun k => decide (0 < k ∧ k < resume))).length
    let s := s.updRep (fun r => { r with gen := gen, nextSlot := resume, erasing := match dirty with | some k => k + 1 | none => 0 })
    let s := s.count (dkey 0x7020 0x08) torn
    if resume > 262142 then s.yewFull else s

/-! Alarm records. -/

/-- An alarm record as 32 bytes (Table 17.4). -/
def alarmBits (a : Alarm) : Nat :=
  a.opTime % 2 ^ 32 * 2 ^ 224 + a.cycles % 2 ^ 32 * 2 ^ 192 + a.aseq % 2 ^ 32 * 2 ^ 160 + a.cls * 2 ^ 152 + a.unit % 2 ^ 16 * 2 ^ 136 +
    a.event * 2 ^ 120 + a.st.toNat * 2 ^ 104 + a.prio * 2 ^ 101 + a.count * 2 ^ 64 + a.yew % 2 ^ 24 * 2 ^ 40 + a.detail % 2 ^ 40

/-- ALARM_HOLD_RELEASE (R445): the held record of a key is queued 100 ms after its last queued record. -/
def execAlarmHoldRelease (key : Nat) (s : State) : Res :=
  match takeFirst (fun a : Alarm => a.cls * 65536 + a.event == key) s.rep.held with
  | none => .next s
  | some (a, rest) =>
    if s.now + 1 < mapGet 0 s.rep.lastQueued key + 100 * ms then .next s else .next ((s.updRep (fun r => { r with held := rest })).enqueueAlarm a)

/-- A record before another at dispatch: lower priority number, then lower ASEQ (R447). -/
def alarmInsert (a : Alarm) : List Alarm → List Alarm
  | [] => [a]
  | b :: r => if a.prio < b.prio ∨ (a.prio = b.prio ∧ a.aseq < b.aseq) then a :: b :: r else b :: alarmInsert a r
/-- The records that leave the queue next, at most 16, and the queue without them. -/
def alarmTake (q : List Alarm) : List Alarm × List Alarm :=
  let out := (q.foldr alarmInsert []).take 16
  (out, q.filter (fun a => !(out.any (fun b => b.aseq == a.aseq))))
/-- A record at its place by ASEQ in the history, of which the 64 newest stay (R448). -/
def historyAdd (h : List Alarm) (a : Alarm) : List Alarm :=
  let l := h.filter (fun b => decide (b.aseq < a.aseq)) ++ [a] ++ h.filter (fun b => decide (a.aseq < b.aseq))
  l.drop (l.length - 64)

end Sys2Proof.Machine
end

