-- ==== Sys2Proof/Machine/Fence.lean ====
section
/-!
DEFINITION. Machine/Fence.lean: fencing a core (R452, R453) and self-tests (R449).
-/
namespace Sys2Proof.Machine

/-- The operation running on a core now, if any. -/
def State.runningOp (s : State) (core : Nat) : Option MxOp :=
  (s.heldCtx core).bind (fun c => (s.img c core).mxq.find? (fun o => o.started))

/-- Is a request one that a ring command has made through a core (R340)? -/
def Req.ofBulk (r : Req) : Bool := r.owner == 0 && r.xfer != 0
/-- What a fenced or reset core loses at once: its images, its caches, requests not yet made; responses still owed to it are discarded and
its caps released (R209, R352, R452). The requests of a ring command that are not out yet go on through another core. -/
def State.dropCore (s : State) (n : Nat) : State :=
  let other := (s.servedCores.filter (fun k => k != n)).head?
  let mine := fun (r : Req) => r.src == .core n && !(r.ofBulk)
  { s with images := s.images.filter (fun e => decide (e.1 % 1024 ≠ n))
           caches := mapErase s.caches n
           tlbs := mapErase s.tlbs n
           rels := s.rels.filter (fun r => decide (r.core ≠ n))
           reqs := (s.reqs.filter (fun r => !(mine r && (r.ph == .waiting || r.ph == .slot || r.ph == .done)))).map (fun r =>
             if mine r then { r with owner := 0, xfer := 0, noslot := true, alloc := false }
             else if r.src = .core n ∧ (r.ph = .waiting ∨ r.ph = .slot) then { r with src := (other.map Src.core).getD .firmware, ph := .waiting, adm := r.adm }
             else r) }

/-- After a fence a launch that waits for cores and no longer fits its partition completes at once (R341). -/
def State.recheckLaunches (s : State) : State :=
  s.launches.foldl (fun (t : State) l =>
    match (t.ring l.ctx l.ring).cur with
    | none => t
    | some c =>
      let st := t.launchFit l.ctx (lCores l.cmd) l.wagn
      if c.stage = 2 ∧ c.launch = l.id ∧ l.replay = [] ∧ l.fallen = false ∧ st ≠ 0 then t.dropLaunch l st else t) s

/-- A physical core is fenced with a cause (R452); one fenced already keeps its first cause. -/
def State.fenceCore (s : State) (p cause : Nat) : State :=
  if s.dev.fenced.contains p then s
  else
    let n := s.logOf p
    let hit := s.launches.filter (fun l => l.cores.contains n)
    let s := match (if n = 0x3FF then none else s.runningOp n) with
      | some op => s.raiseArray n op Code.coreFenced none
      | none => s
    let s := hit.foldl (fun (t : State) l => t.failLaunch l.id Code.coreFenced n 0 l.code) s
    let s := if n = 0x3FF then s
      else ((s.images.filter (fun e => decide (e.1 % 1024 = n))).foldl (fun (t : State) e =>
        t.xfersEnd (e.1 / 1024) n (fun _ => true) Code.coreFenced) s).dropCore n
    let s := { s with dev := { s.dev with fenced := s.dev.fenced ++ [p] }, pwr := { s.pwr with domOff := insNat p s.pwr.domOff } }
    let s := s.raiseAs Ev.coreFenced 0 p (if hit.isEmpty then 0 else Code.coreFenced) 0 (details [cause, 0, 0, n])
    let m := dkey 0x7001 0x01
    let c := dkey 0x7001 0x02
    ((s.persist m (s.dv m ||| 2 ^ p) true).persist c (setBits (s.dv c) (8 * p) 8 cause) true).recheckLaunches

/-- CORE_FENCE (R453). -/
def execCoreFence (ctx : Fin 4097) (ring : Fin 8) (s : State) : Res :=
  ringCmdChecked s ctx.val ring.val 0x64 (fun c => [(!(s.served (cArg0 c.img % 1024)), Code.commandInvalid, 1)]) (fun c =>
    match s.physOf (cArg0 c.img % 1024) with
    | some p => (s.fenceCore p 2).okCmd 4096 ring.val c p
    | none => s)

/-! Self-tests. -/

def State.updKat (s : State) (p : Nat) (f : Kat → Kat) : State := s.updRep (fun r => { r with kats := mapUpd {} r.kats p f })

/-- A self-test has completed on a physical core: failing column groups. A mismatch is reported and rerun; a second one within
KAT_WINDOW fences (R449). -/
def State.selftest (s : State) (p vector failing : Nat) : State :=
  let k := mapGet {} s.rep.kats p
  let again := k.rerun == some vector
  let s := (s.updKat p (fun k => { k with last := s.now, rerun := if again then none else k.rerun })).count (dkey 0x7000 0x09)
  if failing = 0 then s
  else
    let n := s.logOf p
    let low := s.fullLow 0 0 0 0 n p (s.hottest (80 * (p / 80)) 80) (s.rail (p / 80)).mv 0 failing
    let s := ((s.raiseAs Ev.selftestMismatch 1 p 0 0 low).drawn).count (dkey 0x7000 0x04)
    let key := dkey 0x7001 0x03
    let s := s.persist key (setBits (s.dv key) (16 * p) 16 (bits (s.dv key) (16 * p) 16 ||| failing))
    let recent := match k.mismatch with
      | some t => decide (s.now < t + s.dv (dkey 0x7000 0x05) * hour)
      | none => false
    let s := s.updKat p (fun k => { k with mismatch := some s.now })
    if again || recent then s.fenceCore p 1 else s.updKat p (fun k => { k with rerun := some vector })

/-- Is the array of a physical core free of a running operation, and its core not fenced? -/
def State.arrayIdle (s : State) (p : Nat) : Bool :=
  !(s.dev.fenced.contains p) && (s.logOf p == 0x3FF || (s.runningOp (s.logOf p)).isNone)

/-- SELFTEST_RUN: as Pewter filler, which keeps the array busy for a free number of cycles (R422, R449). -/
def execSelftestRun (core : Fin 640) (vector : Fin 8) (failing : BitVec 16) (s : State) : Res :=
  if s.running && s.arrayIdle core.val then
    .next (((s.count (dkey 0x2020 0x05)).selftest core.val vector.val failing.toNat).countFree (dkey 0x4030 0x04))
  else .next s
/-- SELFTEST_FORCED: before the next operation of an array whose test is due (R449). -/
def execSelftestForced (core : Fin 640) (vector : Fin 8) (failing : BitVec 16) (s : State) : Res :=
  if s.running && s.arrayIdle core.val && s.katDue core.val then
    .next ((s.selftest core.val vector.val failing.toNat).countFree (dkey 0x4030 0x04))
  else .next s

end Sys2Proof.Machine
end

