-- ==== Sys2Proof/Machine/Sram.lean ====
section
/-!
DEFINITION. Machine/Sram.lean: LD and ST with the outcome of the SEC-DED code over the words they read (R450, R490; log 80).
-/
namespace Sys2Proof.Machine

/-- An uncorrectable word in the register file or core memory of a physical core: counted and raised; a second one within KAT_WINDOW
fences the core, cause 4 (R450). The access has failed already. -/
def State.sramLost (s : State) (p : Nat) : State :=
  let k := mapGet {} s.rep.kats p
  let recent := match k.sram with
    | some t => decide (s.now < t + s.dv (dkey 0x7000 0x05) * hour)
    | none => false
  let n := s.logOf p
  let t := (s.count (dkey 0x7000 0x08)).raiseAs Ev.sramUncorrectable 0 p Code.uncorrectable 0 (details [0, 0, 0, n])
  let t := t.updKat p (fun k => { k with sram := some s.now })
  if recent then t.fenceCore p 4 else t

/-- An access of a group under its outcome. With no active lane it reads nothing. A lost word fails it: the group faults at the
access of its lowest lane. -/
def Iss.checked (i : Iss) (w : IWord) (ecc : Ecc) (body : Iss → State) : State :=
  if i.act = 0 then i.retire i.grp
  else
    let i := { i with s := i.s.sramFixed ecc.fixed }
    if ecc.lost then (i.fault Code.uncorrectable (lsAddr w i.grp (lowestLane i.act))).sramLost (i.s.physAny i.core)
    else body i

/-- LD (R490). -/
def execLd (g : GRef) (w : IWord) (ecc : Ecc) (s : State) : Res := issue s g w (ldLegal w) (fun i => i.checked w ecc (Iss.load w))

/-- ST (R490). -/
def execSt (g : GRef) (w : IWord) (ecc : Ecc) (s : State) : Res := issue s g w (stLegal w) (fun i => i.checked w ecc (Iss.store w))

end Sys2Proof.Machine
end

