-- ==== Sys2Proof/Machine/Debug.lean ====
section
/-!
DEFINITION. Machine/Debug.lean: halting, stepping and reading groups, breakpoints, debug tokens (R54 to R60, Tables 02.7 to 02.9).
-/
namespace Sys2Proof.Machine

/-! The target (Table 02.7). -/

def dbgCtx (v : Nat) : Nat := if bitAt v 48 then 4096 else bits v 36 12
def dbgCore (v : Nat) : Nat := bits v 16 10
def dbgSlot (v : Nat) : Nat := bits v 0 6
def dbgScope (v : Nat) : Nat := bits v 62 2
def State.dbgTarget (s : State) : Nat := s.dv (dkey 0x4020 0x01)
/-- The named group. -/
def State.dbgGroup (s : State) : Option Group := mapFind (s.img (dbgCtx s.dbgTarget) (dbgCore s.dbgTarget)).groups (dbgSlot s.dbgTarget)
/-- Core and slot of every group the target covers: the group, its core, or the launch that owns it (R55). Groups that start later are not
among them (log 97). -/
def State.dbgGroups (s : State) : List (Nat × Nat) :=
  let v := s.dbgTarget
  let c := dbgCtx v
  let n := dbgCore v
  match dbgScope v with
  | 0 => if s.dbgGroup.isSome then [(n, dbgSlot v)] else []
  | 1 => (s.img c n).groups.map (fun e => (n, e.1))
  | _ => match s.dbgGroup with
    | none => []
    | some g => (s.images.filter (fun e => decide (e.1 / 1024 = c))).flatMap (fun e =>
        (e.2.groups.filter (fun x => x.2.launch == g.launch)).map (fun x => (e.1 % 1024, x.1)))

/-- Authority over the target: the administrative context, or a tenant context whose token was written (R54). -/
def State.dbgAllowed (s : State) : Bool := dbgCtx s.dbgTarget == 4096 || s.dbg.auth.contains (dbgCtx s.dbgTarget)

/-- The DEBUG_ACTION record (Table 17.3): the physical core of the target, the breakpoint's address or 0, the action (1 halt, 2 resume,
3 step, 4 read, 5 write, 6 breakpoint, 7 token) with bit 63 when refused, the context, the requester. -/
def State.dbgNote (s : State) (c : Cls) (action addr : Nat) (st : Status) : State :=
  let x := dbgCtx s.dbgTarget
  s.raiseCore Ev.debugAction (s.physAny (dbgCore s.dbgTarget)) st addr (action + if st = 0 then 0 else 2 ^ 63)
    x (clsBit c + 2 ^ 32 * clsSession c)

/-- A debug action (R54): its authority, the debugged indication, its record; SCOPE 3 refuses it (Table 02.7). -/
def State.dbgAct (s : State) (c : Cls) (action : Nat) (body : State → State × Status) (addr : Nat := 0) : State × Status :=
  let v := s.dbgTarget
  let (t, st) :=
    if dbgScope v = 3 then (s, Code.illegal)
    else if s.dbgAllowed then
      let s := { s with dbg := { s.dbg with held := s.dbg.held || s.dbgGroup.isSome } }
      body (if dbgCtx v = 4096 then s else s.updCtx (dbgCtx v) (fun x => { x with debugged := true }))
    else (s, Code.debugDenied)
  (t.dbgNote c action addr st, st)

/-! Halting and resuming. -/

/-- A group is asked to halt. -/
def Group.askHalt (g : Group) : Group :=
  if g.halt.halted then { g with halt := { g.halt with frozen := false } }
  else { g with halt := { g.halt with req := true, frozen := false, cause := if g.halt.req && g.halt.cause == 3 then 3 else 1 } }
def State.haltAll (s : State) (c : Nat) (gs : List (Nat × Nat)) : State :=
  let s := gs.foldl (fun (t : State) e => t.updGroup c e.1 e.2 Group.askHalt) s
  (sortNat (gs.map Prod.fst)).foldl (fun (t : State) n => t.freezeSync c n) s
/-- The target runs on, and with it the groups its freeze mode held. -/
def State.resumeAll (s : State) (c : Nat) (gs : List (Nat × Nat)) : State :=
  let s := gs.foldl (fun (t : State) e => t.updGroup c e.1 e.2 (fun g => g.unhalt s.now)) s
  (sortNat (gs.map Prod.fst)).foldl (fun (t : State) n => t.freezeSync c n) s
/-- A new debug target: its freeze mode holds from now on (R56), and no action has found its group yet. -/
def State.dbgNewTarget (s : State) : State :=
  s.images.foldl (fun (t : State) e => t.freezeSync (e.1 / 1024) (e.1 % 1024))
    { s with dbg := { s.dbg with held := s.dbgGroup.isSome } }

/-- DBG_HALT: action 1. -/
def State.dbgHalt (s : State) (c : Cls) : State × Status :=
  s.dbgAct c 1 (fun t => (t.haltAll (dbgCtx t.dbgTarget) t.dbgGroups, 0))
/-- DBG_RESUME: action 2. -/
def State.dbgResume (s : State) (c : Cls) : State × Status :=
  s.dbgAct c 2 (fun t => (t.resumeAll (dbgCtx t.dbgTarget) t.dbgGroups, 0))

/-- GROUP_HALT (R55, R58): at its next issue boundary, after the response it waits for; a stepped group once the accesses of its
instruction are complete. -/
def execGroupHalt (g : GRef) (s : State) : Res :=
  let n := g.core.val
  let k := g.slot.val
  if !s.running then .next s
  else match s.groupAt n k with
  | none => .next s
  | some h =>
    if h.grp.halt.req && h.grp.wait == .none && !(h.grp.halt.mark != 0 && s.groupOut h.ctx n k h.grp h.grp.halt.mark) then
      .next (s.updGroup h.ctx n k (fun g => { g with halt := { halted := true, cause := g.halt.cause, since := s.now, frozen := g.halt.frozen } }))
    else .next s

/-! Stepping. -/

/-- The meanings of the instructions, by opcode (Table 02.5). -/
def opExec : List (BitVec 8 × (GRef → IWord → State → Res)) :=
  [(0x00, execNop), (0x01, execBra), (0x02, execBri), (0x03, execCall), (0x04, execRet), (0x05, execExit), (0x06, execYield),
   (0x07, execGsync), (0x08, execBkpt), (0x09, execSrd)] ++
  [(0x10, execIadd), (0x11, execIsub), (0x12, execImul), (0x13, execImla), (0x14, execImin), (0x15, execImax), (0x16, execAnd),
   (0x17, execOr), (0x18, execXor), (0x19, execShl), (0x1A, execShr), (0x1B, execSar), (0x1C, execBcnt), (0x1D, execLzc),
   (0x1E, execIcmp), (0x1F, execCsel)] ++
  [(0x20, execFadd), (0x21, execFmul), (0x22, execFma), (0x23, execFmin), (0x24, execFmax), (0x25, execFcmp), (0x26, execRcp),
   (0x27, execRsqrt), (0x28, execExp2), (0x29, execLog2)] ++
  [(0x30, execCvt), (0x31, execPfmaH), (0x32, execPfmaB), (0x33, execLxch), (0x34, execLvote), (0x35, execBsel)] ++
  [(0x40, fun g w => execLd g w {}), (0x41, fun g w => execSt g w {}), (0x50, execAtom), (0x51, execRed), (0x60, execFence),
   (0x61, execLdAcq), (0x62, execStRel),
   (0x63, execStoreFlag), (0x64, execLockAcq), (0x65, execLockRel)] ++
  [(0x70, execTmCopy), (0x71, execTmGather), (0x72, execTmScatter), (0x73, execTmFill), (0x74, execTmWait), (0x75, execTmPoll)] ++
  [(0x80, execMxaAsync), (0x81, execMxaWait), (0x82, execMxaPoll), (0x83, execMxaCmpr), (0x84, execRwnDrain)]

def stateOf (s : State) : Res → State
  | .next t => t
  | _ => s

/-- One instruction of a group as memory holds it (R35, R37, R58, R496). -/
def State.runOne (s : State) (ctx : Nat) (g : GRef) (pc : Nat) : State :=
  let illegal := stateOf s (issue s g {} (fun _ => false) (fun i => i.s))
  match s.fetchAt ctx pc with
  | none => illegal
  | some o =>
    match s.devRead o 16 with
    | (t, st, bs) =>
      if st ≠ 0 then
        (match mapFind (t.img ctx g.core.val).groups g.slot.val with
         | some x => t.groupFault ctx g.core.val g.slot.val x st pc pc
         | none => t)
      else
        let w := BitVec.ofNat 128 (leNat bs)
        match opExec.find? (fun e => e.1 == w.extractLsb' 0 8) with
        | some (_, f) => stateOf t (f g (wordFields w) t)
        | none => illegal

/-- DBG_STEP: action 3 (R58). A group that is not halted is refused with DEBUG_DENIED; one switched out does not step. -/
def State.dbgStep (s : State) (c : Cls) : State × Status :=
  s.dbgAct c 3 (fun t =>
    let v := t.dbgTarget
    let x := dbgCtx v
    let n := dbgCore v
    let k := dbgSlot v
    match t.dbgGroup with
    | none => (t, Code.debugDenied)
    | some g =>
      match g.halt.halted, g.run, (if h : n < 576 then some (⟨n, h⟩ : Fin 576) else none) with
      | true, some p, some core =>
        if t.liveCtx n ≠ some x then (t, Code.debugDenied)
        else
          let gr : GRef := { core := core, slot := ⟨k % 64, Nat.mod_lt _ (by decide)⟩ }
          let g := g.unhalt t.now
          ((t.setGroup x n k { g with halt := { skip := true, step := true, mark := t.nextId } }).runOne x gr p.pc, 0)
      | _, _, _ => (t, Code.debugDenied))

/-! DBG_STATUS. -/

/-- Value of 0x4020:03 (Table 02.9), of the named group. A target is gone when an action or the write of 0x4020:01 found its group and
it is there no more; one that was never there reads 0, as after reset (log 97). -/
def State.dbgStatus (s : State) : Nat :=
  match s.dbgGroup with
  | none => if s.dbg.held then 2 * 2 ^ 28 else 0
  | some g => if g.halt.halted then 2 ^ 28 + g.halt.cause % 16 * 2 ^ 24 else 0

/-! Registers, predicates, group local store (R57). -/

/-- Address of a 128 B unit of the target's group local store; none beyond its region. -/
def State.dbgLocal (s : State) (unit : Nat) : Option Nat :=
  let v := s.dbgTarget
  let (base, n) := spaceRange (s.img (dbgCtx v) (dbgCore v)) (dbgSlot v) .group
  if 128 * unit + 128 ≤ n then some (base + 128 * unit) else none

/-- The 128 bytes 0x4021:01 selects of the halted target group. What it selects beyond the group's registers or region is refused (log 97). -/
def State.dbgData (s : State) : Status × List Byte :=
  let q := s.dv (dkey 0x4021 0x01)
  let n := bits q 0 14
  match s.dbgGroup with
  | none => (Code.debugDenied, [])
  | some g =>
    if !g.halt.halted then (Code.debugDenied, [])
    else match bits q 30 2 with
    | 0 => if n ≤ g.nregs then (0, (List.range 32).flatMap (fun l => leBytes 4 (g.reg n l).toNat)) else (Code.entryRange, [])
    | 1 => (0, (List.range 32).flatMap (fun l => leBytes 1 ((List.range 8).foldl (fun a p => if (g.pred p).getLsbD l then a + 2 ^ p else a) 0)))
    | 2 => (match s.dbgLocal n with
      | some a => (0, cellsRead (s.img (dbgCtx s.dbgTarget) (dbgCore s.dbgTarget)).ls a 128)
      | none => (Code.entryRange, []))
    | _ => (Code.entryRange, [])

/-- The data a predicate read gives fills 128 bytes: 32 lanes of 1 B, then zeros. -/
def pad128 (bs : List Byte) : List Byte := bs ++ List.replicate (128 - bs.length) 0

/-- A read of 0x4021:02. -/
def State.dbgRead (s : State) (c : Cls) : State × Status × List Byte :=
  let (t, st) := s.dbgAct c 4 (fun t => (t, t.dbgData.1))
  (t, st, if st = 0 then pad128 s.dbgData.2 else [])
/-- A write of 0x4021:02. -/
def State.dbgWrite (s : State) (c : Cls) (data : List Byte) : State × Status :=
  s.dbgAct c 5 (fun t =>
    let v := t.dbgTarget
    let x := dbgCtx v
    let core := dbgCore v
    let q := t.dv (dkey 0x4021 0x01)
    let n := bits q 0 14
    let st := t.dbgData.1
    if st ≠ 0 then (t, st)
    else match bits q 30 2 with
    | 0 => (t.updGroup x core (dbgSlot v) (fun g =>
        (List.range 32).foldl (fun g l => g.setReg n l (BitVec.ofNat 32 (leNat ((data.drop (4 * l)).take 4)))) g), 0)
    | 1 => (t.updGroup x core (dbgSlot v) (fun g => (List.range 8).foldl (fun g p =>
        g.setPred p 0xFFFFFFFF (laneMask (fun l => ((data[l]?).getD 0).getLsbD p))) g), 0)
    | _ => (match t.dbgLocal n with
      | some a => (t.updImg x core (fun i => { i with ls := cellsWrite i.ls a (data.take 128) }), 0)
      | none => (t, Code.entryRange)))

/-! Breakpoints (Table 02.8). -/

/-- Does a data breakpoint's length suit its address? -/
def bpAligned (ctl addr : Nat) : Bool := addr % 2 ^ bits ctl 25 3 == 0

/-- Is a value refused for a sub-index of 0x4022 (Table 02.8 and its text), armed or not? -/
def State.bpBad (s : State) (sub v : Nat) : Bool :=
  let off := bitAt v 12 || !((s.ctx (dbgCtx s.dbgTarget)).has (bits v 0 13))
  if sub ≤ 8 then false
  else if sub ≤ 0x10 then bitAt v 30 || off
  else if sub ≤ 0x14 then !(bitAt v 30) || bits v 25 3 == 7 || !(bpAligned v (s.dv (dkey 0x4022 (sub + 4)))) || off
  else !(bpAligned (s.dv (dkey 0x4022 (sub - 4))) v)

/-- The entry that holds the address of the breakpoint a sub-index of 0x4022 belongs to. -/
def bpAddrSub (sub : Nat) : Nat := if 9 ≤ sub ∧ sub ≤ 0x10 then sub - 8 else if 0x11 ≤ sub ∧ sub ≤ 0x14 then sub + 4 else sub
/-- A breakpoint entry's value without its reserved bits (R5, Table 02.8). -/
def bpClean (sub v : Nat) : Nat := if 9 ≤ sub ∧ sub ≤ 0x14 then bits v 18 14 * 2 ^ 18 + bits v 0 13 else v

/-- A write of 0x4022:sub; the control word keeps the context named at the time of arming. -/
def State.bpWrite (s : State) (c : Cls) (sub v : Nat) : State × Status :=
  let addr := if bpAddrSub sub = sub then v else s.dv (dkey 0x4022 (bpAddrSub sub))
  s.dbgAct c 6 (addr := addr) (fun t =>
    if t.bpBad sub v then (t, Code.entryRange)
    else
      let t := t.setDv (dkey 0x4022 sub) (bpClean sub v)
      (if 9 ≤ sub ∧ sub ≤ 0x14 then
        { t with dbg := { t.dbg with bpCtx := mapSet 4096 t.dbg.bpCtx (sub - 9) (dbgCtx t.dbgTarget) } } else t, 0))

/-! Authority. -/

/-- A debug token for the target context (R54, Table 14.8a OP 1), and its record. How long its authority lasts the manual does not say: the
model never ends it, the destruction of the context included (log 97). -/
def State.dbgToken (s : State) (cls : Cls) (t : Token) : State × Status :=
  let c := dbgCtx s.dbgTarget
  let (u, st) := s.checkToken t 1 (some (if c = 4096 then 2 ^ 15 else c)) none none
  ((if st ≠ 0 then u else { u with dbg := { u.dbg with auth := insNat c u.dbg.auth } }).dbgNote cls 7 0 st, st)

/-! The seed of stochastic rounding. -/

/-- A write of SR_SEED (R121): the launch number starts again at 0. -/
def State.seedWrite (s : State) (ctx seed : Nat) : State := (s.setDv (ctxKey ctx 0x20) seed).setDv (ctxKey ctx 0x21) 0

end Sys2Proof.Machine
end

