-- ==== Sys2Proof/Machine/Link.lean ====
section
/-!
DEFINITION. Machine/Link.lean: an Askik port from its attempt to its link's end: flits (R257 to R261), INIT and key exchange (R272 to
R275), context keys (R375), failures and link-down (R276, R277), and flows that move (R280).
-/
namespace Sys2Proof.Machine

/-! Flits. -/

/-- Header of a flit (Table 10.3); `rest` holds the fields of a DATA flit below bit 97. -/
def flitHeader (ftype seq ack : Nat) (ackv nak : Bool) (epoch rest : Nat) : Nat :=
  ftype * 2 ^ 124 + seq % 4096 * 2 ^ 112 + ack % 4096 * 2 ^ 100 + (if ackv then 2 ^ 99 else 0) + (if nak then 2 ^ 98 else 0) +
    epoch % 4 * 2 ^ 96 + rest

/-- A flit with its CRC over bytes 0 to 251 (R257, R261). -/
def sealFlit (header payload tag : Nat) : BitVec 2048 :=
  let v := header + payload % 2 ^ 1792 * 2 ^ 128 + tag % 2 ^ 96 * 2 ^ 1920
  BitVec.ofNat 2048 (v + (crc32 (leBytes 252 v)).toNat * 2 ^ 2016)

def flitType (f : BitVec 2048) : Nat := fieldOf f 124 4
def flitCrcOk (f : BitVec 2048) : Bool := decide ((crc32 (leBytes 252 f.toNat)).toNat = fieldOf f 2016 32)
/-- ACK and ACKV a port sends: the last DATA flit it has accepted (R265). -/
def Port.ackField (x : Port) : Nat × Bool := ((x.rxX + 4095) % 4096, x.rxX != 0)

def State.emitFlit (s : State) (p : Nat) (f : BitVec 2048) : State := s.emit (.flit p f)

/-! PORT_CTRL and states. -/

def State.portCtrl (s : State) (p : Nat) : Nat := s.dv (dkey 0x5002 (p + 1))
/-- MODE of Table 10.8: 0 disabled, 1 Askik, 2 Ethernet. -/
def State.portMode (s : State) (p : Nat) : Nat := bits (s.portCtrl p) 0 2

/-- PORT_STATE (Table 10.10). -/
def Port.stateWord (x : Port) : Nat :=
  let i := (x.peerInit).getD 0
  x.st * 2 ^ 28 + (if initNode i then 2 ^ 27 else 0) + initDevice i * 2 ^ 21 + initDomain i * 2 ^ 9

/-- A port changes; a change of its PORT_STATE is traced (Table 17.3). -/
def State.movePort (s : State) (p : Nat) (f : Port → Port) : State :=
  let old := (s.port p).stateWord
  let t := s.updPort p f
  let new := (t.port p).stateWord
  if old = new then t else t.raise Ev.traceLinkState p

/-- A new attempt begins (R272): nothing of an earlier one is left. -/
def State.portAttempt (s : State) (p : Nat) : State :=
  if !s.running || s.portMode p == 0 then s
  else s.movePort p (fun x => { st := 1, ether := s.portMode p == 2, began := s.now, downAt := x.downAt })

/-- An attempt fails: counted by its alarm, and the port waits to retry (R272 to R274). -/
def State.attemptFail (s : State) (p : Nat) (st : Status := 0) : State :=
  (s.movePort p (fun x => { st := 5, ether := x.ether, began := s.now, downAt := x.downAt })).raise Ev.linkAttemptFailed p st

/-! INIT. -/

/-- Our INIT payload (Table 10.7), with the buffers of Table 10.5. -/
def State.initPayload (s : State) (p nonce : Nat) : Nat :=
  nonce % 2 ^ 32 + 1 * 2 ^ 32 + p * 2 ^ 41 + s.dev.deviceId * 2 ^ 46 + s.dev.domainId * 2 ^ 52 +
    16384 * 2 ^ 64 + 16384 * 2 ^ 80 + 2048 * 2 ^ 96 + 256 * 2 ^ 112
/-- Slots of our receive buffers and of the partner's, by channel (Tables 10.5, 10.7). -/
def bufSlots (vc : Nat) : Nat := if vc = 2 then 2048 else if vc = 3 then 256 else 16384
def initCredit (v vc : Nat) : Nat := bits v (64 + 16 * vc) 16

/-- Our INIT goes out; its ACKV says that the partner's INIT has come (Table 10.3). -/
def State.sendInit (s : State) (p : Nat) : State :=
  let x := s.port p
  (s.updPort p (fun x => { x with sentAt := s.now })).emitFlit p (sealFlit (flitHeader 1 0 0 x.peerInit.isSome false 0 0) x.ourInit 0)

/-- Flit lock during an attempt: the INIT exchange begins (Table 10.6). -/
def State.beginInit (s : State) (p : Nat) : State :=
  let nonce := s.freeVal (2 ^ 32)
  ((s.drawn).movePort p (fun x => { x with st := 2, ourInit := s.initPayload p nonce })).sendInit p

/-- The four reasons of R273 to refuse a partner. -/
def State.initBad (s : State) (p v : Nat) : Bool :=
  let c := s.portCtrl p
  bits v 32 8 != 1 || (!(initNode v) &&
    (initDomain v != s.dev.domainId || initDevice v == s.dev.deviceId || (bitAt c 14 && initDevice v != bits c 8 6)))

/-! Key exchange. -/

/-- Is this end side L: against a tray, or with the lower device number (R274)? -/
def State.sideL (s : State) (p : Nat) : Bool :=
  let v := ((s.port p).peerInit).getD 0
  initNode v || decide (s.dev.deviceId < initDevice v)

/-- Fragments of a message: type, index, count, up to 200 B (R274). -/
def keyxFrags (typ : Nat) (msg : List Byte) : List (BitVec 2048) :=
  let n := max 1 (ceilDiv msg.length 200)
  (List.range n).map (fun k =>
    let d := (msg.drop (200 * k)).take 200
    sealFlit (flitHeader 2 0 0 false false 0 0) (leNat ([BitVec.ofNat 8 typ, BitVec.ofNat 8 k, BitVec.ofNat 8 n] ++ leBytes 2 d.length ++ d)) 0)
def State.sendKeyx (s : State) (p typ : Nat) (msg : List Byte) : State :=
  (keyxFrags typ msg).foldl (fun t f => t.emitFlit p f) (s.updPort p (fun x => { x with sentAt := s.now }))

/-- A fresh HELLO: an ephemeral key, named by a number, and 32 random bytes (R274). -/
def State.newHello (s : State) : State × Nat × List Byte :=
  let r := leBytes 32 (s.freeVal (2 ^ 256))
  (s.drawn.bumpId, s.nextId, leBytes 97 (Config.pubKey s.nextId).toNat ++ r)
/-- The chain a CERT carries: the entry's 4,096 bytes. -/
def State.idChain (s : State) : List Byte := leBytes 4096 (s.dv (dkey 0x6000 0x03))

/-- In the order of sides L and H. -/
def inOrder (l : Bool) (a b : List Byte) : List Byte := if l then a ++ b else b ++ a

/-- T of R274. -/
def State.linkT (s : State) (p : Nat) : BitVec 384 :=
  let x := s.port p
  let l := s.sideL p
  Config.sha384 (inOrder l (leBytes 224 x.ourInit) (leBytes 224 (x.peerInit.getD 0)) ++ inOrder l x.hello x.peerHello ++
    inOrder l s.idChain x.chain)

/-- A FINISH: the signature over T, big-endian (R274). -/
def finishBytes (t : BitVec 384) : List Byte := beBytes 96 (Config.ecdsaSign t).toNat

/-- The two keys of a link from a salt: transmit and receive, 36 B each; none for a malformed public key (R274). -/
def linkKeys (l : Bool) (eph : Nat) (peerHello : List Byte) (salt : BitVec 384) : Option (BitVec 288 × BitVec 288) :=
  (Config.ecdh eph (BitVec.ofNat 776 (leNat (peerHello.take 97)))).map (fun z =>
    let k := fun (name : String) => BitVec.ofNat 288 (leNat (Config.hkdf (leBytes 48 salt.toNat) (beBytes 48 z.toNat) (label name) 36))
    if l then (k "askik-LH", k "askik-HL") else (k "askik-HL", k "askik-LH"))

/-- Both INITs have been seen: the key exchange begins with HELLO, unless the identity is invalid (R367). -/
def State.beginKeyx (s : State) (p : Nat) : State :=
  if s.dv (dkey 0x6000 0x01) ≠ 0 then s.attemptFail p Code.identityUnavailable
  else
    let (t, eph, h) := s.newHello
    (t.movePort p (fun x => { x with st := 3, eph := eph, hello := h })).sendKeyx p 1 h

/-- A message of the key exchange, once all of its fragments are here. -/
def Port.message (x : Port) (typ : Nat) : Option (List Byte) :=
  let fs := x.frags.filter (fun f => f.1 == typ)
  match fs.head? with
  | none => none
  | some (_, _, n, _) =>
    let parts := (List.range n).map (fun k => fs.find? (fun f => f.2.1 == k && f.2.2.1 == n))
    if parts.all Option.isSome then some (parts.flatMap (fun f => match f with | some (_, _, _, d) => d | none => [])) else none
def Port.dropMessage (x : Port) (typ : Nat) : Port := { x with frags := x.frags.filter (fun f => f.1 != typ) }

/-! Context keys. -/

/-- 36 B key and salt of a context for one direction of a link at an epoch (R375). -/
def State.ctxKey36 (s : State) (p ctx epoch : Nat) (tx : Bool) : Option (BitVec 288) :=
  let x := s.port p
  match mapFind x.salts epoch, (s.ctx ctx).secret with
  | some salt, some sec =>
    some (BitVec.ofNat 288 (leNat (Config.hkdf (leBytes 48 salt.toNat) (leBytes 32 sec.toNat)
      (label "askik-ctx" ++ beBytes 2 ctx ++ label (if s.sideL p == tx then "LH" else "HL")) 36)))
  | _, _ => none
/-- The check value of a context's offer (R375). -/
def State.ctxCheck (s : State) (p ctx : Nat) : Option (BitVec 128) :=
  let x := s.port p
  match mapFind x.salts x.txEp, (s.ctx ctx).secret with
  | some salt, some sec =>
    some (BitVec.ofNat 128 (leNat (Config.hkdf (leBytes 48 salt.toNat) (leBytes 32 sec.toNat) (label "askik-chk" ++ beBytes 2 ctx) 16)))
  | _, _ => none

/-- A management packet (the model's layout): message type, slots, byte length, then the bytes (log 40). -/
def mgmtPkt (typ : Nat) (msg : List Byte) : TxPkt :=
  let d := slotsOf msg
  { vc := 3, slots := (typ * 2 ^ 120 + (1 + d.length) * 2 ^ 112 + msg.length * 2 ^ 96) :: d }
def mgmtType (slot : Nat) : Nat := bits slot 120 8
/-- The bytes of a received management packet. -/
def mgmtBytes (slots : List Nat) : List Byte :=
  match slots with
  | [] => []
  | h :: d => (d.flatMap (leBytes 16)).take (bits h 96 16)

def State.queuePkt (s : State) (p : Nat) (k : TxPkt) : State := s.updPort p (fun x => { x with txq := x.txq ++ [k] })

/-- A context's secret and the partner's offer are compared: equal offers install the key (R375). -/
def State.matchOffer (s : State) (p ctx : Nat) : State :=
  match mapFind (s.port p).offers ctx, s.ctxCheck p ctx with
  | some v, some own =>
    let s := s.updPort p (fun x => { x with offers := mapErase x.offers ctx })
    if v = own then s.updPort p (fun x => { x with ctxKeys := insNat ctx x.ctxKeys }) else s.count (dkey 0x6004 0x03)
  | _, _ => s
/-- This end's offer of a context on one link. -/
def State.offerKey (s : State) (p ctx : Nat) : State :=
  match s.ctxCheck p ctx with
  | some v => ((s.queuePkt p (mgmtPkt 4 (leBytes 2 ctx ++ leBytes 16 v.toNat)))).matchOffer p ctx
  | none => s
/-- Contexts that hold a secret. -/
def State.secretCtxs (s : State) : List Nat := (s.ctxs.filter (fun e => e.2.secret.isSome && decide (e.1 < 4096))).map Prod.fst
/-- A new secret is offered on every active link (R375). -/
def State.offerAll (s : State) (ctx : Nat) : State :=
  ((List.range 18).filter (fun p => (s.port p).active)).foldl (fun t p => t.offerKey p ctx) s

/-- The partner's FINISH holds: the link is active, X = 0, credits as advertised (Table 10.6). -/
def State.activate (s : State) (p : Nat) (salt : BitVec 384) (tx rx : BitVec 288) : State :=
  let s := s.movePort p (fun x => { x with
    st := 4, eph := 0, salts := [(0, salt)], txKeys := [(0, tx)], rxKeys := [(0, rx)], rekeyed := s.now, lastRx := s.now, ackAt := s.now
    credits := (List.range 4).map (fun v => (v, initCredit (x.peerInit.getD 0) v)) })
  s.secretCtxs.foldl (fun t c => t.offerKey p c) s

/-! Link down. -/

/-- Why a link went down; R276's list, in its order from 1. -/
inductive DownCause where
  | replayLimit | silence | protocol | tagFails | init | rekey | signal | disabled
  deriving DecidableEq, Repr
def DownCause.code : DownCause → Nat
  | .replayLimit => 1 | .silence => 2 | .protocol => 3 | .tagFails => 4 | .init => 5 | .rekey => 6 | .signal => 7 | .disabled => 8

/-- A frame ends with a code (R305 to R307): reads it still asks for fail; the transfers, ring commands and launches whose writes it carried
keep the first failure for their end. -/
def State.finishFrame (s : State) (g : Nat) (st : Stream) (f : GFrame) (code : Status) : State :=
  let s := s.updStream g st.id (fun x => { x with frames := x.frames.filter (fun y => y.seq != f.seq) })
  if code = 0 then s
  else
    let s := s.count (dkey (0x5040 + g) 0x09)
    let s := f.reqs.foldl (fun (t : State) id => match t.req? id with
      | some r => if r.ph = .sent then t.failReq id code else t
      | none => t) s
    let hit := fun (x : Xfer) => if f.xfers.contains x.id ∧ x.st = 0 then { x with st := code } else x
    let s := { s with images := s.images.map (fun (e : Nat × Image) => (e.1, { e.2 with xfers := e.2.xfers.map hit })) }
    let s := f.xfers.foldl (fun (t : State) id => t.failCmd id code) s
    f.launches.foldl (fun (t : State) id => t.updLaunch id (fun l => if l.st = 0 then { l with st := code } else l)) s

/-- The set of active gateways has changed: a stream whose gateway is not the one R299 gives moves, and its uncompleted frames are sent
again through the new one; with no active gateway they fail (Table 11.9). -/
def State.moveStreams (s : State) : State :=
  (List.range 4).foldl (fun (t : State) g =>
    (t.gw g).streams.foldl (fun (t : State) st =>
      match t.activeGws[st.src % t.activeGws.length]? with
      | none =>
        st.frames.foldl (fun (u : State) f => u.finishFrame g st f Code.gatewayFailed) t
      | some h =>
        if h = g then t
        else
          let u := t.updGw g (fun x => { x with streams := x.streams.filter (fun y => y.id != st.id) })
          let u := u.updGw h (fun x => { x with streams := x.streams ++ [st] })
          st.frames.foldl (fun (v : State) f => v.larchEmits h f.sent) u) t) s

/-- Requests that await a response over a link complete with REMOTE_TIMEOUT; requests accepted from it are carried out and their responses
discarded; those not accepted are discarded (R277). -/
def State.dropTraffic (s : State) (p : Nat) : State :=
  let s := (s.reqs.filter (fun r => r.ph == .sent && !(gOff r.addr) && r.port == p)).foldl
    (fun (t : State) r => match r.src with
      | .core _ => t.failReq r.id Code.remoteTimeout
      | _ => (t.failReq r.id Code.remoteTimeout).afterDone r.id) s
  { s with reqs := (s.reqs.filter (fun r => !(r.src == .port p && r.ph == .waiting))).map (fun r =>
      if r.src = .port p then { r with expired := true } else r) }

/-- A link goes down (R276, R277): INIT instead of DATA, the traffic ends, every buffer, credit and key is erased; count, alarm, Yew
record. The port then waits to retry, or is disabled. -/
def State.linkDown (s : State) (p : Nat) (cause : DownCause) : State :=
  let x := s.port p
  let s := if x.ether then s else s.sendInit p
  let s := s.dropTraffic p
  let s := s.movePort p (fun x => { st := if s.portMode p = 0 then 0 else 5, ether := x.ether, began := s.now, downAt := s.now + 1 })
  let s := ((s.count (dkey (0x5100 + p) 0x07)).raise Ev.linkDown p 0 0 [cause.code])
  if x.ether then s.moveStreams else (s.readmit).sendAway

/-- A write of PORT_CTRL has taken effect: disabling a port or changing its mode ends its link, after a wait for outstanding responses
(R276); a port that was disabled starts an attempt (R272). -/
def State.portChanged (s : State) (p : Nat) : State :=
  let x := s.port p
  let m := s.portMode p
  if !s.running then s
  else if x.st = 0 then s.portAttempt p
  else if (m = 1 ∧ x.ether = false) ∨ (m = 2 ∧ x.ether = true) then s
  else if x.st = 4 then
    if !x.ether && s.reqs.any (fun r => r.ph == .sent && !(gOff r.addr) && r.port == p) then
      s.updPort p (fun x => { x with closing := some s.now })
    else (s.linkDown p .disabled).portAttempt p
  else if m = 0 then s.movePort p (fun x => { downAt := x.downAt })
  else s.portAttempt p

/-- A port that is closing goes down when its last response has come (R276). -/
def State.closeIfQuiet (s : State) (p : Nat) : State :=
  if (s.port p).closing.isSome && !(s.reqs.any (fun r => r.ph == .sent && !(gOff r.addr) && r.port == p)) then
    (s.linkDown p .disabled).portAttempt p
  else s

/-! Rekey. -/

/-- T of a rekey: the hash of the old T and the new HELLOs (R275). -/
def State.rekeyT (s : State) (p : Nat) (k : Rekey) : BitVec 384 :=
  let x := s.port p
  Config.sha384 (leBytes 48 ((mapFind x.salts x.txEp).getD 0).toNat ++ inOrder (s.sideL p) k.hello k.peer)

/-- A rekey begins with a HELLO on VC 3 (R275); one under way goes on. -/
def State.beginRekey (s : State) (p : Nat) : State :=
  if !(s.port p).active || (s.port p).rk.isSome || (s.port p).newEp.isSome then s
  else
    let (t, eph, h) := s.newHello
    (t.updPort p (fun x => { x with rk := some { began := s.now, eph := eph, hello := h }, rkDue := false })).queuePkt p (mgmtPkt 1 h)

end Sys2Proof.Machine
end

