-- ==== Sys2Proof/Machine/Paging.lean ====
section
/-!
DEFINITION. Machine/Paging.lean: MAP, ACCEPT, UNMAP and the scrub of granules (R184, R185, R188 to R190, R193, R362 to R365, R495).
-/
namespace Sys2Proof.Machine

/-! ARG0 of MAP and ACCEPT (Table 14.3). -/

def mCount (a : Nat) : Nat := bits a 32 32
def mSize (a : Nat) : Nat := bits a 0 2
def mReserved (a : Nat) : Nat := bits a 6 26
/-- The leaf an argument describes, with its target. -/
def mLeaf (a target : Nat) : Leaf := { size := mSize a, target := target, nc := bitAt a 5, x := bitAt a 4, w := bitAt a 3, r := bitAt a 2 }

/-! Ownership over ranges of granules. -/

/-- Every granule of a range gets an ownership entry. -/
def State.ownRange (s : State) (g n : Nat) (o : Owner) : State :=
  { s with owner := s.owner.filter (fun e => decide (e.1 < g)) ++ (if o = {} then [] else (List.range n).map (fun i => (g + i, o))) ++
      s.owner.filter (fun e => decide (g + n ≤ e.1)) }
/-- Are all granules of a range FREE, the near-tier reserve apart? -/
def State.allFree (s : State) (g n : Nat) : Bool :=
  s.dev.scrubbed && s.owner.all (fun e => decide (e.1 < g ∨ g + n ≤ e.1) || e.2.state == 0) &&
  s.dev.fw.all (fun r => decide (r.1 + r.2 ≤ g ∨ g + n ≤ r.1)) &&
  s.saves.all (fun r => r.2.2.all (fun k => decide (k < g ∨ g + n ≤ k))) &&
  (decide (g * granuleBytes ≥ 2 ^ 41) || decide ((g + n) * granuleBytes ≤ s.hbmUsable))
/-- Granules of a range in one state for one owner. -/
def State.ownedCount (s : State) (g n ctx st : Nat) : Nat :=
  (s.owner.filter (fun e => decide (g ≤ e.1 ∧ e.1 < g + n) && e.2.state == st && e.2.adm == (ctx == 4096) && e.2.ctx == ctx % 4096)).length
def ownerOf (ctx st perm : Nat) : Owner := { ctx := ctx % 4096, adm := ctx == 4096, state := st, perm := perm }

/-- The owned and proposed granules of a context go to SCRUBBING. -/
def State.scrubRange (s : State) (g n : Nat) : State := s.ownRange g n { state := 3 }

/-! MAP. -/

/-- Kind of an offset of any device, as Table 07.2 divides it: 0 unbacked or control, 1 HBM, 2 near tier, 3 window. -/
def staticKind (o : Nat) : Nat :=
  if o < 2 ^ 41 then 1 else if nearBase ≤ o ∧ o < nearBase + 0x300000000 then 2 else if winBase ≤ o ∧ o < winBase + 0x50000000 then 3 else 0
def nearDie (o : Nat) : Nat := (o - nearBase) / 0x60000000

/-- May a page of n bytes be mapped to a target (R183 to R185, R363)? Its FREE granules are asked for apart. -/
def State.targetOk (s : State) (a n : Nat) : Bool :=
  if gOff a then true
  else
    let o := gOffset a
    gDomain a == 0 && staticKind o != 0 && decide (o + n ≤ 2 ^ 45) && staticKind (o + n - 1) == staticKind o &&
    (staticKind o != 2 || nearDie o == nearDie (o + n - 1)) && (!(s.isLocal a) || (staticKind o != 3 && !(nearReserve (o / granuleBytes)) && !(nearReserve ((o + n - 1) / granuleBytes))))

/-- Does a range overlap a leaf, or the window region? -/
def hitsLeaf (ls : Map Leaf) (lo hi : Nat) : Bool := ls.any (fun e => decide (65536 * e.1 < hi ∧ lo < 65536 * e.1 + leafBytes e.2.size))
def hitsWindow (lo hi : Nat) : Bool := decide (lo < winVa + 0x50000000 ∧ winVa < hi)

/-- Is a context one whose pages a command may change? -/
def State.ctxLive (s : State) (c : Nat) : Bool := (s.ctx c).st == 1 || (s.ctx c).st == 2 || (s.ctx c).st == 3

/-- The reasons a MAP is refused (R363). -/
def State.mapReasons (s : State) (t a0 a1 a : Nat) : List (Bool × Status × Nat) :=
  let n := leafBytes (mSize a)
  let k := mCount a
  let three := mSize a == 3
  let span := n * k
  let big := decide (a0 + span > 2 ^ 48)
  [(!(s.ctxLive t), Code.contextState, 0),
   (three || k == 0 || mReserved a != 0, Code.mapInvalid, 5),
   (!three && (a0 % n != 0 || big || hitsLeaf (s.ctx t).leaves a0 (a0 + span) || hitsWindow a0 (a0 + span)), Code.mapInvalid, 1),
   (!three && !big && (a1 % n != 0 || !((List.range k).all (fun i => s.targetOk (a1 + n * i) n)) ||
      (s.isLocal a1 && !(s.allFree (gOffset a1 / granuleBytes) (span / granuleBytes)))), Code.mapInvalid, 2)]

/-- The global address that a MAP proposes: its offset and device are A1, bits [63:48] lie in ARG1 [15:0] (log 99). -/
def mTarget (img : Nat) : Nat := cA1 img + 2 ^ 48 * bits (cArg1 img) 0 16

/-- The pages are proposed: leaves with ACC = 0 in the tables, local granules PROPOSED; none where the tables find no room (R495). -/
def State.proposePages (s : State) (t a0 a1 a : Nat) : Option State :=
  let n := leafBytes (mSize a)
  let k := mCount a
  let new : Map Leaf := (List.range k).map (fun i => ((a0 + n * i) / 65536, mLeaf a (a1 + n * i)))
  let s := s.updCtx t (fun x => { x with
    leaves := x.leaves.filter (fun e => decide (65536 * e.1 < a0)) ++ new ++ x.leaves.filter (fun e => decide (a0 < 65536 * e.1)) })
  let s := if s.isLocal a1 then
      s.ownRange (gOffset a1 / granuleBytes) (n * k / granuleBytes) (ownerOf t 1 ((if bitAt a 2 then 2 else 0) + if bitAt a 3 then 1 else 0))
    else s
  new.foldl (fun (u : Option State) e => u.bind (fun u => u.putLeaf t (65536 * e.1) e.2)) (some s)

/-- A MAP or ACCEPT that is refused with MAP_INVALID counts in 0x6004:02. -/
def State.refuseMap (s : State) (ctx ring : Nat) (c : Cmd) (st : Status) (d : Nat) : State :=
  (if st = Code.mapInvalid then s.count (dkey 0x6004 0x02) else s).refuse ctx ring c st d 0

/-- MAP (R363). -/
def execMap (ctx : Fin 4097) (ring : Fin 8) (s : State) : Res :=
  ringCmd s ctx.val ring.val 0x30 (fun c =>
    let t := targetOf ctx.val c.img
    match firstReason (s.mapReasons t (cA0 c.img) (mTarget c.img) (cArg0 c.img) ++ s.baseReasons ctx.val ring.val c) with
    | some (st, d) => s.refuseMap ctx.val ring.val c st d
    | none => match s.proposePages t (cA0 c.img) (mTarget c.img) (cArg0 c.img) with
      | none => s.refuseMap ctx.val ring.val c Code.mapInvalid 0
      | some u => u.okCmd ctx.val ring.val c 0)

/-! ACCEPT. -/

/-- The reasons an ACCEPT is refused (R364). -/
def State.acceptReasons (s : State) (t a0 a1 a : Nat) : List (Bool × Status × Nat) :=
  let n := leafBytes (mSize a)
  let three := mSize a == 3
  let big := decide (a0 + n * mCount a > 2 ^ 48)
  let ls : List (Nat × Option Leaf) := if three || big then [] else
    (List.range (mCount a)).map (fun i => (i, mapFind (s.ctx t).leaves ((a0 + n * i) / 65536)))
  let has := fun (p : Nat → Leaf → Bool) => ls.any (fun e => match e.2 with | some l => p e.1 l | none => false)
  [(!(s.ctxLive t), Code.contextState, 0),
   (!three && (a0 % n != 0 || big || ls.any (fun e => e.2.isNone) || has (fun _ l => l.acc ||
      (s.isLocal l.target &&
        s.ownedCount (gOffset l.target / granuleBytes) (leafBytes l.size / granuleBytes) t 1 != leafBytes l.size / granuleBytes))),
    Code.mapInvalid, 1),
   (three || mCount a == 0 || has (fun _ l => { l with target := 0, acc := false } != mLeaf a 0), Code.mapInvalid, 5),
   (has (fun i l => if a1 = 0 then !(s.isLocal l.target) else l.target != a1 + n * i), Code.mapInvalid, 6)]

/-- The pages are accepted: ACC in every leaf, granules OWNED. -/
def State.acceptPages (s : State) (t a0 a : Nat) : State :=
  let n := leafBytes (mSize a)
  let hi := a0 + n * mCount a
  let hit := fun (e : Nat × Leaf) => decide (a0 ≤ 65536 * e.1 ∧ 65536 * e.1 < hi)
  let ls := (s.ctx t).leaves.filter hit
  let s := s.updCtx t (fun x => { x with leaves := x.leaves.map (fun e => if hit e then (e.1, { e.2 with acc := true }) else e) })
  let s := ls.foldl (fun (u : State) e => u.setEntry t (leafLevel e.2.size) (65536 * e.1) (leafWord { e.2 with acc := true })) s
  ls.foldl (fun (u : State) e =>
    if u.isLocal e.2.target then
      u.ownRange (gOffset e.2.target / granuleBytes) (n / granuleBytes) (ownerOf t 2 ((if e.2.r then 2 else 0) + if e.2.w then 1 else 0))
    else u) s

/-- ACCEPT (R364): always of the ring's own context (R339). -/
def execAccept (ctx : Fin 4097) (ring : Fin 8) (s : State) : Res :=
  ringCmd s ctx.val ring.val 0x32 (fun c =>
    let t := ctx.val
    match firstReason (s.acceptReasons t (cA0 c.img) (cArg1 c.img) (cArg0 c.img) ++ s.baseReasons ctx.val ring.val c) with
    | some (st, d) => s.refuseMap ctx.val ring.val c st d
    | none => (s.acceptPages t (cA0 c.img) (cArg0 c.img)).okCmd ctx.val ring.val c (mCount (cArg0 c.img)))

/-! UNMAP. -/

/-- Is a request of this device one that translated an address of a context's range, and still under way (R193)? -/
def Req.inRange (r : Req) (ctx lo hi : Nat) : Bool :=
  r.ctx == ctx && r.ph != .done && r.vas.any (fun va => decide (lo ≤ va ∧ va < hi)) &&
  (match r.src with | .port _ => false | .gateway _ => false | _ => true)

/-- Prefetched data of a range is discarded (R193): run-ahead blocks, stream-prefetched lines, and those on their way. -/
def State.dropPrefetch (s : State) (t lo hi : Nat) (gone : Map Leaf) : State :=
  let stale := fun (l : Line) => l.pref && l.ctx == t &&
    gone.any (fun e => decide (e.2.target ≤ l.addr ∧ l.addr < e.2.target + leafBytes e.2.size))
  { s with
    caches := (s.caches.map (fun e => (e.1, e.2.filter (fun l => !(stale l))))).filter (fun e => !e.2.isEmpty)
    reqs := s.reqs.map (fun r => if r.pref && r.ctx == t && decide (lo ≤ r.va ∧ r.va < hi) then { r with alloc := false } else r) }

/-- The leaves of a range are removed from the tables and from every translation cache (R193), their local granules scrubbed, their locks
ended (R365, R370). -/
def State.removeLeaves (s : State) (t lo hi : Nat) : State :=
  let x := s.ctx t
  let hit := fun (e : Nat × Leaf) => decide (lo ≤ 65536 * e.1 ∧ 65536 * e.1 < hi)
  let gone := x.leaves.filter hit
  let locked := fun (l : Nat × Nat) => gone.any (fun e => decide (65536 * e.1 < l.1 + l.2 ∧ l.1 < 65536 * e.1 + leafBytes e.2.size))
  let s := s.setCtx t { x with
    leaves := x.leaves.filter (fun e => !(hit e))
    locked := x.locked.filter (fun l => !(locked l))
    measured := x.measured.filter (fun m => !(x.locked.any (fun l => l.1 == m.1 && locked l))) }
  let s := gone.foldl (fun (u : State) e => u.setEntry t (leafLevel e.2.size) (65536 * e.1) 0) s
  let s := s.dropPrefetch t lo hi gone
  gone.foldl (fun (u : State) e =>
    if u.isLocal e.2.target then u.scrubRange (gOffset e.2.target / granuleBytes) (leafBytes e.2.size / granuleBytes) else u) s

/-- The reasons an UNMAP is refused (R365). -/
def State.unmapReasons (s : State) (t lo n : Nat) : List (Bool × Status × Nat) :=
  let hi := lo + n
  let ls := (s.ctx t).leaves.filter (fun e => decide (65536 * e.1 < hi ∧ lo < 65536 * e.1 + leafBytes e.2.size))
  [(!(s.ctxLive t), Code.contextState, 0),
   (lo % 65536 != 0 || ls.any (fun e => decide (65536 * e.1 < lo)), Code.mapInvalid, 1),
   (n == 0 || n % 65536 != 0 || ls.any (fun e => decide (hi < 65536 * e.1 + leafBytes e.2.size)), Code.mapInvalid, 5)]

/-- UNMAP (R193, R365): it completes when every access that translated through an old entry has. -/
def execUnmap (ctx : Fin 4097) (ring : Fin 8) (s : State) : Res :=
  ringRow s ctx.val ring.val 0x31 (fun c => s.unmapReasons (targetOf ctx.val c.img) (cA0 c.img) (cArg0 c.img)) (fun c =>
    let t := targetOf ctx.val c.img
    let lo := cA0 c.img
    let hi := lo + cArg0 c.img
    let u := if c.stage = 0 then s.removeLeaves t lo hi else s
    if u.reqs.any (fun r => r.inRange t lo hi) then u.updCmd ctx.val ring.val (fun c => { c with stage := 1 })
    else u.okCmd ctx.val ring.val c 0)

/-! The scrub. -/

/-- Does a request under way at this device address a granule? -/
def State.granuleBusy (s : State) (g : Nat) : Bool :=
  s.reqs.any (fun r => r.ph != .done && (r.walk.any (fun w => w / granuleBytes == g) ||
    (!r.win && s.isLocal r.addr && (blocksOf r).any (fun p => p / granuleBytes == g))))
/-- A granule reads as zero, its blocks with fresh codes (R216, R365). -/
def State.zeroGranule (s : State) (g : Nat) : State :=
  let lo := g * granuleBytes
  let hi := lo + granuleBytes
  { s with mem := s.mem.filter (fun e => decide (e.1 < lo ∨ hi ≤ e.1))
           side := s.side.filter (fun e => decide (64 * e.1 < lo ∨ hi ≤ 64 * e.1)) }
/-- A destroyed context is free once its last granule is scrubbed (R366): nothing of it is left. -/
def State.freeIfDone (s : State) (c : Nat) : State :=
  let x := s.ctx c
  if x.st = 4 ∧ x.groves = 0 ∧ x.leaves = [] ∧ x.tables = [] ∧ x.scrub = [] then
    { s with ctxs := mapErase s.ctxs c, rings := mapErase s.rings c, dict := s.dict.filter (fun e => decide (e.1 / 256 ≠ 0x9000 + c)) }
  else s

/-- GRANULE_SCRUB (R365): every block is written as zero, and only then the granule is FREE. -/
def execGranuleScrub (granule : Nat) (s : State) : Res :=
  if !s.running || (s.own granule).state != 3 || s.granuleBusy granule then .next s
  else
    let s := (s.zeroGranule granule).ownRange granule 1 {}
    let wait := s.ctxs.filter (fun e => e.2.scrub.contains granule)
    .next (wait.foldl (fun (t : State) e =>
      (t.updCtx e.1 (fun x => { x with scrub := x.scrub.filter (fun k => k != granule) })).freeIfDone e.1) s)

end Sys2Proof.Machine
end

