-- ==== Sys2Proof/Machine/Partition.lean ====
section
/-!
DEFINITION. Machine/Partition.lean: placements, save areas, partitions and their switches (R208, R356 to R361).
-/
namespace Sys2Proof.Machine

/-- Nobody is resident: the number of no context. -/
def nobody : Nat := 4097

/-! A placement word (Table 14.1). -/

def plGroves (v : Nat) : Nat := bits v 8 7
def plFirst (v : Nat) : Nat := bits v 0 7
def plSlice (v : Nat) : Nat := bits v 16 32
/-- Compute die of a logical grove. -/
def State.groveDie (s : State) (g : Nat) : Nat := s.dieOf (8 * g)

/-! Save areas (R208). -/

/-- The lowest FREE granules from g on, `need` of them. Structural on fuel. -/
def State.pickNear (s : State) : Nat → Nat → Nat → List Nat → Option (List Nat)
  | 0, _, need, acc => if need = 0 then some acc else none
  | f + 1, g, need, acc =>
    if need = 0 then some acc
    else if (s.own g).state = 0 then State.pickNear s f (g + 1) (need - 1) (acc ++ [g])
    else State.pickNear s f (g + 1) need acc
/-- A save area in the near tier of a grove's die, below the firmware reserve. -/
def State.pickSave (s : State) (grove : Nat) : Option (List Nat) :=
  s.pickNear 23552 ((nearBase + s.groveDie grove * 0x60000000) / granuleBytes) saveGranules []
/-- A context's save areas for a list of groves; none when a die's near tier cannot hold one. -/
def State.reserveSaves (ctx : Nat) : List Nat → State → Option State
  | [], s => some s
  | g :: r, s =>
    match s.pickSave g with
    | none => none
    | some gs => State.reserveSaves ctx r { s with saves := s.saves ++ [(ctx, g, gs)] }

/-! Placing. -/

/-- The partition a placement names, if it exists. -/
def State.samePart (s : State) (v : Nat) : Option Part :=
  (mapFind s.parts (plFirst v)).bind (fun p => if p.groves = plGroves v then some p else none)
def State.sliceOf (s : State) (v : Nat) : Nat := if plSlice v = 0 then s.dv (dkey 0x8000 0x04) else plSlice v

/-- Does a placement break a rule of R358, or name a slice outside its range (Table 14.1)? -/
def State.placeConflict (s : State) (v : Nat) : Bool :=
  let g := plFirst v
  let n := plGroves v
  n != 0 && (decide (g + n > s.groves) ||
    ((s.samePart v).isNone && (s.parts.any (fun p => decide (p.1 < g + n ∧ g < p.1 + p.2.groves)) ||
      decide (s.sliceOf v < 100) || decide (100000 < s.sliceOf v))))

/-- A context joins a partition, made if it does not exist; where nobody is resident it is at once. None: SAVE_AREA_FULL. -/
def State.placeCtx (s : State) (ctx v : Nat) : Option State :=
  let g := plFirst v
  let n := plGroves v
  if n = 0 then some s
  else match State.reserveSaves ctx ((List.range n).map (fun i => g + i)) s with
  | none => none
  | some t =>
    let p : Part := (s.samePart v).getD { groves := n, slice := s.sliceOf v, resident := nobody }
    let free := p.resident == nobody && p.toCtx.isNone
    let p := { p with
      members := insNat ctx p.members
      resident := if free then ctx else p.resident
      begun := if free then s.now else p.begun }
    some (({ t with parts := mapInsert (mapErase t.parts g) g p }).updCtx ctx (fun x => { x with grove0 := g, groves := n }))

/-! Switches. -/

/-- Commands that need cores (R357). -/
def needsCores (opc : Nat) : Bool := opc == 0x10 || opc == 0x20 || opc == 0x21 || opc == 0x22 || opc == 0x40 || opc == 0x51
/-- Has a context work: a launch, or a fetched command that needs cores (R359)? -/
def State.hasWork (s : State) (c : Nat) : Bool :=
  ((s.ctx c).st == 1 || (s.ctx c).st == 3) &&
  (s.launches.any (fun l => l.ctx == c) ||
   (s.ringsOf c).sq.any (fun e => match e.2.cur with | some k => needsCores (cOpc k.img) | none => false))
/-- The context a partition runs next: ascending from the resident one, wrapping (R359). -/
def State.nextMember (s : State) (p : Part) : Option Nat :=
  (p.members.filter (fun c => decide (p.resident < c)) ++ p.members.filter (fun c => decide (c ≤ p.resident))).find? s.hasWork

/-- Core caches and run-ahead blocks of a partition are discarded as it is switched (R194, R209). -/
def State.dropCaches (s : State) (g n : Nat) : State :=
  let has := fun (k : Nat) => decide (8 * g ≤ k ∧ k < 8 * (g + n))
  { s with
    caches := s.caches.filter (fun e => !(has e.1))
    reqs := s.reqs.map (fun r => match r.src with
      | .core k => if r.pref && has k then { r with alloc := false } else r
      | _ => r) }

/-- Dies a partition covers. -/
def State.partDies (s : State) (g n : Nat) : List Nat := sortNat ((List.range n).map (fun i => s.groveDie (g + i)))
/-- Switch jobs running on a die (R360). -/
def State.jobsOn (s : State) (d : Nat) : Nat := (s.parts.filter (fun p => p.2.jobs.contains d)).length
def State.updPart (s : State) (g : Nat) (f : Part → Part) : State :=
  { s with parts := s.parts.map (fun e => if e.1 = g then (e.1, f e.2) else e) }
/-- Is the partition of a context being switched? -/
def State.switching (s : State) (c : Nat) : Bool := s.parts.any (fun p => p.2.members.contains c && p.2.toCtx.isSome)

/-- SLICE_END (R359, R361): a slice after it began the next context with work is switched in; while a die of the partition runs 4 jobs the slice is
extended. Without one the resident context stays. -/
def execSliceEnd (grove0 : Fin 72) (s : State) : Res :=
  if !s.running then .next s
  else match mapFind s.parts grove0.val with
  | none => .next s
  | some p =>
    if p.toCtx.isSome || !(s.past p.begun (us * p.slice)) then .next s
    else match s.nextMember p with
    | none => .next (s.updPart grove0.val (fun p => { p with begun := s.now }))
    | some c =>
      let ds := s.partDies grove0.val p.groves
      if c = p.resident then .next (s.updPart grove0.val (fun p => { p with begun := s.now }))
      else if ds.any (fun d => decide (s.jobsOn d ≥ 4)) then
        .next (if p.extended then s else (s.updPart grove0.val (fun p => { p with extended := true })).count (dkey 0x6003 0x04))
      else .next ((s.dropCaches grove0.val p.groves).updPart grove0.val (fun p => { p with toCtx := some c, jobs := ds, extended := false }))

/-- SWITCH_JOB_COMPLETE (R360): the last job of a switch makes the incoming context resident. -/
def execSwitchJobComplete (grove0 : Fin 72) (die : Fin 8) (s : State) : Res :=
  if !s.running then .next s
  else match mapFind s.parts grove0.val with
  | none => .next s
  | some p =>
    match p.toCtx with
    | none => .next s
    | some c =>
      if !(p.jobs.contains die.val) then .next s
      else
        let left := p.jobs.filter (fun d => d != die.val)
        if !left.isEmpty then .next (s.updPart grove0.val (fun p => { p with jobs := left }))
        else
          let s := s.updPart grove0.val (fun p => { p with jobs := [], toCtx := none, resident := c, begun := s.now })
          .next ((s.count (dkey 0x6003 0x03)).raise Ev.traceSwitch (s.physAny (8 * grove0.val)))

/-! Leaving. -/

/-- The resident context leaves its groves: the next member with work is resident, or nobody. -/
def State.switchOut (s : State) (c : Nat) : State :=
  match s.parts.find? (fun p => p.2.members.contains c && p.2.resident == c) with
  | none => s
  | some (g, p) =>
    let s := s.dropCaches g p.groves
    let dest := ((s.nextMember { p with members := p.members.filter (fun m => m != c) })).getD nobody
    s.updPart g (fun p => { p with resident := dest, begun := s.now })

/-- The save areas and core-memory images of a context; its granules go to SCRUBBING (R357, R366). -/
def State.dropSaves (s : State) (c : Nat) : State :=
  let gs := (s.saves.filter (fun r => r.1 == c)).flatMap (fun r => r.2.2)
  let s := { s with saves := s.saves.filter (fun r => r.1 != c), images := s.images.filter (fun e => e.1 / 1024 != c) }
  gs.foldl (fun (t : State) g => t.scrubRange g 1) s

/-- A context's placement is released; a partition without members ceases (R357, R358). -/
def State.unplace (s : State) (c : Nat) : State :=
  let s := (s.switchOut c).dropSaves c
  let ps := s.parts.map (fun e => (e.1, { e.2 with members := e.2.members.filter (fun m => m != c) }))
  ({ s with parts := ps.filter (fun e => !e.2.members.isEmpty) }).updCtx c (fun x => { x with grove0 := 0, groves := 0 })

end Sys2Proof.Machine
end

