-- ==== Sys2Proof/Machine/Exchange.lean ====
section
/-!
DEFINITION. Machine/Exchange.lean: EXCHANGE, its rendezvous, buckets, messages and aborts, and Brass digests (R311 to R324).
-/
namespace Sys2Proof.Machine

/-! The exchange block (Table 12.1). -/

def xAccum (b : Nat) : Nat := bits b 976 48
def xPlist (b : Nat) : Nat := bits b 928 48
def xWork (b : Nat) : Nat := bits b 880 48
def xElems (b : Nat) : Nat := bits b 840 40
def xMembers (b : Nat) : Nat := bits b 776 64
def xStep (b : Nat) : Nat := bits b 744 32
def xScale (b : Nat) : Ex := fp32Val (bits b 712 32)
def xMib (b : Nat) : Nat := bits b 701 11
def xWindow (b : Nat) : Nat := bits b 694 7
def xParts (b : Nat) : Nat := bits b 689 5
def xGather (b : Nat) : Bool := bitAt b 688

/-- Members, ascending: the k-th has rank k (R312). -/
def xList (b : Nat) : List Nat := (List.range 64).filter (fun d => bitAt (xMembers b) d)
def xD (b : Nat) : Nat := (xList b).length
def xRank (b dev : Nat) : Nat := ((xList b).filter (fun d => decide (d < dev))).length
def xDev (b rank : Nat) : Nat := ((xList b)[rank]?).getD 0
/-- Elements of a bucket and of a shard (R315). -/
def xBe (b : Nat) : Nat := (if xMib b = 0 then 64 else xMib b) * 262144
def xSe (b : Nat) : Nat := 64 * ceilDiv (xBe b) (64 * xD b)
def xBuckets (b : Nat) : Nat := ceilDiv (xElems b) (xBe b)
/-- First element and length of a shard of a bucket. -/
def xShard (b bucket j : Nat) : Nat × Nat :=
  let lo := bucket * xBe b
  let hi := min (xElems b) (lo + xBe b)
  let a := min hi (lo + j * xSe b)
  (a, min hi (a + xSe b) - a)
/-- Bytes a slot holds, and the work area (R316). -/
def xSlot (b : Nat) : Nat := 4 * xSe b + 256
def xWorkSize (b : Nat) : Nat := 4096 + 4 * (xD b - 1) * xSlot b
/-- Offset of the slot of a sender's rank in a receiver's work area. -/
def xSlotAt (b bucket sender receiver : Nat) (gather : Bool) : Nat :=
  let group := (if gather then 2 else 0) + bucket % 2
  4096 + (group * (xD b - 1) + (if sender > receiver then sender - 1 else sender)) * xSlot b
/-- An exchange step, or an accumulation step (R314). -/
def xExchanges (b : Nat) : Bool := xStep b % xWindow b == xWindow b - 1

/-! The header of a work area (R316; its layout is the model's): rendezvous record of member d at 32 d: address, CRC, STEP, 1; abort record
at 2048 + 16 d: code, device + 1 or 0, STEP, 1; flag words at 3072 + 4 d and 3328 + 4 d; buckets a member has done at 3584 + 4 d. An
exchange step sets its own flag words and counts to zero before it sends its record, so that none of an older step is left (log 100). -/

def hdrRv (d : Nat) : Nat := 32 * d
def hdrAbort (d : Nat) : Nat := 2048 + 16 * d
def hdrFlag (d : Nat) (gather : Bool) : Nat := (if gather then 3328 else 3072) + 4 * d
def hdrDone (d : Nat) : Nat := 3584 + 4 * d
/-- What a flag word or a count of buckets done holds: the low bits of the STEP, and n of at most 2^20 buckets. -/
def xTick (b n : Nat) : Nat := (xStep b * 2097152 + n) % 2 ^ 32
/-- Has a flag word or count of this STEP reached n (Recipe 1)? -/
def xReached (b n v : Nat) : Bool := v / 2097152 == xTick b 0 / 2097152 && decide (n ≤ v % 2097152)

/-- CRC over the fields the members must agree on (R318): bytes 86 to 109 of the block, PARTS as zero. -/
def xAgree (b : Nat) : Nat := (crc64 (((leBytes 128 (setBits b 689 5 0)).drop 86).take 24)).toNat

/-! Brass digests (Table 12.3). -/

/-- Bits [191:0] of a digest record. -/
def digestBody (step index len domain sender owner kind entry : Nat) : Nat :=
  step % 2 ^ 32 * 2 ^ 160 + index % 2 ^ 32 * 2 ^ 128 + len % 2 ^ 32 * 2 ^ 96 + domain % 2 ^ 12 * 2 ^ 84 + sender % 64 * 2 ^ 78 + owner % 64 * 2 ^ 72 +
    kind % 4 * 2 ^ 70 + entry % 2 ^ 16 * 2 ^ 54
/-- The digest of data and of bytes 0 to 23 of its record (R319). -/
def digestOf (data : List Byte) (body : Nat) : Nat := (crc64 (data ++ leBytes 24 body)).toNat
def digestRecord (data : List Byte) (body : Nat) : List Byte := leBytes 32 (digestOf data body * 2 ^ 192 + body)

/-! Checks (R313). -/

/-- Is a range mapped on this device, HBM or near tier, with R and W? -/
def State.localBoth (s : State) (ctx va n : Nat) : Bool :=
  decide (va + n ≤ 2 ^ 48) && (cut 65536 va n).all (fun p => match s.xlate ctx p.1 .both with
    | (st, .glob a _) => st == 0 && s.isLocal a && (match s.region (gOffset a) with | .hbm => true | .near => true | _ => false)
    | _ => false)
def rangesMeet (a b : Nat × Nat) : Bool := decide (a.1 < b.1 + b.2 ∧ b.1 < a.1 + a.2)
def anyOverlap : List (Nat × Nat) → Bool
  | [] => false
  | x :: r => r.any (rangesMeet x) || anyOverlap r
def ascending : List Nat → Bool
  | a :: b :: r => decide (a < b) && ascending (b :: r)
  | _ => true
/-- Parts as (core, address). -/
def partList (bs : List Byte) (n : Nat) : List (Nat × Nat) :=
  (List.range n).map (fun k => let v := leNat ((bs.drop (16 * k)).take 16); (bits v 64 10, bits v 80 48))

def State.exchBad (s : State) (ctx b : Nat) (parts : Option (List (Nat × Nat))) : Bool :=
  let n := 4 * xElems b
  let ps := parts.getD []
  let regions := (xAccum b, n) :: (xWork b, xWorkSize b) :: ps.map (fun p => (p.2, n))
  !(bitAt (xMembers b) s.dev.deviceId) || xElems b == 0 || xWindow b == 0 || decide (xWindow b > 64) ||
  (decide (1 ≤ xMib b) && decide (xMib b ≤ 3)) || decide (xMib b > 1024) || decide (xParts b > 16) || !(xScale b).isFin ||
  xAccum b % 256 != 0 || xWork b % 4096 != 0 || parts.isNone || ps.any (fun p => p.2 % 256 != 0) ||
  !(regions.all (fun r => s.localBoth ctx r.1 r.2)) || anyOverlap regions || !(ascending (ps.map Prod.fst))

/-! Running. -/

def State.updExch (s : State) (ctx : Nat) (f : Exch → Exch) : State := { s with exch := s.exch.map (fun e => if e.1 = ctx then (e.1, f e.2) else e) }
def exAg (ctx : Nat) (e : Exch) : Ag := { src := .firmware, ctx := ctx, id := e.id }

/-- A write into another member's work area: at the address its record gave, or, before that, at this device's own offset. -/
def State.exWrite (s : State) (ctx : Nat) (e : Exch) (dev off : Nat) (bs : List Byte) : State :=
  let a := (mapFind e.peers dev).getD (mkGlobal dev e.work) + off
  (cut 256 a bs.length).foldl (fun (t : State) p => t.agReq (exAg ctx e) (.wr (zipFrom 0 ((bs.drop (p.1 - a)).take p.2))) p.1 0) s
def othersOf (s : State) (b : Nat) : List Nat := (xList b).filter (fun d => d != s.dev.deviceId)

/-- Does the context stand on its cores now (R359)? -/
def State.onCores (s : State) (ctx : Nat) : Bool :=
  match (s.partCores ctx).head? with
  | some n => s.liveCtx n == some ctx
  | none => false

/-- Body of the completion record (Table 12.5). -/
def exchBody (b : Nat) (fail : Option Nat) (buckets checked : Nat) (cnt : List Nat) : Nat :=
  let c := fun (k : Nat) => min ((cnt[k]?).getD 0) (2 ^ 32 - 1)
  (match fail with | some d => (d % 64) * 2 ^ 234 + 2 ^ 233 | none => 0) + (if xExchanges b then 2 ^ 232 else 0) + (buckets % 2 ^ 32) * 2 ^ 192 +
    min checked (2 ^ 32 - 1) * 2 ^ 160 + c 0 * 2 ^ 128 + c 1 * 2 ^ 96 + c 2 * 2 ^ 64 + c 3 * 2 ^ 32

/-- The STATUS of an EXCHANGE that has completed is kept, a failure counted (R328). -/
def State.exchStatus (s : State) (ctx : Nat) (st : Status) : State :=
  (if Code.isFailure st then s.count (dkey 0x5070 0x02) else s).setDv (ctxKey ctx 0x50) st.toNat

/-- EXCHANGE completes (R324, R328). -/
def State.exchEnd (s : State) (ctx ring b : Nat) (fail : Option (Status × Option Nat)) (buckets checked : Nat) (cnt : List Nat) : State :=
  let st := match fail with
    | some (c, _) => c
    | none => if cnt.any (fun n => n != 0) then Code.numericFlagged else 0
  let s := { s with exch := s.exch.filter (fun e => e.1 != ctx) }
  let s := if !(Code.isFailure st) && xExchanges b then s.count (dkey 0x5070 0x01) else s
  let s := ((s.exchStatus ctx st).numTotals cnt).countCode ctx st
  match (s.ring ctx ring).cur with
  | none => s
  | some c => s.complete ctx ring c st 0 0 (exchBody b (fail.bind Prod.snd) buckets checked cnt)

/-- A member fails: it keeps its first code and writes an abort record into every other header (R323). -/
def State.exchFail (s : State) (ctx : Nat) (st : Status) (dev : Option Nat) (tell : Bool) : State :=
  match mapFind s.exch ctx with
  | none => s
  | some e =>
    if e.fail.isSome then s
    else
      let s := s.updExch ctx (fun e => { e with fail := some (st, dev) })
      let r := leBytes 16 (st.toNat + (match dev with | some d => d + 1 | none => 0) * 2 ^ 16 + xStep e.blk * 2 ^ 32 + 2 ^ 64)
      if tell then ((othersOf s e.blk).foldl (fun (t : State) d => t.exWrite ctx e d (hdrAbort s.dev.deviceId) r) s).agGo (exAg ctx e) else s

/-- What acknowledgements allow: a failed write fails the member, and no flag goes to the member that it was for (R236); other flags follow
their writes (Recipe 1), the command completes when nothing is left (R323, R324). -/
def State.exchPump (s : State) (ctx : Nat) : State :=
  match mapFind s.exch ctx with
  | none => s
  | some e =>
    let ag := exAg ctx e
    let bad := s.reqs.filter (fun r => r.xfer == ag.id && r.src == .firmware && r.ph == .done && r.st != 0 && !(isRd r))
    let (s, _) := s.agAbsorb ag
    let s := s.updExch ctx (fun e => { e with flags := e.flags.filter (fun f => !(bad.any (fun r => r.dev == f.1))) })
    let s := match bad.head? with
      | some r => s.exchFail ctx r.st (some r.dev) true
      | none => s
    if s.agBusy ag then s.agGo ag
    else match mapFind s.exch ctx with
    | none => s
    | some e =>
      if !e.flags.isEmpty then
        let s := e.flags.foldl (fun (t : State) f => t.agReq ag (.flag f.2.2) f.2.1 0) s
        (s.updExch ctx (fun e => { e with flags := [] })).agGo ag
      else
        let done := if xGather e.blk then e.agDone else e.rsDone
        if e.fail.isSome ∨ xExchanges e.blk = false ∨ (e.met ∧ done = xBuckets e.blk) then s.exchEnd ctx e.ring e.blk e.fail done e.checked e.cnt
        else s

/-- The local stage (R314): the new codes of ACCUM and the counts of R85. -/
def localElem (acc : Nat) (parts : List Nat) : Nat × List Nat :=
  let vs := acc :: parts
  let r := parts.foldl (fun (x : Ex) p => rAdd x (fp32Val p)) (fp32Val acc)
  let exact := parts.foldl (fun (x : Ex) p => Ex.add x (fp32Val p)) (fp32Val acc)
  (fp32Bits r, accCounts r exact (vs.all (fun v => (fp32Val v).isFin)) (vs.any (fun v => (fp32Val v).isNan)))
def State.localStage (s : State) (ag : Ag) (b : Nat) (parts : List (Nat × Nat)) : State × Status × List Nat :=
  if parts.isEmpty then (s, 0, [0, 0, 0, 0])
  else
    let idx := List.range (xElems b)
    let (s, e0, acc) := s.engElems ag (xAccum b) 4 idx
    let (s, e1, cols) := parts.foldl (fun (a : State × Status × List (List Nat)) p =>
      let (t, st, xs) := a.1.engElems ag p.2 4 idx
      (t, if a.2.1 ≠ 0 then a.2.1 else st, a.2.2 ++ [xs])) (s, 0, [])
    let e := firstCode [e0, e1]
    if e ≠ 0 then (s, e, [0, 0, 0, 0])
    else
      let out := (List.zip idx acc).map (fun q => (q.1, localElem q.2 (cols.map (fun y => (y[q.1]?).getD 0))))
      let (s, e) := s.engPut ag (xAccum b) 4 (out.map (fun o => (o.1, o.2.1)))
      (s, e, out.foldl (fun m o => addCounts m o.2.2) [0, 0, 0, 0])

/-- The block's own offset on this device. -/
def State.offsetOf (s : State) (ctx va : Nat) : Nat :=
  match s.xlate ctx va .both with
  | (_, .glob a _) => gOffset a
  | _ => 0

/-- An accepted EXCHANGE: the local stage, then on an exchange step the rendezvous records (R314, R318). The STEPs that the records of the
others show now are those that count as absent (R316). -/
def State.exchStart (s : State) (ctx ring b : Nat) (c : Cmd) (parts : List (Nat × Nat)) : State :=
  let ag := cmdAg ctx c
  let (t, st, cnt) := s.localStage ag b parts
  let (t, st', hs) := if st ≠ 0 ∨ xExchanges b = false then (t, st, []) else t.engRead ag (xWork b) 2048
  if st' = Code.running then s.agWait t ag
  else
    let rec' := fun (d : Nat) => leNat ((hs.drop (hdrRv d)).take 32)
    let e : Exch := { ring := ring, blk := b, id := c.id, work := t.offsetOf ctx (xWork b), cnt := cnt
                      olds := (othersOf t b).filterMap (fun d => if bits (rec' d) 160 8 = 1 then some (d, bits (rec' d) 128 32) else none) }
    let t := { t with exch := mapInsert (mapErase t.exch ctx) ctx e }
    let t := (t.agDrop ag).updCmd ctx ring (fun c => { c with stage := 1 })
    if xExchanges b = false then (if st' = 0 then t else t.exchFail ctx st' none false).exchPump ctx
    else
      let (t, st') := if st' ≠ 0 then (t, st') else t.agWrite ag (xWork b + 3072) (List.replicate 768 0)
      if st' ≠ 0 then (t.exchFail ctx st' none true).exchPump ctx
      else
        let r := leBytes 32 (mkGlobal t.dev.deviceId e.work + xAgree b * 2 ^ 64 + xStep b * 2 ^ 128 + 2 ^ 160)
        ((othersOf t b).foldl (fun (u : State) d => u.exWrite ctx e d (hdrRv t.dev.deviceId) r) t).exchPump ctx

/-- EXCHANGE: checked; it waits for its cores, for running launches of its context and for an EXCHANGE under way (R317, R357). -/
def execExchange (ctx : Fin 4097) (ring : Fin 8) (s : State) : Res :=
  ringCmd s ctx.val ring.val 0x40 (fun c =>
    let ag := cmdAg ctx.val c
    let badBlock := s.badAddr ctx.val (cA0 c.img) 128 128 .read
    let lost := fun (t : State) (e : Status) (a : Nat) => (((t.agDrop ag).countCode ctx.val e).exchStatus ctx.val e).complete ctx.val ring.val c e 0 a 0
    match (if badBlock then (s, Got.ok []) else s.agRead ag .read (cA0 c.img) 128) with
    | (t, .wait) => s.agWait t ag
    | (t, .err e) => lost t e (cA0 c.img)
    | (t, .ok bs) =>
      let b := leNat bs
      let n := min 16 (xParts b)
      match (if badBlock ∨ n = 0 ∨ (t.rangeOk ctx.val (xPlist b) (16 * n) .read) = false then (t, Got.ok [])
             else t.agRead ag .read (xPlist b) (16 * n)) with
      | (t, .wait) => s.agWait t ag
      | (t, .err e) => lost t e (xPlist b)
      | (t, .ok ps) =>
        let t := t.agDrop ag
        let parts := if n = 0 then some [] else if ps = [] then none else some (partList ps n)
        let why := [(badBlock, Code.commandInvalid, 1), (t.perDie == 0, Code.gradeInvalid, 0),
          (!badBlock && t.exchBad ctx.val b parts, Code.exchangeParams, 1)] ++ t.baseReasons ctx.val ring.val c
        match firstReason why with
        | some (st, d) => t.refuse ctx.val ring.val c st d 0
        | none =>
          if !(t.onCores ctx.val) || (mapFind t.exch ctx.val).isSome ||
              t.launches.any (fun l => l.ctx == ctx.val && !l.cores.isEmpty) then s
          else t.exchStart ctx.val ring.val b c (parts.getD []))

/-- A row of an exchange under way: it acts while the context stands on its cores (Table 12.8). The body answers what it reached and a
status: a failure fails the member, work under way (0xFFFF) leaves nothing done but its reads on their way. -/
def exchRow (s : State) (ctx : Nat) (body : Exch → State × Status) : Res :=
  if !s.running || !(s.onCores ctx) then .next s
  else match mapFind s.exch ctx with
  | none => .next s
  | some e =>
    if e.fail.isSome then .next (s.exchPump ctx)
    else
      let ag := exAg ctx e
      match body e with
      | (t, st) =>
        if st = Code.running then .next ((s.agWait t ag).exchPump ctx)
        else .next (((if st = 0 then t else t.exchFail ctx st none true).agDrop ag).exchPump ctx)

/-- Reads this member's own work area. -/
def State.exRead (s : State) (ctx : Nat) (e : Exch) (off n : Nat) : State × Status × List Byte := s.engRead (exAg ctx e) (xWork e.blk + off) n

/-- EXCHANGE_RENDEZVOUS (R318): a record that differs fails the member, as does one of another STEP that has come since it started (Table
12.8); one of another STEP that was there before counts as absent (R316). Once all are there, buckets may start. -/
def execExchangeRendezvous (ctx : Fin 4097) (s : State) : Res :=
  exchRow s ctx.val (fun e =>
    if e.met then (s, 0)
    else
      let (s, st, hs) := s.exRead ctx.val e 0 2048
      if st ≠ 0 then (s, st)
      else
        let rec' := fun (d : Nat) => leNat ((hs.drop (hdrRv d)).take 32)
        let os := othersOf s e.blk
        let there := fun (d : Nat) => bits (rec' d) 160 8 == 1
        let mine := fun (d : Nat) => there d && bits (rec' d) 128 32 == xStep e.blk
        if os.any (fun d => (mine d && bits (rec' d) 64 64 != xAgree e.blk) ||
            (there d && !(mine d) && mapFind e.olds d != some (bits (rec' d) 128 32))) then (s.exchFail ctx.val Code.exchangeParams none false, 0)
        else if !(os.all mine) then (s, 0)
        else ((s.updExch ctx.val (fun e => { e with met := true, peers := os.map (fun d => (d, bits (rec' d) 0 64)) })).progress ctx.val e.ring, 0))

/-- Sends one message: data, record, and the flag that follows them (R319, R320). -/
def State.exSend (s : State) (ctx : Nat) (e : Exch) (dev bucket : Nat) (gather : Bool) (data : List Byte) : State :=
  let b := e.blk
  let me := s.dev.deviceId
  let at' := xSlotAt b bucket (xRank b me) (xRank b dev) gather
  let body := digestBody (xStep b) bucket data.length s.dev.domainId me (if gather then me else dev) (if gather then 1 else 0) 0
  let s := s.exWrite ctx e dev at' data
  let s := s.exWrite ctx e dev (at' + 4 * xSe b) (digestRecord data body)
  let s := s.updExch ctx (fun e => { e with
    flags := e.flags ++ [(dev, (mapFind e.peers dev).getD 0 + hdrFlag me gather, xTick b (bucket + 1))] })
  s.count (dkey 0x5070 0x06) (data.length + 32)

/-- The reduced value of one element from the contributions by rank (R314), with its counts (R85). -/
def reduceElem (b : Nat) (cs : List Nat) : Nat × List Nat :=
  match cs with
  | [] => (0, [0, 0, 0, 0])
  | c0 :: rest =>
    let sum := rest.foldl (fun (x : Ex) c => rAdd x (fp32Val c)) (fp32Val c0)
    let exact := rest.foldl (fun (x : Ex) c => Ex.add x (fp32Val c)) (fp32Val c0)
    let (r, exact) := if xScale b = Ex.one then (sum, exact) else (rMul sum (xScale b), Ex.mul exact (xScale b))
    (fp32Bits r, accCounts r exact (cs.all (fun v => (fp32Val v).isFin)) (cs.any (fun v => (fp32Val v).isNan)))

/-- What the digest record of a message to this member must say (R320). -/
def State.exBody (s : State) (e : Exch) (bucket sender : Nat) (gather : Bool) : Nat :=
  let owner := if gather then sender else s.dev.deviceId
  digestBody (xStep e.blk) bucket (4 * (xShard e.blk bucket (xRank e.blk owner)).2) s.dev.domainId sender owner (if gather then 1 else 0) 0
/-- A message in its slot: its data, and whether its digest agrees (R320). -/
def State.exSlot (s : State) (ctx : Nat) (e : Exch) (bucket sender : Nat) (gather : Bool) : State × Status × List Byte × Bool :=
  let b := e.blk
  let (_, n) := xShard b bucket (xRank b (if gather then sender else s.dev.deviceId))
  let at' := xSlotAt b bucket (xRank b sender) (xRank b s.dev.deviceId) gather
  let (t, st, data) := s.exRead ctx e at' (4 * n)
  let (t, st', r) := if st ≠ 0 ∧ st ≠ Code.running then (t, st, []) else t.exRead ctx e (at' + 4 * xSe b) 32
  let st := if st ≠ 0 then st else st'
  (t, st, data, st ≠ 0 || digestOf data (s.exBody e bucket sender gather) == bits (leNat r) 192 64)

/-- A digest differs (R321). -/
def State.exMismatch (s : State) (ctx : Nat) (e : Exch) (sender bucket kind : Nat) : State :=
  let s := (s.count (dkey 0x5070 0x04)).setDv (dkey 0x5070 0x05) (sender * 2 ^ 26 + kind * 2 ^ 24 + bucket % 2 ^ 24)
  let s := s.raise Ev.digestMismatch 9 Code.digestMismatch 0 [sender, xStep e.blk, bucket, kind + s.dev.deviceId * 256]
  s.exchFail ctx Code.digestMismatch (some sender) true

/-- The owner reduces its shard of a bucket: the slots are read once more, and a write that has landed in one since its message came fails
its digest (R317, R320). -/
def State.reduceShard (s : State) (ctx : Nat) (e : Exch) (bucket : Nat) : State × Status :=
  let b := e.blk
  let (lo, n) := xShard b bucket (xRank b s.dev.deviceId)
  let idx := List.range n
  let (t, st, cols, bad) := (xList b).foldl (fun (a : State × Status × List (List Nat) × Option Nat) d =>
    if d = s.dev.deviceId then
      let (t, st, xs) := a.1.engElems (exAg ctx e) (xAccum b + 4 * lo) 4 idx
      (t, firstCode [a.2.1, st], a.2.2.1 ++ [xs], a.2.2.2)
    else
      let (t, st, data, good) := a.1.exSlot ctx e bucket d false
      (t, firstCode [a.2.1, st], a.2.2.1 ++ [idx.map (fun i => leNat ((data.drop (4 * i)).take 4))],
       a.2.2.2.orElse (fun _ => if good then none else some d))) (s, 0, [], none)
  if st ≠ 0 then (t, st)
  else match bad with
  | some d => (t.exMismatch ctx e d bucket 0, 0)
  | none =>
    let out := idx.map (fun i => (i, reduceElem b (cols.map (fun y => (y[i]?).getD 0))))
    let (t, st) := t.engPut (exAg ctx e) (xAccum b + 4 * lo) 4 (out.map (fun o => (o.1, o.2.1)))
    ((t.updExch ctx (fun e => { e with rsDone := bucket + 1, cnt := out.foldl (fun m o => addCounts m o.2.2) e.cnt })).progress ctx e.ring, st)

/-- A bucket is complete at this member: the others learn that its slots are free (Recipe 5). -/
def State.exFree (s : State) (ctx : Nat) (e : Exch) (n : Nat) : State :=
  (othersOf s e.blk).foldl (fun (t : State) d => t.exWrite ctx e d (hdrDone s.dev.deviceId) (leBytes 4 (xTick e.blk n))) s

/-- Has every other member done the buckets before bucket − 1, so that the slots of its parity are free? -/
def State.exRoom (s : State) (ctx : Nat) (e : Exch) (bucket : Nat) : State × Status × Bool :=
  if bucket < 2 then (s, 0, true)
  else
    let (t, st, hs) := s.exRead ctx e 3584 256
    (t, st, (othersOf s e.blk).all (fun d => xReached e.blk (bucket - 1) (leNat ((hs.drop (4 * d)).take 4))))

/-- The messages of a bucket's reduce-scatter, in order; it stops at the first read that fails (R323). -/
def State.exScatter (s : State) (ctx : Nat) (e : Exch) (bucket : Nat) : State × Status :=
  (othersOf s e.blk).foldl (fun (a : State × Status) d =>
    if a.2 ≠ 0 then a
    else
      let (lo, n) := xShard e.blk bucket (xRank e.blk d)
      let (t, st, data) := a.1.engRead (exAg ctx e) (xAccum e.blk + 4 * lo) (4 * n)
      if st ≠ 0 then (t, st) else (t.exSend ctx e d bucket false data, 0)) (s, 0)

/-- EXCHANGE_BUCKET (R315): the next bucket's reduce-scatter, or its all-gather, starts. -/
def execExchangeBucket (ctx : Fin 4097) (gather : Bool) (s : State) : Res :=
  exchRow s ctx.val (fun e =>
    let b := e.blk
    let me := s.dev.deviceId
    if !e.met then (s, 0)
    else if gather then
      let k := e.agBegun
      if !(xGather b) || decide (k ≥ e.rsDone) || decide (k ≠ e.agDone) then (s, 0)
      else
        let (lo, n) := xShard b k (xRank b me)
        let (s, st, data) := s.engRead (exAg ctx.val e) (xAccum b + 4 * lo) (4 * n)
        if st ≠ 0 then (s, st)
        else
          let s := s.updExch ctx.val (fun e => { e with agBegun := k + 1, agDone := if xD b = 1 then k + 1 else e.agDone })
          let s := if xD b = 1 then s.progress ctx.val e.ring else s
          ((othersOf s b).foldl (fun (t : State) d => t.exSend ctx.val e d k true data) s, 0)
    else
      let k := e.rsBegun
      let (s, st, room) := s.exRoom ctx.val e k
      if decide (k ≥ xBuckets b) || decide (k ≠ e.rsDone) || (xGather b && decide (e.agDone + 1 < k)) then (s, 0)
      else if st ≠ 0 then (s, st)
      else if !room then (s, 0)
      else
        let (t, st) := s.exScatter ctx.val e k
        let t := t.updExch ctx.val (fun e => { e with rsBegun := k + 1 })
        if st = 0 ∧ xD b = 1 then t.reduceShard ctx.val e k else (t, st))

/-- EXCHANGE_MESSAGE (R320, R321): a message whose flag is there is checked; its contribution waits for the others of its bucket, or
its shard is copied. -/
def execExchangeMessage (ctx : Fin 4097) (bucket sender : Nat) (gather : Bool) (s : State) : Res :=
  exchRow s ctx.val (fun e =>
    let b := e.blk
    let got := if gather then e.agGot else e.rsGot
    let rank := xRank b sender
    let due := if gather then decide (bucket = e.agDone ∧ bucket < e.agBegun) else decide (bucket = e.rsDone ∧ bucket < e.rsBegun)
    if !e.met || !((othersOf s b).contains sender) || got.contains (bucket, rank) || !due then (s, 0)
    else
      let (s, st, fl) := s.exRead ctx.val e (hdrFlag sender gather) 4
      if st ≠ 0 then (s, st)
      else if !(xReached b (bucket + 1) (leNat fl)) then (s, 0)
      else
        let (s, st, data, good) := s.exSlot ctx.val e bucket sender gather
        if st ≠ 0 then (s, st)
        else
          let s := (s.count (dkey 0x5070 0x03)).updExch ctx.val (fun e => { e with checked := e.checked + 1 })
          let full := ((got.filter (fun g => g.1 == bucket)).length + 1 == xD b - 1)
          let now := got.filter (fun g => g.1 == bucket) ++ [(bucket, rank)]
          if !good then (s.exMismatch ctx.val e sender bucket (if gather then 1 else 0), 0)
          else if gather then
            let (s, st) := s.agWrite (exAg ctx.val e) (xAccum b + 4 * (xShard b bucket rank).1) data
            if st ≠ 0 then (s, st)
            else
              let s := s.updExch ctx.val (fun e => { e with agGot := now, agDone := if full then bucket + 1 else e.agDone })
              (if full then (s.exFree ctx.val e (bucket + 1)).progress ctx.val e.ring else s, 0)
          else
            let s := s.updExch ctx.val (fun e => { e with rsGot := now })
            if full then
              let (t, st) := s.reduceShard ctx.val e bucket
              (if st = 0 ∧ xGather b = false then t.exFree ctx.val e (bucket + 1) else t, st)
            else (s, 0))

/-- EXCHANGE_ABORT (R323): a member that reads an abort record of its STEP stops, with that record's code. -/
def execExchangeAbort (ctx : Fin 4097) (member : Fin 64) (s : State) : Res :=
  exchRow s ctx.val (fun e =>
    let (s, st, bs) := s.exRead ctx.val e (hdrAbort member.val) 16
    let v := leNat bs
    if st ≠ 0 then (s, st)
    else if bits v 64 8 = 1 ∧ bits v 32 32 = xStep e.blk then
      (s.exchFail ctx.val (BitVec.ofNat 16 v) (some (if bits v 16 8 = 0 then member.val else bits v 16 8 - 1)) false, 0)
    else (s, 0))

end Sys2Proof.Machine
end

