-- ==== Sys2Proof/Machine/Snapshot.lean ====
section
/-!
DEFINITION. Machine/Snapshot.lean: SNAPSHOT (R325, R326). `ents` is its list as it was checked, `aux` the chunks done over all entries,
`cnts` the mismatches, the first mismatching entry + 1, and the bytes.
-/
namespace Sys2Proof.Machine

/-! A list entry (Table 12.6). -/

def snSrc (e : Nat) : Nat := bits e 208 48
def snDst (e : Nat) : Nat := bits e 160 48
def snDigs (e : Nat) : Nat := bits e 112 48
def snLen (e : Nat) : Nat := bits e 72 40
def snVerify (e : Nat) : Bool := bitAt e 71
def snLast (e : Nat) : Bool := bitAt e 70
def snStep (e : Nat) : Nat := bits e 38 32
def chunkBytes : Nat := 1048576
def snChunks (e : Nat) : Nat := ceilDiv (snLen e) chunkBytes

/-- What reading the list gives. -/
inductive SList where
  | wait
  | err (st : Status)
  | bad
  | ok (l : List Nat)
  deriving DecidableEq, Repr

/-- Reads the list entry by entry up to LAST; `bad` when none of `n` entries has it, or one lies in no readable page. -/
def readSnap (ag : Ag) : Nat → Nat → List Nat → State → State × SList
  | 0, _, _, s => (s, .bad)
  | n + 1, a, acc, s =>
    if s.badAddr ag.ctx a 32 32 .read then (s, .bad)
    else match s.agRead ag .read a 32 with
    | (t, .wait) => (t, .wait)
    | (t, .err st) => (t, .err st)
    | (t, .ok bs) => if snLast (leNat bs) then (t, .ok (acc ++ [leNat bs])) else readSnap ag n (a + 32) (acc ++ [leNat bs]) t

/-- Is an entry refused (R325)? -/
def State.entryRefused (s : State) (ctx e : Nat) : Bool :=
  snLen e == 0 || !(s.rangeOk ctx (snSrc e) (snLen e) .read) ||
  (if snVerify e then !(s.rangeOk ctx (snDigs e) (32 * snChunks e) .read)
   else !(s.rangeOk ctx (snDigs e) (32 * snChunks e) .write) || !(s.rangeOk ctx (snDst e) (snLen e) .write))

/-- The entry, its number, and the chunk within it that a count of chunks done comes to. -/
def snapAt : List Nat → Nat → Nat → Option (Nat × Nat × Nat)
  | [], _, _ => none
  | e :: r, k, i => if k < snChunks e then some (e, i, k) else snapAt r (k - snChunks e) (i + 1)

def Cmd.snapCnt (c : Cmd) (k : Nat) : Nat := (c.cnts[k]?).getD 0

/-- Body of the completion record (R326). -/
def Cmd.snapBody (c : Cmd) (failed : Option Nat) : Nat :=
  let entry := match failed with
    | some i => i
    | none => if c.snapCnt 1 ≠ 0 then c.snapCnt 1 - 1 else c.ents.length
  (entry % 2 ^ 32) * 2 ^ 192 + (c.snapCnt 2 % 2 ^ 64) * 2 ^ 128 + (c.aux % 2 ^ 32) * 2 ^ 96 + min (c.snapCnt 0) (2 ^ 32 - 1) * 2 ^ 64

/-- The end, once its writes are acknowledged (R307); `fail`: a code, the address and the entry. -/
def State.snapEnd (s : State) (ctx ring : Nat) (ag : Ag) (fail : Option (Status × Nat × Nat)) : State :=
  let s := ((s.agDrop ag).closeFor ag.id).agGo ag
  match (s.ring ctx ring).cur with
  | none => s
  | some c =>
    let at' := ((snapAt c.ents c.aux 0).map (fun e => e.2.1)).getD (c.ents.length - 1)
    let (st, va, en) := match c.done with
      | some (d, _, a, e) => if d ≠ 0 then (d, a, if e = 0 then at' else e - 1) else (fail.getD (0, 0, 0))
      | none => fail.getD (0, 0, 0)
    if s.agBusy ag || s.frameHolds ag.id then s.updCmd ctx ring (fun c => { c with stage := 2, done := some (st, 0, va, en + 1) })
    else
      let code := if st ≠ 0 then st else if c.snapCnt 0 ≠ 0 then Code.digestMismatch else 0
      (s.countCode ctx code).complete ctx ring c code 0 va (c.snapBody (if st ≠ 0 then some en else none))

/-- One chunk of a copy entry: read once, written to DST, its record written to DIGS. -/
def State.snapCopy (s : State) (ag : Ag) (e i k : Nat) : State × Moved :=
  let off := chunkBytes * k
  let n := min chunkBytes (snLen e - off)
  match s.agRead ag .read (snSrc e + off) n with
  | (t, .wait) => (t, .wait)
  | (t, .err st) => (t, .err st (s.badRead ag (snSrc e + off) n))
  | (t, .ok bs) =>
    let body := digestBody (snStep e) k n s.dev.domainId s.dev.deviceId 0 2 i
    match t.putUnit ag (snDst e + off) bs with
    | (t, .ok) => t.putUnit ag (snDigs e + 32 * k) (digestRecord bs body)
    | r => r

/-- One chunk of a verify entry: whether it agrees with its record, and the record's SENDER. -/
def State.snapVerify (s : State) (ag : Ag) (e k : Nat) : State × Moved × Bool × Nat :=
  let off := chunkBytes * k
  let n := min chunkBytes (snLen e - off)
  match s.agRead ag .read (snSrc e + off) n, s.agRead ag .read (snDigs e + 32 * k) 32 with
  | (_, .ok bs), (_, .ok rs) =>
    let (t, _) := s.agRead ag .read (snSrc e + off) n
    let (t, _) := t.agRead ag .read (snDigs e + 32 * k) 32
    let v := leNat rs
    let good := digestOf bs (v % 2 ^ 192) == bits v 192 64 && bits v 70 2 == 2 && bits v 96 32 == n
    (t, .ok, good, bits v 78 6)
  | (t, .err st), _ => (t, .err st (s.badRead ag (snSrc e + off) n), true, 0)
  | _, (t, .err st) => (t, .err st (s.badRead ag (snDigs e + 32 * k) 32), true, 0)
  | (t, _), _ =>
    let (t, _) := t.agRead ag .read (snDigs e + 32 * k) 32
    (t, .wait, true, 0)

/-- A chunk is done. -/
def State.snapStep (s : State) (ctx ring : Nat) (ag : Ag) (e i k : Nat) (good : Bool) (sender : Nat) : State :=
  let n := min chunkBytes (snLen e - chunkBytes * k)
  let s := s.count (dkey 0x5070 0x07) n
  let s := if snVerify e then s.count (dkey 0x5070 0x03) else s
  let s := if good then s
    else (s.count (dkey 0x5070 0x04)).setDv (dkey 0x5070 0x05) (sender * 2 ^ 26 + 2 * 2 ^ 24 + k % 2 ^ 24)
  let s := (s.agDrop ag).updCmd ctx ring (fun c => { c with
    aux := c.aux + 1
    prog := s.now
    cnts := [c.snapCnt 0 + (if good then 0 else 1), if good || c.snapCnt 1 != 0 then c.snapCnt 1 else i + 1, c.snapCnt 2 + n] })
  match (s.ring ctx ring).cur with
  | some c => if (snapAt c.ents c.aux 0).isNone then s.snapEnd ctx ring ag none else s.agGo ag
  | none => s

/-- The next chunk. -/
def State.snapGo (s : State) (ctx ring : Nat) (c : Cmd) : State :=
  let ag := cmdAg ctx c
  let (s, wst) := s.agAbsorb ag
  match snapAt c.ents c.aux 0 with
  | none => s.snapEnd ctx ring ag (if wst = 0 then none else some (wst, 0, c.ents.length - 1))
  | some (e, i, k) =>
    if wst ≠ 0 then s.snapEnd ctx ring ag (some (wst, 0, i))
    else if c.stage = 2 then s.snapEnd ctx ring ag none
    else if snVerify e then
      match s.snapVerify ag e k with
      | (t, .wait, _, _) => s.agWait t ag
      | (t, .err st va, _, _) => t.snapEnd ctx ring ag (some (st, va, i))
      | (t, .ok, good, sender) => t.snapStep ctx ring ag e i k good sender
    else
      match s.snapCopy ag e i k with
      | (t, .wait) => s.agWait t ag
      | (t, .err st va) => t.snapEnd ctx ring ag (some (st, va, i))
      | (t, .ok) => t.snapStep ctx ring ag e i k true 0

/-- SNAPSHOT: its list is read and checked; it starts when its context has its placement and no EXCHANGE runs (R325, R357); then one
chunk an event. -/
def execSnapshot (ctx : Fin 4097) (ring : Fin 8) (s : State) : Res :=
  if !s.running then .next s
  else match (s.ring ctx.val ring.val).cur with
  | none => .next s
  | some c =>
    if cOpc c.img ≠ 0x51 ∨ c.tearing then .next s
    else if c.stage ≠ 0 then .next (s.snapGo ctx.val ring.val c)
    else
      let ag := cmdAg ctx.val c
      let noList := s.badAddr ctx.val (cA0 c.img) 32 32 .read
      match (if noList then (s, SList.ok []) else readSnap ag 65536 (cA0 c.img) [] s) with
      | (t, .wait) => .next (s.agWait t ag)
      | (t, .err st) => .next (((t.agDrop ag).countCode ctx.val st).complete ctx.val ring.val c st 0 (cA0 c.img) 0)
      | (t, r) =>
        let t := t.agDrop ag
        let l := match r with | .ok l => l | _ => []
        let why := [(noList || l.any (fun e => snDigs e % 32 != 0), Code.commandInvalid, 1), (t.perDie == 0, Code.gradeInvalid, 0),
          (!noList && (r == .bad || l.any (t.entryRefused ctx.val)), Code.snapshotParams, 1)] ++ t.baseReasons ctx.val ring.val c
        match firstReason why with
        | some (st, d) => .next (t.refuse ctx.val ring.val c st d 0)
        | none =>
          if (t.ctx ctx.val).groves = 0 ∨ (mapFind t.exch ctx.val).isSome then .next s
          else .next (t.updCmd ctx.val ring.val (fun c => { c with stage := 1, ents := l }))

end Sys2Proof.Machine
end

