-- ==== Sys2Proof/Machine/Contexts.lean ====
section
/-!
DEFINITION. Machine/Contexts.lean: the commands on contexts, forced stops, timeouts, resets of functions and groves, and the TDISP
states of a function (R346, R349 to R352, R355 to R357, R366, R378).
-/
namespace Sys2Proof.Machine

/-! Forced stops. -/

/-- A running command is stopped with a code: a launch is torn down (R348), a step and an exchange end as their chapters say (R181, R323),
a bulk command at its unit boundary, a SNAPSHOT with its chunks (R350). -/
def State.stopCmd (s : State) (ctx ring : Nat) (c : Cmd) (code : Status) : State :=
  let opc := cOpc c.img
  let drop := (s.dropWork c.id).closeFor c.id
  if opc = 0x10 then
    match s.launch? c.launch with
    | some l => (s.failLaunch l.id code 0 0 l.code).updCmd ctx ring (fun c => { c with tearing := true })
    | none => drop.complete ctx ring c code 0 0 (65535 * 2 ^ 224)
  else if opc = 0x41 then
    match s.alder.steps.find? (fun o => o.key == 8 * ctx + ring) with
    | some o => (s.dropWork c.id).stepEnd { o with st := code } (code == Code.tornDown)
    | none => drop.complete ctx ring c code 0 0 0
  else if opc = 0x40 then
    match mapFind s.exch ctx with
    | some e =>
      if c.stage = 0 then drop.complete ctx ring c code 0 0 0
      else if code = Code.tornDown then
        drop.exchEnd ctx ring e.blk (some (code, none)) (if xGather e.blk then e.agDone else e.rsDone) e.checked e.cnt
      else (s.exchFail ctx code none true).exchPump ctx
    | none => drop.complete ctx ring c code 0 0 0
  else if opc = 0x51 then drop.complete ctx ring c code 0 0 (c.snapBody (some (((snapAt c.ents c.aux 0).map (fun e => e.2.1)).getD 0)))
  else drop.complete ctx ring c code c.aux 0 0

/-- A forced stop has reached the launches of a context. -/
def State.markForced (s : State) (c : Nat) : State :=
  { s with launches := s.launches.map (fun (l : Launch) => if l.ctx = c then { l with forced := some s.now } else l) }
/-- Every running command of a context is stopped (R352); vector 1 tells it, where no quiesce has (R336). -/
def State.forcedStop (s : State) (c : Nat) (code : Status) : State :=
  let s := (if (s.ctx c).st = 3 then s else s.msix c 1).markForced c
  (List.range 8).foldl (fun (t : State) r =>
    match (t.ring c r).cur with
    | some k => if k.tearing then t else t.stopCmd c r k code
    | none => t) (s.count (dkey 0x7080 0x04))

/-- Does a context run nothing any more? -/
def State.quiet (s : State) (c : Nat) : Bool :=
  !((s.ringsOf c).sq.any (fun e => e.2.cur.isSome)) && !(s.launches.any (fun l => l.ctx == c)) && (mapFind s.exch c).isNone
/-- Are its accesses of its own all done (R193)? -/
def State.accessing (s : State) (c : Nat) : Bool := s.reqs.any (fun r => r.inRange c 0 (2 ^ 64))

/-- When a quiesce that begins now exceeds QUIESCE_TIMEOUT (R346). -/
def State.quiesceEnd (s : State) : Nat := s.now + ms * s.dv (dkey 0x8000 0x03)
/-- A quiesce begins: fetching stops (R351); a locked or running TDI enters ERROR (Table 14.6). -/
def State.beginQuiesce (s : State) (c : Nat) : State :=
  (s.updCtx c (fun x => { x with st := 3, quiesceBy := s.quiesceEnd + 1, tdi := if x.tdi = 1 ∨ x.tdi = 2 then 3 else x.tdi })).msix c 1
/-- A quiesce ends when nothing runs: the groves are switched out, the context is suspended (R351 step 4). -/
def State.settle (s : State) (c : Nat) : State :=
  if (s.ctx c).st = 3 ∧ s.quiet c ∧ !(s.switching c) then (s.switchOut c).updCtx c (fun x => { x with st := 2, quiesceBy := 0 }) else s

/-! Context commands. -/

/-- The context a context command names. -/
def aTarget (i : Nat) : Nat := targetOf 4096 i

/-- The reasons a placement is refused (R356, R358, R208). -/
def State.placeReasons (s : State) (ctx v : Nat) : List (Bool × Status × Nat) :=
  [(s.placeConflict v, Code.partitionConflict, 6), (!(s.placeConflict v) && (s.placeCtx ctx v).isNone, Code.saveAreaFull, 0)]

/-- CTX_CREATE (R356): its ID in ARG0, its placement in ARG1. A new provisioning key pair is drawn (R374). -/
def execCtxCreate (ctx : Fin 4097) (ring : Fin 8) (s : State) : Res :=
  ringCmdChecked s ctx.val ring.val 0x60
    (fun c => [(s.perDie == 0, Code.gradeInvalid, 0),
      (bitAt c.img 12 || (s.ctx (bits (cArg0 c.img) 0 12)).st != 0, Code.contextState, 0)] ++
      s.placeReasons (bits (cArg0 c.img) 0 12) (cArg1 c.img))
    (fun c =>
      let t := bits (cArg0 c.img) 0 12
      let k := s.freeVal (2 ^ 384)
      let u := s.drawn.setCtx t { st := 1, provKey := some (k, Config.pubKey k), busMaster := (s.ctx t).busMaster }
      let u := { u with dict := u.dict.filter (fun e => decide (e.1 / 256 ≠ 0x9000 + t)) }
      ((u.placeCtx t (cArg1 c.img)).getD u).okCmd 4096 ring.val c t)

/-- CTX_RESUME (R355, R357). -/
def execCtxResume (ctx : Fin 4097) (ring : Fin 8) (s : State) : Res :=
  ringCmdChecked s ctx.val ring.val 0x63
    (fun c =>
      let x := s.ctx (aTarget c.img)
      let unplaced := x.groves == 0
      [(!(x.st == 2 || (x.st == 1 && unplaced)), Code.contextState, 0),
       (unplaced && plGroves (cArg1 c.img) != 0 && s.perDie == 0, Code.gradeInvalid, 0)] ++ (if unplaced then s.placeReasons (aTarget c.img) (cArg1 c.img) else []))
    (fun c =>
      let t := aTarget c.img
      let u := s.updCtx t (fun x => { x with st := 1 })
      let u := if (s.ctx t).groves = 0 then (u.placeCtx t (cArg1 c.img)).getD u
        else { u with parts := u.parts.map (fun e =>
          if e.2.members.contains t ∧ e.2.resident = nobody ∧ e.2.toCtx.isNone then (e.1, { e.2 with resident := t, begun := s.now }) else e) }
      u.okCmd 4096 ring.val c 0)

/-- CTX_SUSPEND of a tenant context goes on: a release follows the quiesce (R351, R357). -/
def State.suspendGo (s : State) (ring : Nat) (c : Cmd) : State :=
  let t := aTarget c.img
  let s := s.settle t
  if (s.ctx t).st = 0 ∨ (s.ctx t).st = 4 then s.complete 4096 ring c Code.tornDown 0 0 0
  else if (s.ctx t).st = 2 then
    if bitAt (cFlags c.img) 0 ∧ (s.ctx t).groves ≠ 0 then
      (if s.switching t then s else (s.unplace t).okCmd 4096 ring c 0)
    else s.okCmd 4096 ring c 0
  else s
/-- Launches of the administrative context that hold cores. -/
def State.adminRuns (s : State) : Bool := s.launches.any (fun l => l.ctx == 4096 && !l.cores.isEmpty)
/-- CTX_SUSPEND with ADMT = 1 (R355): its launches quiesce, its placement is released; it stays active, its rings fetching. -/
def State.suspendAdmin (s : State) (ring : Nat) (c : Cmd) : State :=
  if s.adminRuns || s.switching 4096 then s
  else ((if (s.ctx 4096).groves = 0 then s else s.unplace 4096).updCtx 4096 (fun x => { x with quiesceBy := 0 })).okCmd 4096 ring c 0

/-- CTX_SUSPEND (R351, R355, R357). -/
def execCtxSuspend (ctx : Fin 4097) (ring : Fin 8) (s : State) : Res :=
  ringRow s ctx.val ring.val 0x62
    (fun c =>
      let x := s.ctx (aTarget c.img)
      [(if aTarget c.img = 4096 then !(bitAt (cFlags c.img) 0) else x.st != 1 && x.st != 2, Code.contextState, 0)])
    (fun c =>
      let t := aTarget c.img
      let u := if c.stage = 0 then s.updCmd 4096 ring.val (fun c => { c with stage := 1 }) else s
      let first := c.stage == 0
      let c := { c with stage := 1 }
      if t = 4096 then
        (if first then u.updCtx 4096 (fun x => { x with quiesceBy := s.quiesceEnd + 1 }) else u).suspendAdmin ring.val c
      else (if first && (s.ctx t).st == 1 then u.beginQuiesce t else u).suspendGo ring.val c)

/-- Every link that held a context's key rekeys (R375); its packets that are in no flit yet are discarded (Table 10.9). A packet whose first
slots have been sent is sent to its end under its key. -/
def State.dropCtxKeys (s : State) (t : Nat) : State :=
  let mine := fun (k : TxPkt) => k.first && (k.key == t + 1 || (match s.req? k.req with | some r => r.ctx == t && k.req != 0 | none => false))
  let drop := fun (p : Port) => { p with
    ctxKeys := p.ctxKeys.filter (fun k => k != t), rkDue := p.rkDue || p.ctxKeys.contains t, offers := mapErase p.offers t
    txq := p.txq.filter (fun k => !(mine k)) }
  let rest := fun (p : Nat) (x : Port) => if x.txq.any (fun k => !k.first && k.key == t + 1) then s.ctxKey36 p t x.txEp true else x.tail
  { s with ports := s.ports.map (fun e => (e.1, { drop e.2 with tail := rest e.1 e.2 })) }
/-- What a destroyed context held is erased and released (R366 steps 1 to 3): keys, secret and provisioning key, translations, granules,
save areas and images; every link that held its key rekeys (R375). -/
def State.releaseCtx (s : State) (t : Nat) : State :=
  let x := s.ctx t
  let s := if x.groves = 0 then s.dropSaves t else s.unplace t
  let s := s.removeLeaves t 0 (2 ^ 48)
  let s := x.tables.foldl (fun (u : State) e => u.scrubRange e.2 1) s
  let drop := fun (g : Gw) => { g with streams := g.streams.filter (fun f => f.ctx != t)
                                       rstreams := g.rstreams.filter (fun r => r.key / 1048576 != t) }
  let s := (s.dropCtxKeys t).denyWaiting t
  let s := (List.range 4).foldl (fun (u : State) g =>
    ((u.gw g).streams.filter (fun f => f.ctx == t)).foldl (fun (v : State) f => v.closeFrame g f) u) s
  let s := { s with gws := s.gws.map (fun (e : Nat × Gw) => (e.1, drop e.2)) }
  (s.updCtx t (fun x => { x with tables := [], secret := none, provKey := none, binds := [], epochs := [] })).dropTags (fun k => k.ctx == t)
/-- Granules of this device a context held before its release. -/
def State.heldGranules (s : State) (t : Nat) : List Nat :=
  let x := s.ctx t
  x.tables.map Prod.snd ++ (s.saves.filter (fun r => r.1 == t)).flatMap (fun r => r.2.2) ++
    ((s.owner.filter (fun e => e.2.ctx == t && !e.2.adm && (e.2.state == 1 || e.2.state == 2))).map Prod.fst)

/-- CTX_DESTROY (R352, R366, Table 14.11): a forced stop at once, unfetched commands end with TORN_DOWN as they are fetched, then release;
the context stays in state 4 until its last granule is scrubbed. -/
def execCtxDestroy (ctx : Fin 4097) (ring : Fin 8) (s : State) : Res :=
  ringRow s ctx.val ring.val 0x61
    (fun c => [(aTarget c.img == 4096 || (s.ctx (aTarget c.img)).st == 0 || (s.ctx (aTarget c.img)).st == 4, Code.contextState, 0)])
    (fun c =>
      let t := aTarget c.img
      if s.switching t then s
      else
        let u := if c.stage = 0 then
            ((s.updCmd 4096 ring.val (fun c => { c with stage := 1 })).updCtx t (fun x => { x with st := 4 })).forcedStop t Code.tornDown
          else s
        let c := { c with stage := 1 }
        let left := (u.ringsOf t).sq.any (fun e => ctlEn e.2.ctrl && e.2.head != e.2.tail)
        if !(u.quiet t) || left || u.accessing t then u
        else
          let gs := u.heldGranules t
          (((u.releaseCtx t).updCtx t (fun x => { x with scrub := gs })).okCmd 4096 ring.val c 0).freeIfDone t)

/-! Timeouts and resets. -/

/-- Does a command wait where its timeout does not run: for a placement (R357), or switched out (R359)? -/
def State.stalled (s : State) (ctx : Nat) (c : Cmd) : Bool :=
  if (s.ctx ctx).groves = 0 then needsCores (cOpc c.img) && c.aux == 0 && c.stage ≤ 1 else !(s.onCores ctx)

/-- Timeout of a command in ms: WAIT has its own, where it is not 0 (R340, R346). -/
def Cmd.timeout (c : Cmd) : Nat := if cOpc c.img = 0x03 ∧ bits (cArg0 c.img) 32 32 ≠ 0 then bits (cArg0 c.img) 32 32 else c.limit

/-- COMMAND_TIMEOUT_EXPIRY (R346, R350): for every command but LAUNCH, its timeout after its last progress, pauses not counted. -/
def execCommandTimeoutExpiry (ctx : Fin 4097) (ring : Fin 8) (s : State) : Res :=
  if !s.running then .next s
  else match (s.ring ctx.val ring.val).cur with
  | none => .next s
  | some c =>
    if cOpc c.img = 0x10 ∨ c.tearing ∨ s.stalled ctx.val c ∨ s.past c.prog (ms * c.timeout) = false then .next s
    else .next (s.stopCmd ctx.val ring.val c Code.commandTimeout)

/-- QUIESCE_TIMEOUT_EXPIRY (R349, R351 step 3, R352): a quiesce, or a teardown, has exceeded QUIESCE_TIMEOUT. -/
def execQuiesceTimeoutExpiry (ctx : Fin 4097) (s : State) : Res :=
  let c := ctx.val
  let x := s.ctx c
  let due := x.quiesceBy != 0 && decide (x.quiesceBy ≤ s.now + 1)
  if !s.running then .next s
  else if (x.st == 3 && due) || s.launches.any (fun l => l.ctx == c && l.fallen && decide (l.fellBy ≤ s.now)) then
    .next ((if s.quiet c then s else s.forcedStop c Code.quiesceForced).settle c)
  else if c = 4096 ∧ due ∧ s.adminRuns then
    let s := (s.count (dkey 0x7080 0x04)).markForced 4096
    .next ((s.launches.filter (fun l => l.ctx == 4096 && !l.cores.isEmpty)).foldl (fun (t : State) l =>
      t.failLaunch l.id Code.quiesceForced 0 0 l.code) s)
  else .next s

/-- GROVE_RESET (R352): a grove on which a launch still holds cores 1 ms after its forced stop is reset; a core that fails to reset is fenced, and its work
ends with CORE_FENCED. -/
def execGroveReset (grove : Fin 72) (failed : List (Fin 576)) (s : State) : Res :=
  let cs := (List.range 8).map (fun k => 8 * grove.val + k)
  let late := fun (l : Launch) => l.fallen && (l.forced.map (fun t => s.past t ms)).getD false
  let hit := s.launches.filter (fun l => late l && l.cores.any cs.contains)
  if !s.running || hit.isEmpty then .next s
  else
    let s := cs.foldl (fun (t : State) n => t.dropCore n) s
    let s := (s.count (dkey 0x7080 0x05)).raise Ev.groveReset (s.groveDie grove.val)
    let bad := cs.filter (fun n => failed.any (fun f => f.val == n))
    .next (bad.foldl (fun (t : State) n =>
      match t.physOf n with
      | some p => (hit.foldl (fun (u : State) l => u.updLaunch l.id (fun l =>
          if l.cores.contains n then { l with st := Code.coreFenced } else l)) t).fenceCore p 3
      | none => t) s)

/-- FLR (R351, Table 14.6): the function's context quiesces at once and is left suspended. -/
def execFlr (vf : Fin 4096) (s : State) : Res :=
  let c := vf.val
  if !s.running then .next s
  else
    let s := s.updCtx c (fun x => { x with busMaster := false, tdi := if x.tdi = 1 ∨ x.tdi = 2 then 3 else x.tdi })
    let st := (s.ctx c).st
    if st = 1 ∨ st = 3 then .next (((if st = 1 then s.beginQuiesce c else s).forcedStop c Code.quiesceForced).settle c) else .next s

/-! TDISP (Table 14.6). -/

/-- LOCK_INTERFACE: over the SPDM session (R378), from CONFIG_UNLOCKED. -/
def execLockInterface (vf : Fin 4096) (stream : Nat) (s : State) : Res :=
  if s.running && s.mgmt.spdm && (s.ctx vf.val).tdi == 0 && s.ctxLive vf.val then
    .next (s.updCtx vf.val (fun x => { x with tdi := 1, stream := stream }))
  else .next s
/-- START_INTERFACE: a locked TDI runs. -/
def execStartInterface (vf : Fin 4096) (s : State) : Res :=
  if s.running && s.mgmt.spdm && (s.ctx vf.val).tdi == 1 then .next (s.updCtx vf.val (fun x => { x with tdi := 2 })) else .next s
/-- STOP_INTERFACE: from any state; pages released and scrubbed, keys, secret and measurement erased, DEBUGGED cleared. -/
def execStopInterface (vf : Fin 4096) (s : State) : Res :=
  let c := vf.val
  if !(s.running && s.mgmt.spdm && s.ctxLive c) then .next s
  else
    let gs := (s.ctx c).tables
    let s := (((gs.foldl (fun (u : State) e => u.scrubRange e.2 1) (s.removeLeaves c 0 (2 ^ 48))).dropCtxKeys c)).dropTags (fun k => k.ctx == c)
    .next (s.updCtx c (fun x => { x with
      tdi := 0, stream := 0, tables := [], secret := none, provKey := none, mctx := 0, codeCount := 0, locked := [], measured := []
      debugged := false, binds := [] }))
/-- TDI_ERROR: a TLP outside the bound stream; the context quiesces (R351). -/
def execTdiError (vf : Fin 4096) (s : State) : Res :=
  let c := vf.val
  if !s.running || ((s.ctx c).tdi != 1 && (s.ctx c).tdi != 2) then .next s
  else if (s.ctx c).st = 1 then .next ((s.beginQuiesce c).settle c)
  else .next (s.updCtx c (fun x => { x with tdi := 3 }))

end Sys2Proof.Machine
end

