-- ==== Sys2Proof/Machine/Mapout.lean ====
section
/-!
DEFINITION. Machine/Mapout.lean: a channel map-out during operation (R224, R225; log 72). HBM contents are kept by offset, so a granule
whose place changes keeps its bytes; what its copy does is the read through the code.
-/
namespace Sys2Proof.Machine

/-- The lowest FREE aligned range of n granules below a limit: its first granule. Structural on fuel. -/
def State.lowFree (s : State) (n limit : Nat) : Nat → Nat → Option Nat
  | 0, _ => none
  | f + 1, g => if g + n > limit then none else if s.allFree g n then some g else State.lowFree s n limit f (g + n)

/-- Bytes and side-band words of n granules move. -/
def State.moveBytes (s : State) (g h n : Nat) : State :=
  let a := g * granuleBytes
  let z := n * granuleBytes
  let b := h * granuleBytes
  let inR := fun (e : Nat × Byte) => decide (a ≤ e.1 ∧ e.1 < a + z)
  let moved := (s.mem.filter inR).map (fun e => (b + (e.1 - a), e.2))
  let rest := s.mem.filter (fun e => !(inR e))
  let sideIn := fun (e : Nat × Nat) => decide (a / 64 ≤ e.1 ∧ e.1 < (a + z) / 64)
  { s with mem := cellsPut rest moved
           side := (s.side.filter sideIn).foldl (fun m e => mapInsert m (b / 64 + (e.1 - a / 64)) e.2) (s.side.filter (fun e => !(sideIn e))) }

/-- Where an address goes when n granules move. -/
def movedTo (g h n o : Nat) : Nat :=
  if g * granuleBytes ≤ o ∧ o < (g + n) * granuleBytes then h * granuleBytes + (o - g * granuleBytes) else o
/-- Requests that wait for, and an exchange's work area in, n granules that have moved follow them; the old lines leave the core caches. -/
def State.followMove (s : State) (g h n : Nat) : State :=
  let dest := movedTo g h n
  let glob := fun (a : Nat) => if s.isLocal a then a - gOffset a + dest (gOffset a) else a
  let follow := fun (r : Req) => if r.ph == .done then r else
    { r with
      addr := if r.win then r.addr else glob r.addr
      op := match r.op with
        | .gath ss => .gath (ss.map (fun a => (a.1, glob a.2)))
        | op => op
      walk := r.walk.map dest
      adm := if r.win then r.adm else r.adm.map dest
      got := if r.win then r.got else r.got.foldl (fun m e => mapInsert m (dest e.1) e.2) [] }
  { s with
    reqs := s.reqs.map follow
    exch := s.exch.map (fun e => (e.1, { e.2 with work := dest e.2.work }))
    caches := (s.caches.map (fun e => (e.1, e.2.filter (fun l => glob l.addr == l.addr)))).filter (fun e => !e.2.isEmpty) }

/-- The listed blocks of some offsets are read through the code before their bytes go elsewhere: one that cannot be read is poisoned (R224,
Table 08.5). -/
def State.copyRead (s : State) (p : Nat → Bool) : State :=
  (s.side.filter (fun e => p (64 * e.1))).foldl (fun (t : State) e => (t.eccBlock e.1).1) s

/-- One range moves: read through the code, then bytes, ownership, those that follow. -/
def State.moveRange (s : State) (g h n : Nat) : State :=
  let os := (List.range n).map (fun i => mapGet ({} : Owner) s.owner (g + i))
  let s := s.copyRead (fun o => decide (g * granuleBytes ≤ o ∧ o < (g + n) * granuleBytes))
  let s := (s.moveBytes g h n).followMove g h n
  let s := (List.zip (List.range n) os).foldl (fun (t : State) e => t.setOwner (h + e.1) e.2) s
  s.ownRange g n {}

/-! Step 3: what leaves the removed rows. -/

/-- Tables in the removed rows: context, key, granule. -/
def State.tablesIn (s : State) (lim : Nat) : List (Nat × Nat × Nat) :=
  s.ctxs.flatMap (fun e => (e.2.tables.filter (fun t => decide (lim ≤ t.2 ∧ t.2 < 33554432))).map (fun t => (e.1, t.1, t.2)))
/-- A table moves: the pointer to it is written anew, and leaves the translation caches. none: it finds no range. -/
def State.moveTable (s : State) (lim : Nat) (p : Nat × Nat × Nat) : Option State :=
  (s.lowFree 1 lim 33554432 0).map (fun h =>
    let s := (s.moveRange p.2.2 h 1).updCtx p.1 (fun x => { x with tables := x.tables.map (fun t => if t.1 = p.2.1 then (t.1, h) else t) })
    let l := p.2.1 / 2 ^ 40
    if l = 1 then s else s.setEntry p.1 (l - 1) (p.2.1 % 2 ^ 40 * 2 ^ lvShift (l - 1)) (s.pointerWord h))

/-- The firmware's areas leave the removed rows whole where they find a range, else granule by granule; what finds none stays (log 83). -/
def State.moveAreas (s : State) (lim : Nat) : State :=
  (s.dev.fw.filter (fun r => decide (lim < r.1 + r.2 ∧ r.1 < 33554432))).foldl (fun (t : State) r =>
    let out := fun (t : State) (new : List (Nat × Nat)) => { t with dev := { t.dev with fw := t.dev.fw.flatMap (fun q => if q = r then new else [q]) } }
    match t.lowFree r.2 lim 33554432 0 with
    | some h => out (t.moveRange r.1 h r.2) [(h, r.2)]
    | none =>
      let (u, new) := (List.range r.2).foldl (fun (a : State × List (Nat × Nat)) i =>
        match a.1.lowFree 1 lim 33554432 0 with
        | some h =>
          let v := a.1.moveRange (r.1 + i) h 1
          ({ v with dev := { v.dev with fw := v.dev.fw ++ [(h, 1)] } }, a.2 ++ [(h, 1)])
        | none => (a.1, a.2 ++ [(r.1 + i, 1)])) (t, [])
      out { u with dev := { u.dev with fw := u.dev.fw.filter (fun q => !(new.contains q)) } } new) s

/-- Accepted pages of this device's HBM that reach into the removed rows: context, first 64 KiB page, leaf. -/
def State.pagesIn (s : State) (lim : Nat) : List (Nat × Nat × Leaf) :=
  s.ctxs.flatMap (fun e => (e.2.leaves.filter (fun l => l.2.acc && s.isLocal l.2.target && decide (gOffset l.2.target < 2 ^ 41 ∧
    lim * granuleBytes < gOffset l.2.target + leafBytes l.2.size))).map (fun l => (e.1, l.1, l.2)))
/-- Is a page Alder state of a pinned job: of the moments or factors that a step under way names (log 72)? -/
def State.pinned (s : State) (p : Nat × Nat × Leaf) : Bool :=
  let lo := 65536 * p.2.1
  let hi := lo + leafBytes p.2.2.size
  s.alder.steps.any (fun o => o.ctx == p.1 &&
    [(oM o.blk, m8Bytes (oCount o.blk)), (oV o.blk, if oRule o.blk = 3 then 4 * oRows o.blk else m8Bytes (oCount o.blk)),
     (oF o.blk, 4 * oCols o.blk)].any (fun r => r.1 != 0 && decide (r.1 < hi ∧ lo < r.1 + r.2)))

/-- A page moves to the lowest free aligned range of its size below the removed rows; its leaf follows. none: there is no such range. -/
def State.movePage (s : State) (lim : Nat) (p : Nat × Nat × Leaf) : Option State :=
  let n := leafBytes p.2.2.size / granuleBytes
  (s.lowFree n lim (33554432 / n) 0).map (fun h =>
    let new := { p.2.2 with target := p.2.2.target - gOffset p.2.2.target + h * granuleBytes }
    let s := (s.moveRange (gOffset p.2.2.target / granuleBytes) h n).updCtx p.1 (fun x => { x with
      leaves := x.leaves.map (fun l => if l.1 = p.2.1 then (l.1, new) else l) })
    s.setEntry p.1 (leafLevel new.size) (65536 * p.2.1) (leafWord new))
/-- A page that finds no range is lost (R225). -/
def State.losePage (s : State) (slot : Nat) (p : Nat × Nat × Leaf) : State :=
  let n := leafBytes p.2.2.size / granuleBytes
  let s := (s.ownRange (gOffset p.2.2.target / granuleBytes) n {}).updCtx p.1 (fun x => { x with leaves := mapErase x.leaves p.2.1 })
  let s := s.setEntry p.1 (leafLevel p.2.2.size) (65536 * p.2.1) 0
  ((s.count (dkey 0x3010 0x06)).count (ctxKey p.1 0x43)).raise Ev.pageLost (32 * (slot % 16) + slot / 16) 0 (65536 * p.2.1) [p.1]

/-- The context of a protected page that finds no range is torn down: its work fails with MEMORY_LOST, and once it runs nothing any more it is
released as a destroyed context is; the administrative context stays, its pages gone (R225, R366; log 83). -/
def State.tearDown (s : State) (c : Nat) : State :=
  let s := if (s.ctx c).st = 4 ∨ c = 4096 then s else s.updCtx c (fun x => { x with st := 4 })
  let s := if (s.ringsOf c).sq.any (fun e => (e.2.cur.map (fun k => !k.tearing)).getD false) then s.forcedStop c Code.memoryLost else s
  if !(s.quiet c) || s.accessing c then s
  else
    let gs := s.heldGranules c
    let s := s.releaseCtx c
    if c = 4096 then s else (s.updCtx c (fun x => { x with scrub := gs })).freeIfDone c

/-- Protected pages move first: tables, the firmware's areas, pinned Alder state. Answers the contexts whose protected page finds no range. -/
def State.moveProtected (s : State) (lim : Nat) : State × List Nat :=
  let (s, lost) := (s.tablesIn lim).foldl (fun (a : State × List Nat) p =>
    match a.1.moveTable lim p with
    | some t => (t, a.2)
    | none => (a.1, a.2 ++ [p.1])) (s, [])
  let s := s.moveAreas lim
  ((s.pagesIn lim).filter s.pinned).foldl (fun (a : State × List Nat) p =>
    match a.1.movePage lim p with
    | some t => (t, a.2)
    | none => (a.1, a.2 ++ [p.1])) (s, lost)

/-! The steps. -/

/-- First removed offset of the map-out that runs. -/
def State.mapTop (s : State) : Nat := s.hbmBacked - 4 * 2 ^ 30
/-- The places after it. -/
def State.withSlot (s : State) (slot : Nat) : State := s.setDv (dkey 0x3010 0x03) (s.outSet ||| 2 ^ slot)
def State.mapStep (s : State) (n : Nat) : State := { s with hbm := { s.hbm with mapout := { s.hbm.mapout with step := n } } }

/-- Step 3: the pages leave the removed rows; it waits while a context that lost a protected page is torn down. -/
def State.mapMove (s : State) (slot : Nat) : State :=
  let lim := s.mapTop / granuleBytes
  let (s, lost) := s.moveProtected lim
  if !lost.isEmpty then (sortNat lost).foldl (fun (t : State) c => t.tearDown c) s
  else ((s.pagesIn lim).foldl (fun (t : State) p => (t.movePage lim p).getD (t.losePage slot p)) s).mapStep 4

/-- Steps 4 to 6: the granules whose place changes are read through the code, the map comes into force, what was left in the removed rows
is gone, and the requests that wait are released. -/
def State.mapFinish (s : State) (slot : Nat) : State :=
  let top := s.mapTop
  let lim := top / granuleBytes
  let new := s.withSlot slot
  let freed := (s.ctxs.filter (fun e => e.2.scrub.any (fun g => decide (lim ≤ g ∧ g < 33554432)))).map Prod.fst
  let s := s.copyRead (fun o => decide (o < top) && new.place o != s.place o)
  let s := { s with
    mem := s.mem.filter (fun (e : Host.Cell) => decide (e.1 < top ∨ 2 ^ 41 ≤ e.1))
    side := s.side.filter (fun (e : Nat × Nat) => decide (64 * e.1 < top))
    owner := s.owner.filter (fun (e : Nat × Owner) => decide (e.1 < lim ∨ 33554432 ≤ e.1))
    ctxs := s.ctxs.map (fun (e : Nat × Ctx) => (e.1, { e.2 with scrub := e.2.scrub.filter (fun g => decide (g < lim ∨ 33554432 ≤ g)) })) }
  let s := (s.withSlot slot)
  let s := freed.foldl (fun (t : State) c => t.freeIfDone c) s
  let rest := s.hbm.mapout.queue.drop 1
  let s := { s with hbm := { s.hbm with mapout := { queue := rest, step := if rest.isEmpty then 0 else 1 } } }
  (s.raise Ev.channelMappedOut (32 * (slot % 16) + slot / 16)).readmit

/-- CHANNEL_MAPOUT (R224): the first slot of the queue goes one step on, as MAPOUT_STATE counts them: 1 what the controllers had admitted is
served; 2 the map is committed to the journal; 3 pages leave the removed rows; 4 granules are copied, and the map comes into force. -/
def execChannelMapout (s : State) : Res :=
  match s.hbm.mapout.queue with
  | [] => .next s
  | slot :: _ =>
    let key := dkey 0x3010 0x03
    if !s.running || s.fencedFlash || s.stopped.2.contains (slot % 16) then .next s
    else match s.hbm.mapout.step with
    | 1 =>
      if s.reqs.any (fun r => s.admittedTo r (fun o => decide (o ≥ s.mapTop) || s.chanAt o == 32 * (slot % 16) + slot / 16)) then .next s
      else .next ((s.ownWrite { key := key, val := s.outSet ||| 2 ^ slot, old := s.outSet, began := s.now, eff := 3, keep := true }).mapStep 2)
    | 2 => .next (if s.mgmt.own.any (fun w => w.key == key) then s else s.mapStep 3)
    | 3 => .next (s.mapMove slot)
    | _ => .next (s.mapFinish slot)

end Sys2Proof.Machine
end

