-- ==== Sys2Proof/Machine/Flit.lean ====
section
/-!
DEFINITION. Machine/Flit.lean: flits as they are received and sent: check, decryption, sequence, replay, credits and packets (R256 to
R271), and the events of bring-up, key exchange and rekey (R272 to R276).
-/
namespace Sys2Proof.Machine

/-! Acknowledgement and replay. -/

/-- What an ACK names: so many flits more, one released before, or one never sent (R265). -/
inductive AckKind where
  | new (d : Nat) | old | never
  deriving DecidableEq, Repr
def Port.ackKind (x : Port) (ack : Nat) (ackv : Bool) : AckKind :=
  if !ackv then (if x.ackX = 0 then .new 0 else .old)
  else
    let d := (ack + 4097 - x.ackX % 4096) % 4096
    if d ≤ x.replay.length then (if d = 0 ∧ x.ackX = 0 then .never else .new d)
    else if 4096 - d ≤ 2048 ∧ 4096 - d < x.ackX then .old else .never

/-- An ACK moves on: what it covers leaves the replay buffer, and a key whose last flit it covers is erased (R266, R268, R275). -/
def Port.acked (x : Port) (d now : Nat) : Port :=
  if d = 0 then x
  else
    let y := { x with
      replay := x.replay.drop d, ackX := x.ackX + d, ackAt := now, repRun := 0
      cursor := x.cursor.bind (fun c => if d ≤ c ∧ c - d < x.replay.length - d then some (c - d)
                                        else if c < d ∧ d < x.replay.length then some 0 else none) }
    if y.ackX ≥ y.oldLast then { y with txKeys := y.txKeys.filter (fun e => e.1 == y.txEp || some e.1 == y.newEp) } else y

/-- A replay starts (R267, R268). -/
def State.startReplay (s : State) (p ack : Nat) : State :=
  let s := s.count (dkey (0x5100 + p) 0x06)
  let s := s.updPort p (fun x => { x with cursor := some 0, lastRep := some (ack, s.now), repRun := x.repRun + 1 })
  if (s.port p).repRun ≥ s.dv (dkey 0x5010 0x03) then s.linkDown p .replayLimit else s

/-- ACK and NAK of an accepted flit (R265, R267). -/
def State.ackIn (s : State) (p : Nat) (f : BitVec 2048) : State :=
  let ack := fieldOf f 100 12
  let ackv := f.getLsbD 99
  let nak := f.getLsbD 98
  let x := s.port p
  match x.ackKind ack ackv with
  | .never => s.linkDown p .protocol
  | .old => if nak then s.linkDown p .protocol else s
  | .new d =>
    let s := s.updPort p (fun x => x.acked d s.now)
    let a := if ackv then ack else 4096
    let again := match x.lastRep with
      | some (b, t) => b == a && decide (s.now < t + 1000 * s.dv (dkey 0x5010 0x01))
      | none => false
    if nak && !again && !(s.port p).replay.isEmpty then s.startReplay p a else s

/-! Received slots. -/

/-- Slots of a packet by its first slot: none for an invalid PTYPE, one that does not belong to the channel, or a LEN that disagrees with
Table 11.1 (R283). -/
def pktLen (vc h : Nat) : Option Nat :=
  let len := bits h 119 5
  let ok := fun (c n : Nat) => if vc = c ∧ len = n then some n else none
  let good := bits h 48 16 == 0
  if vc = 3 then (if bits h 112 8 = 0 then none else some (bits h 112 8))
  else match bits h 124 4 with
  | 0x0 => ok 0 1
  | 0x1 => ok 0 (1 + ceilDiv (bits h 45 8 + 1) 16)
  | 0x2 => ok 0 6
  | 0x3 => ok 0 2
  | 0x4 => ok 0 2
  | 0x5 => ok 2 2
  | 0x8 => if good then (if vc = 1 ∧ 2 ≤ len ∧ len ≤ 17 then some len else none) else ok 1 1
  | 0x9 => ok 1 1
  | 0xA => ok 1 (if good then 2 else 1)
  | 0xB => ok 1 1
  | _ => none

/-- A packet is complete: one for another device is discarded and counted (R278). -/
def State.rxPacket (s : State) (p : Nat) (k : RxPkt) : State :=
  if k.vc ≠ 3 ∧ bits (k.slots.headD 0) 113 6 ≠ s.dev.deviceId then (s.count (dkey 0x5010 0x08)).owe p k.vc k.slots.length
  else s.updPort p (fun x => { x with rx := x.rx ++ [k] })

/-- One received slot of a channel (R259, R270). -/
def State.rxSlot (s : State) (p key vc : Nat) (sop : Bool) (v : Nat) : State :=
  let x := s.port p
  if !x.active then s
  else if mapGet 0 x.held vc ≥ bufSlots vc then s.linkDown p .protocol
  else
    let s := s.updPort p (fun x => { x with held := mapUpd 0 x.held vc (fun n => n + 1) })
    match sop, mapFind x.rxPart vc with
    | true, none =>
      (match pktLen vc v with
       | none => s.linkDown p .protocol
       | some n =>
         let k : RxPkt := { came := s.now, vc := vc, key := key, slots := [v], left := n - 1 }
         if n = 1 then s.rxPacket p k else s.updPort p (fun x => { x with rxPart := mapInsert x.rxPart vc k }))
    | false, some k =>
      if k.key ≠ key then s.linkDown p .protocol
      else
        let k := { k with slots := k.slots ++ [v], left := k.left - 1 }
        if k.left = 0 then (s.updPort p (fun x => { x with rxPart := mapErase x.rxPart vc })).rxPacket p k
        else s.updPort p (fun x => { x with rxPart := mapInsert (mapErase x.rxPart vc) vc k })
    | _, _ => s.linkDown p .protocol

/-- Credits come back; more than the advertised total is a protocol error (R270). -/
def State.creditsIn (s : State) (p credit : Nat) : State :=
  let x := s.port p
  let new := (List.range 4).map (fun v => (v, mapGet 0 x.credits v + bits credit (8 * v) 8))
  if new.any (fun e => decide (e.2 > initCredit (x.peerInit.getD 0) e.1)) then s.linkDown p .protocol
  else s.updPort p (fun x => { x with credits := new })

/-! The receiver. -/

/-- A flit fails its CRC or lies in an uncorrectable codeword (R256, R261): counted; the eighth in a row loses flit lock. -/
def State.flitFail (s : State) (p : Nat) (data : Bool) : State :=
  (s.count (dkey (0x5100 + p) 0x03)).updPort p (fun x => { x with
    bad := x.bad + 1, good := 0, nak := x.nak || (data && x.st == 4)
    lock := x.lock && decide (x.bad + 1 < 8), lostAt := if x.lock ∧ x.bad + 1 ≥ 8 then s.now else x.lostAt })

/-- A flit passes: the eighth in a row gains flit lock, which during an attempt begins the INIT exchange (R256, R272). -/
def State.flitGood (s : State) (p : Nat) : State :=
  let s := s.updPort p (fun x => { x with bad := 0, good := x.good + 1, lastRx := s.now })
  let x := s.port p
  if x.lock ∨ x.good < 8 then s
  else
    let s := s.updPort p (fun x => { x with lock := true })
    if x.st = 1 then s.beginInit p else s

/-- A received flit of a type: the port's checks, then its body. A flit delivers nothing while its port hunts for flit lock. How many
codewords of the line the decoder has corrected meanwhile is a free value. -/
def flitIn (s : State) (port : Fin 18) (f : BitVec 2048) (fecOk : Bool) (typ : Nat) (body : State → State) : Res :=
  let p := port.val
  let x := s.port p
  let done := fun (t : State) => .next (t.countFree (dkey (0x5100 + p) 0x01))
  if !s.running || x.ether || !x.pmd then .next s
  else if !fecOk then done ((s.count (dkey (0x5100 + p) 0x02)).flitFail p (typ == 0))
  else if !(flitCrcOk f) || decide (flitType f > 3) then done (s.flitFail p (typ == 0))
  else if flitType f ≠ typ then .next s
  else
    let t := s.flitGood p
    done (if x.lock then body t else t)

/-- Key, IV and additional data of a DATA flit (R262). -/
def flitIv (key : BitVec 288) (x : Nat) : BitVec 96 := BitVec.ofNat 96 (bits key.toNat 256 32 + x % 2 ^ 64 * 2 ^ 32)
def flitKey (key : BitVec 288) : BitVec 256 := BitVec.ofNat 256 key.toNat
def flitAad (f : BitVec 2048) : List Byte := leBytes 16 (fieldOf f 0 128)

/-- The extended sequence number nearest the expected one (R264). -/
def extendSeq (next seq : Nat) : Option Nat :=
  let d := (seq + 4096 - next % 4096) % 4096
  if d < 2048 then some (next + d) else if next + d ≥ 4096 then some (next + d - 4096) else none

/-- The plaintext of a DATA flit; none when its tag fails or its key is not there (R262, R263). -/
def State.openFlit (s : State) (p : Nat) (f : BitVec 2048) : Option Nat :=
  let x := s.port p
  let e := fieldOf f 96 2
  let slot := fieldOf f 83 12
  let key := if f.getLsbD 95 then (if x.ctxKeys.contains slot && (mapFind x.rxKeys e).isSome then s.ctxKey36 p slot e false else none)
             else mapFind x.rxKeys e
  match key, extendSeq x.rxX (fieldOf f 112 12) with
  | some k, some n =>
    (Config.gcmOpen (flitKey k) (flitIv k n) (flitAad f) (leBytes 224 (fieldOf f 128 1792) ++ leBytes 12 (fieldOf f 1920 96)) 96).map leNat
  | _, _ => none

/-- A tag failure (R263). -/
def State.tagFail (s : State) (p : Nat) : State :=
  let s := s.count (dkey (0x5100 + p) 0x04)
  let s := s.updPort p (fun x => { x with nak := true, tagTimes := x.tagTimes.filter (fun t => decide (s.now < t + 1000000000)) ++ [s.now] })
  if (s.port p).tagTimes.length ≥ s.dv (dkey 0x5010 0x07) then (s.linkDown p .tagFails).raise Ev.linkAuth p else s

/-- Does a flit use slots beyond NSLOT, or more than 14 (R259)? -/
def badSlots (f : BitVec 2048) : Bool :=
  let n := fieldOf f 79 4
  decide (n > 14) || decide (fieldOf f 51 28 ≥ 4 ^ n) || decide (fieldOf f 37 14 ≥ 2 ^ n)

/-- An accepted DATA flit: its epoch, ACK, credits and slots. -/
def State.acceptFlit (s : State) (p : Nat) (f : BitVec 2048) (plain : Nat) : State :=
  let e := fieldOf f 96 2
  let s := s.updPort p (fun x => { x with
    rxX := x.rxX + 1, nak := false, flitsRx := x.flitsRx + 1, rxEp := e
    rxKeys := if e = x.rxEp then x.rxKeys else mapErase x.rxKeys x.rxEp
    salts := if e = x.rxEp then x.salts else x.salts.filter (fun k => k.1 == e || (mapFind x.txKeys k.1).isSome) })
  if badSlots f then s.linkDown p .protocol
  else
    let s := s.ackIn p f
    let s := if (s.port p).active then s.creditsIn p (fieldOf f 0 32) else s
    let key := if f.getLsbD 95 then fieldOf f 83 12 + 1 else 0
    (List.range (fieldOf f 79 4)).foldl (fun (t : State) k =>
      t.rxSlot p key (fieldOf f (51 + 2 * k) 2) (f.getLsbD (37 + k)) (bits plain (128 * k) 128)) s

/-- A rail of the port's I/O die is at warning: NULL flits only go out, DATA flits that come in are discarded (Table 16.5). -/
def State.portLow (s : State) (p : Nat) : Bool := (if p < 9 then [33, 35, 37] else [34, 36, 37]).any s.railLow

/-- DATA_FLIT (R260 to R265): tag, then sequence; everything but the expected flit is discarded with a NAK. -/
def execDataFlit (port : Fin 18) (flit : BitVec 2048) (fecOk : Bool) (s : State) : Res :=
  flitIn s port flit fecOk 0 (fun s =>
    let p := port.val
    if (s.port p).st ≠ 4 ∨ s.portLow p = true then s
    else match s.openFlit p flit with
      | none => s.tagFail p
      | some plain =>
        if fieldOf flit 112 12 ≠ (s.port p).rxX % 4096 then
          (s.count (dkey (0x5100 + p) 0x05)).updPort p (fun x => { x with nak := true })
        else s.acceptFlit p flit plain)

/-- INIT_FLIT (R272, R273, R276). -/
def execInitFlit (port : Fin 18) (flit : BitVec 2048) (fecOk : Bool) (s : State) : Res :=
  flitIn s port flit fecOk 1 (fun s =>
    let p := port.val
    let v := fieldOf flit 128 1792
    let x := s.port p
    match x.st with
    | 2 =>
      if s.initBad p v then s.attemptFail p
      else
        let s := s.movePort p (fun x => { x with peerInit := some v, ackvSeen := x.ackvSeen || flit.getLsbD 99 })
        if (s.port p).ackvSeen then (s.sendInit p).beginKeyx p else s
    | 3 => if x.peerInit = some v then s.sendInit p else s.attemptFail p
    | 4 => s.linkDown p .init
    | _ => s)

/-- KEYX_FLIT (R274): one fragment of a message. -/
def execKeyxFlit (port : Fin 18) (flit : BitVec 2048) (fecOk : Bool) (s : State) : Res :=
  flitIn s port flit fecOk 2 (fun s =>
    let p := port.val
    let by' := fun (k n : Nat) => fieldOf flit (128 + 8 * k) (8 * n)
    let len := by' 3 2
    if (s.port p).st ≠ 3 ∨ by' 0 1 = 0 ∨ by' 0 1 > 3 ∨ by' 1 1 ≥ by' 2 1 ∨ len > 200 then s
    else
      let frag := (by' 0 1, by' 1 1, by' 2 1, leBytes len (by' 5 200))
      s.updPort p (fun x => { x with frags := x.frags.filter (fun f => !(f.1 == frag.1 && f.2.1 == frag.2.1)) ++ [frag] }))

/-- NULL_FLIT (R258, R265). -/
def execNullFlit (port : Fin 18) (flit : BitVec 2048) (fecOk : Bool) (s : State) : Res :=
  flitIn s port flit fecOk 3 (fun s => if (s.port port.val).st = 4 then s.ackIn port.val flit else s)

/-! The sender. -/

/-- A slot placed in a flit: channel, first of its packet, contents. -/
structure Placed where
  vc  : Nat
  sop : Bool
  v   : Nat
  req : Nat := 0
  deriving DecidableEq, Repr

/-- The next slot: of the first channel in the order 3, 1, 2, 0 that has a credit and whose oldest packet travels under the flit's key
(R259, R271). -/
def Port.nextSlot (x : Port) (key : Option Nat) : Option (TxPkt × Nat) :=
  [3, 1, 2, 0].findSome? (fun vc =>
    match x.txq.find? (fun k => k.vc == vc) with
    | some k => if mapGet 0 x.credits vc ≠ 0 ∧ (key = none ∨ key = some k.key) then (k.slots.head?).map (fun v => (k, v)) else none
    | none => none)

/-- One slot leaves the oldest packet of a channel. -/
def takeSlot (vc : Nat) : List TxPkt → List TxPkt
  | [] => []
  | k :: r => if k.vc = vc then (if k.slots.length ≤ 1 then r else { k with slots := k.slots.drop 1, first := false } :: r)
              else k :: takeSlot vc r

/-- Fills up to n slots of a flit (R271). -/
def fillSlots : Nat → Port → Option Nat → List Placed → Port × Option Nat × List Placed
  | 0, x, key, out => (x, key, out)
  | n + 1, x, key, out =>
    match x.nextSlot key with
    | none => (x, key, out)
    | some (k, v) =>
      fillSlots n { x with txq := takeSlot k.vc x.txq, credits := mapUpd 0 x.credits k.vc (fun c => c - 1) } (some k.key)
        (out ++ [{ vc := k.vc, sop := k.first, v := v, req := if k.first then k.req else 0 }])

/-- Returns that the next flit carries: at most 255 a channel (Table 10.3). -/
def Port.returns (x : Port) : List (Nat × Nat) := (List.range 4).map (fun v => (v, min 255 (mapGet 0 x.owed v)))

/-- The transmit key changes at the first new flit after both FINISHes, none of ours waiting (R275). -/
def Port.switchKey (x : Port) : Port :=
  match x.newEp with
  | some e => if x.txq.any (fun k => k.vc == 3) then x else { x with txEp := e, oldLast := x.txX, newEp := none }
  | none => x

/-- A new DATA flit (R258, R262, R264, R266): its slots, its key, its place in the replay buffer. -/
def State.newFlit (s : State) (p : Nat) : State :=
  let x := (s.port p).switchKey
  let (y, key, out) := fillSlots 14 x none []
  let k := key.getD 0
  let key36 := if k = 0 then mapFind x.txKeys x.txEp else (s.ctxKey36 p (k - 1) x.txEp true).orElse (fun _ => x.tail)
  match key36 with
  | none => s
  | some kk =>
    let (ack, ackv) := x.ackField
    let ret := x.returns
    let at' := List.zip (List.range out.length) out
    let rest := (if k = 0 then 0 else 2 ^ 95 + (k - 1) * 2 ^ 83) + out.length * 2 ^ 79 +
      at'.foldl (fun a e => a + e.2.vc * 2 ^ (51 + 2 * e.1) + (if e.2.sop then 2 ^ (37 + e.1) else 0)) 0 +
      ret.foldl (fun a e => a + e.2 * 2 ^ (8 * e.1)) 0
    let h := flitHeader 0 x.txX ack ackv x.nak x.txEp rest
    let (c, tag) := Config.gcmSeal (flitKey kk) (flitIv kk x.txX) (leBytes 16 h) (out.flatMap (fun o => leBytes 16 o.v) ++
      List.replicate (224 - 16 * out.length) 0)
    let f := sealFlit h (leNat c) tag.toNat
    let sub := fun (m : Map Nat) => ret.foldl (fun m e => mapUpd 0 m e.1 (fun n => n - e.2)) m
    let s := s.setPort p { y with
      tail := if y.txq.any (fun q => !q.first && q.key == k) then x.tail else none
      txX := x.txX + 1, flits := x.flits + 1, replay := x.replay ++ [f], owed := sub y.owed, held := sub y.held
      ackAt := if x.replay.isEmpty then s.now else x.ackAt }
    let s := out.foldl (fun (t : State) o => if o.req = 0 then t else t.updReq o.req (fun r => { r with since := t.now, limit := t.dv (dkey 0x5030 0x01) })) s
    ((s.bump (dkey (0x5100 + p) 0x08) 1).bump (dkey (0x5100 + p) 0x09) out.length).emitFlit p f

def Port.nullFlit (x : Port) : BitVec 2048 :=
  let (ack, ackv) := x.ackField
  if x.st = 4 then sealFlit (flitHeader 3 0 ack ackv x.nak 0 0) 0 0 else sealFlit (flitHeader 3 0 0 false false 0 0) 0 0

/-- FLIT_SEND (R258, R266, R267, R271): the next flit of a replay, a new one, or NULL where the replay buffer is full. Before the link is
active a port fills its time with NULL flits. -/
def execFlitSend (port : Fin 18) (s : State) : Res :=
  let p := port.val
  let x := s.port p
  if !s.running || x.ether || !x.pmd then .next s
  else if x.st ≠ 4 ∨ s.portLow p = true then .next (s.emitFlit p x.nullFlit)
  else match x.cursor with
    | some c =>
      (match x.replay[c]? with
       | some f => .next ((s.updPort p (fun x => { x with cursor := if c + 1 < x.replay.length then some (c + 1) else none })).emitFlit p f)
       | none => .next (s.updPort p (fun x => { x with cursor := none })))
    | none => if x.replay.length ≥ 2048 then .next (s.emitFlit p x.nullFlit) else .next (s.newFlit p)

/-! Timers and bring-up. -/

/-- ACK_TIMER_EXPIRY (R267): ACK has not advanced for ACK_TIMER, nor a replay begun. -/
def execAckTimerExpiry (port : Fin 18) (s : State) : Res :=
  let x := s.port port.val
  let since := max x.ackAt ((x.lastRep.map Prod.snd).getD 0)
  if !s.running || !x.active || x.replay.isEmpty || !(s.past since (us * s.dv (dkey 0x5010 0x01))) then .next s
  else .next (s.startReplay port.val (if x.ackX = 0 then 4096 else (x.ackX - 1) % 4096))

/-- RX_SILENCE_EXPIRY (R256, R276): RX_SILENCE without flit lock, or without any flit. -/
def execRxSilenceExpiry (port : Fin 18) (s : State) : Res :=
  let x := s.port port.val
  let n := us * s.dv (dkey 0x5010 0x02)
  if s.running && x.active && ((!x.lock && s.past x.lostAt n) || s.past x.lastRx n) then .next (s.linkDown port.val .silence) else .next s

/-- LANE_SIGNAL_LOSS (R253, R276). -/
def execLaneSignalLoss (port : Fin 18) (_lane : Fin 8) (s : State) : Res :=
  let x := s.port port.val
  if !s.running then .next s
  else if x.st = 4 then .next (s.linkDown port.val .signal)
  else if x.st = 1 ∨ x.st = 2 ∨ x.st = 3 then .next (s.attemptFail port.val) else .next s

/-- RETRAIN_INTERVAL_EXPIRY (R272). -/
def execRetrainIntervalExpiry (port : Fin 18) (s : State) : Res :=
  let x := s.port port.val
  if x.st = 5 ∧ s.past x.began (ms * s.dv (dkey 0x5010 0x06)) = true then .next (s.portAttempt port.val) else .next s

/-- PMD_TRAINING_DONE (R272): the PCS hunts for flit lock; an Ethernet port is active (R300). -/
def execPmdTrainingDone (port : Fin 18) (s : State) : Res :=
  let x := s.port port.val
  if !s.running || decide (x.st ≠ 1) || x.pmd then .next s
  else
    let s := s.movePort port.val (fun x => { x with pmd := true, st := if x.ether then 4 else 1 })
    .next (if x.ether then s.moveStreams.sendOff else s)

/-- Time limit of the step an attempt stands at, from its start (Table 10.6), in ms. -/
def Port.limit (x : Port) : Nat := if x.st = 1 then (if x.pmd then 1001 else 1000) else if x.st = 2 then 1002 else 1012
/-- BRINGUP_STEP_TIMEOUT (R272). -/
def execBringupStepTimeout (port : Fin 18) (s : State) : Res :=
  let x := s.port port.val
  if !s.running || decide (x.st = 0) || decide (x.st > 3) || !(s.past x.began (ms * x.limit)) then .next s
  else .next (s.attemptFail port.val)

/-- INIT_RESEND (R272). -/
def execInitResend (port : Fin 18) (s : State) : Res :=
  let x := s.port port.val
  if !s.running || decide (x.st ≠ 2) || !(s.past x.sentAt us) then .next s else .next (s.sendInit port.val)

/-- A management packet of a type that has come leaves its buffer (R270). -/
def State.takeMgmt (s : State) (p typ : Nat) : Option (State × List Byte) :=
  (takeFirst (fun (k : RxPkt) => k.vc == 3 && mgmtType (k.slots.headD 0) == typ) (s.port p).rx).map (fun (k, rest) =>
    ((s.updPort p (fun x => { x with rx := rest })).owe p 3 k.slots.length, mgmtBytes k.slots))

/-- HELLO (R274, R275): the partner's ephemeral key and random value. -/
def execHello (port : Fin 18) (s : State) : Res :=
  let p := port.val
  let x := s.port p
  if !s.running || x.ether then .next s
  else if x.st = 3 then
    match x.message 1 with
    | none => .next s
    | some m =>
      let s := s.updPort p (fun x => x.dropMessage 1)
      if x.peerHello ≠ [] then .next s
      else if m.length ≠ 129 then .next (s.attemptFail p)
      else .next ((s.updPort p (fun x => { x with peerHello := m })).sendKeyx p 2 s.idChain)
  else if x.st = 4 then
    match s.takeMgmt p 1 with
    | none => .next s
    | some (s, m) =>
      let s := s.beginRekey p
      match (s.port p).rk with
      | none => .next s
      | some k =>
        if k.finSent ∨ m.length ≠ 129 then .next s
        else
          let k := { k with peer := m, finSent := true }
          .next ((s.updPort p (fun x => { x with rk := some k })).queuePkt p (mgmtPkt 3 (finishBytes (s.rekeyT p k))))
  else .next s

/-- CERT (R274, R368): a chain that fails its trust anchor stops the attempt. -/
def execCert (port : Fin 18) (s : State) : Res :=
  let p := port.val
  let x := s.port p
  if !s.running || decide (x.st ≠ 3) || x.peerHello.isEmpty then .next s
  else match x.message 2 with
    | none => .next s
    | some m =>
      let s := s.updPort p (fun x => x.dropMessage 2)
      if x.chain ≠ [] then .next s
      else
        let anchor := if initNode (x.peerInit.getD 0) then leBytes 97 (s.dv (dkey 0x6001 0x02)) else Config.rootAnchor
        match Config.chainLeafKey anchor m with
        | none => .next (s.attemptFail p)
        | some k =>
          let s := s.updPort p (fun x => { x with chain := m, peerKey := k })
          .next (s.sendKeyx p 3 (finishBytes (s.linkT p)))

/-- FINISH (R274, R275): a signature that fails stops the attempt; otherwise the keys are derived. -/
def execFinish (port : Fin 18) (s : State) : Res :=
  let p := port.val
  let x := s.port p
  if !s.running || x.ether then .next s
  else if x.st = 3 ∧ x.chain ≠ [] then
    match x.message 3 with
    | none => .next s
    | some m =>
      let t := s.linkT p
      if m.length ≠ 96 ∨ Config.ecdsaVerify x.peerKey t (BitVec.ofNat 768 (leNat m.reverse)) = false then .next (s.attemptFail p)
      else match linkKeys (s.sideL p) x.eph x.peerHello t with
        | none => .next (s.attemptFail p)
        | some (tx, rx) => .next ((s.updPort p (fun x => x.dropMessage 3)).activate p t tx rx)
  else if x.st = 4 then
    match x.rk with
    | none => .next s
    | some k =>
      if !k.finSent then .next s
      else match s.takeMgmt p 3 with
        | none => .next s
        | some (s, m) =>
          let t := s.rekeyT p k
          if m.length ≠ 96 ∨ Config.ecdsaVerify x.peerKey t (BitVec.ofNat 768 (leNat m.reverse)) = false then .next s
          else match linkKeys (s.sideL p) k.eph k.peer t with
            | none => .next s
            | some (tx, rx) =>
              let e := (x.txEp + 1) % 4
              .next (s.updPort p (fun x => { x with
                rk := none, newEp := some e, salts := mapInsert (mapErase x.salts e) e t, txKeys := mapInsert (mapErase x.txKeys e) e tx
                rxKeys := mapInsert (mapErase x.rxKeys e) e rx, flits := 0, flitsRx := 0, rekeyed := s.now }))
  else .next s

/-- KEYX_RESEND (R274): each message is repeated until the partner's next one has come: HELLO until its CERT, CERT until its FINISH, FINISH
until its first DATA flit. -/
def execKeyxResend (port : Fin 18) (s : State) : Res :=
  let p := port.val
  let x := s.port p
  if !s.running || x.ether || !(s.past x.sentAt (10 * us)) then .next s
  else if x.st = 3 then
    let s := if x.chain.isEmpty then s.sendKeyx p 1 x.hello else s
    let s := if x.peerHello.isEmpty then s else s.sendKeyx p 2 s.idChain
    .next (if x.chain.isEmpty then s else s.sendKeyx p 3 (finishBytes (s.linkT p)))
  else if x.st = 4 ∧ x.rxX = 0 then .next (s.sendKeyx p 3 (finishBytes ((mapFind x.salts 0).getD 0)))
  else .next s

/-- REKEY_START (R275): the flit count, 24 h, or a context key that has ended. -/
def execRekeyStart (port : Fin 18) (s : State) : Res :=
  let x := s.port port.val
  let n := 2 ^ s.dv (dkey 0x5010 0x04)
  if s.running && (decide (x.flits ≥ n) || decide (x.flitsRx ≥ n) || decide (s.now ≥ x.rekeyed + 86400000000000) || x.rkDue) then
    .next (s.beginRekey port.val)
  else .next s

/-- REKEY_TIMEOUT (R275). -/
def execRekeyTimeout (port : Fin 18) (s : State) : Res :=
  let x := s.port port.val
  if s.running && x.active && (x.rk.map (fun k => s.past k.began (10 * ms))).getD false then .next (s.linkDown port.val .rekey) else .next s

/-- FLOW_MOVE (R280): a flow whose port has changed goes on once nothing of it is outstanding on the old port, and 20 µs after that port
went down. -/
def execFlowMove (sidx : Nat) (dev : Fin 64) (s : State) : Res :=
  let key := flowKey sidx dev.val
  if !s.running then .next s
  else match mapFind s.flows key, s.flowPort sidx dev.val with
    | some f, some p =>
      let down := (s.port f.port).downAt
      if f.port = p ∨ s.flowBusy sidx dev.val ∨ (down ≠ 0 ∧ s.now + 1 < down + 20000) then .next s
      else .next ({ s with flows := mapInsert (mapErase s.flows key) key { port := p } }).sendAway
    | _, _ => .next s

/-- CTXKEY_OFFER (R375): the partner's check value. -/
def execCtxkeyOffer (port : Fin 18) (ctx : Fin 4096) (check : BitVec 128) (s : State) : Res :=
  let p := port.val
  if !s.running || !(s.port p).active then .next s
  else
    let s := match s.takeMgmt p 4 with
      | some (t, _) => t
      | none => s
    .next ((s.updPort p (fun x => { x with offers := mapInsert (mapErase x.offers ctx.val) ctx.val check })).matchOffer p ctx.val)

/-- PORT_DISABLE_WAIT_EXPIRY (R276): the wait for outstanding responses runs out. -/
def execPortDisableWaitExpiry (port : Fin 18) (s : State) : Res :=
  let p := port.val
  if !s.running || !(((s.port p).closing.map (fun t => s.past t (20 * us))).getD false) then .next s else .next ((s.linkDown p .disabled).portAttempt p)

end Sys2Proof.Machine
end

