-- ==== Sys2Proof/Machine/Remote.lean ====
section
/-!
DEFINITION. Machine/Remote.lean: packets at their destination and at their requester (R283 to R297): checks, acceptance, deadlines,
holds and timeouts.
-/
namespace Sys2Proof.Machine

/-! At the destination. -/

/-- The device a packet comes from, and whether it is a request. -/
def RxPkt.sdev (k : RxPkt) : Nat := bits (k.slots.headD 0) 107 6
def RxPkt.isReq (k : RxPkt) : Bool := k.vc == 0 || k.vc == 2
/-- The oldest received packet of a type leaves the list of those to be looked at. The requests of a device are looked at in the order of
their arrival (R291, R292). -/
def State.takePkt (s : State) (p typ : Nat) : Option (State × RxPkt) :=
  let l := (s.port p).rx
  let first := fun (i : Nat) (k : RxPkt) => !k.isReq || !((l.take i).any (fun q => q.isReq && q.sdev == k.sdev))
  ((List.range l.length).find? (fun i => match l[i]? with
    | some k => k.vc != 3 && bits (k.slots.headD 0) 124 4 == typ && first i k
    | none => false)).bind (fun i => (l[i]?).map (fun k => (s.updPort p (fun x => { x with rx := l.eraseIdx i }), k)))

/-- Data bytes of a packet's slots from the n-th on. -/
def pktData (k : RxPkt) (n len : Nat) : List Byte := ((k.slots.drop n).flatMap (leBytes 16)).take len

/-- The operation a request packet asks for (R285). -/
def pktOp (k : RxPkt) : MemOp :=
  let h := k.slots.headD 0
  let size := bits h 45 8 + 1
  let x := (k.slots[1]?).getD 0
  let w := 8 * size
  match bits h 124 4 with
  | 0x0 => .rd size
  | 0x1 => .wr (zipFrom 0 (pktData k 1 size))
  | 0x2 => .wr ((zipFrom 0 (pktData k 2 64)).filter (fun c => bitAt x c.1))
  | 0x5 => .flag (x % 2 ^ 32)
  | t =>
    let op := aopOf (bits h 60 4)
    .at op (bits h 57 3) (if op = .cas then bits x 64 w else bits x 0 w) (if op = .cas then bits x 0 w else 0) (t == 0x3)

/-- Does a request break a field rule of R286? -/
def pktMalformed (k : RxPkt) : Bool :=
  let h := k.slots.headD 0
  let size := bits h 45 8 + 1
  let off := bits h 0 45
  let aop := bits h 60 4
  let typ := bits h 57 3
  bits h 64 3 != 0 || bits h 53 3 != 0 || decide (off % 4096 + size > 4096) ||
  (match bits h 124 4 with
   | 0x2 => aop != 0 || typ != 0 || size != 64 || off % 64 != 0
   | 0x3 => decide (aop > 7) || !(atomOk aop typ true) || size != typBytes typ || off % size != 0
   | 0x4 => decide (aop > 7) || !(atomOk aop typ false) || size != typBytes typ || off % size != 0
   | 0x5 => aop != 0 || typ != 0 || size != 4 || off % 4 != 0
   | _ => aop != 0 || typ != 0)

/-- Permissions a packet needs (R289 step 3). -/
def opNeeds : MemOp → Bool × Bool
  | .rd _ => (true, false)
  | .at .. => (true, true)
  | _ => (false, true)

/-- The checks of R289 in their order; 0 when all pass. -/
def State.pktCheck (s : State) (r : Req) (adm : Bool) : Status :=
  let o := gOffset r.addr
  let region := s.region o
  let need := opNeeds r.op
  let keyBad := r.gidx != 0 && (adm || r.gidx != r.ctx + 1) || (r.gidx == 0 && !adm && (s.ctx r.ctx).priv)
  match region with
  | .control => Code.accessDenied
  | .unbacked => Code.accessDenied
  | .window core off =>
    if keyBad then Code.accessDenied
    else if adm ∧ r.slot ≠ 1065 then Code.accessDenied
    else if s.dev.fenced.contains (s.physAny core) ∧ core < s.logicalCores ∧ (s.ctx r.ctx).has core then Code.coreFenced
    else if !(s.served core) || !((s.ctx r.ctx).has core) then Code.accessDenied
    else if off + opBytes r.op > (s.img r.ctx core).lsBytes then Code.localBounds
    else 0
  | _ =>
    if keyBad then Code.accessDenied
    else if adm then
      let w := s.own (o / granuleBytes)
      if r.slot = 1065 ∧ w.state = 2 ∧ w.adm = true ∧ (need.1 = false ∨ bitAt w.perm 1 = true) ∧ (need.2 = false ∨ bitAt w.perm 0 = true) then 0
      else Code.accessDenied
    else if s.ownedBy r.ctx o need.1 need.2 then 0 else Code.accessDenied

/-- Is the key of a packet not one its context may use: step 2 of R289, counted (R377)? -/
def State.keyWrong (s : State) (r : Req) (adm : Bool) : Bool :=
  (match s.region (gOffset r.addr) with | .control => false | .unbacked => false | _ => true) &&
  (r.gidx != 0 && (adm || r.gidx != r.ctx + 1) || (r.gidx == 0 && !adm && (s.ctx r.ctx).priv))

/-- A request packet arrives (R286, R289): one that fails is answered at once, the others wait for acceptance. -/
def State.pktRequest (s : State) (p : Nat) (k : RxPkt) : State :=
  let h := k.slots.headD 0
  let o := bits h 0 45
  let adm := bitAt h 67
  let op := pktOp k
  let r : Req := {
    id := s.nextId, src := .port p, ctx := if adm then 4096 else bits h 68 12, slot := bits h 96 11, op := op
    addr := mkGlobal s.dev.deviceId o, plain := !(bitAt h 56) && (match op with | .wr _ => true | .at .. => true | _ => false)
    since := k.came, tag := bits h 80 16, dev := bits h 107 6, port := p, gidx := k.key, ipc := k.slots.length }
  let s := s.bumpId
  let r := match s.region o with
    | .window _ _ => { r with win := true, addr := o }
    | _ => r
  let g := { r with win := false, addr := mkGlobal s.dev.deviceId o }
  if pktMalformed k then (s.count (dkey 0x5030 0x06)).denyPkt p r Code.accessDenied
  else
    let st := s.pktCheck g adm
    let s := if s.keyWrong g adm then s.count (dkey 0x5030 0x07) else s
    if st ≠ 0 then s.denyPkt p r st else { s with reqs := s.reqs ++ [r] }

/-- A row of a request packet's arrival. -/
def pktRow (s : State) (port : Fin 18) (typ : Nat) : Res :=
  if !s.running then .next s
  else match s.takePkt port.val typ with
    | none => .next s
    | some (t, k) => .next (t.pktRequest port.val k)

/-- PKT_RD (R289). -/
def execPktRd (port : Fin 18) (s : State) : Res := pktRow s port 0x0
/-- PKT_WR (R289). -/
def execPktWr (port : Fin 18) (s : State) : Res := pktRow s port 0x1
/-- PKT_WRM (R285, R289). -/
def execPktWrm (port : Fin 18) (s : State) : Res := pktRow s port 0x2
/-- PKT_ATOM (R289). -/
def execPktAtom (port : Fin 18) (s : State) : Res := pktRow s port 0x3
/-- PKT_RED (R289). -/
def execPktRed (port : Fin 18) (s : State) : Res := pktRow s port 0x4
/-- PKT_FLAG (R236, R289). -/
def execPktFlag (port : Fin 18) (s : State) : Res := pktRow s port 0x5

/-- How a waiting request of a port may leave its buffer now: to a window's memory unit, or by the first of its blocks that a queue admits
(R290 to R292). none: it waits. -/
def State.entryOf (s : State) (dies stackTab : List Nat) (r : Req) : Option (Option Cand) :=
  if r.win then (if s.orderOk r then some none else none)
  else ((s.wants { r with ph := .slot }).find? (fun k => s.admissible dies stackTab r k.1 k.2)).map (fun k => some (r, k.1, k.2))

/-- REQUEST_ACCEPT (R290, R291): source devices in turn after the one served last, the oldest eligible request of one. A window's memory
unit applies at acceptance. Requests that find their queue full wait there (R199). -/
def execRequestAccept (port : Fin 18) (s : State) : Res :=
  let p := port.val
  if !s.running then .next s
  else
    let (dies, stackTab) := s.stopped
    let ws := s.reqs.filter (fun r => r.src == .port p && r.ph == .waiting)
    let c := ws.filter (fun r => (s.entryOf dies stackTab r).isSome)
    match (roundRobin 64 ((s.port p).lastDev + 1) (fun d => c.any (fun r => r.dev == d))).bind (fun d => c.find? (fun r => r.dev == d)) with
    | none =>
      .next (ws.foldl (fun (t : State) r =>
        if (t.wants { r with ph := .slot }).any (fun k => !(t.queueRoom k.1 r.src)) then t.countWait r false else t) s)
    | some r =>
      match s.entryOf dies stackTab r with
      | some (some k) => .next (s.admitCand k).readmit
      | _ =>
        let s := ((s.updPort p (fun x => { x with lastDev := r.dev })).acceptPkt p r).updReq r.id (fun x => { x with ph := .queued, since := s.now })
        .next ((s.applyReq r).afterDone r.id)

/-- REMOTE_DEADLINE_EXPIRY (R294): 4 µs after acceptance the response goes out with REMOTE_TIMEOUT; a later result is discarded. -/
def execRemoteDeadlineExpiry (req : Nat) (s : State) : Res :=
  if !s.running then .next s
  else match s.req? req with
  | none => .next s
  | some r =>
    match r.src with
    | .port p =>
      if (r.ph ≠ .queued ∧ r.ph ≠ .slot) ∨ r.expired = true ∨ s.past r.since (4 * us) = false then .next s
      else
        let s := (s.count (dkey 0x5030 0x04)).updReq req (fun x => { x with expired := true })
        if (s.port p).active then .next (s.queuePkt p (s.replyPkt { r with st := Code.remoteTimeout, res := [] })) else .next s
    | _ => .next s

/-- HOLD_TIMER (R295): a request of a device has waited unaccepted at a port for 4 µs, and no HOLD went to it for as long. -/
def execHoldTimer (port : Fin 18) (dev : Fin 64) (s : State) : Res :=
  let p := port.val
  let late := fun (t0 : Nat) => s.past t0 (4 * us)
  let waits := (s.reqs.any (fun r => r.src == .port p && r.ph == .waiting && r.dev == dev.val && late r.since) ||
    (s.port p).rx.any (fun k => k.isReq && k.sdev == dev.val && late k.came)) &&
    ((mapFind (s.port p).holds dev.val).map (fun t => late (t - 1))).getD true
  if !s.running || !(s.port p).active || !waits then .next s
  else
    let s := s.updPort p (fun x => { x with holds := mapInsert (mapErase x.holds dev.val) dev.val (s.now + 1) })
    .next ((s.queuePkt p { vc := 1, slots := [pktHeader 0xB 1 dev.val s.dev.deviceId 0 0 0 0] }).count (dkey 0x5030 0x03))

/-! At the requester. -/

/-- What follows a request to another device that is done: a fenced core's response is discarded (R209), firmware and gateways go on, and
the response space it held is free (R288). -/
def State.requestDone (s : State) (r : Req) : State :=
  let s := match r.src with
    | .core n => if s.served n || (r.owner == 0 && r.xfer != 0) then s else { s with reqs := s.reqs.filter (fun x => x.id != r.id) }
    | _ => s.afterDone r.id
  let s := if r.src = .firmware then s.exchPump r.ctx else s
  (s.closeIfQuiet r.port).readmit.sendAway

/-- Does a response's type answer an operation (Table 11.3)? -/
def answers (typ : Nat) (op : MemOp) : Bool :=
  match op with
  | .rd _ => typ == 0x8
  | .at _ _ _ _ true => typ == 0xA
  | _ => typ == 0x9

/-- A response arrives (R288, R297): its packet leaves the buffer; one that matches no outstanding request is counted late. -/
def pktAnswer (s : State) (port : Fin 18) (typ : Nat) : Res :=
  let p := port.val
  if !s.running then .next s
  else match s.takePkt p typ with
  | none => .next s
  | some (s, k) =>
    let h := k.slots.headD 0
    let s := s.owe p 1 k.slots.length
    let st : Status := BitVec.ofNat 16 (bits h 48 16)
    match s.reqs.find? (fun r => r.ph == .sent && !(gOff r.addr) && r.port == p && srcIdx r.src == bits h 96 11 && r.tag == bits h 80 16 &&
        r.dev == bits h 107 6 && answers typ r.op) with
    | none => .next (s.count (dkey 0x5030 0x09))
    | some r =>
      let n := match r.op with
        | .rd n => n
        | .at _ ty _ _ true => typBytes ty
        | _ => 0
      if st = 0 ∧ k.slots.length ≠ 1 + ceilDiv n 16 then .next (s.linkDown p .protocol)
      else
        let res := if st = 0 then pktData k 1 n else []
        .next ((s.updReq r.id (fun x => { x with ph := .done, st := st, res := res })).requestDone r)

/-- PKT_RDR (R288). -/
def execPktRdr (port : Fin 18) (s : State) : Res := pktAnswer s port 0x8
/-- PKT_ACK (R288). -/
def execPktAck (port : Fin 18) (s : State) : Res := pktAnswer s port 0x9
/-- PKT_ATR (R288). -/
def execPktAtr (port : Fin 18) (s : State) : Res := pktAnswer s port 0xA

/-- Has a request's packet been placed in a flit, so that its timer runs (R296)? -/
def State.placed (s : State) (r : Req) : Bool :=
  r.ph == .sent && !(gOff r.addr) && !((s.port r.port).txq.any (fun k => k.req == r.id && k.first))

/-- PKT_HOLD (R296): the timers of every outstanding request to its destination restart. -/
def execPktHold (port : Fin 18) (s : State) : Res :=
  let p := port.val
  if !s.running then .next s
  else match s.takePkt p 0xB with
  | none => .next s
  | some (s, k) =>
    let d := bits (k.slots.headD 0) 107 6
    let t := s.owe p 1 k.slots.length
    .next { t with reqs := t.reqs.map (fun r => if s.placed r && r.dev == d then { r with since := s.now } else r) }

/-- REQ_TIMEOUT_EXPIRY (R296): a request's timer runs out, by the REQ_TIMEOUT in force when it was placed in a flit (Table 11.9). -/
def execReqTimeoutExpiry (req : Nat) (s : State) : Res :=
  if !s.running then .next s
  else match s.req? req with
  | none => .next s
  | some r =>
    if !(s.placed r) || !(s.past r.since (us * r.limit)) then .next s
    else .next (((s.failReq req Code.remoteTimeout).count (dkey 0x5030 0x05)).requestDone r)

end Sys2Proof.Machine
end

