-- ==== Sys2Proof/Machine/Larch.lean ====
section
/-!
DEFINITION. Machine/Larch.lean: datagrams a Larch gateway receives (R301 to R308), its flush and its retries (R303, R305).
-/
namespace Sys2Proof.Machine

/-- Fields of a received Larch header (Table 11.7). -/
structure LHead where
  ver    : Nat
  ftype  : Nat
  domain : Nat
  device : Nat
  ctx    : Nat
  stream : Nat
  seq    : Nat
  frag   : Nat
  frags  : Nat
  st     : Status
  bytes  : Nat

def lHead (h : BitVec 256) : LHead :=
  { ver := fieldOf h 248 8, ftype := fieldOf h 244 4, domain := fieldOf h 230 12, device := fieldOf h 224 6, ctx := fieldOf h 212 12
    stream := fieldOf h 208 2, seq := fieldOf h 176 32, frag := fieldOf h 168 8, frags := fieldOf h 160 8
    st := BitVec.ofNat 16 (fieldOf h 144 16), bytes := fieldOf h 96 32 }

/-- The records of a datagram; none when one is malformed (R302, R308). Structural on fuel. -/
def parseRecs (rtype : Nat) : Nat → List Byte → Option (List Rec)
  | _, [] => some []
  | 0, _ => none
  | f + 1, bs =>
    let h := leNat (bs.take 16)
    let len := bits h 101 17
    let data := if rtype = 2 then 0 else len
    let room := 16 * ceilDiv data 16
    if bs.length < 16 + room ∨ bits h 124 4 ≠ rtype ∨ bits h 96 5 ≠ 0 ∨ bits h 45 19 ≠ 0 ∨ (rtype = 2 ∧ (len = 0 ∨ len > 256)) ∨
        (rtype = 1 ∧ bits h 64 32 ≠ 0) then none
    else
      (parseRecs rtype f (bs.drop (16 + room))).map (fun r =>
        { rtype := rtype, device := bits h 118 6, offset := bits h 0 45, rtag := bits h 64 32, len := len, data := (bs.drop 16).take data } :: r)

def State.gwActive (s : State) (g : Nat) : Bool := (s.port (14 + g)).st == 4 && (s.port (14 + g)).ether
def State.gwDiscard (s : State) (g : Nat) : State := s.count (dkey (0x5040 + g) 0x0B)

/-- A tag that fails; 64 within 1 s raise the alarm (R308). -/
def State.gwAuthFail (s : State) (g : Nat) : State :=
  let s := s.count (dkey (0x5040 + g) 0x0A)
  let s := s.updGw g (fun x => { x with authTimes := x.authTimes.filter (fun t => decide (s.now < t + 1000000000)) ++ [s.now] })
  if (s.gw g).authTimes.length ≥ 64 then (s.updGw g (fun x => { x with authTimes := [] })).raise Ev.gatewayAuth g else s

/-- Does a gateway take a frame off the wire (Table 11.6)? -/
def State.gwTakes (s : State) (g : Nat) (d : LarchDgram) : Bool :=
  d.fcsOk && d.sumOk && !d.tagged && d.etherType == 0x86DD && !d.extHead && decide (d.body.length + 96 ≤ s.dv (dkey (0x5040 + g) 0x04))

/-- A received datagram of a type (R304, R308): its binding's number and its plaintext go to the body. -/
def larchRow (s : State) (gw : Fin 4) (d : LarchDgram) (typ : Nat) (body : State → LHead → Nat → List Byte → State) : Res :=
  let g := gw.val
  let h := lHead d.header
  if !s.running || !(s.gwActive g) || !(s.gwTakes g d) then .next s
  else if d.dst.toNat ≠ s.dv (dkey (0x5040 + g) 0x01) ∨ d.port.toNat ≠ s.dv (dkey 0x5060 0x01) ∨ h.ver ≠ 1 ∨ h.ftype > 3 then .next (s.gwDiscard g)
  else if h.ftype ≠ typ then .next s
  else match (s.ctx h.ctx).bindFor h.domain with
    | none => .next (s.gwDiscard g)
    | some n =>
      let km := s.larchKey h.ctx n (decide (h.domain < s.dev.domainId))
      let iv := larchIv (km.drop 32) h.seq h.frag h.device h.stream s.dev.deviceId (decide (typ ≥ 2))
      match Config.gcmOpen (BitVec.ofNat 256 (leNat (km.take 32))) iv (leBytes 32 d.header.toNat) (d.body ++ leBytes 16 d.tag.toNat) 128 with
      | none => .next (s.gwAuthFail g)
      | some plain => if h.bytes ≠ plain.length then .next (s.gwDiscard g) else .next (body s h n plain)

/-! The far side. -/

def State.rstream (s : State) (g key : Nat) : RStream := (((s.gw g).rstreams.find? (fun r => r.key == key))).getD { key := key }
def State.setRstream (s : State) (g : Nat) (r : RStream) : State :=
  s.updGw g (fun x => { x with rstreams := x.rstreams.filter (fun y => y.key != r.key) ++ [r] })

/-- Lowest SEQ that is not complete: of the last 64 that are, nothing below the least is open (R305). -/
def RStream.low (r : RStream) : Nat :=
  let from' := if r.done.length < 64 then 0 else (r.done.map Prod.fst).foldl min (2 ^ 32)
  from' + ((lowest 65 (fun k => !(r.done.any (fun e => e.1 == from' + k)))).getD 65)

/-- One piece of a record becomes a request under the binding's context (R305): to this device by the checks of R289, to another as a
packet. -/
def State.gwIssue (s : State) (g ctx unit device off : Nat) (op : MemOp) : State × Nat :=
  let a := mkGlobal device off
  let win := device == s.dev.deviceId && (match s.region off with | .window _ _ => true | _ => false)
  let r : Req := { id := s.nextId, src := .gateway g, ctx := ctx, op := op, addr := a, ph := .slot, xfer := unit, dev := device, since := s.now }
  let st := if device = s.dev.deviceId then s.pktCheck { r with gidx := ctx + 1 } false else 0
  let t := s.bumpId
  if st ≠ 0 then ({ t with reqs := t.reqs ++ [{ r with ph := .done, st := st }] }, r.id)
  else if win then
    let r := { r with win := true, addr := off, ph := .queued }
    (({ t with reqs := t.reqs ++ [r] }).applyReq r, r.id)
  else ({ t with reqs := t.reqs ++ [r] }, r.id)

/-- A far frame whose datagrams are all here is carried out (R305, R306). -/
def State.runFrame (s : State) (g ctx : Nat) (rs : RStream) (f : RFrame) : State :=
  let rtype := if f.ftype = 0 then 1 else 2
  let recs := (List.range f.count).flatMap (fun k =>
    ((f.frags.find? (fun e => e.1 == k)).bind (fun e => parseRecs rtype (e.2.length / 16 + 1) e.2)).getD [])
  let unit := s.nextId
  let (s, ids) := recs.foldl (fun (acc : State × List (Nat × Nat)) r =>
    (cut (if f.ftype = 0 then 256 else 4096) r.offset r.len).foldl (fun (acc : State × List (Nat × Nat)) (p : Nat × Nat) =>
      let op : MemOp := if f.ftype = 0 then .wr (zipFrom 0 ((r.data.drop (p.1 - r.offset)).take p.2)) else .rd p.2
      let (t, id) := acc.1.gwIssue g ctx unit r.device p.1 op
      (t, acc.2 ++ [(id, r.rtag)])) acc) (s.bumpId, [])
  let f := { f with run := true, reqs := ids, frags := [] }
  (((s.setRstream g { rs with frames := rs.frames.filter (fun x => x.seq != f.seq) ++ [f] }).sendAway).readmit).gwSweep

/-- A datagram of a WRITE or READ frame at the far gateway: kept until the frame is whole, its last datagram (FRAG = FRAGS − 1) and all
before it; a finished WRITE frame is answered with its stored COMPLETE; a frame more than 16 above the lowest incomplete
SEQ is discarded (R305). -/
def State.farDatagram (s : State) (g src : Nat) (h : LHead) (plain : List Byte) : State :=
  let rs := s.rstream g (rkey h.ctx h.domain h.device h.stream)
  let rtype := if h.ftype = 0 then 1 else 2
  if (parseRecs rtype (plain.length / 16 + 1) plain).isNone then s.gwDiscard g
  else match (if h.ftype = 0 then rs.done.find? (fun e => e.1 == h.seq) else none) with
    | some (_, ds) => s.larchEmits g (ds.map (fun d => { d with dst := src }))
    | none =>
      if h.seq > rs.low + 16 ∨ (h.ftype = 0 ∧ h.seq < rs.low) then s.gwDiscard g
      else
        let f := ((rs.frames.find? (fun x => x.seq == h.seq))).getD { seq := h.seq, ftype := h.ftype }
        if f.run then s
        else
          let f := { f with frags := f.frags.filter (fun e => e.1 != h.frag) ++ [(h.frag, plain)], src := src
                            count := if h.frags = h.frag + 1 then h.frags else f.count }
          if f.count > 0 ∧ (List.range f.count).all (fun k => f.frags.any (fun e => e.1 == k)) then s.runFrame g h.ctx rs f
          else s.setRstream g { rs with frames := rs.frames.filter (fun x => x.seq != f.seq) ++ [f] }

/-- LARCH_WRITE (R305). -/
def execLarchWrite (gw : Fin 4) (d : LarchDgram) (s : State) : Res :=
  larchRow s gw d 0 (fun s h _ plain => s.farDatagram gw.val d.src.toNat h plain)
/-- LARCH_READ (R306): the far side reads afresh on every repeat. -/
def execLarchRead (gw : Fin 4) (d : LarchDgram) (s : State) : Res :=
  larchRow s gw d 1 (fun s h _ plain => s.farDatagram gw.val d.src.toNat h plain)

/-! The requester's side. -/

/-- The stream and frame a response answers: gateway, stream, frame. -/
def State.frameOf (s : State) (h : LHead) (n : Nat) (isRead : Bool) : Option (Nat × Stream × GFrame) :=
  (List.range 4).findSome? (fun g =>
    match (s.gw g).streams.find? (fun x => x.ctx == h.ctx && x.bind == n && x.addr == h.stream) with
    | none => none
    | some st => (st.frames.find? (fun f => f.seq == h.seq && f.closed && f.isRead == isRead)).map (fun f => (g, st, f)))

/-- The data of a read, from the pieces that have come under its RTAG; none while one is missing. -/
def readWhole (got : List (Nat × Nat × List Byte)) (rtag off len : Nat) : Option (List Byte) :=
  let ps := got.filter (fun e => e.1 == rtag)
  let at' := fun (a : Nat) => ps.findSome? (fun e => if e.2.1 ≤ a ∧ a < e.2.1 + e.2.2.length then e.2.2[a - e.2.1]? else none)
  let l := (List.range len).filterMap (fun i => at' (off + i))
  if l.length = len then some l else none

/-- The plaintext of a READ_DATA datagram (R306): a read is done when all its data has come, in one record or in several (R302); a record of
LEN 0 fails it with the frame's STATUS. The frame ends with its last read. -/
def State.readDataIn (s : State) (gw : Nat) (h : LHead) (n : Nat) (plain : List Byte) : State :=
  match parseRecs 3 (plain.length / 16 + 1) plain with
  | none => s.gwDiscard gw
  | some recs =>
    match s.frameOf h n true with
    | none => s
    | some (g, st, f) =>
      let code := if h.st = 0 then Code.gatewayFailed else h.st
      let got := recs.foldl (fun (l : List (Nat × Nat × List Byte)) x =>
        l.filter (fun e => !(e.1 == x.rtag && e.2.1 == x.offset)) ++ [(x.rtag, x.offset, x.data)]) f.got
      let s := f.reqs.foldl (fun (t : State) id =>
        match t.req? id with
        | some r =>
          if r.ph ≠ .sent then t
          else if recs.any (fun x => x.rtag == id % 2 ^ 32 && x.len == 0) then (t.failReq id code).requestDone r
          else match readWhole got (id % 2 ^ 32) (gOffset r.addr) (opBytes r.op) with
            | some data => (t.updReq id (fun y => { y with ph := .done, st := 0, res := data })).requestDone r
            | none => t
        | none => t) s
      let left := f.reqs.filter (fun id => match s.req? id with | some r => r.ph == .sent | none => false)
      if left.isEmpty then (s.finishFrame g st f h.st).sendOff
      else s.updStream g st.id (fun x => { x with frames := modifyWhere (fun y => y.seq == f.seq) (fun y => { y with reqs := left, got := got }) x.frames })

/-- A COMPLETE ends the frame it answers (R305, R307). -/
def State.completeIn (s : State) (h : LHead) (n : Nat) : State :=
  match s.frameOf h n false with
  | none => s
  | some (g, st, f) => (s.finishFrame g st f h.st).sendOff

/-- LARCH_READ_DATA (R306). -/
def execLarchReadData (gw : Fin 4) (d : LarchDgram) (s : State) : Res :=
  larchRow s gw d 2 (fun s h n plain => s.readDataIn gw.val h n plain)

/-- LARCH_COMPLETE (R305, R307). It holds no records: what it holds is malformed (R308). -/
def execLarchComplete (gw : Fin 4) (d : LarchDgram) (s : State) : Res :=
  larchRow s gw d 3 (fun s h n plain => if plain.isEmpty then s.completeIn h n else s.gwDiscard gw.val)

/-! Timers. -/

/-- GW_FLUSH_EXPIRY (R303): the open frame of a stream closes GW_FLUSH after its first record. -/
def execGwFlushExpiry (gw : Fin 4) (stream : Nat) (s : State) : Res :=
  if !s.running then .next s
  else match (s.gw gw.val).streams.find? (fun x => x.id == stream) with
  | none => .next s
  | some st =>
    if st.frames.any (fun f => !f.closed && s.past f.begun (us * s.dv (dkey 0x5060 0x02))) then .next (s.closeFrame gw.val st) else .next s

/-- GW_RETRY_EXPIRY (R305): GW_RETRY after it was sent, the frame is sent again unchanged, or fails after GW_RETRIES retransmissions. -/
def execGwRetryExpiry (gw : Fin 4) (stream seq : Nat) (s : State) : Res :=
  let g := gw.val
  if !s.running then .next s
  else match (s.gw g).streams.find? (fun x => x.id == stream) with
  | none => .next s
  | some st =>
    match st.frames.find? (fun f => f.seq == seq && f.closed) with
    | none => .next s
    | some f =>
      if !(s.past f.sentAt (us * s.dv (dkey 0x5060 0x03))) then .next s
      else if f.retries < s.dv (dkey 0x5060 0x04) then
        let s := s.updStream g st.id (fun x => { x with
          frames := modifyWhere (fun y => y.seq == seq) (fun y => { y with retries := y.retries + 1, sentAt := s.now }) x.frames })
        .next ((s.count (dkey (0x5040 + g) 0x08)).larchEmits g f.sent)
      else .next ((s.finishFrame g st f Code.gatewayTimeout).sendOff)

end Sys2Proof.Machine
end

