-- ==== Sys2Proof/Machine/Tenant.lean ====
section
/-!
DEFINITION. Machine/Tenant.lean: the context secret, PRIVATE and gateway bindings (R373 to R377), ATTEST (R371) and the SPDM responder
(R378).
-/
namespace Sys2Proof.Machine

/-- A write of CTX_SECRET (R373): the secret is decrypted with the provisioning key, which is then erased; every link is offered its key. -/
def State.secretWrite (s : State) (ctx : Nat) (bs : List Byte) : State × Status :=
  match (s.ctx ctx).provKey, (s.ctx ctx).secret with
  | some (n, _), none =>
    (match Config.ecdh n (BitVec.ofNat 776 (leNat (bs.take 97))) with
     | none => (s, Code.tokenInvalid)
     | some z =>
       let k := Config.hkdf (leBytes 48 s.idKeyHash.toNat) (beBytes 48 z.toNat) (label "dt9-secret" ++ beBytes 2 ctx) 44
       match Config.gcmOpen (BitVec.ofNat 256 (leNat (k.take 32))) (BitVec.ofNat 96 (leNat (k.drop 32))) [] ((bs.drop 97).take 48) 128 with
       | none => (s, Code.tokenInvalid)
       | some sec =>
         ((s.updCtx ctx (fun x => { x with secret := some (BitVec.ofNat 256 (leNat sec)), provKey := none, epochs := [] })).offerAll ctx, 0))
  | _, _ => (s, Code.contextState)

/-- A write of CTX_PRIVATE (R377). -/
def State.privateWrite (s : State) (ctx v : Nat) : State × Status :=
  if v > 1 ∨ (v = 0 ∧ (s.ctx ctx).priv = true) then (s, Code.entryRange)
  else (s.updCtx ctx (fun x => { x with priv := v == 1 }), 0)

/-- Key of the epochs a slot has used with a far domain and context. -/
def epochKey (n v : Nat) : Nat := n * 2 ^ 24 + bits v 0 24

/-- A write of GW_BIND_n (R376, Table 14.8). -/
def State.bindWrite (s : State) (ctx n v : Nat) : State × Status :=
  let x := s.ctx ctx
  let old := x.bindVal n
  let fresh := bindEpoch v + 1
  let mine := fun (st : Stream) => st.ctx == ctx && st.bind == n
  if x.secret.isNone then (s, Code.contextState)
  else if bindValid v && (bindDomain v == s.dev.domainId ||
      [0, 1, 2, 3].any (fun k => k != n && bindValid (x.bindVal k) && bindDomain (x.bindVal k) == bindDomain v)) then (s, Code.entryRange)
  else if s.gws.any (fun g => g.2.streams.any (fun st => mine st && !st.frames.isEmpty)) then (s, Code.contextState)
  else if bindValid v && decide (fresh ≤ mapGet 0 x.epochs (epochKey n v)) then (s, Code.entryRange)
  else
    let gone := fun (r : RStream) => r.key / 1048576 == ctx && (r.key / 256 % 4096 == bindDomain v || r.key / 256 % 4096 == bindDomain old)
    let gw := fun (g : Gw) => { g with streams := g.streams.filter (fun st => !(mine st)), rstreams := g.rstreams.filter (fun r => !(gone r)) }
    let s := { s with gws := s.gws.map (fun (e : Nat × Gw) => (e.1, gw e.2)) }
    let b : Bind := { value := BitVec.ofNat 64 (bindClean v), epoch := bindEpoch v, peer := bindCtx v, used := true }
    (s.updCtx ctx (fun x => { x with
      binds := mapSet {} x.binds n b, epochs := if bindValid v then mapSet 0 x.epochs (epochKey n v) fresh else x.epochs }), 0)

/-! Attestation. -/

/-- The context an ATTEST reports on (R371). -/
def attestTarget (ring : Nat) (img : Nat) : Nat := if ring ≠ 4096 then ring else if bitAt (cArg0 img) 0 then 4096 else bits img 0 12

/-- Report bits below the nonce (Table 14.5). -/
def State.reportHead (s : State) (t : Nat) : Nat :=
  let x := s.ctx t
  let b := fun (p : Bool) (n : Nat) => if p then 2 ^ n else 0
  1 + 640 * 2 ^ 16 + (t % 4096) * 2 ^ 32 + b (t == 4096) 44 + b x.debugged 45 + b x.priv 46 + b x.secret.isSome 47 + b (x.tdi == 2) 48 +
    (if x.groves = 0 then 0 else x.grove0) * 2 ^ 64 + x.groves * 2 ^ 72 +
    (match s.dev.grade with | none => 0xFF | some .dt9_576 => 0 | some .dt9_512 => 1) * 2 ^ 80 + 0xB1 * 2 ^ 88 +
    s.dev.deviceId * 2 ^ 96 + s.dev.domainId * 2 ^ 102 + s.powerCycles % 2 ^ 32 * 2 ^ 128 + s.opTime % 2 ^ 32 * 2 ^ 160 +
    x.codeCount % 2 ^ 32 * 2 ^ 192

/-- The report of a context with a nonce, 640 bytes (Table 14.5): signed over SHA-384 of bytes 0 to 543. -/
def State.report (s : State) (t : Nat) (nonce : List Byte) : List Byte :=
  let x := s.ctx t
  let m := fun (k : Nat) => leBytes 48 (s.dv (dkey 0x6000 k))
  let eph := match x.provKey with
    | some (_, k) => leBytes 97 k.toNat
    | none => List.replicate 97 0
  let body := leBytes 32 (s.reportHead t) ++ nonce ++ leBytes 48 Config.romMeasure.toNat ++ m 0x05 ++ m 0x06 ++ leBytes 48 x.mctx.toNat ++
    leBytes 48 s.idKeyHash.toNat ++ eph ++ List.replicate 127 0
  body ++ beBytes 96 (Config.ecdsaSign (Config.sha384 body)).toNat

/-- Is a code object of a context being hashed (Table 14.11)? -/
def State.hashing (s : State) (t : Nat) : Bool :=
  (s.ringsOf t).sq.any (fun e => match e.2.cur with
    | some c => cOpc c.img == 0x10 && c.stage == 1
    | none => false)

/-- ATTEST (R371): the report is taken after a hash that is under way. -/
def execAttest (ctx : Fin 4097) (ring : Fin 8) (s : State) : Res :=
  ringRow s ctx.val ring.val 0x52
    (fun c => [(s.dv (dkey 0x6000 0x01) != 0, Code.identityUnavailable, 0), ((s.ctx (attestTarget ctx.val c.img)).st == 0, Code.contextState, 0),
               (s.badAddr ctx.val (cA0 c.img) 640 1 .write, Code.commandInvalid, 1),
               (s.badAddr ctx.val (cA1 c.img) 48 1 .read, Code.commandInvalid, 2)])
    (fun c =>
      let t := attestTarget ctx.val c.img
      let ag := cmdAg ctx.val c
      let (s, wst) := s.agAbsorb ag
      if c.stage = 2 ∨ wst ≠ 0 then s.bulkEnd ctx.val ring.val ag wst (cA0 c.img)
      else if s.hashing t then s.updCmd ctx.val ring.val (fun c => { c with stage := 1 })
      else match s.agRead ag .read (cA1 c.img) 48 with
        | (u, .wait) => (s.agWait u ag).updCmd ctx.val ring.val (fun c => { c with stage := 1 })
        | (u, .err st) => u.bulkEnd ctx.val ring.val ag st (cA1 c.img)
        | (u, .ok nonce) =>
          let u := u.updCmd ctx.val ring.val (fun c => { c with stage := 1, aux := 640 })
          match u.agWrite ag (cA0 c.img) (u.report t nonce) with
          | (v, st) => v.bulkEnd ctx.val ring.val ag st (if st = 0 then 0 else cA0 c.img))

/-- SPDM_REQUEST (R367, R378): a requester that offers the suite gets a session, any other is refused one (R3); without a valid identity the responder refuses. What an
answer's bytes are is DSP0274's; the model shows whether a session stands. -/
def execSpdmRequest (offersSuite : Bool) (_request : List Byte) (s : State) : Res :=
  if !s.running || s.board.pcie.isNone then .next s
  else if s.dv (dkey 0x6000 0x01) ≠ 0 then .next (s.emit (.value "status" Code.identityUnavailable.toNat))
  else
    let s := s.updMgmt (fun m => { m with spdm := m.spdm || offersSuite, spdmRefused := m.spdmRefused || !offersSuite })
    .next (s.emit (.value "spdm" (if s.mgmt.spdm then 1 else 0)))

end Sys2Proof.Machine
end

