-- ==== Sys2Proof/Machine/Clock.lean ====
section
/-!
DEFINITION. Machine/Clock.lean: the root and voltage of each compute die, telemetry, the cap loop, HINT, the droop response, the Pewter
keeper and the start governor (R409 to R424, R437).
-/
namespace Sys2Proof.Machine

/-! Grid of root values (R409). -/

def rootUp (f : Nat) : Nat := if f ≥ 5750 then 5760 else f + 25
def rootDown (f : Nat) : Nat := if f > 5750 then 5750 else max 3600 (f - 25)
/-- Largest grid value not above f, at least 3,600. -/
def gridFloor (f : Nat) : Nat := if f ≥ 5760 then 5760 else if f < 3600 then 3600 else 3600 + 25 * ((f - 3600) / 25)
/-- Grid value nearest f, the lower of two. -/
def gridNear (f : Nat) : Nat :=
  if f ≤ 3600 then 3600 else if f > 5755 then 5760 else if f > 5750 then 5750 else 3600 + 25 * ((f - 3600 + 12) / 25)

/-! Voltage (R410). -/

/-- Bytes of an OCTETS entry, die d at w × d. -/
def State.perDieVal (s : State) (key w d : Nat) : Nat := bits (s.dv key) (8 * w * d) (8 * w)
def State.rootMax (s : State) (d : Nat) : Nat := s.perDieVal (dkey 0x2010 0x02) 2 d
/-- Highest guard in force or asked for, mV. -/
def DieP.guardMv (d : DieP) : Nat := ceilDiv ((d.guards.map Guard.mv16).foldl max 0) 16
/-- Setpoint of a die for a root: V/F value, ageing offset, guard. -/
def State.setpoint (s : State) (d f : Nat) : Nat :=
  Config.vfMilliVolt (s.dv (dkey 0x1000 0x07)) f + s.perDieVal (dkey 0x2060 0x01) 1 d + (s.die d).guardMv

/-- Does any core sensor of a compute die work (R431)? A sensor that has not been read has not failed. -/
def State.dieSensed (s : State) (d : Nat) : Bool := (List.range 80).any (fun k => !(mapGet ({} : SensorP) s.pwr.sensors (80 * d + k)).failed)
/-- Is a die held at 3,600 MHz: stale telemetry (R416), no tables (R405), no core sensor (R431)? -/
def State.dieHeld (s : State) (d : Nat) : Bool := (s.die d).held || s.pwr.slow || !(s.dieSensed d)
/-- The root a die moves to now: its target within its thermal limit and ROOT_MAX (R432, R435, Table 16.7; log 70). -/
def State.rootGoal (s : State) (d : Nat) : Nat := if s.dieHeld d then 3600 else min (s.die d).target (min (s.die d).limit (s.rootMax d))

/-- The voltage for a root is asked for, unless it is already (R410). -/
def DieP.ask (p : DieP) (now f : Nat) : DieP := if p.want = some f then p else { p with want := some f, askAt := now }

/-- ROOT_STEP (R409, R410, R420, R432): one step toward the goal. A rise waits until the regulator has acknowledged the voltage of the
goal; a fall lowers the voltage after its last step. The thermal limit moves with it while the die is throttled. -/
def execRootStep (die : Fin 8) (s : State) : Res :=
  let d := die.val
  let p := s.die d
  if !s.running || p.down || p.frozen || p.supp != 0 || s.railLow d then .next s
  else
    let s := if p.throttled then s.updDie d (fun p => { p with limit := rootDown p.limit }) else s
    let goal := s.rootGoal d
    let f := p.root
    if f < goal then
      if rootUp f ≤ p.volt then .next ((s.updDie d (fun p => { p with root := rootUp f })).count (dkey 0x2010 0x03))
      else .next (s.updDie d (fun p => p.ask s.now (p.want.getD goal)))
    else if goal < f then
      let g := rootDown f
      .next ((s.updDie d (fun p => let p := { p with root := g }; if g = goal then p.ask s.now g else p)).count (dkey 0x2010 0x03))
    else .next (if p.volt ≠ f ∧ p.want.isNone then s.updDie d (fun p => p.ask s.now f) else s)

/-! HINT (R417, R418; Table 16.1). -/

def hDur (i : Nat) : Nat := max 1 (bits (cArg0 i) 44 20)
def hDies (i : Nat) : Nat := bits (cArg0 i) 16 8
def hInt (i : Nat) : Nat := bits (cArg0 i) 8 4
def hClass (i : Nat) : Nat := bits (cArg0 i) 0 4

/-- Compute dies that hold a context's groves. -/
def State.ctxDies (s : State) (c : Nat) : List Nat :=
  let x := s.ctx c
  sortNat ((List.range x.groves).map (fun g => s.dieOf (8 * (x.grove0 + g))))
/-- Served cores of a die. -/
def State.dieCores (s : State) (d : Nat) : List Nat := (List.range s.logicalCores).filter (fun n => s.dieOf n == d && s.served n)

/-- Dies that a HINT names. -/
def State.hintDies (s : State) (ctx img : Nat) : List Nat :=
  if hDies img = 0 then s.ctxDies ctx else (List.range 8).filter (fun d => bitAt (hDies img) d)
/-- A HINT completes; the filler that it armed holds its level for 100 µs more (R418). -/
def State.hintOk (s : State) (ctx ring : Nat) (c : Cmd) : State :=
  ((if hClass c.img = 0 then s.hintDies ctx c.img else []).foldl (fun (t : State) d =>
    t.updDie d (fun p => { p with holdTo := t.now + 100 * us })) s).okCmd ctx ring c 0
/-- The ring's HINT completes, if it waits for its guards. -/
def State.hintEnds (s : State) (k : Nat) : State :=
  match (s.ring ((k - 1) / 8) ((k - 1) % 8)).cur with
  | some c => if cOpc c.img = 0x50 ∧ c.stage = 1 then s.hintOk ((k - 1) / 8) ((k - 1) % 8) c else s
  | none => s
/-- Does a HINT that arms the filler of a die wait for its guards? -/
def State.hinting (s : State) (d : Nat) : Bool :=
  s.rings.any (fun e => e.2.sq.any (fun r => match r.2.cur with
    | some c => cOpc c.img == 0x50 && c.stage == 1 && hClass c.img == 0 && (s.hintDies e.1 c.img).contains d
    | none => false))

/-- The HINTs whose guards every named die carries complete; their guards last from now (R417). -/
def State.hintsDone (s : State) : State :=
  let open' := fun (t : State) (k : Nat) => (List.range 8).any (fun d => (t.die d).guards.any (fun g => g.cmd == k && !g.ready))
  let keys := sortNat ((List.range 8).flatMap (fun d => ((s.die d).guards.filter (fun g => g.cmd != 0)).map Guard.cmd))
  keys.foldl (fun (t : State) k =>
    if open' t k then t
    else
      ((List.range 8).foldl (fun (u : State) d => u.updDie d (fun p => { p with
        guards := p.guards.map (fun g => if g.cmd = k then { g with cmd := 0, ends := u.now + 1000 * g.dur } else g) })) t).hintEnds k) s

/-- HINT (R417, R418): a guard for every named die, and with CLASS 0 its filler. A die with stale telemetry gets its filler alone
(Table 16.7). -/
def execHint (ctx : Fin 4097) (ring : Fin 8) (s : State) : Res :=
  let off := s.dv (dkey 0x2001 0x01) == 0
  let mine := s.ctxDies ctx.val
  ringCmdChecked s ctx.val ring.val 0x50
    (fun c => [(!off && (decide (hClass c.img ≥ 4) ||
        (ctx.val != 4096 && (List.range 8).any (fun d => bitAt (hDies c.img) d && !(mine.contains d)))), Code.commandInvalid, 5)])
    (fun c =>
      let ds := s.hintDies ctx.val c.img
      if off then s.okCmd ctx.val ring.val c 0
      else
        let key := 8 * ctx.val + ring.val + 1
        let g : Guard := { mv16 := s.dv (dkey 0x2001 0x02) * (hInt c.img + 1), dur := hDur c.img, cmd := key }
        let s := (s.count (dkey 0x2001 0x03)).updCmd ctx.val ring.val (fun c => { c with stage := 1 })
        let s := ds.foldl (fun (t : State) d =>
          let lvl := (hInt c.img + 1) * (t.dieCores d).length
          t.updDie d (fun p =>
            let p := if hClass c.img = 0 then { p with hold := some (max lvl (p.hold.getD 0)) } else p
            if p.held || p.down then p else { p with guards := p.guards ++ [g], want := some (p.want.getD p.volt), askAt := t.now })) s
        if ds.any (fun d => (s.die d).guards.any (fun x => x.cmd == key)) then s
        else match (s.ring ctx.val ring.val).cur with
          | some c => s.hintOk ctx.val ring.val c
          | none => s)

/-- AVS_ACK (R410): the voltage asked for stands, with the guards that waited for it. -/
def execAvsAck (die : Fin 8) (s : State) : Res :=
  let d := die.val
  match (s.die d).want with
  | none => .next s
  | some f =>
    if !s.running then .next s
    else
      let mv := s.setpoint d f
      .next ((s.updDie d (fun p => { p with
        volt := f, want := none, millivolt := mv, guards := p.guards.map (fun g => { g with ready := true }) })).hintsDone)

/-- The guards a die waits for are given up; a HINT that waits for no other completes without them (Table 16.7). -/
def State.dropGuards (s : State) (d : Nat) : State :=
  let keys := ((s.die d).guards.filter (fun g => !g.ready)).map Guard.cmd
  let s := s.updDie d (fun p => { p with want := none, guards := p.guards.filter Guard.ready })
  let open' := fun (t : State) (k : Nat) => (List.range 8).any (fun e => (t.die e).guards.any (fun g => g.cmd == k))
  let s := s.hintsDone
  keys.foldl (fun (t : State) k => if open' t k then t else t.hintEnds k) s

/-- AVS_TIMEOUT (R410), 20 µs after the voltage was asked for: the root does not rise; counted and alarmed as stale telemetry. -/
def execAvsTimeout (die : Fin 8) (s : State) : Res :=
  let d := die.val
  if !s.running || (s.die d).want.isNone || !(s.past (s.die d).askAt (20 * us)) then .next s
  else .next (((s.count (dkey 0x2030 0x06)).raise Ev.telemetryStale d).dropGuards d)

/-- HINT_EXPIRY (R417): the guard that ends first leaves once its time is over; the voltage follows with the next setting. -/
def execHintExpiry (die : Fin 8) (s : State) : Res :=
  let l := ((s.die die.val).guards.filter (fun g => g.ready && g.cmd == 0)).map Guard.ends
  match l with
  | [] => .next s
  | e :: r =>
    let m := r.foldl min e
    if !s.running || decide (s.now < m) then .next s
    else .next (s.updDie die.val (fun p => { p with
      guards := match takeFirst (fun g : Guard => g.ready && g.cmd == 0 && g.ends == m) p.guards with
        | some (_, t) => t
        | none => p.guards }))

/-! Telemetry (R411, R414, R416). -/

/-- Largest power of a rail in W (Table 18.1). -/
def railPmax (k : Nat) : Nat :=
  if k < 8 then 1035 else if k < 16 then 93 else if k < 24 then 55 else if k < 28 then 163 else if k < 32 then 47
  else if k = 32 then 28 else if k < 35 then 124 else if k < 37 then 112 else if k = 37 then 25 else if k = 38 then 10 else 4
def State.updRail (s : State) (k : Nat) (f : RailP → RailP) : State := { s with pwr := { s.pwr with rails := mapUpd {} s.pwr.rails k f } }
/-- p_o: every other rail, mW; a stale one at its maximum. -/
def State.otherPower (s : State) : Nat :=
  (List.range 32).foldl (fun a k => a + if (s.rail (8 + k)).stale then 1000 * railPmax (8 + k) else (s.rail (8 + k)).power) 0

/-- AVS_TELEMETRY_READ (R411, R414, R416): a valid reading enters the samples; 20 in a row end a stale rail's hold, and a reading that
is not valid ends the row; the sum of the latest drives the EDP stretch. -/
def execAvsTelemetryRead (die : Fin 8) (milliWatt milliVolt : Nat) (valid : Bool) (s : State) : Res :=
  let d := die.val
  if !s.running then .next s
  else if !valid then .next (s.updDie d (fun p => { p with fresh := 0 }))
  else
    let s := s.updRail d (fun r => { r with power := milliWatt, mv := milliVolt, lastOk := s.now, stale := r.stale && decide ((s.die d).fresh + 1 < 20) })
    let s := s.updDie d (fun p => { p with
      samples := (milliWatt :: p.samples).take 20
      fresh := if p.held then p.fresh + 1 else 0
      held := p.held && decide (p.fresh + 1 < 20) })
    let total := (List.range 8).foldl (fun a k => a + (s.rail k).power) s.otherPower
    if total > 4400000 ∧ !s.pwr.edp then .next ({ s with pwr := { s.pwr with edp := true } }.count (dkey 0x2000 0x07))
    else if total ≤ 4000000 then .next { s with pwr := { s.pwr with edp := false } }
    else .next s

/-- PMBUS_TELEMETRY_READ (R411, R416). -/
def execPmbusTelemetryRead (rail : Fin 40) (milliWatt milliVolt : Nat) (valid : Bool) (s : State) : Res :=
  if !s.running || !valid || decide (rail.val < 8) then .next s
  else .next (s.updRail rail.val (fun r => { r with power := milliWatt, mv := milliVolt, lastOk := s.now, stale := false }))

/-- TELEMETRY_STALE (R416): no valid reading for 2 ms. -/
def execTelemetryStale (rail : Fin 40) (s : State) : Res :=
  let k := rail.val
  if !s.running || !(s.past (s.rail k).lastOk (2 * ms)) then .next s
  else
    let s := s.updRail k (fun r => { r with stale := true })
    if k < 8 then .next (((s.updDie k (fun p => { p with held := true, fresh := 0 })).count (dkey 0x2030 0x06)).raise Ev.telemetryStale k)
    else .next (s.raise Ev.telemetryStale k)

/-! The cap loop (R412, R413, R432). -/

/-- A common multiple of 1 to 20, so that means of at most 20 samples are whole. -/
def lcm20 : Nat := 232792560
/-- p_c × lcm20, mW: the sum over the rails of the mean of their samples. -/
def State.computePower (s : State) : Nat :=
  (List.range 8).foldl (fun a d =>
    let l := (s.die d).samples
    a + if l.isEmpty then 0 else l.foldl (· + ·) 0 * (lcm20 / l.length)) 0
/-- The sum of the 8 roots, 8 × f_m. -/
def State.rootSum (s : State) : Nat := (List.range 8).foldl (fun a d => a + (s.die d).root) 0

/-- n of R412: ⌊(target - p_c - p_o) / (25 slope)⌋ within -16 to 8. With no power measured it is a free value (log 6). -/
def State.capSteps (s : State) : Int :=
  let pl := s.computePower
  let t : Int := ((s.dv (dkey 0x2000 0x01) : Int) - s.dv (dkey 0x2000 0x03)) * 1000
  let n : Int := if pl = 0 then (s.freeVal 25 : Int) - 16
    else ((t - s.otherPower) * lcm20 - pl) * s.rootSum / (400 * pl : Nat)
  max (-16) (min 8 n)

/-- CAP_LOOP (R412): the device target, every die's target, throttled time and the release of thermal limits. -/
def execCapLoop (s : State) : Res :=
  if !s.running then .next s
  else
    let on := s.dv (dkey 0x2000 0x02) != 0
    let ft := if on then gridNear ((s.pwr.ft : Int) + 25 * s.capSteps).toNat else 5760
    let s := { (if on && s.computePower == 0 then s.drawn else s) with pwr := { s.pwr with ft := ft } }
    let s := if ft < 5760 then s.count (dkey 0x2000 0x06) else s
    let hot := ((List.range 8).filter (fun d => (s.die d).throttled)).length
    let s := if hot = 0 then s else s.count (dkey 0x2050 0x03) hot
    .next ((List.range 8).foldl (fun (t : State) d =>
      let m := t.rootMax d
      t.updDie d (fun p =>
        let lim := match p.cool with | some n => if n ≥ 1 then 5760 else p.limit | none => p.limit
        { p with limit := lim, cool := p.cool.map (· + 1), target := min ft (min lim m) })) s)

/-- R413: would a cap and guard (W) be refused? -/
def State.capRefused (s : State) (cap guard : Nat) : Bool :=
  let f := s.rootSum
  (List.range 8).any (fun d => (s.rail d).stale) ||
  decide ((cap - guard) * 1000 * lcm20 * f * f < s.otherPower * lcm20 * f * f + s.computePower * 28800 * 28800)

/-! Droop (R419, R420). -/

/-- The step sequence freezes; each freeze counts once (R420). -/
def State.freeze (s : State) (d : Nat) : State :=
  if (s.die d).frozen then s else (s.updDie d (fun p => { p with frozen := true })).count (dkey 0x2011 0x04)

/-- DROOP_CROSSING (R419). -/
def execDroopCrossing (die : Fin 8) (detector : Fin 16) (s : State) : Res :=
  let d := die.val
  if !s.running || (s.die d).down then .next s
  else .next (((s.count (dkey 0x2011 0x02)).updDie d (fun p => { p with supp := 4, low := insNat detector.val p.low, clearAt := s.now })).freeze d)
/-- DROOP_RELEASE (R419): one eighth of the edges returns, 20 ns after the crossing or the step before. How many were suppressed meanwhile
is a free value. -/
def execDroopRelease (die : Fin 8) (s : State) : Res :=
  let p := s.die die.val
  if !s.running || p.supp = 0 || !(s.past p.clearAt 20) then .next s
  else .next ((s.updDie die.val (fun p => { p with supp := p.supp - 1, low := [], clearAt := s.now })).countFree (dkey 0x2011 0x03))
/-- STEP_FREEZE_END (R420, Table 16.7): 5 µs after suppression has ended; not while suppression or a warning lasts. -/
def execStepFreezeEnd (die : Fin 8) (s : State) : Res :=
  let d := die.val
  if !s.running || (s.die d).supp != 0 || s.railLow d || !(s.past (s.die d).clearAt (5 * us)) then .next s else .next (s.updDie d (fun p => { p with frozen := false }))

/-! The Pewter keeper (R418, R421). -/

/-- Did the load fall below three quarters of what it was 1 µs before, from at least one eighth of the served arrays? -/
def loadFell (served : Nat) (l : List Nat) : Bool :=
  match l[0]?, l[10]? with
  | some x, some y => decide (4 * x < 3 * y) && decide (8 * y ≥ 16 * served)
  | _, _ => false
/-- The load the filler holds a die to, sixteenths: a HINT's level, or the ramp t(τ). -/
def DieP.fillGoal (p : DieP) (now : Nat) : Nat :=
  match p.hold, p.trig with
  | some h, _ => h
  | none, some (t0, l1) => l1 * (1000 * p.ramp - (now - t0)) / (1000 * p.ramp)
  | none, none => 0
/-- Arrays of a die that may run filler: an empty queue, a core served, a grove that is not switching. -/
def State.idleArrays (s : State) (d : Nat) : Nat :=
  ((s.dieCores d).filter (fun n => match s.heldCtx n with
    | some c => (s.img c n).mxq.isEmpty && (s.liveCtx n).isSome
    | none => true)).length

/-- PEWTER_SAMPLE (R421): the load L in sixteenths of an array. A fall that begins now triggers a ramp from the current total. The rows
that filler has streamed since the last sample are a free number. -/
def execPewterSample (die : Fin 8) (sixteenths : Nat) (s : State) : Res :=
  let d := die.val
  let p := s.die d
  if !s.running || p.down then .next s
  else
    let on := s.dv (dkey 0x2020 0x01) != 0
    let served := (s.dieCores d).length
    let l := if on then (sixteenths :: p.loads).take 12 else []
    let hit := on && p.hold.isNone && loadFell served l && !(loadFell served p.loads)
    let l1 := match p.trig with
      | some _ => max sixteenths (p.fillGoal s.now)
      | none => (l[10]?).getD 0
    let s := if hit then s.count (dkey 0x2020 0x03) else s
    let ramp := s.dv (dkey 0x2020 0x02)
    let p := if hit then { p with trig := some (s.now, l1), ramp := ramp } else if on then p else { p with trig := none }
    let p := { p with loads := l, trig := match p.trig with | some (t0, x) => if s.now > t0 + 1000 * p.ramp then none else some (t0, x) | none => none }
    let room := 16 * s.idleArrays d
    let t := s.updDie d (fun _ => { p with filler := min room (p.fillGoal s.now - sixteenths) })
    .next (if (s.die d).filler = 0 then t else t.countFree (dkey 0x2020 0x04))

/-- FILLER_HOLD_EXPIRY (R418), 100 µs after the HINT completed: the hold ends and the ramp down begins. -/
def execFillerHoldExpiry (die : Fin 8) (s : State) : Res :=
  let p := s.die die.val
  match p.hold with
  | none => .next s
  | some h =>
    if !s.running || s.hinting die.val || decide (s.now < p.holdTo) then .next s
    else .next (s.updDie die.val (fun p => { p with hold := none, trig := some (s.now, h), ramp := s.dv (dkey 0x2020 0x02) }))

/-! The start governor (R423). -/

/-- Does a core hold a start that waits? -/
def State.govWaits (s : State) (n : Nat) : Bool :=
  match s.liveCtx n with
  | some c => (match (s.img c n).mxq with | op :: _ => !op.started && op.gov == 1 | [] => false)
  | none => false
/-- GOVERNOR_WINDOW (R423): the waiting starts of the next grove are admitted; with none the window closes. -/
def execGovernorWindow (die : Fin 8) (s : State) : Res :=
  let d := die.val
  if !s.running then .next s
  else
    let gs := sortNat (((s.dieCores d).filter s.govWaits).map (· / 8))
    let last := (s.die d).grove
    match (gs.filter (fun g => decide (g > last)) ++ gs.filter (fun g => decide (g ≤ last))).head? with
    | none => .next (s.updDie d (fun p => { p with window := false }))
    | some g =>
      let s := ((s.dieCores d).filter (fun n => n / 8 == g && s.govWaits n)).foldl (fun (t : State) n =>
        match t.liveCtx n with
        | some c => t.updImg c n (fun i => { i with mxq := match i.mxq with | op :: r => { op with gov := 2 } :: r | [] => [] })
        | none => t) s
      .next (s.updDie d (fun p => { p with grove := g, window := true }))

end Sys2Proof.Machine
end

