-- ==== Sys2Proof/Machine/Supply.lean ====
section
/-!
DEFINITION. Machine/Supply.lean: supply warnings, power failures, die resets and power domains (R425 to R430, R437).
-/
namespace Sys2Proof.Machine

/-! The safe state (R428). -/

/-- A running command ends at once. -/
def State.endCmd (s : State) (ctx ring : Nat) (c : Cmd) (code : Status) : State :=
  let opc := cOpc c.img
  if opc = 0x10 then
    match s.launch? c.launch with
    | some l => (s.quenchLaunch l code).dropLaunch { l with st := code } code
    | none => s.stopCmd ctx ring c code
  else if opc = 0x40 ∧ c.stage ≠ 0 then
    match mapFind s.exch ctx with
    | some e => (s.dropWork c.id).exchEnd ctx ring e.blk (some (code, none)) (if xGather e.blk then e.agDone else e.rsDone) e.checked e.cnt
    | none => s.stopCmd ctx ring c code
  else s.stopCmd ctx ring c code

/-- Every running command, context by context and ring by ring. -/
def State.runningCmds (s : State) : List (Nat × Nat × Cmd) :=
  s.rings.flatMap (fun e => e.2.sq.filterMap (fun r => r.2.cur.map (fun c => (e.1, r.1, c))))

/-- What the controllers have admitted is applied; what they have not is never made (R428 step 2). -/
def State.finishAdmitted (s : State) : State :=
  let s := (s.reqs.filter (fun r => !r.win && r.walk.isEmpty)).foldl (fun (t : State) r => t.serveParts r.id r.inQueue) s
  { s with reqs := s.reqs.filter (fun r => r.ph == .done), banks := s.banks.map (fun e => (e.1, { e.2 with q := [] })), rels := [] }

/-- The safe state is entered (R428 steps 1 to 4). -/
def State.enterSafe (s : State) (rail : Nat) : State :=
  let s := s.finishAdmitted
  let s := s.runningCmds.foldl (fun (t : State) e =>
    match (t.ring e.1 e.2.1).cur with
    | some c => t.endCmd e.1 e.2.1 c Code.powerReset
    | none => t) s
  { s with
    dev := { s.dev with phase := .safe, alert := true }
    board := { s.board with inSafe := true }
    pwr := { s.pwr with failed := true, failRail := rail }
    reqs := [] }

/-! Warnings (R425 to R427). -/

/-- SUPPLY_WARNING (R426, Table 16.5): the effects of the rail's class are read off its level by the units they touch; a compute rail's
step sequence freezes (Table 16.7). -/
def execSupplyWarning (rail : Fin 40) (milliVolt : Nat) (s : State) : Res :=
  let k := rail.val
  if !(s.running || s.dev.phase == .safe) then .next s
  else if (s.rail k).st ≠ 0 then .next (s.updRail k (fun r => { r with lowest := min r.lowest milliVolt }))
  else
    let s := if s.pwr.rails.any (fun e => e.2.st != 0) then s else { s with pwr := { s.pwr with fenced := s.now } }
    let s := (s.updRail k (fun r => { r with st := 1, since := s.now, lowest := milliVolt })).count (dkey 0x2030 0x02)
    .next (if k < 8 then s.freeze k else s)

/-- POWER_FAILURE (R428): a warning has lasted longer than 1 ms. -/
def execPowerFailure (rail : Fin 40) (s : State) : Res :=
  if s.running && (s.rail rail.val).st == 1 && s.past (s.rail rail.val).since (ms + 1) then .next (s.enterSafe rail.val) else .next s

/-- POWER_FAILURE_RECOVERY (R428, R471): 10 ms after every rail is back the failure is recorded and counted, and flash is programmed
again. The safe state stays. -/
def execPowerFailureRecovery (s : State) : Res :=
  if !s.pwr.failed || !(s.dev.phase == .safe || s.dev.phase == .badRails) then .next s
  else
    let s := if s.dev.phase = .badRails then s.yewScan else s
    let bad := s.dev.phase == .badRails
    let k := s.pwr.failRail
    let s := { s with pwr := { s.pwr with failed := false, rails := s.pwr.rails.map (fun (e : Nat × RailP) => (e.1, { e.2 with st := 0 })) } }
    .next ((s.count (dkey 0x2030 0x04)).raise Ev.powerFailure k 0 0 (if bad then [k] else []))

/-! The reset of a compute die (R429). -/

/-- Commands of a context that its die's reset ends: its launches, and what has begun of the others that need cores. -/
def State.dieWork (s : State) (c : Nat) : List (Nat × Cmd) :=
  (s.ringsOf c).sq.filterMap (fun r => match r.2.cur with
    | some k =>
      let runs := if cOpc k.img = 0x10 then ((s.launch? k.launch).map (fun l => !l.cores.isEmpty)).getD false
                  else needsCores (cOpc k.img) && k.stage != 0
      if runs then some (r.1, k) else none
    | none => none)

/-- What the cores of a die hold beside the images of the contexts: gone. -/
def State.dropDie (s : State) (d : Nat) : State :=
  let mine := fun (n : Nat) => s.dieOf n == d
  let own : Req → Bool := fun r => match r.src with
    | .core n => mine n
    | _ => false
  { s with caches := s.caches.filter (fun e => !(mine e.1))
           rels := s.rels.filter (fun r => !(mine r.core))
           reqs := (s.reqs.filter (fun r => !(own r && (r.ph == .waiting || r.ph == .slot || r.ph == .done)))).map (fun (r : Req) =>
             if own r then { r with owner := 0, noslot := true, alloc := false } else r) }

/-- A die is reset: its contexts' work fails with POWER_RESET and they become unplaced (Table 14.11); an unfinished switch of their
partition is given up. -/
def State.dieReset (s : State) (d : Nat) : State :=
  let hit := s.parts.filter (fun p => (s.partDies p.1 p.2.groves).contains d)
  let s := { s with parts := s.parts.map (fun p => if (s.partDies p.1 p.2.groves).contains d then (p.1, { p.2 with toCtx := none, jobs := [] }) else p) }
  let s := hit.foldl (fun (t : State) p =>
    let c := p.2.resident
    if c = nobody then t
    else
      let t := (t.dieWork c).foldl (fun (u : State) e =>
        match (u.ring c e.1).cur with | some k => u.endCmd c e.1 k Code.powerReset | none => u) t
      t.unplace c) s
  let s := (s.dropDie d).dropGuards d
  let s := s.updDie d (fun p => { held := p.held, fresh := p.fresh, limit := p.limit, hot := p.hot, throttled := p.throttled,
                                  margin := p.margin, down := true })
  (s.count (dkey 0x2030 0x05)).raise Ev.dieReset d Code.powerReset

/-- RAIL_RESET_LEVEL (R429): ALERT# is asserted (R480). -/
def execRailResetLevel (rail : Fin 40) (s : State) : Res :=
  let k := rail.val
  if !(s.running || s.dev.phase == .safe) then .next s
  else
    let run := s.running
    let s := s.updRail k (fun r => { r with st := 2, since := if r.st = 0 then s.now else r.since })
    let s := { s with dev := { s.dev with alert := true } }
    if !run then .next s else if k < 8 then .next (if (s.die k).down then s else s.dieReset k) else .next (s.enterSafe k)

/-! Power domains (R430, Table 16.6). -/

/-- Does a request or chunk wait for a bank group or an engine that sleeps? -/
def State.domainBusy (s : State) (k : Nat) : Bool :=
  if 720 ≤ k ∧ k < 848 then !((mapGet ({} : BankQ) s.banks (qNear ((k - 720) / 16) ((k - 720) % 16))).q.isEmpty)
  else (s.engineNext (k - 864)).isSome
/-- Domains that idle off and wake on demand: near-tier bank groups, and Alder engines that are not fenced. -/
def State.domainNaps (s : State) (k : Nat) : Bool :=
  decide (720 ≤ k ∧ k < 848) || (decide (864 ≤ k ∧ k < 880) && s.engineOk (k - 864))

/-- DOMAIN_WAKE. -/
def execDomainWake (dom : Fin 911) (s : State) : Res :=
  let k := dom.val
  if s.running && s.domainNaps k && s.domainBusy k then
    .next { s with pwr := { s.pwr with domOff := s.pwr.domOff.filter (fun x => x != k), domRet := s.pwr.domRet.filter (fun x => x != k) } }
  else .next s
/-- DOMAIN_IDLE_OFF: a bank group enters retention, an engine is switched off. -/
def execDomainIdleOff (dom : Fin 911) (s : State) : Res :=
  let k := dom.val
  if !s.running || !(s.domainNaps k) || s.domainBusy k then .next s
  else if k < 848 then .next { s with pwr := { s.pwr with domRet := insNat k s.pwr.domRet } }
  else .next { s with pwr := { s.pwr with domOff := insNat k s.pwr.domOff } }

end Sys2Proof.Machine
end

