-- ==== Sys2Proof/Machine/Thermal.lean ====
section
/-!
DEFINITION. Machine/Thermal.lean: junction sensors, throttling and trips (R431 to R433), stack temperatures (R219, R220), Heartwood and
the margin planner (R434 to R436), and a die's return to service (R429).
-/
namespace Sys2Proof.Machine

/-! Thermal trips (R433, R480). -/

/-- A thermal trip: THERMTRIP# is asserted, every clock but the management clock stops. cause: 1 junction, 2 stack; n: its number. -/
def State.thermalTrip (s : State) (cause n unit : Nat) : State :=
  let s := (s.persist (dkey 0x2050 0x05) (256 * cause + n)).raise Ev.thermalTrip unit
  { s with dev := { s.dev with phase := .tripped, thermtrip := true } }

/-! Junction sensors. -/

/-- Key of a sensor's state, and the instance of unit class 13 it belongs to. -/
def sensorKey : Sensor → Nat
  | .core p => p.val
  | .memDie d n => 640 + 4 * d.val + n.val
  | .ioDie e n => 672 + 8 * e.toNat + n.val
def sensorUnit : Sensor → Nat
  | .core p => p.val / 80
  | .memDie d _ => 8 + d.val
  | .ioDie e _ => 16 + e.toNat
/-- Key of the thermal state a sensor drives: its compute stack, or its I/O die. -/
def sensorDie : Sensor → Nat
  | .core p => p.val / 80
  | .memDie d _ => d.val
  | .ioDie e _ => 16 + e.toNat

/-- Readings of the working sensors behind a thermal state. -/
def State.temps (s : State) (d : Nat) : List Int :=
  let ks := if d < 8 then (List.range 80).map (fun k => 80 * d + k) ++ (List.range 4).map (fun k => 640 + 4 * d + k)
            else (List.range 8).map (fun k => 672 + 8 * (d - 16) + k)
  ks.filterMap (fun k =>
    let x := mapGet ({} : SensorP) s.pwr.sensors k
    if x.read && !x.failed then some x.temp else none)
/-- Tj (R432): the hottest of them; none while none has been read. -/
def State.tj (s : State) (d : Nat) : Option Int :=
  (s.temps d).foldl (fun (m : Option Int) t => some (match m with | some x => max x t | none => t)) none

/-- Throttling follows Tj (R432); the ARITH gate of R433 ends below 103 °C. -/
def State.followTj (s : State) (d : Nat) : State :=
  match s.tj d with
  | none => s
  | some t =>
    let lim : Int := s.dv (dkey 0x2050 0x02)
    s.updDie d (fun p => { p with
      throttled := decide (d < 8 ∧ t ≥ lim)
      cool := if d < 8 ∧ t ≤ lim - 3 then some (p.cool.getD 0) else none
      hot := p.hot && decide (t ≥ 103) })

/-- JUNCTION_SENSOR_READ (R431 to R433). -/
def execJunctionSensorRead (sensor : Sensor) (temp : Int) (s : State) : Res :=
  let k := sensorKey sensor
  let d := sensorDie sensor
  if !(s.running || s.dev.phase == .safe) || (mapGet ({} : SensorP) s.pwr.sensors k).failed then .next s
  else if temp < -40 ∨ 150 < temp then
    let s := { s with pwr := { s.pwr with sensors := mapUpd {} s.pwr.sensors k (fun x => { x with failed := true }) } }
    .next ((s.raise Ev.sensorFailed (sensorUnit sensor)).followTj d)
  else
    let s := { s with pwr := { s.pwr with sensors := mapUpd {} s.pwr.sensors k (fun x => { x with read := true, temp := temp }) } }
    let s := s.followTj d
    let s := if temp ≥ 105 ∧ !(s.die d).hot then
        ((s.updDie d (fun p => { p with hot := true })).count (dkey 0x2050 0x04)).raise Ev.thermalEmergency (sensorUnit sensor)
      else s
    .next (if temp ≥ 110 then s.thermalTrip 1 (sensorUnit sensor) (sensorUnit sensor) else s)

/-! Stack temperatures (R219, R220). -/

/-- Threshold of a refresh step. -/
def stepAt (k : Nat) : Int := if k = 0 then -128 else if k = 1 then 85 else if k = 2 then 95 else 105
/-- The step after a reading: up to the highest reached, down while 3 °C below the current threshold (log 71). -/
def stepDown (t : Int) : Nat → Nat
  | 0 => 0
  | k + 1 => if t ≤ stepAt (k + 1) - 3 then stepDown t k else k + 1
def stepOf (t : Int) (cur : Nat) : Nat :=
  let up := if t ≥ 105 then 3 else if t ≥ 95 then 2 else if t ≥ 85 then 1 else 0
  if up ≥ cur then up else stepDown t cur

/-- STACK_TEMP_READ. -/
def execStackTempRead (stack : Fin 16) (temp : Int) (s : State) : Res :=
  let k := stack.val
  let x := stackOf s k
  if !(s.running || s.dev.phase == .safe) || x.tripped then .next s
  else if temp ≥ 110 then
    let s := s.updStack k (fun x => { x with temp := temp, tripped := true })
    let hit := s.reqs.filter (fun r => s.admittedTo r (fun o => (s.place o).stack == k))
    let s := hit.foldl (fun (t : State) r => ((t.unqueue r.id).updReq r.id (fun r => { r with ph := .done, st := Code.uncorrectable })).afterDone r.id) s
    .next (s.thermalTrip 2 k (8 + dieOfStack k))
  else
    let n := stepOf temp x.step
    let s := s.updStack k (fun x => { x with temp := temp, step := n })
    .next (if n ≠ x.step ∧ n ≥ 2 then (s.count (dkey 0x3013 0x03)).raise Ev.refreshStep (32 * k) else s)

/-! The margin planner (R435, R436). -/

/-- A slowdown as a fraction: the FP32 value of a code that is positive and finite. -/
def f32Ratio (c : Nat) : Nat × Nat :=
  let e := bits c 23 8
  let m := if e = 0 then bits c 0 23 else 2 ^ 23 + bits c 0 23
  if e ≥ 150 then (m * 2 ^ (e - 150), 1) else (m, 2 ^ (150 - max e 1))
/-- The value an entry has once the journal writes that wait for it have taken effect. -/
def State.planned (s : State) (key : Nat) : Nat :=
  ((((s.mgmt.own.filter (fun w => w.key == key && w.signed.isNone)).getLast?).map JWrite.val)).getD (s.dv key)

/-- What a re-plan sets: MARGIN_MV, SLOWDOWN, DERATED, ROOT_MAX, and the dies that derate now. -/
structure Plan where
  margin  : Nat
  slow    : Nat
  derated : Nat
  rmax    : Nat
  worse   : List Nat := []

/-- R435 for one die: heart is the worst of its monitors in millionths, kdel in thousandths. -/
def Plan.die (q : Plan) (kdel d heart : Nat) : Plan :=
  let code := bits q.slow (32 * d) 32
  let (sn, sd) := f32Ratio code
  let (wn, wd) := if heart * sd > sn * 1000000 then (heart, 1000000) else (sn, sd)
  let code' := if heart * sd > sn * 1000000 then fp32Bits (Ex.div (Ex.ofNat heart) (Ex.ofNat 1000000)) else code
  let need := if wn ≤ wd then 0 else 5 * ceilDiv (kdel * (wn - wd)) (5000 * wd)
  let q := { q with slow := setBits q.slow (32 * d) 32 code' }
  if need ≤ 45 then { q with margin := setBits q.margin (8 * d) 8 (max (bits q.margin (8 * d) 8) need) }
  else
    let root := gridFloor (5760 * wd * kdel / (wn * kdel - 45000 * wd))
    let old := bits q.rmax (16 * d) 16
    let q := { q with margin := setBits q.margin (8 * d) 8 45, rmax := setBits q.rmax (16 * d) 16 (min old root) }
    if root < old then { q with derated := q.derated ||| 2 ^ d, worse := q.worse ++ [d] } else q

/-- A re-plan of the dies given with their readings: journaled before it takes effect, and taking effect in any case (R435). -/
def State.replan (s : State) (readings : List (Nat × Nat)) : State :=
  let kdel := Config.kdelMilli (s.dv (dkey 0x1000 0x07))
  let q : Plan := { margin := s.planned (dkey 0x2060 0x01), slow := s.planned (dkey 0x2060 0x02), derated := s.planned (dkey 0x2060 0x03)
                    rmax := s.planned (dkey 0x2010 0x02) }
  let q := readings.foldl (fun q r => q.die kdel r.1 r.2) q
  let put := fun (t : State) (e : Nat × Nat) => t.ownWrite { key := e.1, val := e.2, old := t.dv e.1, began := t.now, eff := 2 }
  let s := [(dkey 0x2060 0x01, q.margin), (dkey 0x2060 0x02, q.slow), (dkey 0x2060 0x03, q.derated), (dkey 0x2010 0x02, q.rmax),
            (dkey 0x2060 0x04, s.powerCycles * 2 ^ 32 + s.opTime)].foldl put s
  let s := s.count (dkey 0x2060 0x06)
  q.worse.foldl (fun (t : State) d => (t.updDie d (fun p => { p with margin := true })).raise Ev.endOfMargin d) s

/-- A list of readings, die by die from 0. -/
def readingsOf (heart : List Nat) : List (Nat × Nat) := (List.zip (List.range 8) heart)

/-- HEARTWOOD_REPLAN (R434): every 500 h of operating time. -/
def execHeartwoodReplan (heart : List Nat) (s : State) : Res :=
  if s.running then .next (s.replan (readingsOf heart)) else .next s

/-- DIE_REJOIN (R429): V/F and margin setting at 3,600 MHz; the cap loop raises the root. -/
def execDieRejoin (die : Fin 8) (heart : Nat) (s : State) : Res :=
  let d := die.val
  if !s.running || !(s.die d).down then .next s
  else
    let s := (s.updRail d (fun r => { r with st := 0 })).replan [(d, heart)]
    .next ((s.updDie d (fun p => { p with down := false, root := 3600, target := 3600, volt := 3600, millivolt := s.setpoint d 3600 })).readmit)

end Sys2Proof.Machine
end

