-- ==== Sys2Proof/Machine/DictRead.lean ====
section
/-!
DEFINITION. Machine/DictRead.lean: what a read of each entry of the object dictionary returns (R393 to R397, R458, R463 and the tables of
every chapter), and QUERY (R340).
-/
namespace Sys2Proof.Machine

/-! Views that are computed from the state. -/

/-- The physical cores that serve now. -/
def State.servedPhys (s : State) : List Nat := s.servedCores.map s.physAny
/-- Byte of ARRAY_MAP. -/
def State.arrayByte (s : State) (ps : List Nat) (p : Nat) : Nat :=
  if s.dev.fenced.contains p then 0xFE else if !(ps.contains p) then 0xFF
  else match mapFind s.dev.narrow p with
    | some g => g - 1
    | none => 0x80
/-- Byte strings from numbers, one byte each. -/
def byteRow (l : List Nat) : List Byte := l.map (BitVec.ofNat 8)
/-- The first grove of the partition over a logical grove, 0xFF without one. -/
def State.groveByte (s : State) (g : Nat) : Nat :=
  ((s.parts.find? (fun p => decide (p.1 ≤ g ∧ g < p.1 + p.2.groves))).map Prod.fst).getD 0xFF

/-- Is a power domain on (Table 16.6)? `ps`: physical cores that serve under a placement. -/
def State.domainOn (s : State) (ps : List Nat) (k : Nat) : Bool :=
  if k < 640 then ps.contains k
  else if k < 720 then ps.any (fun p => p / 8 == k - 640)
  else if k < 848 then !(s.pwr.domRet.contains k)
  else if k < 864 then !((List.range 32).all (fun c => bitAt s.outSet (16 * c + (k - 848))))
  else if k < 880 then s.engineOk (k - 864) && !(s.pwr.domOff.contains k)
  else if k < 898 then s.portMode (k - 880) != 0
  else if k < 902 then s.portMode (14 + (k - 898)) == 2
  else true
/-- Physical cores that serve and whose grove a partition covers. -/
def State.placedPhys (s : State) : List Nat := (s.servedCores.filter (fun n => (s.partOf n).isSome)).map s.physAny

/-- GW_STATE of a gateway. -/
def State.gwState (s : State) (g : Nat) : Nat :=
  let x := s.port (14 + g)
  if s.portMode (14 + g) != 2 then 0 else if x.st = 4 then 2 else if x.st = 5 ∨ x.st = 0 then 3 else 1

/-- ORDERING_CODE (R17). -/
def State.orderingCode (s : State) : List Byte :=
  match s.dev.grade with
  | none => []
  | some .dt9_576 => label "DT9-576"
  | some .dt9_512 => label "DT9-512"

/-- A Yew slot as YEW_READ shows it (R458): programmed, staged, or erased. -/
def State.yewRaw (s : State) (n : Nat) : List Byte :=
  let v := mapGet 0 s.rep.log n
  if v ≠ 0 then leBytes 64 v
  else match (if n < s.rep.nextSlot then none else s.rep.staging[n - s.rep.nextSlot]?) with
    | some y => leBytes 64 (yewBits y n s.rep.gen)
    | none => List.replicate 64 0xFF

/-- Near-tier bytes neither mapped nor reserved. -/
def State.nearFree (s : State) : Nat :=
  let held := (s.owner.filter (fun e => decide (2 ^ 41 ≤ e.1 * granuleBytes) && e.2.state != 0)).length + (s.saves.map (fun r => r.2.2.length)).foldl (· + ·) 0
  0x2E0000000 - granuleBytes * held
/-- HBM bytes whose granules are FIRMWARE (R495). -/
def State.hbmFirmware (s : State) : Nat :=
  granuleBytes * ((s.dev.fw.map Prod.snd).foldl (· + ·) 0 + (s.owner.filter (fun e => decide (e.1 < 33554432) && e.2.state == 4)).length)

/-- Entries of a context's record that are read off its state (Tables 13.13, 14.8, 07.9). -/
def State.ctxView (s : State) (c sub : Nat) : Option (List Byte) :=
  let x := s.ctx c
  match sub with
  | 0x01 => some (leBytes 1 x.st)
  | 0x40 => some (leBytes 4 ((x.leaves.filter (fun l => l.2.acc)).foldl (fun a l => a + leafBytes l.2.size / 65536) 0))
  | 0x61 => some (leBytes 1 x.priv.toNat)
  | 0x62 => some (leBytes 48 x.mctx.toNat)
  | 0x63 => some (leBytes 4 x.codeCount)
  | 0x64 => some (leBytes 2 (x.groves * 256 + x.grove0))
  | 0x65 => some (leBytes 1 x.debugged.toNat)
  | 0x70 => some (leBytes 8 (mapGet ({} : Bind) x.binds 0).value.toNat)
  | 0x71 => some (leBytes 8 (mapGet ({} : Bind) x.binds 1).value.toNat)
  | 0x72 => some (leBytes 8 (mapGet ({} : Bind) x.binds 2).value.toNat)
  | 0x73 => some (leBytes 8 (mapGet ({} : Bind) x.binds 3).value.toNat)
  | _ => none

/-- Entries of the device that are read off its state. -/
def State.devView (s : State) (key : Nat) : Option (List Byte) :=
  let n := fun (w v : Nat) => some (leBytes w v)
  match key with
  | 0x100003 => some s.orderingCode
  | 0x100008 => n 4 s.opTime
  | 0x10000A => n 8 (s.powerCycles * 2 ^ 32 + s.opTime % 2 ^ 32)
  | 0x110009 => n 1 (s.mgmt.sess.filter (fun e => e.2.isOpen)).length
  | 0x11000D => n 1 s.mgmt.port
  | 0x200004 => n 4 ((s.computePower / lcm20 + s.otherPower) / 1000)
  | 0x200005 => some ((List.range 40).flatMap (fun k => leBytes 4 (s.rail k).power))
  | 0x201001 => some ((List.range 8).flatMap (fun d => leBytes 2 (s.die d).root))
  | 0x203001 => some (byteRow ((List.range 40).map (fun k => (s.rail k).st)))
  | 0x204001 => n 2 ((List.range 911).filter (fun k => (720 ≤ k && k < 848) || s.domainOn s.placedPhys k)).length
  | 0x204002 =>
    let ps := s.placedPhys
    some (byteRow ((List.range 114).map (fun i => (List.range 8).foldl (fun a b => if 8 * i + b < 911 && s.domainOn ps (8 * i + b) then a + 2 ^ b else a) 0)))
  | 0x205001 => some (byteRow ((List.range 8).map (fun d => ofSigned 8 ((s.tj d).getD 0))))
  | 0x300003 => n 8 s.nearFree
  | 0x300004 => n 2 s.saves.length
  | 0x300005 => n 8 s.hbmFirmware
  | 0x301001 => n 8 s.hbmBacked
  | 0x301002 => n 2 s.outCount
  | 0x301007 => n 1 s.hbm.mapout.step
  | 0x301301 => some (byteRow ((List.range 16).map (fun k => ofSigned 8 (stackOf s k).temp)))
  | 0x301302 => some (byteRow ((List.range 16).map (fun k => if (stackOf s k).tripped then 0xFF else (stackOf s k).step)))
  | 0x400001 => n 2 s.servedCores.length
  | 0x400002 => n 1 s.groves
  | 0x400003 => n 2 (640 - s.dev.fenced.length - s.servedCores.length)
  | 0x400004 => n 2 (s.servedCores.filter (fun k => s.width k == 120)).length
  | 0x402003 => n 4 s.dbgStatus
  | 0x403101 =>
    let ps := s.servedPhys
    some (byteRow ((List.range 640).map (s.arrayByte ps)))
  | 0x600301 => n 1 s.parts.length
  | 0x600302 => some (byteRow ((List.range 72).map s.groveByte))
  | 0x600401 => n 8 (granuleBytes * (s.owner.filter (fun e => e.2.state == 3)).length)
  | 0x600004 => some (leBytes 48 Config.romMeasure.toNat)
  | 0x700003 => n 2 s.dev.fenced.length
  | 0x701001 => some (s.ovfl.flatMap (leBytes 4))
  | 0x701004 => some ((match s.snap with | some (_, l) => l | none => []).flatMap (leBytes 8))
  | 0x702001 => n 4 s.rep.nextSlot
  | 0x702002 => n 2 s.rep.gen
  | 0x702004 => some ((List.range 16).flatMap (fun i => s.yewRaw (s.dv (dkey 0x7020 0x03) + i)))
  | 0x702009 => n 1 (if s.rep.erasing = 0 then 0 else 1)
  | 0x703001 => some (s.rep.history.flatMap (fun a => leBytes 32 (alarmBits a)))
  | 0x703007 => n 1 (min 64 (s.rep.queue.length + s.rep.held.length))
  | 0xA00001 => n 1 s.mgmt.areaB.toNat
  | 0xA00002 => n 4 (s.mgmt.area s.mgmt.areaB).fill
  | 0xA00003 => n 8 s.mgmt.seq
  | _ =>
    let i := keyIndex key
    let sub := keySub key
    if i = 0x5003 then n 4 (s.port (sub - 1)).stateWord
    else if 0x5040 ≤ i ∧ i < 0x5044 ∧ sub = 5 then n 1 (s.gwState (i - 0x5040))
    else none

/-- Zero padding, and no more than n bytes. -/
def padBytes (n : Nat) (b : List Byte) : List Byte := (b ++ List.replicate (n - b.length) 0).take n

/-- Value of a readable entry; a write-only one reads as zero bytes (R395), strings zero-padded (R394). -/
def State.entryView (s : State) (e : Entry) (key : Nat) : List Byte :=
  let v := if e.acc = .wo then [] else
    (if isCtxIndex (keyIndex key) || keyIndex key == 0x8100 then s.ctxView (keyCtx key) (keySub key) else s.devView key).getD (leBytes e.bytes (s.dv key))
  padBytes e.bytes v

/-- Highest sub-index in use of an index that has entries a class may read (R393). -/
def highestSub (c : Cls) (i : Nat) : Option Nat :=
  let i' := if i = 0x8100 then 0x9000 else i
  let es := dictRows.filter (fun e => decide (e.index ≤ i' ∧ i' < e.index + e.span))
  let keys := es.map (fun e => i * 256 + e.sub)
  if keys.any (mayRead c) then
    some ((es.filter (fun e => (entryAt (i * 256 + e.sub)).isSome)).foldl (fun m e => max m (e.sub + e.subs - 1)) 0)
  else none

/-- A read of an entry by a class (R393, R395): DBG_DATA needs the debug checks; a read of TOKEN_CHALLENGE makes a new one (R379). -/
def State.dictRead (s : State) (c : Cls) (key : Nat) : State × Status × List Byte :=
  if keySub key = 0 then
    match highestSub c (keyIndex key) with
    | some n => (s, 0, leBytes 1 n)
    | none => (s, Code.entryAccess, [])
  else if !(mayRead c key) then (s, Code.entryAccess, [])
  else if key = dkey 0x4021 0x02 then s.dbgRead c
  else if key = dkey 0x6001 0x03 then
    let v := s.freeVal (2 ^ 64)
    ((s.drawn).updMgmt (fun m => { m with challenge := some (v, s.opTime) }), 0, leBytes 8 v)
  else match entryAt key with
    | some e => (s, 0, s.entryView e key)
    | none => (s, Code.entryAccess, [])

/-! QUERY (R340). -/

/-- The entry, and the class of a ring's QUERY (R395). -/
def qKey (i : Nat) : Nat := bits (cArg0 i) 0 24
def qMode (i : Nat) : Nat := bits (cArg0 i) 24 2
def qCls (ctx : Nat) : Cls := if ctx = 4096 then .h else .t ctx

/-- A QUERY of one mode: the reasons are those of every mode, 3 included. -/
def State.query (s : State) (ctx ring mode : Nat) (body : Cmd → State) : Res :=
  match (s.ring ctx ring).cur with
  | none => .next s
  | some c =>
    if qMode c.img ≠ mode ∧ !(mode = 0 ∧ qMode c.img = 3) then .next s
    else ringRow s ctx ring 0x53
      (fun c => [(qMode c.img == 3, Code.commandInvalid, 5),
        (qMode c.img == 2 && ctx != 4096, Code.notAdmin, 0),
        (qMode c.img == 2 && ctx == 4096 && (let o := bits (cArg1 c.img) 0 45; o ≥ 2 ^ 41 && !(nearBase ≤ o && o < nearBase + 0x300000000)), Code.commandInvalid, 6)])
      body

/-- QUERY_ENTRY: up to 8 B in RESULT; a longer value is written at A0. On the administrative ring CTX and ADMT name the context whose
record an index 0x9000 + ID or 0x8100 spells already (R339; log 73). -/
def execQueryEntry (ctx : Fin 4097) (ring : Fin 8) (s : State) : Res :=
  s.query ctx.val ring.val 0 (fun c =>
    let ag := cmdAg ctx.val c
    let (s, wst) := s.agAbsorb ag
    if c.stage ≠ 0 ∨ wst ≠ 0 then s.bulkEnd ctx.val ring.val ag wst (cA0 c.img)
    else if s.mgmt.hand.isSome || !s.mgmt.queue.isEmpty then s
    else
      let (t, st, bs) := s.dictRead (qCls ctx.val) (qKey c.img)
      if st ≠ 0 then t.refuse ctx.val ring.val c st 5 0
      else if bs.length ≤ 8 then t.okCmd ctx.val ring.val c (leNat bs)
      else if t.badAddr ctx.val (cA0 c.img) bs.length 1 .write then t.refuse ctx.val ring.val c Code.commandInvalid 1 0
      else
        let t := t.updCmd ctx.val ring.val (fun c => { c with stage := 1, aux := bs.length })
        let (u, wst) := t.agWrite ag (cA0 c.img) bs
        u.bulkEnd ctx.val ring.val ag wst (if wst = 0 then 0 else cA0 c.img))

/-- QUERY_TRANSLATION. -/
def execQueryTranslation (ctx : Fin 4097) (ring : Fin 8) (s : State) : Res :=
  s.query ctx.val ring.val 1 (fun c =>
    let t := targetOf ctx.val c.img
    s.okCmd ctx.val ring.val c (match leafOf (s.ctx t).leaves (bits (cArg1 c.img) 0 48) with
      | some (_, l) => leafWord l
      | none => 0))

/-- An ownership entry (Table 14.2). -/
def ownerWord (o : Owner) : Nat := o.ctx % 4096 * 2 ^ 52 + (if o.adm then 2 ^ 51 else 0) + o.state * 2 ^ 48 + o.perm % 4 * 2 ^ 46

/-- QUERY_OWNERSHIP. -/
def execQueryOwnership (ctx : Fin 4097) (ring : Fin 8) (s : State) : Res :=
  s.query ctx.val ring.val 2 (fun c => s.okCmd ctx.val ring.val c (ownerWord (s.own (bits (cArg1 c.img) 0 45 / granuleBytes))))

end Sys2Proof.Machine
end

