-- ==== Sys2Proof/Machine/Datagram.lean ====
section
/-!
DEFINITION. Machine/Datagram.lean: Ryurus datagrams: headers, sealing, segments and what the DT9 sends (R385, R386, R388, Table 15.1).
-/
namespace Sys2Proof.Machine

/-- A header of Table 15.1. -/
def ryHeader (typ : Nat) (token alarms : Bool) (seg segs len session seq : Nat) : Nat :=
  2 ^ 120 + typ * 2 ^ 112 + (if token then 2 ^ 105 else 0) + (if alarms then 2 ^ 104 else 0) + seg * 2 ^ 96 + segs * 2 ^ 88 + len * 2 ^ 72 +
    session % 2 ^ 32 * 2 ^ 32 + seq % 2 ^ 32
def dgramHeader (d : Dgram) : Nat := ryHeader d.typ d.token d.alarms d.seg d.segs d.len d.session d.seq
/-- The 16 bytes of a header, least significant first as R35 and R394 lay out every other word (log 74). -/
def headerBytes (h : Nat) : List Byte := leBytes 16 h

/-- Key and IV of one datagram (R388). -/
def ryKey (k : BitVec 288) : BitVec 256 := BitVec.ofNat 256 k.toNat
def ryIv (k : BitVec 288) (seq seg : Nat) : BitVec 96 :=
  BitVec.ofNat 96 (k.toNat / 2 ^ 256 + seq % 2 ^ 32 * 2 ^ 32 + seg % 256 * 2 ^ 64)

/-- A datagram is malformed (R385, R386). -/
def dgramBad (d : Dgram) : Bool :=
  d.ver != 1 || d.typ == 0 || decide (9 < d.typ) || d.reserved || decide (1024 < d.len) || d.len != d.payload.length ||
  d.segs == 0 || decide (16 < d.segs) || decide (d.segs ≤ d.seg) || (decide (d.seg + 1 < d.segs) && d.len != 1024)

/-- Pieces of a message: 1,024 B each, the last one shorter. -/
def msgPieces : Nat → List Byte → List (List Byte)
  | 0, _ => []
  | n + 1, b => if b.length ≤ 1024 then [b] else b.take 1024 :: msgPieces n (b.drop 1024)
def piecesOf (b : List Byte) : List (List Byte) := msgPieces (b.length / 1024 + 1) b

/-- The datagrams of a message, sealed where a key is given. -/
def datagrams (key : Option (BitVec 288)) (typ session seq : Nat) (msg : List Byte) : List (List Byte) :=
  let ps := piecesOf msg
  (List.zip (List.range ps.length) ps).map (fun e =>
    let h := headerBytes (ryHeader typ false false e.1 ps.length e.2.length session seq)
    match key with
    | none => h ++ e.2
    | some k =>
      let (ct, tag) := Config.gcmSeal (ryKey k) (ryIv k seq e.1) h e.2
      h ++ ct ++ leBytes 16 tag.toNat)

/-! What the port sends. -/

def State.sess? (s : State) (id : Nat) : Option Sess := mapFind s.mgmt.sess id
def State.updSess (s : State) (id : Nat) (f : Sess → Sess) : State :=
  s.updMgmt (fun m => match mapFind m.sess id with
    | some x => { m with sess := mapInsert (mapErase m.sess id) id (f x) }
    | none => m)
/-- A session closes: its keys are erased with it (R391). -/
def State.closeSess (s : State) (id : Nat) : State := s.updMgmt (fun m => { m with sess := mapErase m.sess id })

/-- Datagrams go out on the wire, where the port's address is its own (R384), and are counted (0x1100:0C). -/
def State.sendAll (s : State) (session typ seq : Nat) (ds : List (List Byte)) : State :=
  if s.mgmt.port ≠ 1 then s
  else ds.foldl (fun (t : State) d => (t.emit (.ryurus session typ seq d)).count (dkey 0x1100 0x0C)) s

/-- A sealed message to a session's manager; a session whose SEQ would pass 0xFFFF_FFFF is closed (R388). -/
def State.sendMsg (s : State) (id typ : Nat) (msg : List Byte) : State :=
  match s.sess? id with
  | none => s
  | some x =>
    if x.txSeq ≥ 2 ^ 32 - 1 then s.closeSess id
    else
      let q := x.txSeq + 1
      let ds := datagrams (some x.dm) typ id q msg
      (s.updSess id (fun x => { x with txSeq := q, reply := if typ = 6 then ds else x.reply })).sendAll id typ q ds

end Sys2Proof.Machine
end

