-- ==== Sys2Proof/Machine/DictWrite.lean ====
section
/-!
DEFINITION. Machine/DictWrite.lean: what a write of each entry does (R394 to R397, R401, R464 and the rules of the entries with an effect
of their own): checked at its turn; a persistent value is handed to the journal.
-/
namespace Sys2Proof.Machine

/-- What a write leads to: a status at once, or a persistent value that has to commit first. -/
structure Wr where
  s  : State
  st : Status := 0
  j  : Option JWrite := none

/-- Does a value fit its type and range (R394)? -/
def Entry.fits (e : Entry) (v : List Byte) : Bool :=
  v.length == e.bytes && decide (e.lo ≤ leNat v) && (match e.hi with | some h => decide (leNat v ≤ h) | none => true) &&
  !(e.kind == .bool && decide (1 < leNat v))

/-- Entries whose new value waits for the next reset: DEVICE_ID, DOMAIN_ID, MGMT_MAC, ARRAY_REPAIR, FENCE_MAP. -/
def atReset : List Nat := [dkey 0x5000 0x01, dkey 0x5000 0x02, dkey 0x1100 0x01, dkey 0x4030 0x01, dkey 0x7001 0x01]

/-- A value without its reserved bits, which a write ignores (R5): DBG_TARGET, DBG_SELECT, PORT_CTRL, byte 3 of GW_PEER. -/
def cleaned (key v : Nat) : Nat :=
  if key = dkey 0x4020 0x01 then bits v 61 3 * 2 ^ 61 + bits v 36 13 * 2 ^ 36 + bits v 16 10 * 2 ^ 16 + bits v 0 6
  else if key = dkey 0x4021 0x01 then bits v 30 2 * 2 ^ 30 + bits v 0 14
  else if keyIndex key = 0x5002 then bits v 8 7 * 2 ^ 8 + bits v 0 3
  else if keyIndex key = 0x5050 then v / 2 ^ 32 * 2 ^ 32 + v % 2 ^ 24
  else v

/-- A persistent value goes to the journal (R396, R401). -/
def State.toJournal (s : State) (r : DReq) (v : Nat) : Wr :=
  { s := s, j := some { key := r.key, val := cleaned r.key v, old := s.dv r.key, req := some r, began := s.now,
                        eff := if atReset.contains r.key then 3 else 0 } }

/-- Zero written to a counter clears it and takes it off OVERFLOW_LIST (R464). -/
def State.clearCounter (s : State) (key : Nat) : State :=
  { s.setDv key 0 with ovfl := s.ovfl.filter (fun x => x != 2 ^ 31 + key) }

/-! Table packages (R403 to R405). -/

/-- Bytes of a package slot; flash reads 0xFF where it is erased. -/
def slotBytes (m : Map Byte) (o n : Nat) : List Byte := (List.range n).map (fun i => mapGet (0xFF : Byte) m (o + i))
def slotNum (m : Map Byte) (o n : Nat) : Nat := leNat (slotBytes m o n)
def slotSize : Nat := 16252928
def Mgmt.slot (m : Mgmt) (b : Bool) : Map Byte := if b then m.slotB else m.slotA
def Mgmt.setSlot (m : Mgmt) (b : Bool) (x : Map Byte) : Mgmt := if b then { m with slotB := x } else { m with slotA := x }
/-- The slot that is not in use (R404): B unless B is. -/
def State.idleSlot (s : State) : Bool := s.dv (dkey 0xA010 0x04) != 1

def pkgVersion (m : Map Byte) : Nat := slotNum m 3 4
def pkgBodyLen (m : Map Byte) : Nat := slotNum m 7 4
/-- Sections that the directory lists: kind, offset in the body, bytes; kind 0 marks an unused place (log 75). -/
def pkgSections (m : Map Byte) : List (Nat × Nat × Nat) :=
  ((List.range 16).map (fun i => (slotNum m (59 + 8 * i) 2, slotNum m (61 + 8 * i) 4, 256 * slotNum m (65 + 8 * i) 2))).filter (fun x => x.1 != 0)
/-- Bytes of the first section of a kind. -/
def pkgSection (m : Map Byte) (kind : Nat) : Option (List Byte) :=
  ((pkgSections m).find? (fun x => x.1 == kind)).map (fun x => slotBytes m (256 + x.2.1) x.2.2)
/-- Do the header, the hash and the sections of a package hold (R403, R404)? -/
def pkgHolds (m : Map Byte) : Bool :=
  slotNum m 0 2 == 1 && slotNum m 2 1 == 0xB1 && decide (pkgBodyLen m ≤ slotSize - 256) &&
  decide ((Config.sha384 (slotBytes m 256 (pkgBodyLen m))).toNat = slotNum m 11 48) &&
  (pkgSections m).all (fun x => decide (x.1 ≤ 5) && decide (x.2.1 + x.2.2 ≤ pkgBodyLen m)) &&
  Config.sectionsOk (slotBytes m 0 (256 + pkgBodyLen m))
/-- A package that may be used: it holds and is no older than PKG_FLOOR (R404, R405). -/
def State.pkgOk (s : State) (m : Map Byte) : Bool := pkgHolds m && decide (s.dv (dkey 0xA010 0x05) ≤ pkgVersion m)

/-- PKG_OFFSET (R404). -/
def State.pkgOffset (s : State) (v : Nat) : Wr :=
  if v % 1024 ≠ 0 ∨ slotSize ≤ v then { s := s, st := Code.entryRange }
  else
    let s := s.setDv (dkey 0xA010 0x01) v
    { s := if v = 0 then s.updMgmt (fun m => m.setSlot s.idleSlot []) else s }
/-- PKG_DATA: 1,024 B at the offset, which advances; past the slot's end nothing is programmed. -/
def State.pkgData (s : State) (v : List Byte) : Wr :=
  let o := s.dv (dkey 0xA010 0x01)
  if slotSize ≤ o then { s := s, st := Code.entryRange }
  else
    let put := fun (m : Map Byte) => (List.zip (List.range 1024) v).foldl (fun (t : Map Byte) e => mapSet (0xFF : Byte) t (o + e.1) e.2) m
    { s := (s.updMgmt (fun m => m.setSlot s.idleSlot (put (m.slot s.idleSlot)))).setDv (dkey 0xA010 0x01) (o + 1024) }

/-- PKG_ACTIVATE: an OP 6 or OP 7 token, then the package's checks (R404, R405). -/
def State.pkgActivate (s : State) (r : DReq) (t : Token) : Wr :=
  let b := s.idleSlot
  let m := s.mgmt.slot b
  if (tokFields t).op = 7 then
    let grade := pkgSection m 5
    match s.checkToken t 7 none none (some (grade.getD [])), grade with
    | (u, st), some g =>
      if st ≠ 0 then { s := u, st := st }
      else if !(u.pkgOk m) then { s := u, st := Code.packageRejected }
      else { s := u, j := some { key := 0, val := 0, req := some r, began := s.now, signed := some g } }
    | (u, st), none => { s := u, st := if st ≠ 0 then st else Code.packageRejected }
  else
    let (u, st) := s.checkToken t 6 none none (some (slotBytes m 0 256))
    if st ≠ 0 then { s := u, st := st }
    else if !(u.pkgOk m) then { s := u, st := Code.packageRejected }
    else { s := u, j := some { key := dkey 0xA010 0x04, val := b.toNat, old := s.dv (dkey 0xA010 0x04), req := some r, began := s.now, eff := 3 } }

/-! Tokens. -/

/-- An entry whose value is a token (R395). -/
def State.tokenWrite (s : State) (r : DReq) (t : Token) : Wr :=
  if r.key = dkey 0x4020 0x04 then
    let (u, st) := s.dbgToken r.cls t
    { s := u, st := st }
  else if r.key = dkey 0x3010 0x04 then
    let (u, st) := s.checkToken t 3 none none none
    { s := if st ≠ 0 then u else u.updMgmt (fun m => { m with clearMap := true }), st := st }
  else if r.key = dkey 0x7020 0x05 then
    if s.rep.erasing ≠ 0 then { s := s, st := Code.entryAccess }
    else
      let (u, st) := s.checkToken t 2 none none none
      { s := if st ≠ 0 then u else u.yewClearNow (clsBit r.cls) (clsSession r.cls), st := st }
  else s.pkgActivate r t

/-- Any other entry that lists V: OP 4 over the value, OP 5 for AUTH_KEY, which class M installs once without a token (R380). -/
def State.signedWrite (s : State) (r : DReq) (v : List Byte) : Wr :=
  let auth := decide (r.key = dkey 0x6001 0x01)
  match r.tok with
  | none => if auth && clsBit r.cls == 0 && s.dv r.key == 0 then s.toJournal r (leNat v) else { s := s, st := Code.entryAccess }
  | some t =>
    let (u, st) := if auth then s.checkToken t 5 none none (some v)
                   else s.checkToken t 4 (some (keyIndex r.key)) (some (keySub r.key)) (some v)
    if st ≠ 0 then { s := u, st := st } else u.toJournal r (leNat v)

/-! Consistency checks of persistent values. -/

/-- PORT_CTRL (R282, R300). -/
def State.portBad (s : State) (p v : Nat) : Bool :=
  let mode := bits v 0 2
  let ip := fun (g : Nat) => s.dv (dkey (0x5040 + g) 0x01)
  let hop := s.dv (dkey (0x5040 + (p - 14)) 0x03)
  mode == 3 || (mode == 2 && decide (p < 14)) || (bitAt v 14 && bits v 8 6 == s.dv (dkey 0x5000 0x01)) ||
  (mode == 2 && decide (14 ≤ p) && (ip (p - 14) == 0 || bits (ip (p - 14)) 0 8 == 0xFF || hop == 0 || bitAt hop 0 ||
    [0, 1, 2, 3].any (fun g => g != p - 14 && ip g == ip (p - 14))))

/-- GW_PEER_n (R310): a valid address is zero or multicast, or another entry with a valid address holds the domain. -/
def State.peerBad (s : State) (n v : Nat) : Bool :=
  let addr := fun (k : Nat) => bits v (32 + 128 * k) 128
  [0, 1, 2, 3].any (fun k => bitAt v (16 + k) && (addr k == 0 || bits (addr k) 0 8 == 0xFF)) ||
  (List.range 64).any (fun m => let w := s.dv (dkey 0x5050 (m + 1))
    m + 1 != n && bits w 16 4 != 0 && bits w 0 16 == bits v 0 16)

/-- The reason to refuse a persistent value that fits its range, 0 for none. -/
def State.rwsBad (s : State) (key v : Nat) : Status :=
  let cap := s.dv (dkey 0x2000 0x01)
  let guard := s.dv (dkey 0x2000 0x03)
  let on := s.dv (dkey 0x2000 0x02) == 1
  if (key = dkey 0x2000 0x01 ∧ on ∧ s.capRefused v guard) ∨ (key = dkey 0x2000 0x02 ∧ v = 1 ∧ s.capRefused cap guard) ∨
     (key = dkey 0x2000 0x03 ∧ on ∧ s.capRefused cap v) then Code.powerCap
  else if keyIndex key = 0x5002 ∧ s.portBad (keySub key - 1) v then Code.portConfig
  else if (keyIndex key = 0x5050 ∧ s.peerBad (keySub key) v) ∨ (key = dkey 0x5060 0x01 ∧ v = 50120) then Code.entryRange
  else 0

/-! Entries that act. -/

/-- Sub-indices an index has, from 1 upward. -/
def subsOf (i : Nat) : Nat :=
  let i' := if i = 0x8100 then 0x9000 else i
  ((dictRows.filter (fun e => decide (e.index ≤ i' ∧ i' < e.index + e.span))).filter (fun e => (entryAt (i * 256 + e.sub)).isSome)).foldl
    (fun m e => max m (e.sub + e.subs - 1)) 0
/-- SNAP_INDEX (R463): every counter of an index of at most 8 B, other entries as zero. -/
def State.snapshotOf (s : State) (i : Nat) : List Nat :=
  (List.range (subsOf i)).map (fun k => match entryAt (dkey i (k + 1)) with
    | some e => if e.counter = 0 ∨ 8 < e.bytes then 0 else s.dv (dkey i (k + 1))
    | none => 0)
/-- The state with a snapshot of an index. -/
def State.snapped (s : State) (i : Nat) : State := { s with snap := some (i, s.snapshotOf i) }
def State.snapWrite (s : State) (c : Cls) (i : Nat) : Wr :=
  match c with
  | .t ctx => if i = 0x9000 + ctx then { s := s.snapped i } else { s := s, st := Code.entryAccess }
  | _ => { s := s.snapped i }

/-- REPLAN_NOW (R434): the Heartwood readings it takes are the command's, free values where a request carries none (log 6). -/
def State.replanWrite (s : State) (heart : List Nat) : State :=
  if heart = [] then
    let t := { s with fresh := s.fresh + 8 }
    t.replan ((List.range 8).map (fun d => (d, Config.freeNat (s.fresh + d))))
  else s.replan (readingsOf heart)

def ofPair (r : State × Status) : Wr := { s := r.1, st := r.2 }

/-- DBG_ACTION: 1 halt, 2 resume, 3 step. -/
def State.actionWrite (s : State) (c : Cls) (n : Nat) : State × Status :=
  let s := s.setDv (dkey 0x4020 0x02) n
  if n = 1 then s.dbgHalt c else if n = 2 then s.dbgResume c else s.dbgStep c

/-- A context's record (0x9000 + ID, 0x8100). -/
def State.ctxWrite (s : State) (key : Nat) (v : List Byte) : Wr :=
  let c := keyCtx key
  let n := leNat v
  match keySub key with
  | 0x20 => { s := s.seedWrite c n }
  | 0x60 => ofPair (s.secretWrite c v)
  | 0x61 => ofPair (s.privateWrite c n)
  | 0x70 => ofPair (s.bindWrite c 0 n)
  | 0x71 => ofPair (s.bindWrite c 1 n)
  | 0x72 => ofPair (s.bindWrite c 2 n)
  | 0x73 => ofPair (s.bindWrite c 3 n)
  | _ => { s := s.setDv key n }

/-- A value that fits, of an entry of access RW, CMD or WO that wants no token. -/
def State.actWrite (s : State) (r : DReq) (v : List Byte) : Wr :=
  let n := leNat v
  let told := s.setDv r.key (cleaned r.key n)
  if isCtxIndex (keyIndex r.key) || keyIndex r.key == 0x8100 then s.ctxWrite r.key v
  else if r.key = dkey 0x4020 0x01 then { s := told.dbgNewTarget }
  else if r.key = dkey 0x4020 0x02 then ofPair (s.actionWrite r.cls n)
  else if r.key = dkey 0x4021 0x02 then ofPair (s.dbgWrite r.cls v)
  else if keyIndex r.key = 0x4022 then ofPair (s.bpWrite r.cls (keySub r.key) n)
  else if r.key = dkey 0x5010 0x05 then
    { s := ((List.range 18).filter (fun p => bitAt n p)).foldl (fun (t : State) p => t.beginRekey p) told }
  else if r.key = dkey 0xA000 0x04 then { s := if n = 1 then told.beginCompact else told }
  else if r.key = dkey 0x2060 0x05 then { s := if n = 1 then told.replanWrite r.heart else told }
  else if r.key = dkey 0x7010 0x03 then
    let w := s.snapWrite r.cls n
    { w with s := if w.st = 0 then w.s.setDv r.key n else w.s }
  else if r.key = dkey 0xA010 0x01 then s.pkgOffset n
  else if r.key = dkey 0xA010 0x02 then s.pkgData v
  else { s := told }

/-- A write handled at its turn (R395, R396): the entry, its type and range, its classes, the token, the effect. Of two reasons the
first of Table 13.12 is given (R345). -/
def State.writeEntry (s : State) (r : DReq) (v : List Byte) : Wr :=
  match (if keySub r.key = 0 then none else entryAt r.key) with
  | none => { s := s, st := Code.entryAccess }
  | some e =>
    if e.acc = .ro ∧ e.counter = 0 then { s := s, st := Code.entryAccess }
    else if (if e.acc = .ro then v.length ≠ e.bytes ∨ leNat v ≠ 0 else e.fits v = false) then { s := s, st := Code.entryRange }
    else if !(mayWrite r.cls r.key) then { s := s, st := Code.entryAccess }
    else if e.acc = .ro then { s := s.clearCounter r.key }
    else if bitAt e.classes 3 then
      if e.acc = .wo then s.tokenWrite r (BitVec.ofNat 1024 (leNat v)) else s.signedWrite r v
    else if e.acc = .rws then
      let bad := s.rwsBad r.key (leNat v)
      if bad ≠ 0 then { s := s, st := bad } else s.toJournal r (leNat v)
    else s.actWrite r v

end Sys2Proof.Machine
end

