-- ==== Sys2Proof/Machine/Rings.lean ====
section
/-!
DEFINITION. Machine/Rings.lean: the ring registers and doorbells (R331 to R336, R377, R378) and the fetch of commands (R333, R334).
-/
namespace Sys2Proof.Machine

/-- May a function's ring registers be written: its context is not free (R355), its TDI not locked (Table 14.6)? -/
def State.barOpen (s : State) (c : Nat) : Bool := s.running && s.board.pcie.isSome && (s.ctx c).st != 0 && (s.ctx c).tdi != 1

/-- A refused ring action: its code in the status register, counted, vector 1 (R332, R336). -/
def State.refuseSq (s : State) (c r : Nat) (st : Status) : State :=
  (((s.updRing c r (fun x => { x with status := st })).count (dkey 0x7080 0x02))).msix c 1
def State.refuseCq (s : State) (c : Nat) (st : Status) : State :=
  (((s.updCq c (fun x => { x with status := st })).count (dkey 0x7080 0x02))).msix c 1

/-- The cases in which R332 refuses a write to a ring's base or control register, or the clearing of its EN: `ctrl` and `base` as the
ring is to run; a ring that is being disabled is judged by the LOC and SIZE_LOG2 it has run with (log 79). -/
def State.ringReasons (s : State) (c : Nat) (base : Nat) (ctrl : Word) (entry : Nat) (need : Need) (on : Bool) : List (Bool × Status × Nat) :=
  [((s.ctx c).st != 1, Code.contextState, 0),
   (on && !(ctlLoc ctrl) && (s.ctx c).priv && (s.ctx c).tdi != 2, Code.contextState, 0),
   (base % 4096 != 0 || decide (ctlLog ctrl < 6) || decide (ctlLog ctrl > 16), Code.ringConfig, 0),
   (ctlLoc ctrl && !(s.rangeOk c base (entry * ctlSize ctrl) need), Code.ringConfig, 0),
   (!(ctlLoc ctrl) && !(s.ctx c).busMaster, Code.ringConfig, 0)]
/-- The same of a submission ring. -/
def State.sqReasons (s : State) (c base : Nat) (ctrl : Word) (on : Bool) : List (Bool × Status × Nat) :=
  s.ringReasons c base ctrl 64 .read on ++ [(on && !(ctlEn (s.ringsOf c).cq.ctrl), Code.ringConfig, 0)]

/-- SQ_CTRL_r (R332). A ring that becomes enabled starts at index 0, a completion ring with PHASE 1 (R335; log 79). -/
def State.sqCtrlWrite (s : State) (c r : Nat) (v : Word) : State :=
  let x := s.ring c r
  let new := v &&& 0xC000001F#32
  let on : Bool := ctlEn new
  let was : Bool := ctlEn x.ctrl
  let why := (if on || was then s.sqReasons c x.base.toNat (if on then new else x.ctrl) on else []) ++
    [(on && was && new != x.ctrl, Code.ringConfig, 0),
     (!on && was && (x.head != x.tail || x.cur.isSome), Code.ringConfig, 0)]
  match firstReason why with
  | some (st, _) => s.refuseSq c r st
  | none => s.updRing c r (fun x => if on && !was then { x with ctrl := new, head := 0, tail := 0 } else { x with ctrl := new })
def execSqCtrl (ctx : Fin 4097) (ring : Fin 8) (value : Word) (s : State) : Res :=
  if s.barOpen ctx.val then .next (s.sqCtrlWrite ctx.val ring.val value) else .next s

/-- CQ_CTRL (R332). -/
def State.cqCtrlWrite (s : State) (c : Nat) (v : Word) : State :=
  let q := (s.ringsOf c).cq
  let new := v &&& 0xC000001F#32
  let on : Bool := ctlEn new
  let was : Bool := ctlEn q.ctrl
  let why := (if on || was then s.ringReasons c q.base.toNat (if on then new else q.ctrl) 32 .write on else []) ++
    [(on && was && new != q.ctrl, Code.ringConfig, 0),
     (!on && was && (s.ringsOf c).sq.any (fun e => ctlEn e.2.ctrl), Code.ringConfig, 0)]
  match firstReason why with
  | some (st, _) => s.refuseCq c st
  | none => s.updCq c (fun q =>
      if on && !was then { q with ctrl := new, head := 0, tail := 0, phase := true } else { q with ctrl := new })
/-- CQ_CTRL runs the check; CQ_IRQ is stored (Table 13.3; log 86). -/
def execCqCtrl (ctx : Fin 4097) (value : CqWrite) (s : State) : Res :=
  if !(s.barOpen ctx.val) then .next s
  else match value with
  | .irq v => .next (s.updCq ctx.val (fun q => { q with irq := v }))
  | .ctrl v => .next (s.cqCtrlWrite ctx.val v)

/-- A base written while its ring is disabled is taken; while it is enabled the check runs, and a change is refused (R332). -/
def execSqBase (ctx : Fin 4097) (ring : Fin 8) (value : BitVec 64) (s : State) : Res :=
  let c := ctx.val
  let r := ring.val
  let x := s.ring c r
  if !(s.barOpen c) then .next s
  else if !(ctlEn x.ctrl) then .next (s.updRing c r (fun x => { x with base := value }))
  else match firstReason (s.sqReasons c value.toNat x.ctrl true ++ [(value != x.base, Code.ringConfig, 0)]) with
  | some (st, _) => .next (s.refuseSq c r st)
  | none => .next s
def execCqBase (ctx : Fin 4097) (value : BitVec 64) (s : State) : Res :=
  let c := ctx.val
  let q := (s.ringsOf c).cq
  if !(s.barOpen c) then .next s
  else if !(ctlEn q.ctrl) then .next (s.updCq c (fun q => { q with base := value }))
  else match firstReason (s.ringReasons c value.toNat q.ctrl 32 .write true ++ [(value != q.base, Code.ringConfig, 0)]) with
  | some (st, _) => .next (s.refuseCq c st)
  | none => .next s

/-- The doorbell (R333): names entries as ready and, for FENCE, remembers what every ring had named before (R340). -/
def execSqTail (ctx : Fin 4097) (ring : Fin 8) (value : Word) (s : State) : Res :=
  let c := ctx.val
  let r := ring.val
  let x := s.ring c r
  if !s.running || (s.ctx c).st == 0 || !(ctlEn x.ctrl) then .next s
  else if value.toNat ≥ ctlSize x.ctrl then .next (s.refuseSq c r Code.ringConfig)
  else
    let n := (value.toNat + ctlSize x.ctrl - x.tail) % ctlSize x.ctrl
    let before : Map Nat := (s.ringsOf c).sq.map (fun e => (e.1, e.2.rung))
    .next (s.updRing c r (fun x => { x with tail := value.toNat, rung := x.rung + n, bells := x.bells ++ [(x.rung + n, before)] }))

/-- The host has read records up to CQ_HEAD; overflow records move into the ring (R335). -/
def execCqHead (ctx : Fin 4097) (value : Word) (s : State) : Res :=
  let c := ctx.val
  if !s.running || (s.ctx c).st == 0 then .next s
  else
    let s := s.updCq c (fun q => { q with head := value.toNat % ctlSize q.ctrl })
    let s := State.unspill ((s.ringsOf c).cq.spill.length + 1) c s
    .next s

/-- The CQ_IRQ time after the first unsignalled record has run out (R336). -/
def execCqIrqTimer (ctx : Fin 4097) (s : State) : Res :=
  let c := ctx.val
  let q := (s.ringsOf c).cq
  if s.running && fieldOf q.irq 0 16 != 0 && q.unsig != 0 && s.past q.since (us * fieldOf q.irq 0 16) then
    .next ((s.updCq c (fun q => { q with unsig := 0 })).msix c 0)
  else .next s

/-- Does a rail of an I/O die stand at warning (R426, Table 16.5)? Rails 33 to 37 supply the I/O dies (Table 18.1). -/
def State.ioWarned (s : State) : Bool := (List.range 5).any (fun k => (mapGet ({} : RailP) s.pwr.rails (33 + k)).st != 0)

/-- COMMAND_FETCH (R333): the next ready entry is copied whole and starts. Fetching stops for a context that is not active (R351), while
64 records wait in the overflow store (R335), under an I/O-die warning (Table 16.5). An OPC outside Table 13.7 is refused (R338). The
unfetched commands of a context that is being destroyed end with TORN_DOWN (R352). -/
def execCommandFetch (ctx : Fin 4097) (ring : Fin 8) (hostEntry : BitVec 512) (s : State) : Res :=
  let c := ctx.val
  let r := ring.val
  let x := s.ring c r
  let torn := (s.ctx c).st == 4
  if !s.running || ((s.ctx c).st != 1 && !torn) || s.ioWarned || !(ctlEn x.ctrl) || x.head == x.tail || x.cur.isSome then .next s
  else if s.fetchPaused c ∧ !torn then .next s
  else
    let (s, img) := if ctlLoc x.ctrl then
        (let ag : Ag := { src := .firmware, ctx := c, id := 2 ^ 60 + 8 * c + r }
         match s.agRead ag .read (x.base.toNat + 64 * x.head) 64 with
         | (t, .ok bs) => (t.agDrop ag, some (leNat bs))
         | (t, .err _) => (t.agDrop ag, some 0xFF00000000000000)
         | (t, .wait) => (s.agWait t ag, none))
      else (s, some hostEntry.toNat)
    match img with
    | none => .next s
    | some v =>
      let cmd : Cmd := { img := v, seq := x.head, t0 := s.now, prog := s.now, limit := s.dv (dkey 0x8000 0x02), id := s.nextId
                         bells := (((x.bells.find? (fun b => decide (b.1 > x.got))).map (fun b => b.2)).getD []) }
      let s := s.bumpId.updRing c r (fun x => { x with
        head := (x.head + 1) % ctlSize x.ctrl, got := x.got + 1, cur := some cmd,
        bells := x.bells.filter (fun b => decide (b.1 > x.got + 1)) })
      if torn then .next (s.complete c r cmd Code.tornDown 0 0 (if cOpc v = 0x10 then 65535 * 2 ^ 224 else 0))
      else if opcodes.contains (cOpc v) then .next s else .next (s.refuse c r cmd Code.commandInvalid 8 0)

end Sys2Proof.Machine
end

