-- ==== Sys2Proof/Machine/Dictionary.lean ====
section
/-!
DEFINITION. Machine/Dictionary.lean: the one queue of dictionary requests (R396), their answers (R389, R392), the end of a supply warning,
and the rows that write one entry.
-/
namespace Sys2Proof.Machine

/-- Phases in which the mailboxes and the Ryurus port answer: writes only while the device runs (R428). -/
def State.answering (s : State) : Bool := s.running || s.dev.phase == .safe || s.dev.phase == .tripped || s.dev.phase == .badRails

/-- RESPONSE payload (R389). -/
def responseBytes (seq : Nat) (st : Status) (val : List Byte) : List Byte := leBytes 4 seq ++ leBytes 2 st.toNat ++ [0, 0] ++ val

/-- The answer goes where the request came from; a session that has closed gets none (R391). -/
def State.answer (s : State) (dest : Reply) (st : Status) (val : List Byte) : State :=
  match dest with
  | .drop =>
    let s := s.emit (.value "status" st.toNat)
    if val = [] then s else s.emit (.bytes "value" val)
  | .sess id seq =>
    (match s.sess? id with
     | some x => if x.reqSeq = seq then s.sendMsg id 6 (responseBytes seq st val) else s
     | none => s)
  | .mbox ctx =>
    s.updMgmt (fun m => { m with mbox := mapUpd ({} : Mbox) m.mbox ctx (fun b =>
      { b with go := false, status := st, len := if val = [] then b.len else val.length, data := if val = [] then b.data else val }) })

/-- Requests wait: writes while an I/O-die rail is at warning (Table 16.5), flash programming while it is fenced (R426). -/
def State.stalls (s : State) (r : DReq) : Bool :=
  r.val.isSome && (s.ioWarned || (s.fencedFlash && [dkey 0xA010 0x01, dkey 0xA010 0x02, dkey 0x7020 0x05].contains r.key))

/-- One request at its turn (R396). A write is answered at once, or when its journal write has ended; out of service it is dropped. -/
def State.handle (s : State) (r : DReq) : State :=
  match r.val with
  | none =>
    let (t, st, v) := s.dictRead r.cls r.key
    t.answer r.dest st v
  | some v =>
    if !s.running then s
    else
      let w := s.writeEntry r v
      match w.j with
      | some j => w.s.updMgmt (fun m => { m with hand := some j })
      | none => w.s.answer r.dest w.st []

/-- Requests are handled in arrival order until one waits (R396). -/
def State.serveN : Nat → State → State
  | 0, s => s
  | n + 1, s =>
    match s.mgmt.hand, s.mgmt.queue with
    | none, r :: rest => if s.stalls r then s else ((s.updMgmt (fun m => { m with queue := rest })).handle r).serveN n
    | _, _ => s
def State.serveNext (s : State) : State := s.serveN s.mgmt.queue.length

/-- A request arrives. -/
def State.request (s : State) (r : DReq) : State :=
  if s.running || (s.answering && r.val.isNone) then (s.updMgmt (fun m => { m with queue := m.queue ++ [r] })).serveNext else s

/-- A row that writes one entry. -/
def rowWrite (s : State) (c : Cls) (key : Nat) (v : List Byte) (tok : Option Token := none) (heart : List Nat := []) : Res :=
  .next (s.request { cls := c, key := key, val := some v, tok := tok, heart := heart })
/-- A row that reads one entry. -/
def rowRead (s : State) (c : Cls) (key : Nat) : Res := .next (s.request { cls := c, key := key })
def tokenBytes (t : Token) : List Byte := leBytes 128 t.toNat

/-- WARNING_CLEARED (R427): every rail is back, none reached its reset level; work resumes, requests that waited among it. -/
def execWarningCleared (s : State) : Res :=
  let low := s.pwr.rails.filter (fun e => e.2.st != 0)
  if !s.running || low.isEmpty || low.any (fun e => e.2.st == 2 || s.past e.2.since (ms + 1)) then .next s
  else .next (low.foldl (fun (t : State) e =>
      ((t.updRail e.1 (fun r => { r with st := 0 })).count (dkey 0x2030 0x03)).raise Ev.supplyWarning e.1 0 0 [e.2.lowest, t.now - e.2.since]) s).readmit.serveNext

/-! Debugging (R54 to R59). -/

/-- DBG_HALT: DBG_ACTION 1. -/
def execDbgHalt (c : Cls) (s : State) : Res := rowWrite s c (dkey 0x4020 0x02) [1]
/-- DBG_RESUME: DBG_ACTION 2. -/
def execDbgResume (c : Cls) (s : State) : Res := rowWrite s c (dkey 0x4020 0x02) [2]
/-- DBG_STEP: DBG_ACTION 3. -/
def execDbgStep (c : Cls) (s : State) : Res := rowWrite s c (dkey 0x4020 0x02) [3]
/-- DBG_AUTH (R54). -/
def execDbgAuth (c : Cls) (tok : Token) (s : State) : Res := rowWrite s c (dkey 0x4020 0x04) (tokenBytes tok)
/-- DBG_DATA_READ (R57). -/
def execDbgDataRead (c : Cls) (s : State) : Res := rowRead s c (dkey 0x4021 0x02)
/-- DBG_DATA_WRITE (R57). -/
def execDbgDataWrite (c : Cls) (data : List Byte) (s : State) : Res := rowWrite s c (dkey 0x4021 0x02) data
/-- BREAKPOINT_WRITE (R59): addresses are 8 B, control words 4 B. -/
def execBreakpointWrite (c : Cls) (sub : Nat) (value : BitVec 64) (s : State) : Res :=
  rowWrite s c (dkey 0x4022 sub) (leBytes (entryBytes (dkey 0x4022 sub)) value.toNat)

/-! Tenants and tokens. -/

/-- SR_SEED (R121). -/
def execSrSeed (c : Cls) (ctx : Fin 4097) (seed : Word) (s : State) : Res := rowWrite s c (ctxKey ctx.val 0x20) (leBytes 4 seed.toNat)
/-- CTX_SECRET (R373). -/
def execCtxSecret (c : Cls) (ctx : Fin 4096) (value : List Byte) (s : State) : Res := rowWrite s c (ctxKey ctx.val 0x60) value
/-- CTX_PRIVATE (R377). -/
def execCtxPrivate (c : Cls) (ctx : Fin 4096) (value : Nat) (s : State) : Res := rowWrite s c (ctxKey ctx.val 0x61) (leBytes 1 value)
/-- GW_BIND (R376). -/
def execGwBind (c : Cls) (ctx : Fin 4096) (n : Fin 4) (value : BitVec 64) (s : State) : Res :=
  rowWrite s c (ctxKey ctx.val (0x70 + n.val)) (leBytes 8 value.toNat)
/-- TOKEN_CHALLENGE_READ (R379). -/
def execTokenChallengeRead (c : Cls) (s : State) : Res := rowRead s c (dkey 0x6001 0x03)
/-- AUTH_KEY (R380). -/
def execAuthKey (c : Cls) (key : BitVec 776) (tok : Option Token) (s : State) : Res := rowWrite s c (dkey 0x6001 0x01) (leBytes 97 key.toNat) tok
/-- MAPOUT_CLEAR (R227). -/
def execMapoutClear (c : Cls) (tok : Token) (s : State) : Res := rowWrite s c (dkey 0x3010 0x04) (tokenBytes tok)
/-- FENCE_MAP_WRITE (R454). -/
def execFenceMapWrite (c : Cls) (value : BitVec 640) (tok : Option Token) (s : State) : Res :=
  rowWrite s c (dkey 0x7001 0x01) (leBytes 80 value.toNat) tok
/-- YEW_CLEAR (R459). -/
def execYewClear (c : Cls) (tok : Token) (s : State) : Res := rowWrite s c (dkey 0x7020 0x05) (tokenBytes tok)

/-! Links. -/

/-- REKEY_NOW (R275). -/
def execRekeyNow (c : Cls) (ports : Word) (s : State) : Res := rowWrite s c (dkey 0x5010 0x05) (leBytes 4 ports.toNat)
/-- PORT_CTRL (R282, R300). -/
def execPortCtrl (c : Cls) (port : Fin 18) (value : Word) (s : State) : Res := rowWrite s c (dkey 0x5002 (port.val + 1)) (leBytes 4 value.toNat)
/-- ROUTE_MODE (R279). -/
def execRouteMode (c : Cls) (value : Nat) (s : State) : Res := rowWrite s c (dkey 0x5000 0x03) (leBytes 1 value)
/-- ROUTE_d (R279). -/
def execRouteD (c : Cls) (dev : Fin 64) (ports : Word) (s : State) : Res := rowWrite s c (dkey 0x5001 (dev.val + 1)) (leBytes 4 ports.toNat)

/-! Any entry. -/

/-- ENTRY_WRITE (R396). -/
def execEntryWrite (c : Cls) (key : Nat) (data : List Byte) (tok : Option Token) (s : State) : Res := rowWrite s c key data tok
/-- COUNTER_CLEAR (R464). -/
def execCounterClear (c : Cls) (key : Nat) (data : List Byte) (s : State) : Res := rowWrite s c key data
/-- SNAP_INDEX (R463). -/
def execSnapIndex (c : Cls) (index : Nat) (s : State) : Res := rowWrite s c (dkey 0x7010 0x03) (leBytes 2 index)

/-! The journal and the packages. -/

/-- COMPACT_NOW (R402). -/
def execCompactNow (c : Cls) (value : Nat) (s : State) : Res := rowWrite s c (dkey 0xA000 0x04) (leBytes 1 value)
/-- PKG_OFFSET (R404). -/
def execPkgOffset (c : Cls) (value : Nat) (s : State) : Res := rowWrite s c (dkey 0xA010 0x01) (leBytes 4 value)
/-- PKG_DATA (R404). -/
def execPkgData (c : Cls) (data : List Byte) (s : State) : Res := rowWrite s c (dkey 0xA010 0x02) data
/-- PACKAGE_ACTIVATE (R405): the token's OP is 6. -/
def execPackageActivate (c : Cls) (tok : Token) (s : State) : Res := rowWrite s c (dkey 0xA010 0x03) (tokenBytes tok)
/-- GRADE_RESTORE (R405): the token's OP is 7. -/
def execGradeRestore (c : Cls) (tok : Token) (s : State) : Res := rowWrite s c (dkey 0xA010 0x03) (tokenBytes tok)

/-! Power (R413, R434). -/

/-- CAP_EN. -/
def execCapEn (c : Cls) (value : Nat) (s : State) : Res := rowWrite s c (dkey 0x2000 0x02) (leBytes 1 value)
/-- POWER_CAP. -/
def execPowerCap (c : Cls) (value : Nat) (s : State) : Res := rowWrite s c (dkey 0x2000 0x01) (leBytes 2 value)
/-- CAP_GUARD. -/
def execCapGuard (c : Cls) (value : Nat) (s : State) : Res := rowWrite s c (dkey 0x2000 0x03) (leBytes 2 value)
/-- REPLAN_NOW. -/
def execReplanNow (c : Cls) (value : Nat) (heart : List Nat) (s : State) : Res := rowWrite s c (dkey 0x2060 0x05) (leBytes 1 value) none heart

end Sys2Proof.Machine
end

