-- ==== Sys2Proof/Machine/Sessions.lean ====
section
/-!
DEFINITION. Machine/Sessions.lean: the management port (R384), Ryurus sessions (R385 to R391), the dispatch of alarms (R447) and the mailboxes
(R392).
-/
namespace Sys2Proof.Machine

/-! The port (R384). -/

/-- The link-local address: fe80::/64 and the modified EUI-64 of MGMT_MAC (RFC 4291), most significant byte first. -/
def State.mgmtAddress (s : State) : Nat :=
  let m := (leBytes 6 (s.dv (dkey 0x1100 0x01))).map BitVec.toNat
  let b := fun (i : Nat) => (m[i]?).getD 0
  [b 0 ^^^ 2, b 1, b 2, 0xFF, 0xFE, b 3, b 4, b 5].foldl (fun a x => a * 256 + x) 0xFE80000000000000

/-- NEIGHBOR_SOLICITATION: for the device's own address it is answered, any other is discarded and counted. -/
def execNeighborSolicitation (target : BitVec 128) (s : State) : Res :=
  if !s.answering || s.mgmt.port != 1 then .next s
  else if target.toNat = s.mgmtAddress then .next (s.emit (.value "neighbor advertisement" s.mgmtAddress))
  else .next (s.count (dkey 0x1100 0x0B))

/-- DUPLICATE_ADDRESS_DETECTION: the start's one test ends; an address in use silences the port until the next reset. -/
def execDuplicateAddressDetection (inUse : Bool) (s : State) : Res :=
  if !s.answering || s.mgmt.port != 0 then .next s
  else if inUse then .next ((s.updMgmt (fun m => { m with port := 2 })).raise Ev.duplicateAddress 0)
  else .next (s.updMgmt (fun m => { m with port := 1 }))

/-! Receiving. -/

/-- A datagram is discarded and counted (0x1100:0B). -/
def State.discard (s : State) (n : Nat := 1) : State := s.count (dkey 0x1100 0x0B) n
/-- Types a manager sends (Table 15.1). -/
def managerTypes : List Nat := [1, 3, 4, 5, 8, 9]
/-- Does a frame reach the port now that carries a datagram of this type, or one that is nothing a manager sends? -/
def State.listens (s : State) (d : Dgram) (typ : Nat) : Bool :=
  s.answering && s.mgmt.port == 1 && (d.typ == typ || !d.framed || !(managerTypes.contains d.typ))
/-- A frame that is no datagram of the type its row names is discarded and counted (R384, R385). -/
def stray (d : Dgram) (typ : Nat) : Bool := !d.framed || d.typ != typ

/-- An authenticated datagram's plaintext joins its message (R386): the message once its last segment is here. -/
def Sess.assemble (x : Sess) (d : Dgram) (part : List Byte) (now : Nat) : Option (Sess × Option (List Byte)) :=
  if d.segs = 1 then some (x, some part)
  else
    let a := (x.asm.find? (fun a => a.seq == d.seq)).getD { seq := d.seq, began := now, typ := d.typ, token := d.token, segs := d.segs }
    if a.typ ≠ d.typ ∨ a.token ≠ d.token ∨ a.segs ≠ d.segs then none
    else
      let ps := mapInsert (mapErase a.parts d.seg) d.seg part
      let rest := x.asm.filter (fun b => b.seq != d.seq)
      if ps.length = d.segs then some ({ x with asm := rest }, some (ps.flatMap Prod.snd))
      else some ({ x with asm := rest ++ [{ a with parts := ps }] }, none)

/-- A sealed datagram for a session that is opening or open: malformed ones, those of no such session and failed tags are discarded; any
other restarts the idle timer (R385, R388, R391). -/
def State.receive (s : State) (d : Dgram) (opened : Bool) (body : State → Sess → List Byte → State) : State :=
  let s := s.count (dkey 0x1100 0x0C)
  if dgramBad d then s.discard
  else match s.sess? d.session with
  | none => s.discard
  | some x =>
    if x.isOpen ≠ opened then s.discard
    else match Config.gcmOpen (ryKey x.md) (ryIv x.md d.seq d.seg) (headerBytes (dgramHeader d)) (d.payload ++ leBytes 16 d.tag.toNat) 128 with
    | none => s.count (dkey 0x1100 0x0A)
    | some part =>
      match ({ x with idle := s.now }).assemble d part s.now with
      | none => (s.updSess d.session (fun x => { x with idle := s.now })).discard
      | some (y, msg) =>
        let s := s.updSess d.session (fun _ => y)
        match msg with
        | none => s
        | some b => body s y b

/-! Opening (R387). -/

/-- The identity chain without its padding. -/
def stripZeros (b : List Byte) : List Byte := (b.reverse.dropWhile (fun x => x == 0)).reverse
/-- 36 B of one direction (R388). -/
def ryDerive (t z : BitVec 384) (info : String) : BitVec 288 :=
  BitVec.ofNat 288 (leNat (Config.hkdf (leBytes 48 t.toNat) (beBytes 48 z.toNat) (label info) 36))

/-- OPEN: answered with OPEN_REPLY; the ephemeral key pair and the random bytes are free values (log 6). -/
def execOpenSession (d : Dgram) (s : State) : Res :=
  if !(s.listens d 1) then .next s
  else if stray d 1 then .next s.discard
  else
    let s := s.count (dkey 0x1100 0x0C)
    if dgramBad d || d.segs != 1 || d.session != 0 || d.payload.length != 129 || s.dv (dkey 0x6000 0x01) != 0 || decide (4 ≤ s.mgmt.sess.length) then
      .next s.discard
    else
      let eph := Config.freeNat s.fresh
      let rnd := leBytes 32 (Config.freeNat (s.fresh + 1))
      match Config.ecdh eph (BitVec.ofNat 776 (leNat (d.payload.take 97))) with
      | none => .next s.discard
      | some z =>
        let id := s.nextId % 2 ^ 32
        let head := leBytes 97 (Config.pubKey eph).toNat ++ rnd ++ leBytes 4 id ++ stripZeros (leBytes 4096 (s.dv (dkey 0x6000 0x03)))
        let t := Config.sha384 (d.payload ++ head)
        let x : Sess := { began := s.now, idle := s.now, alarms := d.alarms, t := t, md := ryDerive t z "ryurus-MD", dm := ryDerive t z "ryurus-DM", txSeq := 1 }
        let s := ({ s with fresh := s.fresh + 2 }).bumpId.updMgmt (fun m => { m with sess := mapInsert (mapErase m.sess id) id x })
        .next (s.sendAll id 2 1 (datagrams none 2 id 1 (head ++ beBytes 96 (Config.ecdsaSign t).toNat)))

/-- A session ends before it has opened: counted, with its Yew record (R387). -/
def State.openFailed (s : State) (id : Nat) : State := ((s.closeSess id).count (dkey 0x1100 0x0A)).raise Ev.sessionAuth 0

/-- CONFIRM: the signature over T of the key that AUTH_KEY names; unchecked while AUTH_KEY is empty. -/
def execConfirm (d : Dgram) (s : State) : Res :=
  if !(s.listens d 3) then .next s
  else if stray d 3 then .next s.discard
  else .next (s.receive d false (fun s x b =>
    let auth := s.dv (dkey 0x6001 0x01)
    if auth = 0 ∨ (b.length = 96 ∧ Config.ecdsaVerify (BitVec.ofNat 776 auth) x.t (BitVec.ofNat 768 (leNat b.reverse)) = true) then
      s.updSess d.session (fun x => { x with isOpen := true })
    else s.openFailed d.session))

/-- CONFIRM_TIMEOUT: 1 s after OPEN_REPLY. -/
def execConfirmTimeout (session : Nat) (s : State) : Res :=
  match s.sess? session with
  | some x => if x.isOpen || decide (s.now < x.began + 1000000000) then .next s else .next (s.openFailed session)
  | none => .next s

/-! Requests (R389). -/

/-- A request with the next SEQ is handled, the previous one is answered from its stored RESPONSE, any other is discarded. -/
def State.sequenced (s : State) (d : Dgram) (x : Sess) (r : Option DReq) : State :=
  if d.seq = x.reqSeq + 1 then
    match r with
    | some r => (s.updSess d.session (fun x => { x with reqSeq := d.seq, reply := [] })).request r
    | none => s.discard
  else if d.seq = x.reqSeq ∧ x.reqSeq ≠ 0 then s.sendAll d.session 6 d.seq x.reply
  else s.discard

/-- Key of INDEX and SUB at the start of a payload. -/
def requestKey (b : List Byte) : Nat := dkey (leNat (b.take 2)) (leNat ((b.drop 2).take 1))

/-- READ. -/
def execRead (d : Dgram) (s : State) : Res :=
  if !(s.listens d 4) then .next s
  else if stray d 4 then .next s.discard
  else .next (s.receive d true (fun s x b =>
    s.sequenced d x (if b.length = 4 then some { cls := .m d.session, key := requestKey b, dest := .sess d.session d.seq } else none)))

/-- WRITE: the value, then, with TOKEN = 1, a token. -/
def execWrite (d : Dgram) (s : State) : Res :=
  if !(s.listens d 5) then .next s
  else if stray d 5 then .next s.discard
  else .next (s.receive d true (fun s x b =>
    let n := b.length - (if d.token then 128 else 0)
    s.sequenced d x (if b.length < 4 + (if d.token then 128 else 0) then none else some
      { cls := .m d.session, key := requestKey b, val := some ((b.take n).drop 4), dest := .sess d.session d.seq
        tok := if d.token then some (BitVec.ofNat 1024 (leNat (b.drop n))) else none })))

/-- KEEPALIVE: the idle timer starts again. -/
def execKeepalive (d : Dgram) (s : State) : Res :=
  if !(s.listens d 8) then .next s else if stray d 8 then .next s.discard else .next (s.receive d true (fun s _ _ => s))
/-- CLOSE (R391). -/
def execClose (d : Dgram) (s : State) : Res :=
  if !(s.listens d 9) then .next s else if stray d 9 then .next s.discard else .next (s.receive d true (fun s _ _ => s.closeSess d.session))

/-- SEGMENT_TIMEOUT (R386): 100 ms after the first of them, the segments of one SEQ are discarded. -/
def execSegmentTimeout (session seq : Nat) (s : State) : Res :=
  match s.sess? session with
  | none => .next s
  | some x =>
    match x.asm.find? (fun a => a.seq == seq) with
    | none => .next s
    | some a =>
      if s.now < a.began + 100000000 then .next s
      else .next ((s.updSess session (fun x => { x with asm := x.asm.filter (fun b => b.seq != seq) })).discard a.parts.length)

/-- SESSION_IDLE_EXPIRY (R391): SESSION_IDLE has passed since the last datagram of the session. -/
def execSessionIdleExpiry (session : Nat) (s : State) : Res :=
  match s.sess? session with
  | some x =>
    if x.isOpen && decide (x.idle + s.dv (dkey 0x1100 0x08) * 1000000000 ≤ s.now) then .next (s.closeSess session) else .next s
  | none => .next s

/-! Alarms (R390, R447, R448). -/

/-- ALARM_DISPATCH: up to 16 records leave the queue, to every session with ALARMS = 1 and into ALARM_HISTORY. -/
def execAlarmDispatch (s : State) : Res :=
  let (out, rest) := alarmTake s.rep.queue
  if !s.answering || out.isEmpty then .next s
  else
    let s := s.updRep (fun r => { r with queue := rest, history := out.foldl historyAdd r.history })
    let msg := out.flatMap (fun a => leBytes 32 (alarmBits a))
    .next (((s.mgmt.sess.filter (fun e => e.2.isOpen && e.2.alarms)).map Prod.fst).foldl (fun (t : State) id => t.sendMsg id 7 msg) s)

/-! Mailboxes (R392). -/

/-- GO is set in the mailbox of a context; while it reads 1, every write to the mailbox is ignored. -/
def State.mboxGo (s : State) (ctx : Nat) (b : Mbox) (r : DReq) : Res :=
  if (mapGet ({} : Mbox) s.mgmt.mbox ctx).go || !s.answering || s.board.pcie.isNone then .next s
  else .next ((s.updMgmt (fun m => { m with mbox := mapSet {} m.mbox ctx { b with go := true } })).request r)
def mboxCls (ctx : Nat) : Cls := if ctx = 4096 then .h else .t ctx

/-- MB_ENTRY without its reserved bits (R5). -/
def mbEntry (e : Word) : Word := e &&& 0xFFFFFF
/-- MAILBOX_READ. -/
def execMailboxRead (ctx : Fin 4097) (entry : Word) (s : State) : Res :=
  s.mboxGo ctx.val { mapGet ({} : Mbox) s.mgmt.mbox ctx.val with write := false, useTok := false, entry := mbEntry entry }
    { cls := mboxCls ctx.val, key := fieldOf entry 0 24, dest := .mbox ctx.val }
/-- MAILBOX_WRITE. -/
def execMailboxWrite (ctx : Fin 4097) (entry : Word) (data : List Byte) (tok : Option Token) (s : State) : Res :=
  let b := mapGet ({} : Mbox) s.mgmt.mbox ctx.val
  s.mboxGo ctx.val { b with write := true, useTok := tok.isSome, entry := mbEntry entry, len := data.length, data := data, token := tok.getD b.token }
    { cls := mboxCls ctx.val, key := fieldOf entry 0 24, val := some data, tok := tok, dest := .mbox ctx.val }

end Sys2Proof.Machine
end

