-- ==== Sys2Proof/Machine/JournalRows.lean ====
section
/-!
DEFINITION. Machine/JournalRows.lean: commits, timeouts and compactions of the journal (R401, R402) and the journaling of operating time.
-/
namespace Sys2Proof.Machine

/-- Does the journal's processor run? -/
def State.flashAlive (s : State) : Bool := s.dev.phase != .held && s.dev.phase != .noRefclk && s.dev.phase != .badRails

/-- What follows the commit of some entries: PORT_CTRL (R276, R282), routes (R279), caps (R209), PKG_SLOT (R405). -/
def State.committed (s : State) (w : JWrite) : State :=
  if w.signed.isSome then s
  else if keyIndex w.key = 0x5002 then s.portChanged (keySub w.key - 1)
  else if keyIndex w.key = 0x5001 ∨ w.key = dkey 0x5000 0x03 then s.sendAway
  else if keyIndex w.key = 0x3001 then s.readmit
  else if w.key = dkey 0xA010 0x04 then
    (s.updMgmt (fun m => { m with newPkg := true })).persist (dkey 0xA010 0x05)
      (max (s.dv (dkey 0xA010 0x05)) (pkgVersion (s.mgmt.slot (w.val == 1))))
  else s

/-- The request in hand ends: it is answered, and the next ones follow. -/
def State.handDone (s : State) (w : JWrite) (st : Status) : State :=
  let s := s.updMgmt (fun m => { m with hand := none })
  (match w.req with
   | some r => if s.running then s.answer r.dest st [] else s
   | none => s).serveNext

/-- JOURNAL_COMMIT: the earliest write that waits reads back valid. One that had failed is followed by a record of the old value. -/
def execJournalCommit (s : State) : Res :=
  if !s.flashAlive then .next s
  else match s.mgmt.jNext with
  | .none => .next s
  | .late w =>
    if !(s.jRoom w) then .next s
    else
      let s := s.updMgmt (fun m => { m with late := m.late.drop 1 })
      let s := s.program w
      .next (if w.signed.isSome then s else s.program { w with val := w.old })
  | .own w =>
    if !(s.jRoom w) then .next s
    else .next (((s.updMgmt (fun m => { m with
      own := m.own.drop 1, clearMap := m.clearMap && !(w.key == dkey 0x3010 0x03 && w.eff == 1) })).program w).takeEffect w)
  | .hand w =>
    if !(s.jRoom w) then .next s
    else .next ((((s.program w).takeEffect w).committed w).handDone w 0)

/-- A journal write fails: counted, alarmed, and the next write starts a compaction (R401, Table 13.14). -/
def State.journalFailed (s : State) : State :=
  ((s.updMgmt (fun m => { m with compactNext := true })).count (dkey 0xA000 0x07)).raise Ev.journalTimeout 0 Code.journalTimeout

/-- JOURNAL_WRITE_TIMEOUT: the earliest write that has not committed fails, 50 ms after it began. A fence is written again with the next journal write (R452), a
re-plan takes effect all the same (R435). -/
def execJournalWriteTimeout (s : State) : Res :=
  if !s.flashAlive then .next s
  else
    let ownFails := fun (w : JWrite) =>
      let s := s.updMgmt (fun m => { m with
        own := m.own.drop 1 ++ (if w.keep then [{ w with began := s.now }] else [])
        late := m.late ++ (if w.eff = 0 ∧ !w.keep then [w] else []) })
      (if w.eff = 2 then s.takeEffect w else s).journalFailed
    let due := fun (w : JWrite) => s.past w.began (50 * ms)
    match s.mgmt.own.filter due, s.mgmt.hand.filter due with
    | w :: _, some h =>
      if w.began ≤ h.began then .next (ownFails w)
      else .next ((s.updMgmt (fun m => { m with late := m.late ++ [h] })).journalFailed.handDone h Code.journalTimeout)
    | w :: _, none => .next (ownFails w)
    | [], some h => .next ((s.updMgmt (fun m => { m with late := m.late ++ [h] })).journalFailed.handDone h Code.journalTimeout)
    | [], none => .next s

/-- COMPACTION (R402): the other area, erased, takes the snapshot and the later records, and becomes the active one. -/
def execCompaction (s : State) : Res :=
  if !s.flashAlive || s.fencedFlash || !(s.mgmt.area (!s.mgmt.areaB)).erased then .next s else .next s.compactNow

/-- JOURNAL_AREA_ERASE: the old area's background erase ends. -/
def execJournalAreaErase (s : State) : Res :=
  let old := s.mgmt.area (!s.mgmt.areaB)
  if !s.flashAlive || s.fencedFlash || old.erased then .next s
  else .next (s.updMgmt (fun m => m.setArea (!m.areaB) {}))

/-- OP_TIME_JOURNAL (R407): every 60 s. -/
def execOpTimeJournal (s : State) : Res :=
  if !s.answering || s.dev.phase == .badRails then .next s
  else .next (s.ownWrite { key := dkey 0x1000 0x08, val := s.opTime, old := s.dv (dkey 0x1000 0x08), began := s.now })

end Sys2Proof.Machine
end

