-- ==== Sys2Proof/Machine/Board.lean ====
section
/-!
DEFINITION. Machine/Board.lean: PERST#, rails, REFCLK, start-up (R468 to R478, Table 18.2), configuration requests and the test port (R481).
-/
namespace Sys2Proof.Machine

/-! PERST# asserted (R474). -/

/-- Programs in progress complete, no new one starts (R474): the write whose record is under way, and the next Yew record (log 78). -/
def State.flashEnds (s : State) : State :=
  let put := fun (w : JWrite) => if s.flashAlive && s.jRoom w then s.program w else s
  let t := match s.mgmt.jNext with
    | .late w => put w
    | .own w => put w
    | .hand w => put w
    | .none => s
  stateOf t (execYewProgram t)

/-- What a full reset leaves: flash (journal, packages, recorder), the factory record, the board's latches; THERMTRIP# stays (R480). -/
def State.held (s : State) : State :=
  { State.reset with
    pending := s.pending, now := s.now, fresh := s.fresh, nextId := s.nextId, out := s.out
    dev := { factory := s.dev.factory, thermtrip := s.dev.thermtrip }
    board := { s.board with perstAt := s.now, rrs := true, inSafe := false }
    mgmt := { a := s.mgmt.a, b := s.mgmt.b, areaB := s.mgmt.areaB, slotA := s.mgmt.slotA, slotB := s.mgmt.slotB
              newPkg := s.mgmt.newPkg, clearMap := s.mgmt.clearMap, lanes := s.mgmt.lanes, retest := s.mgmt.retest }
    rep := { log := s.rep.log, torn := s.rep.torn } }

/-- PERST_ASSERT. -/
def execPerstAssert (s : State) : Res := if s.dev.phase == .held then .next s else .next s.flashEnds.held

/-! Rails (R468 to R471, R473). -/

/-- Rails of the groups A to E (Table 18.1). -/
def railGroup : Nat → List Nat
  | 0 => [32, 38, 39]
  | 1 => [33, 34, 35, 36, 37]
  | 2 => [24, 25, 26, 27]
  | 3 => (List.range 16).map (fun k => 8 + k) ++ [28, 29, 30, 31]
  | _ => List.range 8
def Board.latch (b : Board) (k : Nat) : RailLatch := mapGet {} b.rails k
/-- The latched moments (order, time) at which rails of a group became valid, with the rail. -/
def Board.valids (b : Board) (g : Nat) : List (Nat × Nat × Nat) :=
  (railGroup g).filterMap (fun k => (b.latch k).valid.map (fun v => (k, v.1, v.2)))
/-- When a group became valid: place in the order and time of its last rail; none where nothing of it is latched. -/
def Board.groupValid (b : Board) (g : Nat) : Option (Nat × Nat) :=
  (b.valids g).foldl (fun m v => match m with | some x => if x.1 < v.2.1 then some (v.2.1, v.2.2) else some x | none => some (v.2.1, v.2.2)) none

/-- The first rail that was out of order (R471): of a group that became valid before an earlier group. -/
def Board.outOfOrder (b : Board) : Option Nat :=
  let early := fun (g h : Nat) => match b.groupValid g, b.groupValid h with
    | some x, some y => decide (g < h) && decide (y.1 < x.1)
    | _, _ => false
  let hs := (List.range 5).filter (fun h => (List.range 5).any (fun g => early g h))
  ((hs.flatMap (fun h => b.valids h)).foldl (fun (m : Option (Nat × Nat)) v =>
    match m with | some x => if v.2.1 < x.2 then some (v.1, v.2.1) else some x | none => some (v.1, v.2.1)) none).map Prod.fst

/-- The other limits (R469, R472, R473) that a release at a time misses: kind and rail of each case. -/
def Board.misses (b : Board) (now : Nat) : List (Nat × Nat) :=
  let began := fun (g : Nat) => ((railGroup g).filterMap (fun k => (b.latch k).ten.map (fun t => (k, t)))).foldl
    (fun (m : Option (Nat × Nat)) x => match m with | some y => if x.2 < y.2 then some x else some y | none => some x) none
  let late := (List.range 4).filterMap (fun g => match b.groupValid g, began (g + 1) with
    | some v, some x => if x.2 > v.2 + 20000000 then some x.1 else none
    | _, _ => none)
  let ramp := fun (p : Nat → Bool) => (List.range 40).filter (fun k => match (b.latch k).ten, (b.latch k).ninety with
    | some x, some y => p (y - x)
    | _, _ => false)
  let lastE := (b.valids 4).filter (fun v => decide (now < v.2.2 + 100000000))
  let first := fun (kind : Nat) (l : List Nat) => match l with | k :: _ => [(kind, k)] | [] => []
  first 1 late ++ first 2 (ramp (fun d => decide (d < 200000))) ++ first 3 (ramp (fun d => decide (d > 10000000))) ++
  first 4 (lastE.map Prod.fst) ++ (match b.refclkAt with | some t => if now < t + 100000 then [(5, 0xFFFF)] else [] | none => [])

/-- RAIL_CROSSING (R473): latched while PERST# is asserted. A rail that begins to ramp is not valid; VAUX that does had gone, and THERMTRIP#
with it (R480). -/
def execRailCrossing (rail : Fin 40) (what : Crossing) (s : State) : Res :=
  let k := rail.val
  if s.dev.phase != .held then .next s
  else
    let put := fun (b : Board) (f : RailLatch → RailLatch) => { b with rails := mapUpd {} b.rails k f }
    match what with
    | .ten => .next { s with
        board := put s.board (fun _ => { ten := some s.now })
        dev := { s.dev with thermtrip := s.dev.thermtrip && k != 38 } }
    | .ninety => .next { s with board := put s.board (fun x => { x with ninety := some s.now }) }
    | .valid => .next { s with
        board := { put s.board (fun x => { x with valid := some (s.board.validSeq, s.now) }) with validSeq := s.board.validSeq + 1 } }

/-- REFCLK_LOSS (R472): every root stops, staged Yew records are lost, ALERT# is asserted; only PERST# ends it. -/
def execRefclkLoss (s : State) : Res :=
  let s := { s with board := { s.board with refclkAt := some s.now } }
  if s.dev.phase == .held || s.dev.phase == .noRefclk then .next s
  else .next { s with dev := { s.dev with phase := .noRefclk, alert := true }, rep := { s.rep with staging := [] } }

/-! Start-up, step 3: journal, tables, grade (R369, R400, R404, R405, R17). -/

/-- Does a replayed value fit its entry (R400)? -/
def replayFits (key v : Nat) : Bool :=
  match entryAt key with
  | some e => e.persist && decide (v < 2 ^ (8 * e.bytes)) && e.fits (leBytes e.bytes v)
  | none => false

/-- The journal is replayed into the dictionary; a torn record, or no valid area, brings a compaction at once. Answers what was gathered and
the entries that fell back to their defaults. -/
def State.replayJournal (s : State) : State × Replay × List Nat :=
  let m := s.mgmt
  let (b, x) := match m.governing with
    | some b => (b, m.area b)
    | none => (true, {})
  let (p, torn) := x.replay
  let kept := x.recs.take (x.recs.length - torn)
  let bad := p.vals.filterMap (fun e => match e.2 with | some v => if replayFits e.1 v then none else some e.1 | none => none)
  let s := p.vals.foldl (fun (t : State) e => match e.2 with
    | some v => if replayFits e.1 v then t.setDv e.1 v else t
    | none => t) s
  let last := kept.foldl (fun n r => max n r.seq) x.hseq
  let s := s.updMgmt (fun m => { (m.setArea b { x with recs := kept }) with areaB := b, seq := last })
  let s := if torn ≠ 0 ∨ m.governing.isNone then
      ((s.updMgmt (fun m => { (m.setArea (!b) {}) with compact := some last })).compactNow)
    else s
  (if torn = 0 then s else s.count (dkey 0xA000 0x05) torn, p, bad)

/-- The journal's values by ascending entry, then the grade record: what M_JOURNAL is taken over (log 76). -/
def Replay.serial (p : Replay) : List Byte :=
  ((p.vals.foldl (fun (m : Map Nat) e => match e.2 with | some v => mapInsert (mapErase m e.1) e.1 v | none => mapErase m e.1) []).flatMap
    (fun e => leBytes 3 e.1 ++ leBytes (entryBytes e.1) e.2)) ++ (mapFind p.signed 0).getD []

/-- The grade (R17). -/
def State.gradeOf (s : State) (p : Replay) : Option Grade :=
  match mapFind p.signed 0 with
  | some g => if Config.gradeSigOk g then some (if Config.gradeIs512 g then .dt9_512 else .dt9_576) else s.dev.factory
  | none => s.dev.factory

/-- The table package of this start (R405): the chosen slot, the other one, or the ROM's tables; M_TABLES, and the defaults of section 4
for entries the journal does not hold (R403). Answers whether the chosen one failed. -/
def State.loadTables (s : State) (p : Replay) : State × Bool :=
  let want := s.dv (dkey 0xA010 0x04) == 1
  let use := [want, !want].find? (fun b => s.pkgOk (s.mgmt.slot b))
  match use with
  | none =>
    ({ s with pwr := { s.pwr with slow := true } }.setDv (dkey 0xA010 0x04) 2, true)
  | some b =>
    let m := s.mgmt.slot b
    let s := ((s.setDv (dkey 0xA010 0x04) b.toNat).setDv (dkey 0x1000 0x07) (pkgVersion m)).setDv (dkey 0x6000 0x05)
      (Config.sha384 (slotBytes m 0 (256 + pkgBodyLen m))).toNat
    let ds := ((pkgSection m 4).map Config.packageDefaults).getD []
    (ds.foldl (fun (t : State) e => if (p.vals.any (fun v => v.1 == e.1)) || !(replayFits e.1 e.2) then t else t.setDv e.1 (cleaned e.1 e.2)) s, b != want)

/-! The core map (R15, R16, R88, R454). -/

/-- Faulty column groups of a physical core, and the one group where there is just one. -/
def State.faultyCols (s : State) (p : Nat) : Nat := bits (s.dv (dkey 0x7001 0x03)) (16 * p) 16
def oneGroup (cols : Nat) : Option Nat := (List.range 16).find? (fun g => cols == 2 ^ g)
def State.fenceCauseOf (s : State) (p : Nat) : Nat := bits (s.dv (dkey 0x7001 0x02)) (8 * p) 8

/-- Cores that R88 narrows: one faulty column group under NARROW, not fenced for another cause. -/
def State.narrows (s : State) (p : Nat) : Option Nat :=
  if s.dv (dkey 0x4030 0x01) = 1 ∧ (!(bitAt (s.dv (dkey 0x7001 0x01)) p) ∨ s.fenceCauseOf p = 1) then oneGroup (s.faultyCols p) else none

/-- The fences and narrowed arrays of this start; a core that comes back loses its bit and its byte, both journaled (R454). -/
def State.mapRepairs (s : State) : State :=
  let ps := List.range 640
  let map := s.dv (dkey 0x7001 0x01)
  let nar := ps.filterMap (fun p => (s.narrows p).map (fun g => (p, g + 1)))
  let back := nar.filter (fun e => bitAt map e.1)
  let fenced := ps.filter (fun p => !(nar.any (fun e => e.1 == p)) && (bitAt map p || s.faultyCols p != 0))
  let s := { s with dev := { s.dev with narrow := nar, fenced := fenced } }
  if back.isEmpty then s
  else
    let cause := back.foldl (fun v e => setBits v (8 * e.1) 8 0) (s.dv (dkey 0x7001 0x02))
    let map := back.foldl (fun v e => setBits v e.1 1 0) map
    (s.persist (dkey 0x7001 0x01) map).persist (dkey 0x7001 0x02) cause

/-- The slots of one die in ascending order: the map so far, the spares taken. -/
def State.mapDie (s : State) (d : Nat) : Map Nat :=
  let n := s.perDie
  ((List.range n).foldl (fun (a : Map Nat × List Nat) k =>
    let home := 80 * d + k
    if !(s.dev.fenced.contains home) then a
    else match ((List.range (80 - n)).map (fun i => 80 * d + n + i)).find? (fun p => !(s.dev.fenced.contains p) && !(a.2.contains p)) with
      | some p => (a.1 ++ [(n * d + k, p + 1)], a.2 ++ [p])
      | none => (a.1 ++ [(n * d + k, 0)], a.2)) ([], [])).1
/-- The map of the start, with an alarm for each die whose spares do not suffice (R16). -/
def State.mapCores (s : State) : State :=
  let s := { s with dev := { s.dev with coreMap := (List.range 8).flatMap s.mapDie } }
  (s.dev.coreMap.filter (fun e => e.2 == 0)).foldl (fun (t : State) e =>
    t.raise Ev.noSpare (80 * (e.1 / max 1 t.perDie) + e.1 % max 1 t.perDie) 0 0 [0, 0, 0, 0x3FF]) s

/-! Steps 4 to 6. -/

/-- Roots at 4,800 MHz, held at 3,600 MHz on the ROM's tables (R405, R434); the planner starts anew after a new package (R435). -/
def State.startClocks (s : State) (heart : List Nat) : State :=
  let s := if s.mgmt.newPkg ∧ !s.pwr.slow then
      let keys := [dkey 0x2060 0x01, dkey 0x2060 0x02, dkey 0x2060 0x03, dkey 0x2010 0x02]
      (keys.foldl (fun (t : State) k => t.setDv k (dictDefault k)) s).updMgmt (fun m => { m with newPkg := false })
    else s
  let f := if s.pwr.slow then 3600 else 4800
  let s := { s with pwr := { s.pwr with ft := f } }
  let s := (List.range 8).foldl (fun (t : State) d => t.updDie d (fun p => { p with root := f, target := f, volt := f, millivolt := t.setpoint d f })) s
  let s := s.replan (readingsOf heart)
  (List.range 8).foldl (fun (t : State) d =>
    if bitAt (t.dv (dkey 0x2060 0x03)) d && t.perDieVal (dkey 0x2010 0x02) 2 d == 3600 && !(t.die d).margin then
      (t.updDie d (fun p => { p with margin := true })).raise Ev.endOfMargin d
    else t) s

/-- Channel slots of a stack (R184, R226). -/
def stackSlots (k : Nat) : List Nat := (List.range 32).map (fun c => 16 * c + k)
/-- The protected region in the highest backed HBM granules (R362, R495; log 11): the two copies of the ownership table, 257.5 MiB each, and
the firmware's work areas in two copies. -/
def State.protectedAreas (s : State) : List (Nat × Nat) :=
  let top := s.hbmBacked / granuleBytes
  [(top - 4120, 4120), (top - 8240, 4120), (top - 8752, 512), (top - 9264, 512)]

/-- Steps 3 and 4 of R221: the lanes that the journal holds after the tests, and the channel slots that cannot be repaired. -/
def laneRepair (r : Training) (old : List (Nat × Nat)) : List (Nat × Nat) × List Nat :=
  let all := r.faults.foldl (fun l f => if l.contains f then l else l ++ [f]) old
  let out := (List.range 512).filter (fun k => r.caFaults.contains k || decide ((all.filter (fun f => f.1 == k)).length > r.spares))
  (all.filter (fun f => old.contains f || !(out.contains f.1)), out)

/-- Training of the stacks (R221, R222, R226, R227), the start-up scrub (R365), the fences of Alder engines, the protected region. -/
def State.train (s : State) (r : Training) : State :=
  let s := if s.mgmt.clearMap then (s.updMgmt (fun m => { m with lanes := [] })).setDv (dkey 0x3010 0x03) 0 else s
  let old := s.outSet
  let (lanes, bad) := laneRepair r s.mgmt.lanes
  let set := (bad ++ r.badStacks.flatMap stackSlots).foldl (fun v k => if k < 512 then v ||| 2 ^ k else v) old
  let s := s.updMgmt (fun m => { m with lanes := lanes, retest := [] })
  let s := if set = old ∧ s.mgmt.clearMap = false then s else s.persist (dkey 0x3010 0x03) set true
  let s := if s.dv (dkey 0x3010 0x05) = min 65535 lanes.length then s else s.persist (dkey 0x3010 0x05) (min 65535 lanes.length) true
  let s := (bad.filter (fun k => !(bitAt old k))).foldl
    (fun (t : State) k => t.raise Ev.channelMappedOut (32 * (k % 16) + k / 16)) s
  let s := r.badStacks.foldl (fun (t : State) k => t.raise Ev.stackFailed (32 * k)) s
  let gone := (List.range 16).foldl (fun v k => if (stackSlots k).all (fun x => bitAt set x) then v + 2 ^ k else v) 0
  let s := if gone = 0 then s else s.setDv (dkey 0x3080 0x06) gone
  let s := (List.range 16).foldl (fun (t : State) k => t.updStack k (fun x => { x with banksLog2 := (r.banksLog2[k]?).getD 4 })) s
  { s with dev := { s.dev with scrubbed := true, fw := s.protectedAreas } }

/-- The PCIe link a partner gets: the highest rate and width common to both ends; none without FLIT mode (R477). -/
def pcieLink (e : PcieEnd) : Option (Nat × Nat) := if e.flit then some (min 640 e.rate, min 16 e.lanes) else none

/-- Steps 1 to 7 of Table 18.2, at once: records are raised once the recorder has been scanned. -/
def State.startUp (s : State) (r : StartReport) : State :=
  let misses := s.board.misses s.now
  let (s, p, bad) := s.replayJournal
  let s := { s with
    dev := { s.dev with phase := .running, deviceId := s.dv (dkey 0x5000 0x01), domainId := s.dv (dkey 0x5000 0x02), grade := s.gradeOf p }
    rep := { s.rep with opBase := s.dv (dkey 0x1000 0x08), opStart := s.now } }
  let s := (s.setDv (dkey 0x6000 0x01) r.identity).setDv (dkey 0x6000 0x06) (Config.sha384 p.serial).toNat
  let (s, fallback) := s.loadTables p
  let s := (s.persist (dkey 0x1000 0x09) (s.powerCycles + 1)).yewScan
  let s := misses.foldl (fun (t : State) e => t.raise Ev.railSequence (if e.2 = 0xFFFF then 0 else e.2) 0 0 [e.2, e.1]) s
  let s := if r.identity = 0 then s else s.raise Ev.identityInvalid 0
  let s := bad.foldl (fun (t : State) _ => t.raise Ev.valueDefaulted 0) s
  let s := if fallback then s.raise Ev.packageFallback 0 else s
  let s := if s.dev.grade.isNone then s.raise Ev.gradeMissing 0 else s
  let s := s.mapRepairs.mapCores
  let s := (s.startClocks r.heart).train r.training
  let s := (List.range 18).foldl (fun (t : State) k => t.portAttempt k) s
  { s with board := { s.board with rrs := false, pcie := pcieLink r.pcie, pcieRefused := !r.pcie.flit } }

/-- PERST_RELEASE (R471, R473, R475). -/
def execPerstRelease (r : StartReport) (s : State) : Res :=
  if s.dev.phase != .held then .next s
  else match s.board.outOfOrder with
  | some k => .next { s with
      dev := { s.dev with phase := .badRails, alert := true }
      board := { s.board with inSafe := true }
      pwr := { s.pwr with failed := true, failRail := k } }
  | none => .next (s.startUp r)

/-! PCIe and the test port. -/

/-- PCIE_HOT_RESET (R478, R351): every tenant context is left suspended; the administrative context's work is stopped, its placement
released and the PF's rings disabled, and it stays active as R355 has it (log 77). During a start only the link retrains. -/
def execPcieHotReset (s : State) : Res :=
  if !s.running || s.board.pcie.isNone then .next s
  else
    let live := (s.ctxs.filter (fun e => decide (e.1 < 4096) && (e.2.st == 1 || e.2.st == 3))).map Prod.fst
    let s := { s with ctxs := s.ctxs.map (fun (e : Nat × Ctx) =>
      (e.1, { e.2 with busMaster := false, tdi := if e.2.tdi = 1 ∨ e.2.tdi = 2 then 3 else e.2.tdi })) }
    let s := live.foldl (fun (t : State) c =>
      ((if (t.ctx c).st = 1 then t.beginQuiesce c else t).forcedStop c Code.quiesceForced).settle c) s
    let s := s.forcedStop 4096 Code.quiesceForced
    let s := if (s.ctx 4096).groves = 0 then s else s.unplace 4096
    .next (((List.range 8).foldl (fun (t : State) r => t.updRing 4096 r (fun x => { x with ctrl := x.ctrl &&& 0x7FFFFFFF })) s).updCq 4096
      (fun q => { q with ctrl := q.ctrl &&& 0x7FFFFFFF }))

/-- CONFIG_REQUEST (R477): Retry Status until step 7, then served, where there is a link; a write of Bus Master Enable reaches the function's context. -/
def execConfigRequest (function : Fin 4097) (busMaster : Option Bool) (s : State) : Res :=
  if s.dev.phase == .held || s.dev.phase == .noRefclk then .next s
  else if s.running && s.board.pcie.isNone then .next s
  else if s.board.rrs then .next (s.emit (.value "configuration retry status" function.val))
  else
    let s := match busMaster with
      | some b => s.updCtx function.val (fun x => { x with busMaster := b })
      | none => s
    .next (s.emit (.value "configuration" function.val))

/-- TAP_INSTRUCTION (R481). -/
def execTapInstruction (op : TapOp) (s : State) : Res :=
  let inReset := s.dev.phase == .held && decide (s.board.perstAt + 1000000 ≤ s.now)
  let sel : TapOp := match op with
    | .idcode => .idcode
    | .samplePreload => if inReset then .samplePreload else .bypass
    | .extest => if inReset then .extest else .bypass
    | _ => .bypass
  let s := { s with board := { s.board with tap := sel } }
  .next (if sel = .idcode then s.emit (.value "IDCODE" 0x1D70954D) else s)

end Sys2Proof.Machine
end

