-- ==== Sys2Proof/Machine/Hbm.lean ====
section
/-!
DEFINITION. Machine/Hbm.lean: service of bank queues and atomic units (R199 to R201, R215, R293), scrub, refresh, on-die counts and
parity errors (R217 to R219, R222).
-/
namespace Sys2Proof.Machine

/-- What follows when an entry of a request was served: its requester goes on if it is done, and queues and slots fill again (R199). -/
def State.goOn (s : State) (r : Req) : State :=
  let s := if (s.req? r.id).any (fun x => x.ph == .done) then s.afterDone r.id else s
  match r.src with
  | .core n => s.pump r.ctx n
  | _ => s.readmit

/-- A queue serves its next entry; `lost`: the words it reads are lost (R450). -/
def State.serve (s : State) (key : Nat) (lost : Bool := false) : State :=
  match s.nextServed key with
  | none => s
  | some (e, r) =>
    let b := s.bank key
    let s := { s with banks := mapSet {} s.banks key { b with
      q := ((s.entries key).map Prod.fst).filter (fun x => x != e), lastSrv := s.srcAt key r.src, served := b.served + 1 } }
    (s.servePart r.id e.part lost).goOn r

/-- HBM_BANK_SERVICE (R199, R215). A tripped stack serves nothing (R220). -/
def execHbmBankService (stack : Fin 16) (ch : Fin 32) (pc : Fin 2) (bank : Nat) (s : State) : Res :=
  if !s.running || (stackOf s stack.val).tripped || decide (bank ≥ 65536) then .next s
  else .next (s.serve (qBank { stack := stack.val, ch := ch.val, pc := pc.val, bank := bank, block := 0 }))

/-- Lost words of a near-tier bank group are counted and reported; the access that reads them does nothing (R450). -/
def State.nearLost (s : State) (die group : Nat) : State :=
  (s.count (dkey 0x7000 0x08)).raiseAs Ev.sramUncorrectable 5 (16 * die + group) Code.uncorrectable 0 0

/-- NEAR_BANK_SERVICE (R201), with the outcome of the SEC-DED code over the words it reads (R450; log 80). A bank group in retention
wakes first (R430). -/
def execNearBankService (die : Fin 8) (group : Fin 16) (ecc : Ecc) (s : State) : Res :=
  let key := qNear die.val group.val
  if !s.running || s.pwr.domRet.contains (720 + 16 * die.val + group.val) then .next s
  else match s.nextServed key with
  | none => .next s
  | some _ =>
    let t := s.sramFixed ecc.fixed
    .next (if ecc.lost then (t.nearLost die.val group.val).serve key true else t.serve key)

/-- An atomic unit holds a block: of 16 held, the least recently used one is written back for a new one (R293). -/
def holdBlock (l : List (Nat × Nat)) (blk now : Nat) : List (Nat × Nat) := ((blk, now) :: l.filter (fun e => e.1 != blk)).take 16

/-- ATOMIC_UNIT_OP (R293): the unit applies the next operation of its queue. -/
def execAtomicUnitOp (unit : Fin 144) (s : State) : Res :=
  if !s.running then .next s
  else match s.nextServed (qUnit unit.val) with
  | none => .next s
  | some (_, r) =>
    let u := mapGet {} s.aunits unit.val
    let u := { u with held := holdBlock u.held (gOffset r.addr / 64) s.now }
    let s := ({ s with aunits := mapSet {} s.aunits unit.val u }).count (dkey 0x5030 0x08)
    .next (s.serve (qUnit unit.val))

/-- ATOMIC_BLOCK_WRITEBACK (R293): a block idle for 1 µs leaves the unit. Its contents are in memory already: the unit served every access. -/
def execAtomicBlockWriteback (unit : Fin 144) (block : Nat) (s : State) : Res :=
  if !s.running then .next s
  else .next { s with aunits := mapUpd {} s.aunits unit.val (fun u => { u with held := u.held.filter (fun e => !(e.1 == block && s.past e.2 us)) }) }

/-! Scrub. -/

/-- The k-th slot of X, ascending. -/
def failedSlot (x k : Nat) : Nat := (((List.range 512).filter (fun i => bitAt x i))[k]?).getD 0

/-- The HBM offset whose place is a block of a pseudo-channel; none where nothing is placed (R213, R223). -/
def State.offsetAt (s : State) (stack ch pc block : Nat) : Option Nat :=
  let x := s.outSet
  let q := s.outCount
  let t := 1048576 - 2048 * q
  let sl := 16 * ch + stack
  let i := block / 32
  let low := block % 32 * 128 + pc * 64
  if bitAt x sl then none
  else if i < t then some ((i * 512 + sl) * 4096 + low)
  else if q = 0 then none
  else
    let k := (i - t) * (512 - q) + (sl - rankIn x sl)
    some ((k / q * 512 + failedSlot x (k % q)) * 4096 + low)

/-- Blocks of a pseudo-channel (R218). -/
def pcBlocks : Nat := 2 ^ 25

/-- Is a block already poisoned? -/
def State.poisoned (s : State) (blk : Nat) : Bool :=
  match mapFind s.side blk with
  | none => false
  | some w => decodeBlock (cellsRead s.mem (64 * blk) 64) w == .poison

/-- The scrub's read of a pseudo-channel that is under way. -/
def isScrub (key : Nat) (r : Req) : Bool := r.src == .firmware && r.xfer == 0 && r.gidx == key + 1
/-- Has every backed pseudo-channel read its last block? -/
def State.scrubOver (s : State) : Bool :=
  (List.range 512).all (fun sl => bitAt s.outSet sl ||
    (List.range 2).all (fun pc =>
      let key := (sl % 16 * 32 + sl / 16) * 2 + pc
      mapGet 0 s.hbm.scrub key == pcBlocks && !(s.reqs.any (isScrub key))))

/-- SCRUB_READ (R218): the controller asks for the next block of a pseudo-channel once the one before has been read; the read enters its bank
queue as firmware traffic. Blocks that are poisoned already are skipped. The period ends with the last block of the last pseudo-channel,
and the next starts at once. -/
def execScrubRead (stack : Fin 16) (ch : Fin 32) (pc : Fin 2) (s : State) : Res :=
  let key := (stack.val * 32 + ch.val) * 2 + pc.val
  let n := mapGet 0 s.hbm.scrub key
  if !s.running || bitAt s.outSet (16 * ch.val + stack.val) || (stackOf s stack.val).tripped || s.stopped.2.contains stack.val ||
     s.hbm.mapout.queue.contains (16 * ch.val + stack.val) || s.reqs.any (isScrub key) then .next s
  else if n = pcBlocks then
    .next (if s.scrubOver then ({ s with hbm := { s.hbm with scrub := [] } } : State).count (dkey 0x3012 0x02) else s)
  else
    let s := { s with hbm := { s.hbm with scrub := mapSet 0 s.hbm.scrub key (n + 1) } }
    match s.offsetAt stack.val ch.val pc.val n with
    | none => .next s
    | some o =>
      if s.poisoned (o / 64) then .next s
      else .next ({ s with
        nextId := s.nextId + 1
        reqs := s.reqs ++ [{ id := s.nextId, src := .firmware, op := .rd 64, addr := mkGlobal s.dev.deviceId o, ph := .slot, gidx := key + 1 }] } : State).readmit

/-- HBM_REFRESH (R219): a per-bank refresh; a tripped stack refreshes itself. -/
def execHbmRefresh (stack : Fin 16) (ch : Fin 32) (pc : Fin 2) (bank : Nat) (s : State) : Res :=
  let key := qBank { stack := stack.val, ch := ch.val, pc := pc.val, bank := bank, block := 0 }
  if !s.running || (stackOf s stack.val).tripped || decide (bank ≥ 65536) then .next s
  else .next { s with banks := mapUpd {} s.banks key (fun b => { b with refresh := b.refresh + 1 }) }

/-- ONDIE_ECC_POLL (R217). -/
def execOndieEccPoll (_stack : Fin 16) (count : Nat) (s : State) : Res :=
  if !s.running then .next s else .next (s.count (dkey 0x3011 0x03) count)

def second : Nat := 1000000000

/-- CA_PARITY_ERROR (R217, R222): counted; the limit within 1 s maps the channel out. -/
def execCaParityError (stack : Fin 16) (ch : Fin 32) (s : State) : Res :=
  if !s.running then .next s
  else
    let s := s.count (dkey 0x3011 0x05)
    let l := recentErr (stackOf s stack.val).parity ch.val s.now second
    let s := s.updStack stack.val (fun k => { k with parity := l })
    if errCount l ch.val ≥ s.dv (dkey 0x3014 0x01) then .next (s.triggerMapout (16 * ch.val + stack.val)) else .next s

end Sys2Proof.Machine
end

