-- ==== Sys2Proof/Machine/Dispatch.lean ====
section
/-!
DEFINITION. Machine/Dispatch.lean: which meaning each command has.
-/
namespace Sys2Proof.Machine

def exec (i : Instr) (s : State) : Host.Outcome State Fault Refusal :=
  match i with
  | .nop g w => Sys2Proof.Machine.execNop g w s
  | .bra g w => Sys2Proof.Machine.execBra g w s
  | .bri g w => Sys2Proof.Machine.execBri g w s
  | .call g w => Sys2Proof.Machine.execCall g w s
  | .ret g w => Sys2Proof.Machine.execRet g w s
  | .exit g w => Sys2Proof.Machine.execExit g w s
  | .yield g w => Sys2Proof.Machine.execYield g w s
  | .gsync g w => Sys2Proof.Machine.execGsync g w s
  | .bkpt g w => Sys2Proof.Machine.execBkpt g w s
  | .srd g w => Sys2Proof.Machine.execSrd g w s
  | .iadd g w => Sys2Proof.Machine.execIadd g w s
  | .isub g w => Sys2Proof.Machine.execIsub g w s
  | .imul g w => Sys2Proof.Machine.execImul g w s
  | .imla g w => Sys2Proof.Machine.execImla g w s
  | .imin g w => Sys2Proof.Machine.execImin g w s
  | .imax g w => Sys2Proof.Machine.execImax g w s
  | .and g w => Sys2Proof.Machine.execAnd g w s
  | .or g w => Sys2Proof.Machine.execOr g w s
  | .xor g w => Sys2Proof.Machine.execXor g w s
  | .shl g w => Sys2Proof.Machine.execShl g w s
  | .shr g w => Sys2Proof.Machine.execShr g w s
  | .sar g w => Sys2Proof.Machine.execSar g w s
  | .bcnt g w => Sys2Proof.Machine.execBcnt g w s
  | .lzc g w => Sys2Proof.Machine.execLzc g w s
  | .icmp g w => Sys2Proof.Machine.execIcmp g w s
  | .csel g w => Sys2Proof.Machine.execCsel g w s
  | .fadd g w => Sys2Proof.Machine.execFadd g w s
  | .fmul g w => Sys2Proof.Machine.execFmul g w s
  | .fma g w => Sys2Proof.Machine.execFma g w s
  | .fmin g w => Sys2Proof.Machine.execFmin g w s
  | .fmax g w => Sys2Proof.Machine.execFmax g w s
  | .fcmp g w => Sys2Proof.Machine.execFcmp g w s
  | .rcp g w => Sys2Proof.Machine.execRcp g w s
  | .rsqrt g w => Sys2Proof.Machine.execRsqrt g w s
  | .exp2 g w => Sys2Proof.Machine.execExp2 g w s
  | .log2 g w => Sys2Proof.Machine.execLog2 g w s
  | .cvt g w => Sys2Proof.Machine.execCvt g w s
  | .pfmaH g w => Sys2Proof.Machine.execPfmaH g w s
  | .pfmaB g w => Sys2Proof.Machine.execPfmaB g w s
  | .lxch g w => Sys2Proof.Machine.execLxch g w s
  | .lvote g w => Sys2Proof.Machine.execLvote g w s
  | .bsel g w => Sys2Proof.Machine.execBsel g w s
  | .ld g w ecc => Sys2Proof.Machine.execLd g w ecc s
  | .st g w ecc => Sys2Proof.Machine.execSt g w ecc s
  | .atom g w => Sys2Proof.Machine.execAtom g w s
  | .red g w => Sys2Proof.Machine.execRed g w s
  | .fence g w => Sys2Proof.Machine.execFence g w s
  | .ldAcq g w => Sys2Proof.Machine.execLdAcq g w s
  | .stRel g w => Sys2Proof.Machine.execStRel g w s
  | .storeFlag g w => Sys2Proof.Machine.execStoreFlag g w s
  | .lockAcq g w => Sys2Proof.Machine.execLockAcq g w s
  | .lockRel g w => Sys2Proof.Machine.execLockRel g w s
  | .tmCopy g w => Sys2Proof.Machine.execTmCopy g w s
  | .tmGather g w => Sys2Proof.Machine.execTmGather g w s
  | .tmScatter g w => Sys2Proof.Machine.execTmScatter g w s
  | .tmFill g w => Sys2Proof.Machine.execTmFill g w s
  | .tmWait g w => Sys2Proof.Machine.execTmWait g w s
  | .tmPoll g w => Sys2Proof.Machine.execTmPoll g w s
  | .mxaAsync g w => Sys2Proof.Machine.execMxaAsync g w s
  | .mxaWait g w => Sys2Proof.Machine.execMxaWait g w s
  | .mxaPoll g w => Sys2Proof.Machine.execMxaPoll g w s
  | .mxaCmpr g w => Sys2Proof.Machine.execMxaCmpr g w s
  | .rwnDrain g w => Sys2Proof.Machine.execRwnDrain g w s
  | .groupStart core => Sys2Proof.Machine.execGroupStart core s
  | .accessResponse req => Sys2Proof.Machine.execAccessResponse req s
  | .lockBackoffExpiry g => Sys2Proof.Machine.execLockBackoffExpiry g s
  | .groupWatchdogExpiry g => Sys2Proof.Machine.execGroupWatchdogExpiry g s
  | .tmResponse core xfer => Sys2Proof.Machine.execTmResponse core xfer s
  | .tmTokenComplete core xfer => Sys2Proof.Machine.execTmTokenComplete core xfer s
  | .runaheadPrefetch core xfer block => Sys2Proof.Machine.execRunaheadPrefetch core xfer block s
  | .streamPrefetch g line => Sys2Proof.Machine.execStreamPrefetch g line s
  | .dbgHalt c => Sys2Proof.Machine.execDbgHalt c s
  | .dbgResume c => Sys2Proof.Machine.execDbgResume c s
  | .dbgStep c => Sys2Proof.Machine.execDbgStep c s
  | .groupHalt g => Sys2Proof.Machine.execGroupHalt g s
  | .dbgAuth c tok => Sys2Proof.Machine.execDbgAuth c tok s
  | .dbgDataRead c => Sys2Proof.Machine.execDbgDataRead c s
  | .dbgDataWrite c data => Sys2Proof.Machine.execDbgDataWrite c data s
  | .breakpointWrite c sub value => Sys2Proof.Machine.execBreakpointWrite c sub value s
  | .mxaQueueAdmit g => Sys2Proof.Machine.execMxaQueueAdmit g s
  | .mxaOpStart core => Sys2Proof.Machine.execMxaOpStart core s
  | .mxaOpComplete core => Sys2Proof.Machine.execMxaOpComplete core s
  | .specCheckTile core => Sys2Proof.Machine.execSpecCheckTile core s
  | .srSeed c ctx seed => Sys2Proof.Machine.execSrSeed c ctx seed s
  | .replayEntryStart ctx ring => Sys2Proof.Machine.execReplayEntryStart ctx ring s
  | .alderChunk engine => Sys2Proof.Machine.execAlderChunk engine s
  | .hbmBankService stack ch pc bank => Sys2Proof.Machine.execHbmBankService stack ch pc bank s
  | .nearBankService die group ecc => Sys2Proof.Machine.execNearBankService die group ecc s
  | .atomicUnitOp unit => Sys2Proof.Machine.execAtomicUnitOp unit s
  | .atomicBlockWriteback unit block => Sys2Proof.Machine.execAtomicBlockWriteback unit block s
  | .scrubRead stack ch pc => Sys2Proof.Machine.execScrubRead stack ch pc s
  | .hbmRefresh stack ch pc bank => Sys2Proof.Machine.execHbmRefresh stack ch pc bank s
  | .stackTempRead stack temp => Sys2Proof.Machine.execStackTempRead stack temp s
  | .ondieEccPoll stack count => Sys2Proof.Machine.execOndieEccPoll stack count s
  | .caParityError stack ch => Sys2Proof.Machine.execCaParityError stack ch s
  | .channelMapout => Sys2Proof.Machine.execChannelMapout s
  | .releaseApply rel => Sys2Proof.Machine.execReleaseApply rel s
  | .dataFlit port flit fecOk => Sys2Proof.Machine.execDataFlit port flit fecOk s
  | .initFlit port flit fecOk => Sys2Proof.Machine.execInitFlit port flit fecOk s
  | .keyxFlit port flit fecOk => Sys2Proof.Machine.execKeyxFlit port flit fecOk s
  | .nullFlit port flit fecOk => Sys2Proof.Machine.execNullFlit port flit fecOk s
  | .flitSend port => Sys2Proof.Machine.execFlitSend port s
  | .ackTimerExpiry port => Sys2Proof.Machine.execAckTimerExpiry port s
  | .rxSilenceExpiry port => Sys2Proof.Machine.execRxSilenceExpiry port s
  | .laneSignalLoss port lane => Sys2Proof.Machine.execLaneSignalLoss port lane s
  | .retrainIntervalExpiry port => Sys2Proof.Machine.execRetrainIntervalExpiry port s
  | .pmdTrainingDone port => Sys2Proof.Machine.execPmdTrainingDone port s
  | .bringupStepTimeout port => Sys2Proof.Machine.execBringupStepTimeout port s
  | .initResend port => Sys2Proof.Machine.execInitResend port s
  | .hello port => Sys2Proof.Machine.execHello port s
  | .cert port => Sys2Proof.Machine.execCert port s
  | .finish port => Sys2Proof.Machine.execFinish port s
  | .keyxResend port => Sys2Proof.Machine.execKeyxResend port s
  | .rekeyStart port => Sys2Proof.Machine.execRekeyStart port s
  | .rekeyNow c ports => Sys2Proof.Machine.execRekeyNow c ports s
  | .rekeyTimeout port => Sys2Proof.Machine.execRekeyTimeout port s
  | .portCtrl c port value => Sys2Proof.Machine.execPortCtrl c port value s
  | .routeMode c value => Sys2Proof.Machine.execRouteMode c value s
  | .routeD c dev ports => Sys2Proof.Machine.execRouteD c dev ports s
  | .flowMove sidx dev => Sys2Proof.Machine.execFlowMove sidx dev s
  | .ctxkeyOffer port ctx check => Sys2Proof.Machine.execCtxkeyOffer port ctx check s
  | .pktRd port => Sys2Proof.Machine.execPktRd port s
  | .pktWr port => Sys2Proof.Machine.execPktWr port s
  | .pktWrm port => Sys2Proof.Machine.execPktWrm port s
  | .pktAtom port => Sys2Proof.Machine.execPktAtom port s
  | .pktRed port => Sys2Proof.Machine.execPktRed port s
  | .pktFlag port => Sys2Proof.Machine.execPktFlag port s
  | .pktRdr port => Sys2Proof.Machine.execPktRdr port s
  | .pktAck port => Sys2Proof.Machine.execPktAck port s
  | .pktAtr port => Sys2Proof.Machine.execPktAtr port s
  | .pktHold port => Sys2Proof.Machine.execPktHold port s
  | .requestAccept port => Sys2Proof.Machine.execRequestAccept port s
  | .remoteDeadlineExpiry req => Sys2Proof.Machine.execRemoteDeadlineExpiry req s
  | .holdTimer port dev => Sys2Proof.Machine.execHoldTimer port dev s
  | .reqTimeoutExpiry req => Sys2Proof.Machine.execReqTimeoutExpiry req s
  | .gwFlushExpiry gw stream => Sys2Proof.Machine.execGwFlushExpiry gw stream s
  | .larchWrite gw d => Sys2Proof.Machine.execLarchWrite gw d s
  | .larchRead gw d => Sys2Proof.Machine.execLarchRead gw d s
  | .larchReadData gw d => Sys2Proof.Machine.execLarchReadData gw d s
  | .larchComplete gw d => Sys2Proof.Machine.execLarchComplete gw d s
  | .gwRetryExpiry gw stream seq => Sys2Proof.Machine.execGwRetryExpiry gw stream seq s
  | .exchangeRendezvous ctx => Sys2Proof.Machine.execExchangeRendezvous ctx s
  | .exchangeBucket ctx gather => Sys2Proof.Machine.execExchangeBucket ctx gather s
  | .exchangeMessage ctx bucket sender gather => Sys2Proof.Machine.execExchangeMessage ctx bucket sender gather s
  | .exchangeAbort ctx member => Sys2Proof.Machine.execExchangeAbort ctx member s
  | .sqCtrl ctx ring value => Sys2Proof.Machine.execSqCtrl ctx ring value s
  | .cqCtrl ctx value => Sys2Proof.Machine.execCqCtrl ctx value s
  | .sqBase ctx ring value => Sys2Proof.Machine.execSqBase ctx ring value s
  | .cqBase ctx value => Sys2Proof.Machine.execCqBase ctx value s
  | .sqTail ctx ring value => Sys2Proof.Machine.execSqTail ctx ring value s
  | .cqHead ctx value => Sys2Proof.Machine.execCqHead ctx value s
  | .commandFetch ctx ring hostEntry => Sys2Proof.Machine.execCommandFetch ctx ring hostEntry s
  | .cqIrqTimer ctx => Sys2Proof.Machine.execCqIrqTimer ctx s
  | .cmdNop ctx ring => Sys2Proof.Machine.execCmdNop ctx ring s
  | .cmdFence ctx ring => Sys2Proof.Machine.execCmdFence ctx ring s
  | .signal ctx ring => Sys2Proof.Machine.execSignal ctx ring s
  | .wait ctx ring => Sys2Proof.Machine.execWait ctx ring s
  | .waitPoll ctx ring => Sys2Proof.Machine.execWaitPoll ctx ring s
  | .launch ctx ring => Sys2Proof.Machine.execLaunch ctx ring s
  | .launchStart ctx ring => Sys2Proof.Machine.execLaunchStart ctx ring s
  | .codeMeasure ctx ring => Sys2Proof.Machine.execCodeMeasure ctx ring s
  | .launchComplete ctx ring => Sys2Proof.Machine.execLaunchComplete ctx ring s
  | .launchTeardown ctx ring => Sys2Proof.Machine.execLaunchTeardown ctx ring s
  | .copy ctx ring => Sys2Proof.Machine.execCopy ctx ring s
  | .fill ctx ring => Sys2Proof.Machine.execFill ctx ring s
  | .gather ctx ring => Sys2Proof.Machine.execGather ctx ring s
  | .map ctx ring => Sys2Proof.Machine.execMap ctx ring s
  | .unmap ctx ring => Sys2Proof.Machine.execUnmap ctx ring s
  | .accept ctx ring => Sys2Proof.Machine.execAccept ctx ring s
  | .exchange ctx ring => Sys2Proof.Machine.execExchange ctx ring s
  | .optStep ctx ring => Sys2Proof.Machine.execOptStep ctx ring s
  | .hint ctx ring => Sys2Proof.Machine.execHint ctx ring s
  | .snapshot ctx ring => Sys2Proof.Machine.execSnapshot ctx ring s
  | .attest ctx ring => Sys2Proof.Machine.execAttest ctx ring s
  | .queryEntry ctx ring => Sys2Proof.Machine.execQueryEntry ctx ring s
  | .queryTranslation ctx ring => Sys2Proof.Machine.execQueryTranslation ctx ring s
  | .queryOwnership ctx ring => Sys2Proof.Machine.execQueryOwnership ctx ring s
  | .ctxCreate ctx ring => Sys2Proof.Machine.execCtxCreate ctx ring s
  | .ctxDestroy ctx ring => Sys2Proof.Machine.execCtxDestroy ctx ring s
  | .ctxSuspend ctx ring => Sys2Proof.Machine.execCtxSuspend ctx ring s
  | .ctxResume ctx ring => Sys2Proof.Machine.execCtxResume ctx ring s
  | .coreFence ctx ring => Sys2Proof.Machine.execCoreFence ctx ring s
  | .kernelDeadlineExpiry ctx ring => Sys2Proof.Machine.execKernelDeadlineExpiry ctx ring s
  | .commandTimeoutExpiry ctx ring => Sys2Proof.Machine.execCommandTimeoutExpiry ctx ring s
  | .quiesceTimeoutExpiry ctx => Sys2Proof.Machine.execQuiesceTimeoutExpiry ctx s
  | .groveReset grove failed => Sys2Proof.Machine.execGroveReset grove failed s
  | .flr vf => Sys2Proof.Machine.execFlr vf s
  | .sliceEnd grove0 => Sys2Proof.Machine.execSliceEnd grove0 s
  | .switchJobComplete grove0 die => Sys2Proof.Machine.execSwitchJobComplete grove0 die s
  | .granuleScrub granule => Sys2Proof.Machine.execGranuleScrub granule s
  | .ctxSecret c ctx value => Sys2Proof.Machine.execCtxSecret c ctx value s
  | .ctxPrivate c ctx value => Sys2Proof.Machine.execCtxPrivate c ctx value s
  | .gwBind c ctx n value => Sys2Proof.Machine.execGwBind c ctx n value s
  | .spdmRequest offersSuite request => Sys2Proof.Machine.execSpdmRequest offersSuite request s
  | .lockInterface vf stream => Sys2Proof.Machine.execLockInterface vf stream s
  | .startInterface vf => Sys2Proof.Machine.execStartInterface vf s
  | .stopInterface vf => Sys2Proof.Machine.execStopInterface vf s
  | .tdiError vf => Sys2Proof.Machine.execTdiError vf s
  | .tokenChallengeRead c => Sys2Proof.Machine.execTokenChallengeRead c s
  | .authKey c key tok => Sys2Proof.Machine.execAuthKey c key tok s
  | .mapoutClear c tok => Sys2Proof.Machine.execMapoutClear c tok s
  | .fenceMapWrite c value tok => Sys2Proof.Machine.execFenceMapWrite c value tok s
  | .neighborSolicitation target => Sys2Proof.Machine.execNeighborSolicitation target s
  | .duplicateAddressDetection inUse => Sys2Proof.Machine.execDuplicateAddressDetection inUse s
  | .openSession d => Sys2Proof.Machine.execOpenSession d s
  | .confirm d => Sys2Proof.Machine.execConfirm d s
  | .confirmTimeout session => Sys2Proof.Machine.execConfirmTimeout session s
  | .read d => Sys2Proof.Machine.execRead d s
  | .write d => Sys2Proof.Machine.execWrite d s
  | .keepalive d => Sys2Proof.Machine.execKeepalive d s
  | .close d => Sys2Proof.Machine.execClose d s
  | .segmentTimeout session seq => Sys2Proof.Machine.execSegmentTimeout session seq s
  | .sessionIdleExpiry session => Sys2Proof.Machine.execSessionIdleExpiry session s
  | .mailboxRead ctx entry => Sys2Proof.Machine.execMailboxRead ctx entry s
  | .mailboxWrite ctx entry data tok => Sys2Proof.Machine.execMailboxWrite ctx entry data tok s
  | .entryWrite c key data tok => Sys2Proof.Machine.execEntryWrite c key data tok s
  | .counterClear c key data => Sys2Proof.Machine.execCounterClear c key data s
  | .snapIndex c index => Sys2Proof.Machine.execSnapIndex c index s
  | .journalCommit => Sys2Proof.Machine.execJournalCommit s
  | .journalWriteTimeout => Sys2Proof.Machine.execJournalWriteTimeout s
  | .compactNow c value => Sys2Proof.Machine.execCompactNow c value s
  | .compaction => Sys2Proof.Machine.execCompaction s
  | .journalAreaErase => Sys2Proof.Machine.execJournalAreaErase s
  | .opTimeJournal => Sys2Proof.Machine.execOpTimeJournal s
  | .pkgOffset c value => Sys2Proof.Machine.execPkgOffset c value s
  | .pkgData c data => Sys2Proof.Machine.execPkgData c data s
  | .packageActivate c tok => Sys2Proof.Machine.execPackageActivate c tok s
  | .gradeRestore c tok => Sys2Proof.Machine.execGradeRestore c tok s
  | .rootStep die => Sys2Proof.Machine.execRootStep die s
  | .avsAck die => Sys2Proof.Machine.execAvsAck die s
  | .avsTimeout die => Sys2Proof.Machine.execAvsTimeout die s
  | .avsTelemetryRead die milliWatt milliVolt valid => Sys2Proof.Machine.execAvsTelemetryRead die milliWatt milliVolt valid s
  | .pmbusTelemetryRead rail milliWatt milliVolt valid => Sys2Proof.Machine.execPmbusTelemetryRead rail milliWatt milliVolt valid s
  | .telemetryStale rail => Sys2Proof.Machine.execTelemetryStale rail s
  | .capLoop => Sys2Proof.Machine.execCapLoop s
  | .capEn c value => Sys2Proof.Machine.execCapEn c value s
  | .powerCap c value => Sys2Proof.Machine.execPowerCap c value s
  | .capGuard c value => Sys2Proof.Machine.execCapGuard c value s
  | .hintExpiry die => Sys2Proof.Machine.execHintExpiry die s
  | .fillerHoldExpiry die => Sys2Proof.Machine.execFillerHoldExpiry die s
  | .droopCrossing die detector => Sys2Proof.Machine.execDroopCrossing die detector s
  | .droopRelease die => Sys2Proof.Machine.execDroopRelease die s
  | .stepFreezeEnd die => Sys2Proof.Machine.execStepFreezeEnd die s
  | .pewterSample die sixteenths => Sys2Proof.Machine.execPewterSample die sixteenths s
  | .governorWindow die => Sys2Proof.Machine.execGovernorWindow die s
  | .supplyWarning rail milliVolt => Sys2Proof.Machine.execSupplyWarning rail milliVolt s
  | .warningCleared => Sys2Proof.Machine.execWarningCleared s
  | .powerFailure rail => Sys2Proof.Machine.execPowerFailure rail s
  | .railResetLevel rail => Sys2Proof.Machine.execRailResetLevel rail s
  | .dieRejoin die heart => Sys2Proof.Machine.execDieRejoin die heart s
  | .junctionSensorRead sensor temp => Sys2Proof.Machine.execJunctionSensorRead sensor temp s
  | .heartwoodReplan heart => Sys2Proof.Machine.execHeartwoodReplan heart s
  | .replanNow c value heart => Sys2Proof.Machine.execReplanNow c value heart s
  | .domainWake dom => Sys2Proof.Machine.execDomainWake dom s
  | .domainIdleOff dom => Sys2Proof.Machine.execDomainIdleOff dom s
  | .selftestRun core vector failing => Sys2Proof.Machine.execSelftestRun core vector failing s
  | .selftestForced core vector failing => Sys2Proof.Machine.execSelftestForced core vector failing s
  | .alarmHoldRelease key => Sys2Proof.Machine.execAlarmHoldRelease key s
  | .alarmDispatch => Sys2Proof.Machine.execAlarmDispatch s
  | .yewProgram => Sys2Proof.Machine.execYewProgram s
  | .yewClear c tok => Sys2Proof.Machine.execYewClear c tok s
  | .yewSectorErase => Sys2Proof.Machine.execYewSectorErase s
  | .perstAssert => Sys2Proof.Machine.execPerstAssert s
  | .perstRelease r => Sys2Proof.Machine.execPerstRelease r s
  | .railCrossing rail what => Sys2Proof.Machine.execRailCrossing rail what s
  | .refclkLoss => Sys2Proof.Machine.execRefclkLoss s
  | .pcieHotReset => Sys2Proof.Machine.execPcieHotReset s
  | .configRequest function busMaster => Sys2Proof.Machine.execConfigRequest function busMaster s
  | .tapInstruction op => Sys2Proof.Machine.execTapInstruction op s
  | .powerFailureRecovery => Sys2Proof.Machine.execPowerFailureRecovery s
  | .portDisableWaitExpiry port => Sys2Proof.Machine.execPortDisableWaitExpiry port s

end Sys2Proof.Machine
end

