-- ==== Sys2Proof/Machine/Timers.lean ====
section
/-!
DEFINITION. Machine/Timers.lean: what the passing of time does: the clock advances, and what is paused starts that much later (R48, R60,
R346, R357, R359).
-/
namespace Sys2Proof.Machine

/-- A group off its cores: its watchdog, and what it counts pauses from, move on with the clock (R359). -/
def Group.later (g : Group) : Group :=
  { g with wdog := g.wdog + 1, waitAt := g.waitAt + 1, halt := { g.halt with since := g.halt.since + 1 } }
/-- The groups of an image that is not the one its core runs. -/
def State.laterImage (s : State) (e : Nat × Image) : Nat × Image :=
  if s.liveCtx (e.1 % 1024) = some (e.1 / 1024) then e else (e.1, { e.2 with groups := e.2.groups.map (fun g => (g.1, g.2.later)) })
/-- A launch whose deadline is paused: its context is off its cores, or all its groups are halted (R60, R359). -/
def State.laterLaunch (s : State) (l : Launch) : Launch :=
  if s.onCores l.ctx && !(s.allHalted l) then l else { l with begun := l.begun.map (· + 1) }
/-- A command whose timeout is paused (R357, R359). -/
def State.laterCmd (s : State) (ctx : Nat) (c : Cmd) : Cmd := if s.stalled ctx c then { c with prog := c.prog + 1 } else c

/-- One nanosecond passes. -/
def State.tick (s : State) : State :=
  { s with
    now := s.now + 1
    images := s.images.map s.laterImage
    launches := s.launches.map s.laterLaunch
    rings := s.rings.map (fun e => (e.1, { e.2 with sq := e.2.sq.map (fun r => (r.1, { r.2 with cur := r.2.cur.map (s.laterCmd e.1) })) })) }

end Sys2Proof.Machine
end

