-- ==== Sys2Proof/Safety.lean ====
section
/-!
DEFINITION. Safety.lean: the terms the statements use: the canonical form of memory, which group can issue, what an instruction that
retires or faults leaves, which ring holds which command.
-/
namespace Sys2Proof.Machine

/-- The canonical form of memory: addresses strictly rising, no entry that equals what an unlisted byte reads as (log 5). -/
def Memory.wf (m : List Host.Cell) : Bool := mapWf (0 : Byte) m

/-! Instructions of a group. -/

/-- The group at a place and its running path, when nothing keeps it from issuing the instruction at the path's address: it is live, has a
path, waits for nothing, is not halted or stepped, meets no breakpoint (R22, R59), and the address is aligned and fetchable (R35, R191). -/
def State.issuer (s : State) (g : GRef) : Option (Here × Path) :=
  if !s.running then none
  else match s.groupAt g.core.val g.slot.val with
  | none => none
  | some h => match h.grp.run with
    | none => none
    | some p =>
      if h.grp.ready && !h.grp.halt.step && !(s.ibreak h.ctx g.core.val g.slot.val p.pc && !h.grp.halt.skip) && decide (p.pc % 16 = 0) &&
          decide ((s.xlate h.ctx p.pc .fetch).1 = 0) then some (h, p) else none

/-- A path of the group may run on at an address: the address is not the reconvergence point of the path's divergence (R24). -/
def Group.clearAt (g : Group) (p : Path) (pc : Nat) : Bool :=
  match g.frame? p.fid with
  | some f => f.rpc != pc
  | none => true

/-- Address of the next instruction (R35). -/
def Path.next (p : Path) : Nat := (p.pc + 16) % 2 ^ 64
/-- The lanes an instruction acts on: those of the path whose guard is true (R36). -/
def Here.active (h : Here) (p : Path) (w : IWord) : Lanes := p.mask &&& guardMask h.grp w

/-- The group can issue the instruction at its running path's address. -/
abbrev State.Issues (s : State) (g : GRef) (h : Here) (p : Path) : Prop := s.issuer g = some (h, p)

/-- The state as the instruction sees it: its core's last issuing slot is the group's (R22). -/
def State.issued (s : State) (g : GRef) (h : Here) : State := s.updImg h.ctx g.core.val (fun i => { i with last := g.slot.val })
/-- The group as the instruction sees it: a breakpoint it has passed is spent (R59). -/
def Here.seen (h : Here) : Group := { h.grp with halt := { h.grp.halt with skip := false } }

/-- All the instruction sees. -/
def State.sees (s : State) (g : GRef) (h : Here) (p : Path) (w : IWord) : Iss :=
  { s := s.issued g h, ctx := h.ctx, core := g.core.val, slot := g.slot.val, img := h.img, grp := h.seen, path := p,
    act := h.active p w }

/-- The state after an instruction that changes its group alone: the group as given, its path at the next instruction, from where it
runs on or merges at a reconvergence point (R24). -/
def State.retired (s : State) (g : GRef) (h : Here) (p : Path) (grp : Group) : State :=
  (s.issued g h).putGroup h.ctx g.core.val g.slot.val { grp with run := some { p with pc := p.next, retry := false } }
/-- The state after an instruction with the group as given. -/
def State.left (s : State) (g : GRef) (h : Here) (grp : Group) : State := (s.issued g h).putGroup h.ctx g.core.val g.slot.val grp
/-- The state after an instruction that faults its group (R49, R440). -/
def State.faulted (s : State) (g : GRef) (h : Here) (p : Path) (code : Status) (addr : Nat := 0) : State :=
  (s.issued g h).groupFault h.ctx g.core.val g.slot.val h.seen code p.pc addr
/-- The group with a register written in each active lane. -/
def Here.lanes (h : Here) (p : Path) (w : IWord) (f : Nat → Word) : Group := h.seen.setLanes w.rd.toNat (h.active p w) f

/-- Requests of one instruction, made one after the other: the state with them, and their numbers. -/
def Iss.asks (i : Iss) (s : State) (l : List (MemOp × Dest × Nat)) (plain thread alloc held : Bool) : State × List Nat :=
  l.foldl (fun (a : State × List Nat) e =>
    let (t, id) := i.newReq a.1 e.1 e.2.1 e.2.2 plain thread alloc held
    (t, a.2 ++ [id])) (s, [])
/-- The group waits until its requests hold slots, or for the results of its atomics; they get slots and enter queues as far as there is
room. -/
def Iss.issues (i : Iss) (s : State) (g : Group) (ids : List Nat) (p : Pend) : State :=
  (s.setGroup i.ctx i.core i.slot { g with wait := .access ids p }).pump i.ctx i.core
/-- The group waits for responses, its watchdog paused (R48). -/
def Iss.waits (i : Iss) (s : State) (g : Group) (ids : List Nat) (p : Pend) : State :=
  (s.setGroup i.ctx i.core i.slot (g.waitFor s.now ids p)).pump i.ctx i.core
/-- The active lanes with an address each. -/
def Here.addrs (h : Here) (p : Path) (w : IWord) (addr : Nat → Nat) : List (Nat × Nat) := (lanesOf (h.active p w)).map (fun l => (l, addr l))

/-! Queues of memory. -/

/-- A queue has served an entry: the entry has left it, its source is the one served last (R199). -/
def State.serves (s : State) (key : Nat) (e : QEnt) (r : Req) : State :=
  let b := s.bank key
  { s with banks := mapSet {} s.banks key { b with
      q := ((s.entries key).map Prod.fst).filter (fun x => x != e), lastSrv := s.srcAt key r.src, served := b.served + 1 } }

/-! Commands of a ring. -/

/-- A ring of the context holds a command with an opcode that has not begun, and the device runs. -/
def State.offers (s : State) (ctx ring opc : Nat) (c : Cmd) : Prop :=
  s.running = true ∧ (s.ring ctx ring).cur = some c ∧ cOpc c.img = opc ∧ c.stage = 0 ∧ c.tearing = false

/-- A command has ended: its ring is free, has completed one more, and knows whether that one failed; what its doorbells named stays
(R334, R343). -/
structure State.Freed (s t : State) (ctx ring : Nat) (failed : Bool) : Prop where
  cur : (t.ring ctx ring).cur = none
  fin : (t.ring ctx ring).fin = (s.ring ctx ring).fin + 1
  failed : (t.ring ctx ring).failed = failed
  head : (t.ring ctx ring).head = (s.ring ctx ring).head
  tail : (t.ring ctx ring).tail = (s.ring ctx ring).tail
/-- The bytes of a range of virtual space of a context lie, in order, in a core's local window from an offset on. -/
def State.windowed (s : State) (ctx va n : Nat) (need : Need) (core off : Nat) : Prop :=
  off + n ≤ (s.img ctx core).lsBytes ∧ ∀ k, k < n → s.xlate ctx (va + k) need = (0, .win core (off + k))

/-! Dictionary requests. -/

/-- A dictionary request is handled as it arrives: the device runs, no write waits for the journal, none waits before it, and no I/O-die
rail is at warning level (R396, Table 16.5). -/
abbrev State.Serves (s : State) : Prop :=
  s.running = true ∧ s.mgmt.hand = none ∧ s.mgmt.queue = [] ∧ s.ioWarned = false ∧ s.fencedFlash = false
/-- The state with the status of a row's write given back. -/
def State.answered (s : State) (st : Status) : State := s.emit (.value "status" st.toNat)
/-- The state with a persistent value handed to the journal (R401). -/
def State.journals (s : State) (c : Cls) (key : Nat) (v : List Byte) (tok : Option Token := none) : State :=
  s.updMgmt (fun m => { m with hand := some { key := key, val := cleaned key (leNat v), old := s.dv key, began := s.now
                                              req := some { cls := c, key := key, val := some v, tok := tok }
                                              eff := if atReset.contains key then 3 else 0 } })

/-- A signed token holds for an operation (R379): its version, operation, target and binding are as they must be, its signature verifies
under the key of the operation over the token and the device's identity, and its challenge is the one outstanding, read at most 300 s
ago. -/
structure State.Signed (s : State) (t : Token) (op : Nat) (target sub : Option Nat) (bound : Option (List Byte)) : Prop where
  version : (tokFields t).ver = 1
  oper : (tokFields t).op = op
  onTarget : ∀ x, target = some x → (tokFields t).target = x
  onSub : ∀ x, sub = some x → (tokFields t).sub = x
  onBound : (tokFields t).binding = bindingOf bound
  hasKey : op ≤ 5 → s.dv (dkey 0x6001 0x01) ≠ 0
  verifies : Config.ecdsaVerify (if 6 ≤ op ∧ op ≤ 7 then Config.romKey else BitVec.ofNat 776 (s.dv (dkey 0x6001 0x01)))
            (Config.sha384 (leBytes 32 (t.toNat % 2 ^ 256) ++ leBytes 48 s.idKeyHash.toNat)) (tokFields t).sig = true
  recent : ∃ at', s.mgmt.challenge = some ((tokFields t).challenge, at') ∧ s.opTime ≤ at' + 300
/-- The state with the outstanding challenge used up (R379). -/
def State.spent (s : State) : State := s.updMgmt (fun m => { m with challenge := none })

end Sys2Proof.Machine
end

