-- ==== Sys2Proof/Certificates/Slice0/Obligations.lean ====
section
/-!
DEFINITION. Certificates/Slice0/Obligations.lean: the statements for the provers. A statement about an instruction takes a group that
can issue (State.Issues) and gives the whole next state as an update of the state before, so that what is not named is unchanged.
-/
open Sys2Proof Sys2Proof.Machine

/-! The block as a whole. -/

/-- O1. For every command c and state s, a step with c at the front of the queue is exec of c with the queue's rest (log 1). With nothing
waiting, 1 ns passes: the clock advances, and what is paused starts that much later; nothing else changes: the model's own choice (log 2).
-/
def Obligations.StepRunsFront : Prop :=
  (∀ (c : Instr) (r : List Instr) (s : State), step { s with pending := c :: r } = exec c { s with pending := r }) ∧
  (∀ s : State, s.pending = [] → step s = .next s.tick) ∧
  ∀ s : State, s.tick.now = s.now + 1 ∧ s.tick.mem = s.mem ∧ s.tick.reqs = s.reqs ∧ s.tick.dict = s.dict ∧ s.tick.ctxs = s.ctxs ∧
    s.tick.out = s.out ∧ s.tick.pending = s.pending ∧
    (s.images = [] → s.launches = [] → s.rings = [] → s.tick = { s with now := s.now + 1 })

/-- O2. What reset leaves: PERST# asserted, every dictionary entry at its default, every context but the administrative one free and that
one active, every ring disabled, every link and session down, nothing under way. Bytes of memory read 0: the model's own choice (log 5).
-/
def Obligations.ResetState : Prop :=
  let s := State.reset
  s.dev.phase = .held ∧ s.running = false ∧ s.pending = [] ∧ (∀ k, s.dv k = dictDefault k) ∧
  (∀ c, c < 4096 → (s.ctx c).st = 0 ∧ (s.ctx c).leaves = []) ∧ (s.ctx 4096).st = 1 ∧ (s.ctx 4096).groves = 0 ∧
  (∀ c r, (s.ring c r).ctrl = 0 ∧ (s.ring c r).cur = none ∧ (s.ringsOf c).cq.ctrl = 0) ∧
  (∀ p, (s.port p).active = false ∧ (s.port p).txKeys = []) ∧ s.mgmt.sess = [] ∧ s.launches = [] ∧ s.reqs = [] ∧ s.images = [] ∧
  s.rep.queue = [] ∧ s.rep.staging = [] ∧ s.pwr.rails = [] ∧ Memory.wf s.mem = true ∧ ∀ a, mapGet (0 : Byte) s.mem a = 0

/-- O3. Every command answers a next state, in every state: the DT9 reports each failure in its own state (R344), so no meaning stops. -/
def Obligations.AlwaysAnswers : Prop :=
  ∀ (c : Instr) (s : State), ∃ t : State, exec c s = .next t

/-- O4. The device's memory keeps its canonical form over every step, so equal memories are equal data (log 5). -/
def Obligations.MemoryStaysCanonical : Prop :=
  ∀ s t : State, Memory.wf s.mem = true → step s = .next t → Memory.wf t.mem = true

/-- O5. R35, R37, Table 02.3, Table 02.5: the word of a group instruction decodes to that instruction with every field it was given, a
word that decodes holds the fields it decodes to, and a word with an opcode that is not assigned decodes to nothing. -/
def Obligations.DecodeInverts : Prop :=
  (∀ (i : Instr) (d : GInstr), i.group = some d → ∃ f : GRef → Instr, decodeWord (encodeWord d.opc d.w) = some f ∧
    (f d.g).withEcc d.ecc = i) ∧
  (∀ (v : BitVec 128) (f : GRef → Instr) (g : GRef), decodeWord v = some f →
    (f g).group = some { opc := v.extractLsb' 0 8, g := g, w := wordFields v }) ∧
  (∀ (opc : BitVec 8) (w : IWord), wordFields (encodeWord opc w) = w) ∧
  (∀ v : BitVec 128, (∀ (i : Instr) (d : GInstr), i.group = some d → d.opc ≠ v.extractLsb' 0 8) → decodeWord v = none)

/-- O6. Table 02.3, Table 02.5: words written out from the encoding. IADD R3, R1, R2; BRA to 16 past, on not P1; LD; a word with opcode
0xFF. -/
def Obligations.DecodeWords : Prop :=
  ∀ g : GRef,
    (decodeWord 0x00000000000000000000000201030010).map (fun f => f g) =
      some (.iadd g { imm := 0, defer := false, gneg := false, pg := 0, pd := 0, rc := 0, rb := 2, ra := 1, rd := 3, md := 0 }) ∧
    (decodeWord 0x00000020000000100090000000000001).map (fun f => f g) =
      some (.bra g { imm := 0x0000002000000010, defer := false, gneg := true, pg := 1, pd := 0, rc := 0, rb := 0, ra := 0, rd := 0, md := 0 }) ∧
    (decodeWord 0x00000000000000400002000004080240).map (fun f => f g) =
      some (.ld g { imm := 0x40, defer := false, gneg := false, pg := 0, pd := 2, rc := 0, rb := 0, ra := 4, rd := 8, md := 2 } {}) ∧
    (decodeWord 0x000000000000000000000000000000FF).isNone = true

/-! Cores. -/

/-- O7. R36, R37, R489: the integer arithmetic instructions write RD in each active lane, modulo 2^32, and change nothing else. -/
def Obligations.IntegerArithmetic : Prop :=
  ∀ (s : State) (g : GRef) (h : Here) (p : Path) (w : IWord), s.Issues g h p →
    regsOk ((w.rd.toNat, 1) :: raUse1 w :: rbUse w) h.grp = true →
    (modNat w < 2 →
      exec (.iadd g w) s = .next (s.retired g h p (h.lanes p w (fun l => opA w h.grp l + opB w h.grp l))) ∧
      exec (.isub g w) s = .next (s.retired g h p (h.lanes p w (fun l => opA w h.grp l - opB w h.grp l))) ∧
      exec (.imul g w) s = .next (s.retired g h p (h.lanes p w (fun l => opA w h.grp l * opB w h.grp l))) ∧
      (runOk h.grp.nregs w.rc.toNat 1 = true →
        exec (.imla g w) s = .next (s.retired g h p (h.lanes p w (fun l =>
          BitVec.ofNat 32 ((opA w h.grp l).toNat * (opB w h.grp l).toNat + (opC w h.grp l).toNat)))))) ∧
    (modNat w < 2 →
      exec (.imin g w) s = .next (s.retired g h p (h.lanes p w (fun l =>
        BitVec.ofInt 32 (min (opA w h.grp l).toInt (opB w h.grp l).toInt)))) ∧
      exec (.imax g w) s = .next (s.retired g h p (h.lanes p w (fun l =>
        BitVec.ofInt 32 (max (opA w h.grp l).toInt (opB w h.grp l).toInt))))) ∧
    (modNat w = 2 ∨ modNat w = 3 →
      exec (.imin g w) s = .next (s.retired g h p (h.lanes p w (fun l =>
        BitVec.ofNat 32 (min (opA w h.grp l).toNat (opB w h.grp l).toNat)))) ∧
      exec (.imax g w) s = .next (s.retired g h p (h.lanes p w (fun l =>
        BitVec.ofNat 32 (max (opA w h.grp l).toNat (opB w h.grp l).toNat)))))

/-- O8. R37: the logic and shift instructions. A count of 32 or more gives 0 from SHL and SHR and 32 copies of bit 31 from SAR. R37: BCNT
writes the number of one bits, LZC the number of zero bits above the highest one bit, 32 for zero. -/
def Obligations.LogicAndBits : Prop :=
  (∀ (s : State) (g : GRef) (h : Here) (p : Path) (w : IWord), s.Issues g h p → modNat w < 2 →
    regsOk ((w.rd.toNat, 1) :: raUse1 w :: rbUse w) h.grp = true →
    exec (.and g w) s = .next (s.retired g h p (h.lanes p w (fun l => opA w h.grp l &&& opB w h.grp l))) ∧
    exec (.or g w) s = .next (s.retired g h p (h.lanes p w (fun l => opA w h.grp l ||| opB w h.grp l))) ∧
    exec (.xor g w) s = .next (s.retired g h p (h.lanes p w (fun l => opA w h.grp l ^^^ opB w h.grp l))) ∧
    exec (.shl g w) s = .next (s.retired g h p (h.lanes p w (fun l =>
      BitVec.ofNat 32 ((opA w h.grp l).toNat * 2 ^ (opB w h.grp l).toNat)))) ∧
    exec (.shr g w) s = .next (s.retired g h p (h.lanes p w (fun l =>
      BitVec.ofNat 32 ((opA w h.grp l).toNat / 2 ^ (opB w h.grp l).toNat)))) ∧
    exec (.sar g w) s = .next (s.retired g h p (h.lanes p w (fun l =>
      BitVec.ofInt 32 ((opA w h.grp l).toInt / 2 ^ (opB w h.grp l).toNat))))) ∧
  (∀ (s : State) (g : GRef) (h : Here) (p : Path) (w : IWord), s.Issues g h p → modNat w = 0 →
    regsOk [(w.rd.toNat, 1), raUse1 w] h.grp = true →
    exec (.bcnt g w) s = .next (s.retired g h p (h.lanes p w (fun l =>
      BitVec.ofNat 32 ((List.range 32).countP (fun k => (opA w h.grp l).getLsbD k))))) ∧
    ∃ f : Nat → Word, exec (.lzc g w) s = .next (s.retired g h p (h.lanes p w f)) ∧
      ∀ l, (opA w h.grp l = 0 → f l = 32) ∧
        (opA w h.grp l ≠ 0 → (f l).toNat < 32 ∧ (opA w h.grp l).getLsbD (31 - (f l).toNat) = true ∧
          ∀ k, 31 - (f l).toNat < k → (opA w h.grp l).getLsbD k = false))

/-- O9. R23, R37: ICMP writes to PD, in the active lanes, the comparison that IMM[35:32] selects, of signed or unsigned numbers. R36, R37:
CSEL, BSEL, LXCH and LVOTE. A source lane of LXCH outside 0 to 31 or inactive supplies the lane's own RA; LVOTE reduces its guard over all
lanes of the path. -/
def Obligations.CompareAndSelect : Prop :=
  (∀ (s : State) (g : GRef) (h : Here) (p : Path) (w : IWord), s.Issues g h p →
    regsOk (raUse1 w :: rbUse w) h.grp = true → modNat w < 4 → immBits w 32 4 ≤ 5 →
    ∃ v : Lanes, exec (.icmp g w) s = .next (s.retired g h p (h.seen.setPred w.pd.toNat (h.active p w) v)) ∧
      ∀ l < 32,
        let num := fun x : Word => if modNat w < 2 then x.toInt else (x.toNat : Int)
        let a := num (opA w h.grp l)
        let b := num (opB w h.grp l)
        let on := (h.active p w).getLsbD l
        (immBits w 32 4 = 0 → v.getLsbD l = (on && decide (a = b))) ∧ (immBits w 32 4 = 1 → v.getLsbD l = (on && decide (a ≠ b))) ∧
        (immBits w 32 4 = 2 → v.getLsbD l = (on && decide (a < b))) ∧ (immBits w 32 4 = 3 → v.getLsbD l = (on && decide (a ≤ b))) ∧
        (immBits w 32 4 = 4 → v.getLsbD l = (on && decide (a > b))) ∧ (immBits w 32 4 = 5 → v.getLsbD l = (on && decide (a ≥ b)))) ∧
  (∀ (s : State) (g : GRef) (h : Here) (p : Path) (w : IWord), s.Issues g h p →
    (modNat w < 2 → regsOk ((w.rd.toNat, 1) :: raUse1 w :: rbUse w) h.grp = true →
      exec (.csel g w) s = .next (s.retired g h p (h.lanes p w (fun l =>
        if (h.grp.pred (immBits w 32 3)).getLsbD l then opA w h.grp l else opB w h.grp l)))) ∧
    (modNat w < 2 → regsOk ((w.rd.toNat, 1) :: raUse1 w :: rcUse w :: rbUse w) h.grp = true →
      ∃ f : Nat → Word, exec (.bsel g w) s = .next (s.retired g h p (h.lanes p w f)) ∧
        ∀ l, ∀ k < 4, bits (f l).toNat (8 * k) 8 =
          (let n := bits (opC w h.grp l).toNat (4 * k) 4
           if n < 4 then bits (opA w h.grp l).toNat (8 * n) 8
           else if n < 8 then bits (opB w h.grp l).toNat (8 * (n - 4)) 8 else 0)) ∧
    (modNat w < 8 → regsOk ((w.rd.toNat, 1) :: raUse1 w :: rbUse w) h.grp = true →
      exec (.lxch g w) s = .next (s.retired g h p (h.lanes p w (fun l =>
        let v := (opB w h.grp l).toNat
        let m := modNat w / 2
        let j : Int := if m = 0 then v else if m = 1 then l - v else if m = 2 then l + v else (l ^^^ v : Nat)
        if 0 ≤ j ∧ j < 32 ∧ (h.active p w).getLsbD j.toNat = true then opA w h.grp j.toNat else opA w h.grp l)))) ∧
    (modNat w ∈ [0, 2, 4] →
      let on := p.mask &&& guardMask h.grp w
      let all := decide (on = p.mask)
      let any := decide (on ≠ 0)
      let v := if modNat w = 0 then all else if modNat w = 2 then any else all || !any
      exec (.lvote g w) s = .next (s.retired g h p (h.seen.setPred w.pd.toNat p.mask (if v then p.mask else 0)))) ∧
    (modNat w = 6 → regsOk [(w.rd.toNat, 1)] h.grp = true →
      exec (.lvote g w) s = .next (s.retired g h p
        (h.seen.setLanes w.rd.toNat p.mask (fun _ => p.mask &&& guardMask h.grp w)))))

/-- O10. R109, R110, Table 04.3: the FP32 instructions write RD in the active lanes with the once-rounded word of an exact value: the sum,
product and fused product-sum with their special values, the lesser and greater operand with -0 below +0, FCMP's comparisons to PD, the
reciprocal and the reciprocal root of a value within 2^-70, and EXP2 and LOG2 at their special values and exact powers. -/
def Obligations.FloatingPoint : Prop :=
  ∀ (s : State) (g : GRef) (h : Here) (p : Path) (w : IWord), s.Issues g h p →
    let a := fun l => fval (opA w h.grp l)
    let b := fun l => fval (opB w h.grp l)
    let c := fun l => fval (opC w h.grp l)
    let num := fun (n : Bool) (m : Nat) (e : Int) => (if n then -1 else 1 : ℚ) * m * (2 : ℚ) ^ e
    let isSum := fun (x y z : Ex) =>
      (x = .nan ∨ y = .nan → z = .nan) ∧ (∀ n, x = .inf n → y = .inf (!n) → z = .nan) ∧
      (∀ n, (x = .inf n ∧ (y = .inf n ∨ ∃ n' m e, y = .fin n' m e)) ∨ (y = .inf n ∧ ∃ n' m e, x = .fin n' m e) → z = .inf n) ∧
      (∀ nx mx ex ny my ey, x = .fin nx mx ex → y = .fin ny my ey → ∃ n m e, z = .fin n m e ∧
        num n m e = num nx mx ex + num ny my ey ∧ (m = 0 → n = (nx && ny)))
    let isProd := fun (x y z : Ex) =>
      (x = .nan ∨ y = .nan → z = .nan) ∧
      (∀ n n' e, (x = .inf n ∧ y = .fin n' 0 e) ∨ (x = .fin n' 0 e ∧ y = .inf n) → z = .nan) ∧
      (∀ n n', x = .inf n → (y = .inf n' ∨ ∃ m e, m ≠ 0 ∧ y = .fin n' m e) → z = .inf (n ^^ n')) ∧
      (∀ n n' m e, m ≠ 0 → x = .fin n m e → y = .inf n' → z = .inf (n ^^ n')) ∧
      (∀ nx mx ex ny my ey, x = .fin nx mx ex → y = .fin ny my ey → ∃ m e, z = .fin (nx ^^ ny) m e ∧
        num (nx ^^ ny) m e = num nx mx ex * num ny my ey)
    let nan := fun (x : Word) => decide (0x7F800000 < x.toNat % 2 ^ 31)
    let val := fun (x : Word) => if x.getLsbD 31 then -((x.toNat % 2 ^ 31 : Nat) : Int) else ((x.toNat % 2 ^ 31 : Nat) : Int)
    (modNat w < 2 → regsOk ((w.rd.toNat, 1) :: raUse1 w :: rbUse w) h.grp = true →
      ∃ fa fm fn fx : Nat → Word, exec (.fadd g w) s = .next (s.retired g h p (h.lanes p w fa)) ∧
        exec (.fmul g w) s = .next (s.retired g h p (h.lanes p w fm)) ∧
        exec (.fmin g w) s = .next (s.retired g h p (h.lanes p w fn)) ∧
        exec (.fmax g w) s = .next (s.retired g h p (h.lanes p w fx)) ∧
        ∀ l, (∃ z, isSum (a l) (b l) z ∧ fa l = fword z) ∧ (∃ z, isProd (a l) (b l) z ∧ fm l = fword z) ∧
          (nan (opA w h.grp l) || nan (opB w h.grp l) → fn l = 0x7FC00000 ∧ fx l = 0x7FC00000) ∧
          (nan (opA w h.grp l) = false → nan (opB w h.grp l) = false →
            let x := val (opA w h.grp l)
            let y := val (opB w h.grp l)
            let neg := (opA w h.grp l).getLsbD 31
            fn l = (if x < y ∨ (x = y ∧ neg = true) then opA w h.grp l else opB w h.grp l) ∧
            fx l = (if y < x ∨ (x = y ∧ neg = false) then opA w h.grp l else opB w h.grp l))) ∧
    (modNat w < 2 → regsOk ((w.rd.toNat, 1) :: raUse1 w :: rcUse w :: rbUse w) h.grp = true →
      (∃ f : Nat → Word, exec (.fma g w) s = .next (s.retired g h p (h.lanes p w f)) ∧
        ∀ l, ∃ y z, isProd (a l) (b l) y ∧ isSum y (c l) z ∧ f l = fword z) ∧
      exec (.pfmaH g w) s = .next (s.retired g h p (h.lanes p w (fun l =>
        packedFma fp16 (opA w h.grp l) (opB w h.grp l) (opC w h.grp l)))) ∧
      exec (.pfmaB g w) s = .next (s.retired g h p (h.lanes p w (fun l =>
        packedFma bf16 (opA w h.grp l) (opB w h.grp l) (opC w h.grp l))))) ∧
    (modNat w < 2 → immBits w 32 4 ≤ 7 → regsOk (raUse1 w :: rbUse w) h.grp = true →
      ∃ v : Lanes, exec (.fcmp g w) s = .next (s.retired g h p (h.seen.setPred w.pd.toNat (h.active p w) v)) ∧
        ∀ l < 32,
          let x := val (opA w h.grp l)
          let y := val (opB w h.grp l)
          let on := (h.active p w).getLsbD l
          let ord := !(nan (opA w h.grp l)) && !(nan (opB w h.grp l))
          v.getLsbD l = (on && [ord && decide (x = y), !ord || decide (x ≠ y), ord && decide (x < y), ord && decide (x ≤ y),
            ord && decide (x > y), ord && decide (x ≥ y), ord, !ord].getD (immBits w 32 4) false)) ∧
    (modNat w = 0 → regsOk [(w.rd.toNat, 1), raUse1 w] h.grp = true →
      ∃ fr fq fe fl : Nat → Word, exec (.rcp g w) s = .next (s.retired g h p (h.lanes p w fr)) ∧
        exec (.rsqrt g w) s = .next (s.retired g h p (h.lanes p w fq)) ∧
        exec (.exp2 g w) s = .next (s.retired g h p (h.lanes p w fe)) ∧
        exec (.log2 g w) s = .next (s.retired g h p (h.lanes p w fl)) ∧
        ∀ l, (a l = .nan → fr l = 0x7FC00000 ∧ fq l = 0x7FC00000 ∧ fe l = 0x7FC00000 ∧ fl l = 0x7FC00000) ∧
          (a l = .inf false → fr l = 0 ∧ fq l = 0 ∧ fe l = 0x7F800000 ∧ fl l = 0x7F800000) ∧
          (a l = .inf true → fr l = 0x80000000 ∧ fq l = 0x7FC00000 ∧ fe l = 0 ∧ fl l = 0x7FC00000) ∧
          (∀ n e, a l = .fin n 0 e → fr l = (if n then 0xFF800000 else 0x7F800000) ∧ fq l = (if n then 0xFF800000 else 0x7F800000) ∧
            fe l = 0x3F800000 ∧ fl l = 0xFF800000) ∧
          (∀ n m e, m ≠ 0 → a l = .fin n m e →
            (∃ m' e', fr l = fword (.fin n m' e') ∧ |num n m' e' * num n m e - 1| ≤ 1 / 2 ^ 70 ∧
              (∀ k : Nat, m = 2 ^ k → num n m' e' * num n m e = 1)) ∧
            (n = true → fq l = 0x7FC00000 ∧ fl l = 0x7FC00000) ∧
            (n = false → (∃ m' e', fq l = fword (.fin false m' e') ∧ |num false m' e' ^ 2 * num false m e - 1| ≤ 1 / 2 ^ 70) ∧
              ∀ k : Nat, m = 2 ^ k → fl l = fword (Ex.ofInt (k + e))) ∧
            (∀ k : Int, num n m e = k → -1024 < k → k < 1024 → fe l = fword (.fin false 1 k)) ∧
            (num n m e ≥ 1024 → fe l = 0x7F800000) ∧ (num n m e ≤ -1024 → fe l = 0)))

/-- O11. R111: PFMA.H and PFMA.B take each register as two packed elements, element 0 in bits [15:0], and for each compute RA × RB + RC
exactly and round it once in their format. A NaN, 0 × ∞ and ∞ − ∞ give the default NaN; an exact zero sum of opposite signs is +0. -/
def Obligations.PackedMultiplyAdd : Prop :=
  ∀ (s : State) (g : GRef) (h : Here) (p : Path) (w : IWord), s.Issues g h p → modNat w < 2 →
    regsOk ((w.rd.toNat, 1) :: raUse1 w :: rcUse w :: rbUse w) h.grp = true →
    let num := fun (n : Bool) (m : Nat) (e : Int) => (if n then -1 else 1 : ℚ) * m * (2 : ℚ) ^ e
    ∀ e ∈ [(fp16, Instr.pfmaH g w), (bf16, Instr.pfmaB g w)], ∃ f : Nat → Word,
      exec e.2 s = .next (s.retired g h p (h.lanes p w f)) ∧
      ∀ l, ∀ k < 2,
        let elem := fun x : Word => decodeFp e.1 (bits x.toNat (16 * k) 16)
        let a := elem (opA w h.grp l)
        let b := elem (opB w h.grp l)
        let c := elem (opC w h.grp l)
        ∃ y : Ex, bits (f l).toNat (16 * k) 16 = encodeFp e.1 (roundTo e.1 y) ∧
          (a = .nan ∨ b = .nan ∨ c = .nan → y = .nan) ∧
          (∀ n n' x, (a = .fin n 0 x ∧ b = .inf n') ∨ (a = .inf n' ∧ b = .fin n 0 x) → y = .nan) ∧
          (∀ na ma ea nb mb eb, a = .fin na ma ea → b = .fin nb mb eb →
            (∀ nc, c = .inf nc → y = .inf nc) ∧
            (∀ nc mc ec, c = .fin nc mc ec → ∃ n m x, y = .fin n m x ∧ num n m x = num na ma ea * num nb mb eb + num nc mc ec ∧
              (m = 0 → (na ^^ nb) ≠ nc → n = false))) ∧
          (∀ na nb, a = .inf na → (b = .inf nb ∨ ∃ m x, m ≠ 0 ∧ b = .fin nb m x) →
            (c = .inf (!(na ^^ nb)) → y = .nan) ∧ (c = .inf (na ^^ nb) ∨ (∃ n m x, c = .fin n m x) → y = .inf (na ^^ nb))) ∧
          (∀ na m x nb, m ≠ 0 → a = .fin na m x → b = .inf nb →
            (c = .inf (!(na ^^ nb)) → y = .nan) ∧ (c = .inf (na ^^ nb) ∨ (∃ n m x, c = .fin n m x) → y = .inf (na ^^ nb)))

/-- O12. R114, R118, R119: CVT converts an element of RA in each active lane, counts, and takes one draw a lane when it is stochastic. The
bits of RD outside the destination element come from RC; an integer destination takes the nearest integer, ties to even, or the one toward
zero, saturated, and 0 for a NaN; a floating destination the once-rounded value's code. -/
def Obligations.Convert : Prop :=
  ∀ (s : State) (g : GRef) (h : Here) (p : Path) (w : IWord), s.Issues g h p → cvtLegal w = true →
    let ctl := immHi w
    let src := bits ctl 28 4
    let dst := bits ctl 24 4
    let rmode := bits ctl 18 2
    let size := fun k => if k = 1 ∨ k = 2 then 16 else if k = 3 ∨ k = 4 ∨ k = 5 then 8 else 32
    let at' := size dst * bits ctl 20 2
    regsOk ((w.rd.toNat, 1) :: raUse1 w :: (if size dst < 32 then [rcUse w] else [])) h.grp = true →
    let on := h.active p w
    let num := fun (n : Bool) (m : Nat) (e : Int) => (if n then -1 else 1 : ℚ) * m * (2 : ℚ) ^ e
    let fmt := fun k => if k = 1 then fp16 else if k = 2 then bf16 else if k = 3 then e5m2 else if k = 4 ∨ k = 5 then e4m3 else fp32
    ∃ (f : Nat → Word) (cnt : Nat → List Nat) (u : Nat → Nat),
      let sum := (lanesOf on).foldl (fun a l => addCounts a (cnt l)) [0, 0, 0, 0]
      (rmode ≠ 1 →
        exec (.cvt g w) s = .next (((s.issued g h).launchCounts h.grp.launch sum).putGroup h.ctx g.core.val g.slot.val
          { h.lanes p w f with run := some { p with pc := p.next, retry := false } })) ∧
      (rmode = 1 → ∀ la, s.launch? h.grp.launch = some la →
        (∀ l, u l = draw la.seed la.number h.grp.idx l (mapGet 0 h.grp.draws l)) ∧
        ∃ d : Map Nat, (∀ l, mapGet 0 d l = mapGet 0 h.grp.draws l + (if l < 32 ∧ on.getLsbD l = true then 1 else 0)) ∧
          exec (.cvt g w) s = .next ((((s.issued g h).launchCounts h.grp.launch sum).count (dkey 0x4040 0x06) (laneCount on)).putGroup
            h.ctx g.core.val g.slot.val
            { h.lanes p w f with run := some { p with pc := p.next, retry := false }, draws := d })) ∧
      ∀ l ∈ lanesOf on,
        let elem := bits (opA w h.grp l).toNat (size src * bits ctl 22 2) (size src)
        let code := bits (f l).toNat at' (size dst)
        (size dst < 32 → ∀ j < 32, j < at' ∨ at' + size dst ≤ j → (f l).getLsbD j = (opC w h.grp l).getLsbD j) ∧
        ∃ v : Ex,
          (src = 6 → v = Ex.ofInt (BitVec.ofNat 32 elem).toInt) ∧ (src = 7 → v = Ex.ofNat elem) ∧
          (src = 5 → v = (importOcp elem).v) ∧ (src < 5 → v = decodeFp (fmt src) elem) ∧
          (6 ≤ dst → cnt l = [0, 0, 0, 0] ∧
            let lo : Int := if dst = 6 then -2 ^ 31 else 0
            let hi : Int := if dst = 6 then 2 ^ 31 - 1 else 2 ^ 32 - 1
            (v = .nan → f l = 0) ∧ (∀ n, v = .inf n → f l = BitVec.ofInt 32 (if n then lo else hi)) ∧
            (∀ n m e, v = .fin n m e → ∃ r : Int, f l = BitVec.ofInt 32 (max lo (min hi r)) ∧
              (rmode = 2 → |(r : ℚ)| ≤ |num n m e| ∧ |num n m e - r| < 1 ∧ (r ≠ 0 → (r < 0 ↔ n = true))) ∧
              (rmode = 0 → |num n m e - r| ≤ 1 / 2 ∧ (|num n m e - r| = 1 / 2 → r % 2 = 0)))) ∧
          (dst < 6 → ∃ y : Ex, y = (if rmode = 1 then roundSr (fmt dst) v (u l) else roundTo (fmt dst) v) ∧
            (dst ≠ 5 → code = encodeFp (fmt dst) y) ∧
            (dst = 5 → code = (match y with | .nan => 0x7F | .inf n => if n then 0xFF else 0x7F | y => encodeFp e4m3 y)) ∧
            ∃ ov fl na sb : Nat, cnt l = [ov, fl, na, sb] ∧
              ((∃ n m e, v = .fin n m e ∧ m ≠ 0 ∧ ∃ n' e', y = .fin n' 0 e') → ov = 0 ∧ fl = 1 ∧ na = 0 ∧ sb = 0) ∧
              (v = .nan → ov = 0 ∧ fl = 0 ∧ na = 0 ∧ sb = 0) ∧
              (∀ n m e n', v = .fin n m e → y = .inf n' → ov = 1 ∧ fl = 0 ∧ sb = 0 ∧ (na = 1 ↔ dst = 5)) ∧
              (∀ n e, v = .fin n 0 e → ov = 0 ∧ fl = 0 ∧ na = 0 ∧ sb = 0))

/-- O13. R22, R35, R59, R191: what keeps a legal instruction of a ready group from having its effect: an instruction breakpoint halts the
group before it, a misaligned address and a failing fetch fault the group. R23, R37: a MOD value outside Table 02.4 or a register above n
faults the group before any lane takes effect. R49: a faulting group ends at once, every other group of its launch stops, and the launch
has the first fault's code, core, slot and instruction address. -/
def Obligations.GroupFaults : Prop :=
  (∀ (s : State) (g : GRef) (h : Here) (p : Path) (w : IWord), s.running = true →
    s.groupAt g.core.val g.slot.val = some h → h.grp.run = some p → h.grp.ready = true →
    let stop := s.ibreak h.ctx g.core.val g.slot.val p.pc && !h.grp.halt.skip
    (stop = true → exec (.nop g w) s = .next (s.haltNow h.ctx g.core.val g.slot.val h.grp 2)) ∧
    (stop = false → p.pc % 16 ≠ 0 → exec (.nop g w) s = .next (s.faulted g h p Code.misaligned p.pc)) ∧
    (stop = false → p.pc % 16 = 0 → (s.xlate h.ctx p.pc .fetch).1 ≠ 0 →
      exec (.nop g w) s = .next (s.faulted g h p (s.xlate h.ctx p.pc .fetch).1 p.pc))) ∧
  (∀ (s : State) (g : GRef) (h : Here) (p : Path) (w : IWord), s.Issues g h p →
    (modNat w ≠ 0 → ∀ i ∈ [Instr.nop g w, .bra g w, .bri g w, .call g w, .ret g w, .exit g w, .yield g w, .gsync g w, .bkpt g w,
        .srd g w, .bcnt g w, .lzc g w, .rcp g w, .rsqrt g w, .exp2 g w, .log2 g w, .cvt g w],
      exec i s = .next (s.faulted g h p Code.illegal)) ∧
    (2 ≤ modNat w → ∀ i ∈ [Instr.iadd g w, .isub g w, .imul g w, .imla g w, .and g w, .or g w, .xor g w, .shl g w, .shr g w,
        .sar g w, .csel g w, .bsel g w, .fadd g w, .fmul g w, .fma g w, .fmin g w, .fmax g w, .fcmp g w, .pfmaH g w, .pfmaB g w],
      exec i s = .next (s.faulted g h p Code.illegal)) ∧
    (4 ≤ modNat w → ∀ i ∈ [Instr.imin g w, .imax g w, .icmp g w], exec i s = .next (s.faulted g h p Code.illegal)) ∧
    (8 ≤ modNat w → ∀ i ∈ [Instr.lxch g w, .lvote g w], exec i s = .next (s.faulted g h p Code.illegal)) ∧
    (h.grp.nregs < w.rd.toNat → ∀ i ∈ [Instr.iadd g w, .imul g w, .imla g w, .csel g w, .lzc g w, .fadd g w, .rcp g w, .cvt g w,
        .lxch g w, .call g w, .srd g w], exec i s = .next (s.faulted g h p Code.illegal)) ∧
    (h.grp.nregs < w.ra.toNat + 1 → ∀ i ∈ [Instr.bri g w, .ret g w], exec i s = .next (s.faulted g h p Code.illegal))) ∧
  (∀ (s : State) (g : GRef) (h : Here) (p : Path) (code : Status) (l : Launch), s.launch? h.grp.launch = some l →
    ∃ l' : Launch, (s.faulted g h p code).launch? h.grp.launch = some l' ∧ l'.fallen = true ∧
      (l.fallen = false → l'.st = code ∧ l'.fcore = g.core.val ∧ l'.fslot = g.slot.val ∧ l'.fpc = p.pc - l.code) ∧
      (l.fallen = true → l' = l) ∧
      ∀ e ∈ (s.faulted g h p code).images, e.1 / 1024 = l.ctx → ∀ x ∈ e.2.groups, x.2.launch ≠ h.grp.launch)

/-- O14. R22, R24: an instruction that meets no reconvergence point leaves its group running at the next instruction. R24: a path that
reaches its reconvergence point stops; the next pending path of the same divergence runs, or, when none is left, the lanes that arrived
merge and go on under one mask. -/
def Obligations.PathsGoOn : Prop :=
  (∀ (s : State) (g : GRef) (h : Here) (p : Path) (gr : Group), s.Issues g h p → h.grp.clearAt p p.next = true →
    gr.frames = h.grp.frames → gr.halt = h.seen.halt →
    s.retired g h p gr = (s.issued g h).setGroup h.ctx g.core.val g.slot.val
      { gr with run := some { p with pc := p.next, retry := false } }) ∧
  (∀ (s : State) (g : GRef) (h : Here) (p : Path) (w : IWord) (fs : List Frame) (f : Frame), s.Issues g h p → modNat w = 0 →
    h.grp.frames = fs ++ [f] → f.fid = p.fid → f.rpc = p.next → h.grp.parked = [] →
    (∀ x ∈ fs, x.fid ≠ f.fid ∧ (∃ y ∈ fs ++ [f], y.parent = x.fid)) →
    (∀ q r, h.grp.stack = q :: r → q.fid = p.fid → q.pc ≠ f.rpc →
      exec (.nop g w) s = .next ((s.issued g h).setGroup h.ctx g.core.val g.slot.val
        { h.seen with run := some q, stack := r, frames := fs ++ [{ f with arrived := f.arrived ||| p.mask }],
                      wdog := if q.mask = p.mask then h.grp.wdog else s.now })) ∧
    ((∀ q ∈ h.grp.stack, q.fid ≠ p.fid) → (∀ y ∈ fs ++ [f], y.parent ≠ f.fid) → f.arrived ||| p.mask ≠ 0 →
      ({ h.grp with frames := fs } : Group).clearAt { p with fid := f.parent } f.rpc = true →
      exec (.nop g w) s = .next ((s.issued g h).setGroup h.ctx g.core.val g.slot.val
        { h.seen with run := some { pc := f.rpc, mask := f.arrived ||| p.mask, fid := f.parent }, frames := fs,
                      wdog := if f.arrived ||| p.mask = p.mask then h.grp.wdog else s.now })))

/-- O15. R37, R47, R35: NOP, YIELD, BKPT and SRD. -/
def Obligations.PlainControl : Prop :=
  ∀ (s : State) (g : GRef) (h : Here) (p : Path) (w : IWord), s.Issues g h p → modNat w = 0 →
    exec (.nop g w) s = .next (s.retired g h p h.seen) ∧
    (h.grp.stack = [] → exec (.yield g w) s = .next (s.retired g h p { h.seen with wdog := s.now })) ∧
    (h.active p w = 0 → exec (.yield g w) s = .next (s.retired g h p
      { h.seen with wdog := if h.grp.stack = [] then s.now else h.grp.wdog })) ∧
    (∀ q r, h.grp.stack = q :: r → h.active p w ≠ 0 →
      exec (.yield g w) s = .next (s.left g h
        { h.seen with run := some q, stack := { p with pc := p.next, retry := false } :: r, wdog := s.now })) ∧
    (s.debugged h.ctx = false ∨ h.active p w = 0 → exec (.bkpt g w) s = .next (s.retired g h p h.seen)) ∧
    (s.debugged h.ctx = true → h.active p w ≠ 0 →
      exec (.bkpt g w) s = .next ((s.retired g h p { h.seen with halt := { halted := true, cause := 4, since := s.now } }).freezeSync
        h.ctx g.core.val)) ∧
    (∀ v : Nat → Nat, immBits w 0 8 ≠ 7 → regsOk [(w.rd.toNat, 1)] h.grp = true →
      (∀ l, [l, g.slot.val, h.grp.idx, g.core.val, g.core.val / 8, h.ctx, s.width g.core.val, 0, s.dev.deviceId][immBits w 0 8]? =
        some (v l)) →
      exec (.srd g w) s = .next (s.retired g h p (h.lanes p w (fun l => BitVec.ofNat 32 (v l))))) ∧
    (immBits w 0 8 = 7 → regsOk [(w.rd.toNat, 2)] h.grp = true →
      exec (.srd g w) s = .next ((s.issued g h).drawn.putGroup h.ctx g.core.val g.slot.val
        { h.seen.setRuns w.rd.toNat 2 (h.active p w) (fun _ => s.freeVal (2 ^ 64)) with
            run := some { p with pc := p.next, retry := false } }))

/-- O16. R24, R25, R26, R489: BRA and CALL. Lanes whose guard is true go to the target, the others to the next instruction; the path with
the lowest lane runs first, the other is pushed; a 33rd entry faults the group. CALL also writes the return address. -/
def Obligations.DirectBranches : Prop :=
  ∀ (s : State) (g : GRef) (h : Here) (p : Path) (w : IWord), s.Issues g h p → modNat w = 0 →
    let on := h.active p w
    let off := p.mask &&& ~~~on
    let goal := branchTo p.pc (immLo w)
    let split := fun (gr : Group) (a b : Nat × Lanes) => ({ gr with
      nextFid := gr.nextFid + 1
      frames := gr.frames ++ [{ fid := gr.nextFid, rpc := branchTo p.pc (BitVec.ofNat 32 (immHi w)), parent := p.fid }]
      run := some { pc := a.1, mask := a.2, fid := gr.nextFid }
      stack := { pc := b.1, mask := b.2, fid := gr.nextFid } :: gr.stack
      wdog := s.now } : Group)
    ∀ i gr, (i = Instr.bra g w ∧ gr = h.seen) ∨
        (i = Instr.call g w ∧ regsOk [(w.rd.toNat, 2)] h.grp = true ∧ gr = h.seen.setRuns w.rd.toNat 2 on (fun _ => p.next)) →
      (on = 0 → exec i s = .next (s.retired g h p gr)) ∧
      (on ≠ 0 → off = 0 → exec i s = .next (s.left g h { gr with run := some { p with pc := goal, retry := false } })) ∧
      (on ≠ 0 → off ≠ 0 → h.grp.stack.length < 32 → lowestLane on < lowestLane off →
        exec i s = .next (s.left g h (split gr (goal, on) (p.next, off)))) ∧
      (on ≠ 0 → off ≠ 0 → h.grp.stack.length < 32 → lowestLane off < lowestLane on →
        exec i s = .next (s.left g h (split gr (p.next, off) (goal, on)))) ∧
      (on ≠ 0 → off ≠ 0 → 32 ≤ h.grp.stack.length → exec i s = .next (s.faulted g h p Code.divergence))

/-- O17. R26: lanes grouped by target form one path a distinct target, in ascending order of their lowest lane. R26, R188: BRI and RET
form one path a distinct target; a target with a bit of [63:48] set faults with PAGE_FAULT. -/
def Obligations.IndirectBranches : Prop :=
  (∀ (m : Lanes) (f : Nat → Nat),
    let ps := groupTargets ((lanesOf m).map (fun l => (l, f l)))
    (ps.map Prod.fst).Nodup ∧ ps.Pairwise (fun a b => lowestLane a.2 < lowestLane b.2) ∧
    ∀ e ∈ ps, e.2 ≠ 0 ∧ ∀ l < 32, e.2.getLsbD l = (m.getLsbD l && decide (f l = e.1))) ∧
  (∀ (s : State) (g : GRef) (h : Here) (p : Path) (w : IWord), s.Issues g h p → modNat w = 0 →
    regsOk [(w.ra.toNat, 2)] h.grp = true →
    let on := h.active p w
    let dest := fun l => if on.getLsbD l then h.grp.run64 w.ra.toNat 2 l else p.next
    let paths := groupTargets ((lanesOf p.mask).map (fun l => (l, dest l)))
    ∀ i ∈ [Instr.bri g w, .ret g w],
      ((∃ l ∈ lanesOf on, 2 ^ 48 ≤ h.grp.run64 w.ra.toNat 2 l) → exec i s = .next (s.faulted g h p Code.pageFault)) ∧
      ((∀ l ∈ lanesOf on, h.grp.run64 w.ra.toNat 2 l < 2 ^ 48) →
        (∀ q, p.mask ≠ 0 → (∀ l ∈ lanesOf p.mask, dest l = q) →
          exec i s = .next (s.left g h { h.seen with run := some { p with pc := q, retry := false } })) ∧
        (∀ q m r, paths = (q, m) :: r → r ≠ [] → h.grp.stack.length + r.length ≤ 32 →
          exec i s = .next (s.left g h { h.seen with
            nextFid := h.grp.nextFid + 1
            frames := h.grp.frames ++
              [{ fid := h.grp.nextFid, rpc := branchTo p.pc (BitVec.ofNat 32 (immHi w)), parent := p.fid }]
            run := some { pc := q, mask := m, fid := h.grp.nextFid }
            stack := r.map (fun e => { pc := e.1, mask := e.2, fid := h.grp.nextFid }) ++ h.grp.stack
            wdog := s.now })) ∧
        (∀ q m r, paths = (q, m) :: r → r ≠ [] → 32 < h.grp.stack.length + r.length →
          exec i s = .next (s.faulted g h p Code.divergence))))

/-- O18. R27, R37: EXIT removes its active lanes, and the last lane ends the group; GSYNC waits for the groups of the launch on its core.
-/
def Obligations.ExitAndGsync : Prop :=
  ∀ (s : State) (g : GRef) (h : Here) (p : Path) (w : IWord), s.Issues g h p → modNat w = 0 →
    let on := h.active p w
    let off := p.mask &&& ~~~on
    let id := immBits w 0 4
    let seen := mapGet (0 : Lanes) h.grp.gsyncs id
    (on = 0 → exec (.exit g w) s = .next (s.retired g h p h.seen) ∧ exec (.gsync g w) s = .next (s.retired g h p h.seen)) ∧
    (on ≠ 0 → off ≠ 0 →
      exec (.exit g w) s = .next ((s.left g h { ({ h.seen with alive := h.grp.alive &&& ~~~on, wdog := s.now } : Group).trimSyncs with
        run := some { p with pc := p.next, mask := off, retry := false } }).gsyncSweep h.ctx g.core.val)) ∧
    (on ≠ 0 → off = 0 → h.grp.stack = [] → h.grp.frames = [] → h.grp.parked = [] →
      exec (.exit g w) s = .next (((((s.issued g h).updImg h.ctx g.core.val (fun i =>
        { i with groups := mapErase i.groups g.slot.val })).updLaunch h.grp.launch (fun l =>
          { l with ended := l.ended + 1 })).freezeSync h.ctx g.core.val).gsyncSweep h.ctx g.core.val)) ∧
    (on ≠ 0 → seen = 0 ∨ seen &&& on ≠ 0 →
      exec (.gsync g w) s = .next (((s.issued g h).setGroup h.ctx g.core.val g.slot.val
        { ({ h.seen with gsyncs := mapSet 0 h.grp.gsyncs id on } : Group).trimSyncs with wait := .gsync id }).gsyncSweep
          h.ctx g.core.val)) ∧
    (on ≠ 0 → seen ≠ 0 → seen &&& on = 0 →
      exec (.gsync g w) s = .next (s.retired g h p
        ({ h.seen with gsyncs := mapSet 0 h.grp.gsyncs id (seen ||| on) } : Group).trimSyncs))

/-- O19. R33, R195, R490: LD from a local space reads SIZE bytes a lane, least significant first, into the run at RD, and writes nothing.
R33, R195, R490, R48: ST to a local space. Each byte of the store is that of a lane that stores to it, and every other byte is as before;
a byte that several lanes store holds one of theirs (log 6). -/
def Obligations.LocalLoadStore : Prop :=
  (∀ (s : State) (g : GRef) (h : Here) (p : Path) (w : IWord) (sp : Space), s.Issues g h p →
    bits (modNat w) 2 3 ≤ 4 → bits (modNat w) 0 2 ≤ 2 → spaceOf (bits (modNat w) 5 3) = some sp → sp ≠ .virt →
    let n := 2 ^ bits (modNat w) 2 3
    let k := if n ≤ 4 then 1 else n / 4
    regsOk [(w.rd.toNat, k), raUse1 w] h.grp = true →
    let base := (spaceRange h.img g.slot.val sp).1
    let limit := (spaceRange h.img g.slot.val sp).2
    (∀ l ∈ lanesOf (h.active p w), laddr w h.grp l % n = 0 ∧ laddr w h.grp l + n ≤ limit) →
    exec (.ld g w {}) s = .next (s.retired g h p (h.seen.setRuns w.rd.toNat k (h.active p w)
      (fun l => leNat (cellsRead h.img.ls (base + laddr w h.grp l) n))))) ∧
  (∀ (s : State) (g : GRef) (h : Here) (p : Path) (w : IWord) (sp : Space), s.Issues g h p → h.active p w ≠ 0 →
    bits (modNat w) 2 3 ≤ 4 → bits (modNat w) 0 2 = 0 → spaceOf (bits (modNat w) 5 3) = some sp → sp ≠ .virt →
    let n := 2 ^ bits (modNat w) 2 3
    let k := if n ≤ 4 then 1 else n / 4
    regsOk [(w.rb.toNat, k), raUse1 w] h.grp = true →
    let base := (spaceRange h.img g.slot.val sp).1
    let limit := (spaceRange h.img g.slot.val sp).2
    (∀ l ∈ lanesOf (h.active p w), laddr w h.grp l % n = 0 ∧ laddr w h.grp l + n ≤ limit) →
    ∃ ls : List Host.Cell, ∃ t : State, (t = s.issued g h ∨ t = (s.issued g h).drawn) ∧
      exec (.st g w {}) s = .next ((t.updImg h.ctx g.core.val (fun m => { m with ls := ls })).putGroup h.ctx g.core.val g.slot.val
        { h.seen with run := some { p with pc := p.next, retry := false }, wdog := s.now }) ∧
      ∀ a, ((∀ l ∈ lanesOf (h.active p w), ¬ (base + laddr w h.grp l ≤ a ∧ a < base + laddr w h.grp l + n)) →
          mapGet (0 : Byte) ls a = mapGet (0 : Byte) h.img.ls a) ∧
        ((∃ l ∈ lanesOf (h.active p w), base + laddr w h.grp l ≤ a ∧ a < base + laddr w h.grp l + n) →
          ∃ l ∈ lanesOf (h.active p w), base + laddr w h.grp l ≤ a ∧ a < base + laddr w h.grp l + n ∧
            (mapGet (0 : Byte) ls a).toNat = bits (h.grp.run64 w.rb.toNat k l) (8 * (a - (base + laddr w h.grp l))) 8))

/-- O20. R36: a memory, token or unit instruction whose guard is false in every lane only moves on, unless its word is illegal. R33, R42,
R188, R191, R298, R490: the faults of loads and stores: misaligned, outside the local space, a page that does not translate, and a thread
load beyond the domain. No lane takes effect. R450: a load or store whose words are good or were corrected does what R490 says, each
corrected word counted; a lost word fails it with UNCORRECTABLE and nothing of it takes effect. The loss is counted and raised, and a
second one within KAT_WINDOW fences the core with cause 4 (log 80). -/
def Obligations.AccessFaults : Prop :=
  (∀ (s : State) (g : GRef) (h : Here) (p : Path) (w : IWord), s.Issues g h p → h.active p w = 0 →
    ∀ (ecc : Ecc), ∀ i ∈ [Instr.ld g w ecc, .st g w ecc, .atom g w, .red g w, .fence g w, .ldAcq g w, .stRel g w, .storeFlag g w, .lockAcq g w, .lockRel g w,
        .tmCopy g w, .tmGather g w, .tmScatter g w, .tmFill g w, .tmWait g w, .tmPoll g w, .mxaAsync g w, .mxaWait g w, .mxaPoll g w,
        .mxaCmpr g w, .rwnDrain g w],
      exec i s = .next (s.retired g h p h.seen) ∨ exec i s = .next (s.faulted g h p Code.illegal)) ∧
  (∀ (s : State) (g : GRef) (h : Here) (p : Path) (w : IWord) (sp : Space), s.Issues g h p → h.active p w ≠ 0 →
    bits (modNat w) 2 3 ≤ 4 → bits (modNat w) 0 2 = 0 → spaceOf (bits (modNat w) 5 3) = some sp →
    let n := 2 ^ bits (modNat w) 2 3
    let k := if n ≤ 4 then 1 else n / 4
    let limit := (spaceRange h.img g.slot.val sp).2
    let ons := lanesOf (h.active p w)
    regsOk [(w.rd.toNat, k), (w.rb.toNat, k), (w.ra.toNat, 2)] h.grp = true →
    ((sp ≠ .virt ∧ ∃ l ∈ ons, laddr w h.grp l % n ≠ 0) ∨ (sp = .virt ∧ ∃ l ∈ ons, vaddr w h.grp l % n ≠ 0) →
      ∃ a t, (t = s ∨ t = s.drawn) ∧ exec (.ld g w {}) s = .next (s.faulted g h p Code.misaligned a) ∧
        exec (.st g w {}) s = .next (t.faulted g h p Code.misaligned a)) ∧
    (sp ≠ .virt → (∀ l ∈ ons, laddr w h.grp l % n = 0) → (∃ l ∈ ons, limit < laddr w h.grp l + n) →
      ∃ a t, (t = s ∨ t = s.drawn) ∧ exec (.ld g w {}) s = .next (s.faulted g h p Code.localBounds a) ∧
        exec (.st g w {}) s = .next (t.faulted g h p Code.localBounds a)) ∧
    (∀ st, sp = .virt → (∀ l ∈ ons, vaddr w h.grp l % n = 0) →
      ((s.issued g h).xlateAll h.ctx .read (linesOf (ons.map (vaddr w h.grp)))).1 = st → st ≠ 0 →
      ∃ a, exec (.ld g w {}) s = .next (s.faulted g h p st a)) ∧
    (∀ ds, sp = .virt → (∀ l ∈ ons, vaddr w h.grp l % n = 0) →
      (s.issued g h).xlateAll h.ctx .read (linesOf (ons.map (vaddr w h.grp))) = (0, ds) → ds.any (fun d => destOff d.2) = true →
      ∃ a, exec (.ld g w {}) s = .next (s.faulted g h p Code.offdomainLoad a))) ∧
  ((∀ (s : State) (g : GRef) (h : Here) (p : Path) (w : IWord) (ecc : Ecc), s.Issues g h p → h.active p w ≠ 0 →
    let i : Iss := { s.sees g h p w with s := (s.issued g h).sramFixed ecc.fixed }
    let lost := (i.fault Code.uncorrectable (lsAddr w h.grp (lowestLane (h.active p w)))).sramLost (i.s.physAny g.core.val)
    (ldLegal w h.grp = true → exec (.ld g w ecc) s = .next (if ecc.lost then lost else i.load w)) ∧
    (stLegal w h.grp = true → exec (.st g w ecc) s = .next (if ecc.lost then lost else i.store w))) ∧
  (∀ s : State, s.sramFixed 0 = s ∧ ∀ n, n ≠ 0 → s.sramFixed n = s.count (dkey 0x7000 0x07) n) ∧
  (∀ (s : State) (p : Nat),
    let again := ∃ t, (mapGet ({} : Kat) s.rep.kats p).sram = some t ∧ s.now < t + s.dv (dkey 0x7000 0x05) * hour
    ∃ t : State, (mapGet ({} : Kat) t.rep.kats p).sram = some s.now ∧ t.launches = s.launches ∧ t.images = s.images ∧ t.dev = s.dev ∧
      t.mem = s.mem ∧ (again → s.sramLost p = t.fenceCore p 4) ∧ (¬ again → s.sramLost p = t)))

/-- O21. R29, R192, R233: the requests of one instruction: one an operation, in order, under consecutive numbers, each of the issuing
group, with its address, waiting for a slot; memory, caches, groups and launches are as before. A request whose translation the core's
cache holds has no table entries to read first. R28, R29, R194, R233, R490: LD and ST in virtual space. A load that hits in every line,
their translations held, retires with its data; otherwise one request a missing line, ascending, is issued and the group waits. A store
makes one request a line. -/
def Obligations.VirtualLoadStore : Prop :=
  (∀ (i : Iss) (s : State) (l : List (MemOp × Dest × Nat)) (plain thread alloc held : Bool),
    let q := i.asks s l plain thread alloc held
    q.2 = (List.range l.length).map (s.nextId + ·) ∧ q.1.nextId = s.nextId + l.length ∧
    q.1.mem = s.mem ∧ q.1.caches = s.caches ∧ q.1.images = s.images ∧ q.1.launches = s.launches ∧
    ∃ rs : List Req, q.1.reqs = s.reqs ++ rs ∧ rs.length = l.length ∧
      ∀ k op d va, l[k]? = some (op, d, va) → ∃ r, rs[k]? = some r ∧ r.id = s.nextId + k ∧ r.src = .core i.core ∧ r.ctx = i.ctx ∧
        r.slot = i.slot ∧ r.owner = i.grp.launch ∧ r.gidx = i.grp.idx ∧ r.ipc = i.path.pc ∧ r.op = op ∧ r.va = va ∧ r.ph = .waiting ∧
        r.plain = plain ∧ r.thread = thread ∧ r.held = held ∧
        (∀ c o, d = .win c o → r.win = true ∧ r.addr = winBase + c * 0x200000 + o ∧ r.dev = s.dev.deviceId ∧ r.walk = []) ∧
        (∀ a nc, d = .glob a nc → r.win = false ∧ r.addr = a ∧ r.dev = gDevice a ∧
          (k = 0 → s.cached i.core i.ctx va = true → r.walk = []))) ∧
  (∀ (s : State) (g : GRef) (h : Here) (p : Path) (w : IWord) (ds : List (Nat × Dest)), s.Issues g h p → h.active p w ≠ 0 →
    bits (modNat w) 2 3 ≤ 4 → bits (modNat w) 5 3 = 0 →
    let n := 2 ^ bits (modNat w) 2 3
    let k := if n ≤ 4 then 1 else n / 4
    let cm := bits (modNat w) 0 2
    let ons := lanesOf (h.active p w)
    let as := h.addrs p w (vaddr w h.grp)
    let i := (s.sees g h p w).watch 0 (as.map (fun e => (e.1, e.2, n)))
    let j := (s.sees g h p w).watch 1 (as.map (fun e => (e.1, e.2, n)))
    let cells := storeCells (ons.map (fun l => (vaddr w h.grp l, leBytes n (h.grp.run64 w.rb.toNat k l))))
    (∀ l ∈ ons, vaddr w h.grp l % n = 0) →
    (cm ≤ 2 → regsOk [(w.rd.toNat, k), (w.ra.toNat, 2)] h.grp = true → ds.any (fun d => destOff d.2) = false →
      (s.issued g h).xlateAll h.ctx .read (linesOf (ons.map (vaddr w h.grp))) = (0, ds) →
      (h.img.cacheKiB = 0 →
        let q := i.asks i.s (ds.map (fun d => (MemOp.rd 64, d.2, d.1))) false false false false
        exec (.ld g w {}) s = .next (i.waits q.1 (if cm = 0 then i.grp.missStreak (ds.map Prod.fst) else i.grp) q.2
          (.load w.rd.toNat (bits (modNat w) 2 3) as []))) ∧
      (∀ data : Nat → List Byte, h.img.cacheKiB ≠ 0 → cm ≠ 2 → ds.all (fun d => !(destNc d.2)) = true →
        (∀ d ∈ ds, (∃ x, lineHit (i.s.cache g.core.val) h.ctx (i.s.lineKey d.2) = some x ∧ x.data = data d.1) ∧
          (s.cached g.core.val h.ctx d.1 = true ∨ winVa ≤ d.1 ∧ d.1 < winVa + 0x50000000)) →
        ∃ c : Map (List Line), (∀ m, m ≠ g.core.val → mapGet [] c m = s.cache m) ∧
          exec (.ld g w {}) s = .next (({ i with s := { i.s with caches := c } } : Iss).retire
            (i.grp.setRuns w.rd.toNat k (h.active p w) (fun l =>
              leNat (((data (vaddr w h.grp l / 64 * 64)).drop (vaddr w h.grp l % 64)).take n)))))) ∧
    (cm = 0 → regsOk [(w.rb.toNat, k), (w.ra.toNat, 2)] h.grp = true → overlaps n (ons.map (vaddr w h.grp)) = false →
      ds.any (fun d => destOff d.2) = false → (s.issued g h).xlateAll h.ctx .write (linesOf (cells.map Prod.fst)) = (0, ds) →
      (let q := j.asks j.s (ds.map (fun d => (MemOp.wr ((cells.filter (fun c => c.1 / 64 * 64 == d.1)).map
          (fun c => (c.1 - d.1, c.2))), d.2, d.1))) true true false false
       (∀ a b, (a, b) ∈ cells ↔ ∃ l ∈ ons, ∃ x < n, a = vaddr w h.grp l + x ∧ b = BitVec.ofNat 8 (h.grp.run64 w.rb.toNat k l / 2 ^ (8 * x))) ∧
       ∃ c, exec (.st g w {}) s = .next (j.issues { q.1 with caches := c } j.grp q.2 .issue) ∧
        ∀ n, n ≠ g.core.val → mapGet [] c n = s.cache n)))

/-- O22. R39, R41: for the integer types a set of operands combined and applied once leaves the word that the lanes one by one would. R41:
ATOM returns to each lane of a set what it would have read had the lanes run one by one, from the old value. R38 to R41, R195, R490: ATOM
and RED on a local space: one operation a combining set, in order, CAS lane by lane; the bytes of other words are unchanged. -/
def Obligations.AtomicsCombine : Prop :=
  (∀ (op : Aop) (typ old : Nat) (vs : List Nat), op ≠ .cas → typ < 4 → vs ≠ [] →
    old < 2 ^ (8 * typBytes typ) → (∀ v ∈ vs, v < 2 ^ (8 * typBytes typ)) →
    atomStep op typ old (combineSet op typ vs) = vs.foldl (atomStep op typ) old) ∧
  (∀ (op : Aop) (typ old : Nat) (vs : List (Nat × Nat)) (k : Nat), k < vs.length →
    (atomReturns op typ old vs)[k]? =
      (vs[k]?).map (fun e => (e.1, ((vs.take k).map Prod.snd).foldl (atomStep op typ) old))) ∧
  (∀ (s : State) (g : GRef) (h : Here) (p : Path) (w : IWord) (sp : Space) (fetch : Bool), s.Issues g h p → h.active p w ≠ 0 →
    let op := aopOf (bits (modNat w) 5 3)
    let typ := bits (modNat w) 2 3
    let k := typBytes typ / 4
    atomOk (bits (modNat w) 5 3) typ fetch = true → spaceOf (bits (modNat w) 0 2) = some sp → sp ≠ .virt →
    regsOk (raUse1 w :: (w.rb.toNat, k) :: ((if fetch then [(w.rd.toNat, k)] else []) ++
      (if bits (modNat w) 5 3 = 7 then [(w.rc.toNat, k)] else []))) h.grp = true →
    let base := (spaceRange h.img g.slot.val sp).1
    let limit := (spaceRange h.img g.slot.val sp).2
    let as := h.addrs p w (laddr w h.grp)
    (∀ e ∈ as, e.2 % typBytes typ = 0 ∧ e.2 + typBytes typ ≤ limit) →
    let val := fun r l => h.grp.run64 r k l
    let sets := if op = .cas then as.map (fun e => (e.2, [e.1])) else combiningSets as
    let res := sets.foldl (fun (a : List Host.Cell × Group) e =>
      let old := leNat (cellsRead a.1 (base + e.1) (typBytes typ))
      let vs := e.2.map (val w.rb.toNat)
      (cellsWrite a.1 (base + e.1) (leBytes (typBytes typ)
          (if op = .cas then (if old = val w.rb.toNat (e.2.headD 0) then val w.rc.toNat (e.2.headD 0) else old)
           else atomStep op typ old (combineSet op typ vs))),
       if fetch then (atomReturns op typ old (List.zip e.2 vs)).foldl (fun g x => g.setRun w.rd.toNat k x.1 x.2) a.2 else a.2))
      (h.img.ls, h.seen)
    exec (if fetch then .atom g w else .red g w) s =
        .next (((s.issued g h).updImg h.ctx g.core.val (fun m => { m with ls := res.1 })).putGroup h.ctx g.core.val g.slot.val
          { res.2 with run := some { p with pc := p.next, retry := false }, wdog := s.now }) ∧
      ∀ a, (∀ e ∈ as, ¬ (base + e.2 ≤ a ∧ a < base + e.2 + typBytes typ)) → mapGet (0 : Byte) res.1 a = mapGet (0 : Byte) h.img.ls a)

/-- O23. R38, R39, R194, R233: ATOM and RED in virtual space: one request a combining set in ascending order of its lowest lane, CAS one
lane at a time; the lines leave the core's cache. -/
def Obligations.VirtualAtomics : Prop :=
  ∀ (s : State) (g : GRef) (h : Here) (p : Path) (w : IWord) (ds : List (Nat × Dest)) (fetch : Bool), s.Issues g h p →
    h.active p w ≠ 0 →
    let op := aopOf (bits (modNat w) 5 3)
    let typ := bits (modNat w) 2 3
    let k := typBytes typ / 4
    atomOk (bits (modNat w) 5 3) typ fetch = true → bits (modNat w) 0 2 = 0 →
    regsOk ((w.ra.toNat, 2) :: (w.rb.toNat, k) :: ((if fetch then [(w.rd.toNat, k)] else []) ++
      (if bits (modNat w) 5 3 = 7 then [(w.rc.toNat, k)] else []))) h.grp = true →
    let as := h.addrs p w (vaddr w h.grp)
    let i := (s.sees g h p w).watch 2 (as.map (fun e => (e.1, e.2, typBytes typ)))
    let t := ds.foldl (fun (t : State) d => i.bypass t d.2) i.s
    let sets := combiningSets as
    let vals := fun (e : Nat × List Nat) => e.2.map (fun l => h.grp.run64 w.rb.toNat k l)
    (∀ e ∈ as, e.2 % typBytes typ = 0) → ds.any (fun d => destOff d.2) = false →
    (s.issued g h).xlateAll h.ctx .both (sets.map Prod.fst) = (0, ds) →
    (op ≠ .cas →
      let q := i.asks t ((List.zip sets ds).map (fun e =>
        (MemOp.at op typ (combineSet op typ (vals e.1)) 0 fetch, e.2.2, e.1.1))) true true false false
      let held := (List.zip q.2 (List.zip sets ds)).map (fun e => (e.1, List.zip e.2.1.2 (vals e.2.1)))
      exec (if fetch then .atom g w else .red g w) s =
        .next (i.issues q.1 i.grp q.2 (if fetch then .atom w.rd.toNat op typ held else .issue))) ∧
    (op = .cas → fetch = true → ∀ l a rest d, as = (l, a) :: rest → ds.head? = some d →
      let q := i.asks t [(MemOp.at .cas typ (h.grp.run64 w.rb.toNat k l) (h.grp.run64 w.rc.toNat k l) true, d.2, a)] true true false false
      exec (.atom g w) s = .next (i.issues q.1 i.grp q.2 (.cas w.rd.toNat typ l
        (rest.map (fun e => (e.1, e.2, h.grp.run64 w.rb.toNat k e.1, h.grp.run64 w.rc.toNat k e.1))))))

/-- O24. R237, R238, Table 09.1: FENCE completes at once where no thread write of its group within its scope is unapplied, and waits for
those that are. Completed, it drops from the core's cache the lines of its scope: none below scope 3, those of other devices stay at scope
3, all leave at scope 4; a line still on its way is not put into the cache (log 12). R234 to R237: LD.ACQ makes one request a distinct
word and waits for the words; ST.REL and STORE.FLAG make one request a lane, in ascending lane order, RB's word as a write or as a flag,
and retire once they hold slots. While writes they wait for are out (of the group within scope; for a flag also plain writes to any device
of the domain and transfers), the requests are held by a release entry. -/
def Obligations.Ordering : Prop :=
  (∀ (s : State) (g : GRef) (h : Here) (p : Path) (w : IWord), s.Issues g h p → h.active p w ≠ 0 → 1 ≤ modNat w → modNat w ≤ 4 →
    let sc := modNat w
    let unapplied := fun (r : Req) => r.src = .core g.core.val ∧ r.ctx = h.ctx ∧ r.slot = g.slot.val ∧ r.owner = h.grp.launch ∧
      r.gidx = h.grp.idx ∧ r.thread = true ∧ (r.ph ≠ .done ∨ r.st ≠ 0) ∧
      (r.win = true ∨ (if sc = 4 then gOff r.addr = false else s.isLocal r.addr = true))
    let next := ({ h.seen with run := some { p with pc := p.next, retry := false } } : Group)
    ((∀ r ∈ s.reqs, ¬ unapplied r) → ∃ u : State, exec (.fence g w) s = .next (u.putGroup h.ctx g.core.val g.slot.val next) ∧
      (∀ x, x ∈ u.cache g.core.val ↔ x ∈ s.cache g.core.val ∧ (sc < 3 ∨ (sc = 3 ∧ s.isLocal x.addr = false))) ∧
      (∀ k, k ≠ g.core.val → u.cache k = s.cache k) ∧ u.mem = s.mem ∧ u.images = (s.issued g h).images ∧ u.launches = s.launches ∧
      (sc < 3 → u = s.issued g h) ∧ u.reqs.length = s.reqs.length ∧
      ∀ r ∈ u.reqs, ∃ r' ∈ s.reqs, r = { r' with alloc := r.alloc } ∧ (r.alloc = true → r'.alloc = true) ∧
        (sc = 4 → r.src = .core g.core.val → r.alloc = false)) ∧
    ((∃ r ∈ s.reqs, unapplied r) → ∃ ids : List Nat, (∀ n, n ∈ ids ↔ ∃ r ∈ s.reqs, unapplied r ∧ r.id = n) ∧
      exec (.fence g w) s = .next ((s.issued g h).setGroup h.ctx g.core.val g.slot.val
        { h.seen with wait := .access ids (.fence sc), waitAt := s.now }))) ∧
  (∀ (s : State) (g : GRef) (h : Here) (p : Path) (w : IWord) (d : Nat → Dest), s.Issues g h p → h.active p w ≠ 0 →
    1 ≤ modNat w → modNat w ≤ 4 →
    let as := h.addrs p w (vaddr w h.grp)
    (∀ e ∈ as, e.2 % 4 = 0 ∧ destOff (d e.2) = false) →
    let i := (s.sees g h p w).watch 0 (as.map (fun e => (e.1, e.2, 4)))
    let j := (s.sees g h p w).watch 1 (as.map (fun e => (e.1, e.2, 4)))
    (regsOk [(w.rd.toNat, 1), (w.ra.toNat, 2)] h.grp = true → (∀ e ∈ as, s.xlate h.ctx e.2 .read = (0, d e.2)) →
      ∃ (sets : List (Nat × List Nat)) (c : Map (List Line)), (sets.map Prod.fst).Nodup ∧
        (∀ a l, (∃ e ∈ sets, e.1 = a ∧ l ∈ e.2) ↔ (l, a) ∈ as) ∧ (∀ m, m ≠ g.core.val → mapGet [] c m = s.cache m) ∧
        let q := i.asks { i.s with caches := c } (sets.map (fun e => (MemOp.rd 4, d e.1, e.1))) false false false false
        exec (.ldAcq g w) s = .next (i.waits q.1 i.grp q.2 (.acq w.rd.toNat (modNat w)
          ((List.zip q.2 sets).map (fun e => (e.1, e.2.2)))))) ∧
    (regsOk [(w.rb.toNat, 1), (w.ra.toNat, 2)] h.grp = true → (∀ e ∈ as, s.xlate h.ctx e.2 .write = (0, d e.2)) →
      let mine := fun (r : Req) => r.src = .core g.core.val ∧ r.ctx = h.ctx ∧ r.slot = g.slot.val ∧ r.owner = h.grp.launch ∧
        r.gidx = h.grp.idx ∧ (r.ph ≠ .done ∨ r.st ≠ 0)
      let within := fun (r : Req) => r.thread = true ∧
        (r.win = true ∨ (if modNat w = 4 then gOff r.addr = false else s.isLocal r.addr = true))
      let word := fun l => (h.grp.reg w.rb.toNat l).toNat
      let stores := as.map (fun e => (MemOp.wr (zipFrom 0 (leBytes 4 (word e.1))), d e.2, e.2))
      let flags := as.map (fun e => (MemOp.flag (word e.1), d e.2, e.2))
      ((∀ r ∈ s.reqs, ¬ (mine r ∧ within r)) → ∃ c : Map (List Line), (∀ m, m ≠ g.core.val → mapGet [] c m = s.cache m) ∧
        let q := j.asks { j.s with caches := c } stores false true false false
        exec (.stRel g w) s = .next (j.issues q.1 j.grp q.2 .issue)) ∧
      ((∃ r ∈ s.reqs, mine r ∧ within r) → ∃ (c : Map (List Line)) (rel : Rel), (∀ m, m ≠ g.core.val → mapGet [] c m = s.cache m) ∧
        let q := j.asks { j.s with caches := c } stores false true false true
        exec (.stRel g w) s = .next (j.issues { q.1 with nextId := q.1.nextId + 1, rels := q.1.rels ++ [rel] } j.grp q.2 .issue) ∧
        (∀ n, n ∈ rel.waits ↔ ∃ r ∈ s.reqs, mine r ∧ within r ∧ r.id = n) ∧ rel.xwaits = [] ∧ rel.ids = q.2 ∧ rel.core = g.core.val) ∧
      ((∀ r ∈ s.reqs, mine r → ¬ within r ∧ ¬ (r.plain = true ∧ (r.win = true ∨ gOff r.addr = false))) →
        (∀ x ∈ h.img.xfers, x.slot = g.slot.val → x.launch = h.grp.launch → x.gidx = h.grp.idx → x.fin = true ∧ x.st = 0) →
        ∃ c : Map (List Line), (∀ m, m ≠ g.core.val → mapGet [] c m = s.cache m) ∧
        let q := j.asks { j.s with caches := c } flags false true false false
        exec (.storeFlag g w) s = .next (j.issues q.1 j.grp q.2 .issue))))

/-- O25. R42, R43, R46: LOCK.ACQ and LOCK.REL of one lane on a local space: a free word takes the lane's tag and PD reads true; a word
that holds another tag parks the lane; its own tag is LOCK_MISUSE. A release writes 0 only over its lane's own tag. R42, R43, R234:
LOCK.ACQ in virtual space makes one attempt at a time, from the lowest lane; LOCK.REL makes one a lane. -/
def Obligations.Locks : Prop :=
  (∀ (s : State) (g : GRef) (h : Here) (p : Path) (w : IWord) (sp : Space) (l : Nat), s.Issues g h p →
    lanesOf (h.active p w) = [l] → 1 ≤ bits (modNat w) 0 3 → bits (modNat w) 0 3 ≤ 4 → bits (modNat w) 3 3 = 0 →
    spaceOf (bits (modNat w) 6 2) = some sp → sp ≠ .virt → regsOk [raUse1 w] h.grp = true →
    let a := (spaceRange h.img g.slot.val sp).1 + laddr w h.grp l
    laddr w h.grp l % 4 = 0 → laddr w h.grp l + 4 ≤ (spaceRange h.img g.slot.val sp).2 →
    let own := lockTag s.dev.deviceId g.core.val g.slot.val l
    let old := leNat (cellsRead h.img.ls a 4)
    (old = 0 → exec (.lockAcq g w) s = .next ((((s.issued g h).updImg h.ctx g.core.val (fun m =>
        { m with ls := cellsWrite h.img.ls a (leBytes 4 own) })).invalidate g.core.val (bits (modNat w) 0 3)).putGroup
          h.ctx g.core.val g.slot.val { h.seen.setPred w.pd.toNat (h.active p w) (laneBit l) with
            run := some { p with pc := p.next, retry := false }, backoff := 0, wdog := s.now })) ∧
    (old = own → exec (.lockAcq g w) s = .next (s.faulted g h p Code.lockMisuse)) ∧
    (old ≠ 0 → old ≠ own → ∀ other, other = p.mask &&& ~~~(h.active p w) → other ≠ 0 →
      ∃ t : State, exec (.lockAcq g w) s = .next (t.putGroup h.ctx g.core.val g.slot.val
          { h.seen.setPred w.pd.toNat (h.active p w) 0 with
            run := some { p with pc := p.next, mask := other, retry := false }, wdog := s.now
            parked := h.grp.parked ++ [{ pc := p.pc, mask := h.active p w, fid := p.fid, tried := false,
                                         outside := tagOutside s.dev.deviceId g.core.val g.slot.val old }] }) ∧
        (∀ x, mapGet (0 : Byte) (t.img h.ctx g.core.val).ls x = mapGet (0 : Byte) h.img.ls x) ∧ t.reqs = s.reqs ∧ t.dict = s.dict) ∧
    (old ≠ 0 → old ≠ own → p.mask &&& ~~~(h.active p w) = 0 →
      ∃ t : State, exec (.lockAcq g w) s = .next (t.putGroup h.ctx g.core.val g.slot.val
          { h.seen.setPred w.pd.toNat (h.active p w) 0 with
            run := none
            parked := (if p.retry then h.grp.parked else h.grp.parked.map (fun k => { k with tried := false })) ++
              [{ pc := p.pc, mask := h.active p w, fid := p.fid, tried := true,
                                         outside := tagOutside s.dev.deviceId g.core.val g.slot.val old }] }) ∧
        (∀ x, mapGet (0 : Byte) (t.img h.ctx g.core.val).ls x = mapGet (0 : Byte) h.img.ls x) ∧ t.reqs = s.reqs ∧ t.dict = s.dict) ∧
    ((s.sees g h p w).writesOut (bits (modNat w) 0 3) = [] → old = own →
      exec (.lockRel g w) s = .next (((s.issued g h).updImg h.ctx g.core.val (fun m =>
        { m with ls := cellsWrite h.img.ls a (leBytes 4 0) })).putGroup h.ctx g.core.val g.slot.val
          { h.seen with run := some { p with pc := p.next, retry := false }, wdog := s.now })) ∧
    ((s.sees g h p w).writesOut (bits (modNat w) 0 3) = [] → old ≠ own →
      exec (.lockRel g w) s = .next (s.faulted g h p Code.lockMisuse))) ∧
  (∀ (s : State) (g : GRef) (h : Here) (p : Path) (w : IWord) (ds : List (Nat × Dest)), s.Issues g h p → h.active p w ≠ 0 →
    1 ≤ modNat w → modNat w ≤ 4 → regsOk [(w.ra.toNat, 2)] h.grp = true →
    let as := h.addrs p w (vaddr w h.grp)
    let own := fun l => lockTag s.dev.deviceId g.core.val g.slot.val l
    let i := (s.sees g h p w).watch 2 (as.map (fun e => (e.1, e.2, 4)))
    let t := ds.foldl (fun (t : State) d => i.bypass t d.2) i.s
    (∀ e ∈ as, e.2 % 4 = 0) → ds.any (fun d => destOff d.2) = false →
    (s.issued g h).xlateAll h.ctx .both (as.map Prod.snd) = (0, ds) →
    (∀ l a rest d, as = (l, a) :: rest → ds.head? = some d →
      let q := i.asks t [(MemOp.at .cas 1 0 (own l) true, d.2, a)] false true false false
      exec (.lockAcq g w) s = .next (i.waits q.1 i.grp q.2
        (.lock w.pd.toNat (modNat w) l rest 0 (h.active p w) false))) ∧
    (({ i with s := t } : Iss).writesOut (modNat w) = [] →
      let q := i.asks t ((List.zip as ds).map (fun e => (MemOp.at .cas 1 (own e.1.1) 0 true, e.2.2, e.1.2))) false true false false
      exec (.lockRel g w) s = .next (i.issues q.1 i.grp q.2 .issue)))

/-- O26. R50, R53, R108, R492: TM.COPY, TM.GATHER, TM.SCATTER and TM.FILL fix their descriptors and take the lowest free token, whose
number goes to RD; a misaligned or outside descriptor faults the group. -/
def Obligations.TensorIssue : Prop :=
  ∀ (s : State) (g : GRef) (h : Here) (p : Path) (w : IWord) (k : XKind) (t : Nat), s.Issues g h p → h.active p w ≠ 0 →
    modNat w = 0 → regsOk [(w.rd.toNat, 1), (w.rb.toNat, 1), (w.ra.toNat, 1), (w.rc.toNat, 1)] h.grp = true → k ≠ .insert →
    let lead := lowestLane (h.active p w)
    let so := (h.grp.reg w.ra.toNat lead).toNat
    let d := (h.grp.reg w.rb.toNat lead).toNat
    let rc := (h.grp.reg w.rc.toNat lead).toNat
    let i : Instr := match k with
      | .copy => .tmCopy g w
      | .gather => .tmGather g w
      | .scatter => .tmScatter g w
      | _ => .tmFill g w
    (d % 64 ≠ 0 → (k = .fill ∨ so % 64 = 0) → exec i s = .next (s.faulted g h p Code.misaligned d)) ∧
    (d % 64 = 0 → d + 64 ≤ h.img.lsBytes → (k ≠ .fill → so % 64 = 0 ∧ so + 64 ≤ h.img.lsBytes) → freeTok h.grp.tmTok = some t →
      ∃ x : Xfer, ∃ b : Nat,
        x.id = s.nextId ∧ x.slot = g.slot.val ∧ x.launch = h.grp.launch ∧ x.gidx = h.grp.idx ∧ x.token = t ∧ x.ctx = h.ctx ∧
        x.dst = leNat (cellsRead h.img.ls d 64) ∧ (k ≠ .fill → x.src = leNat (cellsRead h.img.ls so 64)) ∧ x.rc = rc ∧ x.done = 0 ∧
        (x.fin = true ↔ x.st ≠ 0) ∧ (x.kind = k ∨ (k = .scatter ∧ x.kind = .insert)) ∧
        exec i s = .next (((s.issued g h).bumpId.updImg h.ctx g.core.val (fun m => { m with xfers := m.xfers ++ [x] })).putGroup
          h.ctx g.core.val g.slot.val { ({ h.seen with
              tmTok := mapInsert (mapErase h.grp.tmTok t) t { order := h.grp.tokSeq, unit := s.nextId }
              tokSeq := h.grp.tokSeq + 1 } : Group).setLanes w.rd.toNat (h.active p w) (fun _ => BitVec.ofNat 32 t) with
            bulk := b, run := some { p with pc := p.next, retry := false }, wdog := s.now }))

/-- O27. R52, R53, R75: WAIT and POLL of both token kinds. No transfer: ILLEGAL_INSTRUCTION. WAIT keeps the group waiting until the token
ends; POLL answers 0xFFFF meanwhile; a final status goes to RD and frees the token, or faults a WAIT without a destination. -/
def Obligations.Tokens : Prop :=
  ∀ (s : State) (g : GRef) (h : Here) (p : Path) (w : IWord) (array : Bool), s.Issues g h p → h.active p w ≠ 0 → modNat w = 0 →
    regsOk [(w.rd.toNat, 1), (w.ra.toNat, 1)] h.grp = true →
    let t := (h.grp.reg w.ra.toNat (lowestLane (h.active p w))).toNat
    let wait := if array then Instr.mxaWait g w else .tmWait g w
    let poll := if array then Instr.mxaPoll g w else .tmPoll g w
    let done := fun st : Status => (h.seen.setToks array (mapErase (h.grp.toks array) t)).setLanes w.rd.toNat (h.active p w)
      (fun _ => st.setWidth 32)
    (mapFind (h.grp.toks array) t = none →
      exec wait s = .next (s.faulted g h p Code.illegal) ∧ exec poll s = .next (s.faulted g h p Code.illegal)) ∧
    (∀ k, mapFind (h.grp.toks array) t = some k →
      (k.st = none →
        exec wait s = .next ((s.issued g h).setGroup h.ctx g.core.val g.slot.val
          { h.seen with wait := .token array t w.rd.toNat (h.active p w) false }) ∧
        exec poll s = .next (s.retired g h p { h.seen.setLanes w.rd.toNat (h.active p w) (fun _ => 0xFFFF#32) with
          wdog := if array then h.grp.wdog else s.now })) ∧
      (∀ st, k.st = some st →
        exec poll s = .next (s.retired g h p { done st with wdog := if array then h.grp.wdog else s.now }) ∧
        (w.rd = 0 → waitFaults array st = true → exec wait s = .next (s.faulted g h p st)) ∧
        (w.rd ≠ 0 ∨ waitFaults array st = false → exec wait s = .next (s.retired g h p { done st with wdog := s.now }))))

/-- O28. R72, R74, R132, R139: MXA.ASYNC, MXA.CMPR and RWN.DRAIN put an operation into the array queue of 16 and take a token, or wait for
an entry; an admitted one then takes its token. -/
def Obligations.ArrayIssue : Prop :=
  (∀ (s : State) (g : GRef) (h : Here) (p : Path) (w : IWord) (t : Nat), s.Issues g h p → h.active p w ≠ 0 →
    modNat w = 0 → regsOk [(w.rd.toNat, 1), (w.ra.toNat, 1), (w.rb.toNat, 1), (w.rc.toNat, 1)] h.grp = true →
    let lead := lowestLane (h.active p w)
    let reg := fun r : BitVec 8 => (h.grp.reg r.toNat lead).toNat
    let desc := fun r : BitVec 8 => leNat (cellsRead h.img.ls (reg r) 64)
    let fine := fun r : BitVec 8 => reg r % 64 = 0 ∧ reg r + 64 ≤ h.img.lsBytes
    ∀ i kind, (i = Instr.mxaAsync g w ∧ kind = MKind.mxa ∧ fine w.ra ∧ fine w.rb ∧ fine w.rc) ∨
        (i = .mxaCmpr g w ∧ kind = .cmpr ∧ fine w.ra ∧ fine w.rb) ∨
        (i = .rwnDrain g w ∧ kind = .drain ∧ fine w.ra ∧ (bitAt w.imm.toNat 63 = true ∨ fine w.rb)) →
      (∀ o, mxRec w.imm.toNat = some o → o + 32 ≤ h.img.lsBytes) → freeTok h.grp.arTok = some t →
      ∃ op : MxOp, op.kind = kind ∧ op.slot = g.slot.val ∧ op.launch = h.grp.launch ∧ op.group = h.grp.idx ∧ op.ctx = h.ctx ∧
        op.ctl = w.imm.toNat ∧ op.recOff = mxRec w.imm.toNat ∧ op.started = false ∧
        (kind ≠ .drain → op.a = desc w.ra ∧ op.b = desc w.rb) ∧ (kind = .mxa → op.c = desc w.rc) ∧ (kind = .drain → op.ra = reg w.ra) ∧
        (h.img.mxq.length < 16 → exec i s = .next (((s.issued g h).bumpId.updImg h.ctx g.core.val (fun m =>
            { m with mxq := m.mxq ++ [{ op with id := s.nextId, token := t }] })).putGroup h.ctx g.core.val g.slot.val
          { h.seen.useTok true t s.nextId w.rd.toNat (h.active p w) with
            run := some { p with pc := p.next, retry := false }, wdog := s.now })) ∧
        (16 ≤ h.img.mxq.length → exec i s = .next (((s.issued g h).count (dkey 0x4030 0x06)).setGroup h.ctx g.core.val g.slot.val
          { h.seen with wait := .queue op w.rd.toNat (h.active p w) }))) ∧
  (∀ (s : State) (g : GRef) (h : Here) (p : Path) (op : MxOp) (rd t : Nat) (act : Lanes), s.running = true →
    s.groupAt g.core.val g.slot.val = some h → h.grp.wait = .queue op rd act → h.grp.run = some p → h.img.mxq.length < 16 →
    freeTok h.grp.arTok = some t →
    exec (.mxaQueueAdmit g) s = .next ((s.bumpId.updImg h.ctx g.core.val (fun m =>
        { m with mxq := m.mxq ++ [{ op with id := s.nextId, token := t }] })).putGroup h.ctx g.core.val g.slot.val
      { ({ h.grp with wait := .none } : Group).useTok true t s.nextId rd act with
        run := some { p with pc := p.next, retry := false }, wdog := s.now }))

/-- O29. R63, R71, R74, R76, R145, R423, R449: the events of a core's array. Its head operation starts when no self-test is due: at once
in an open die, in its grove's window otherwise, for which it waits and is counted. It runs to its end and leaves the queue, unless data
or writes are still on their way; one of a fallen launch stops. While the queue is empty the next check tile of a set runs. R74, R76: an
operation that ends leaves its core's queue, the next one starts without the governor, its record holds its status and its counts, and its
token its status; no other byte of the local store and no register of the group changes. R71, R74: an operation that starts is validated,
and it alone changes in its queue; a descriptor that is broken gives DESCRIPTOR_INVALID, a mode, format or permission that is not served
MODE_FORMAT. -/
def Obligations.ArrayEvents : Prop :=
  (∀ (s : State) (core : Fin 576) (c : Nat), s.running = true → s.liveCtx core.val = some c →
    let i := s.img c core.val
    (∀ op rest, i.mxq = op :: rest → op.started = false → s.katDue (s.physAny core.val) = false →
      (op.gov = 2 → ∃ t : State, exec (.mxaOpStart core) s = .next t ∧ t.pwr = s.pwr ∧ (t.img c core.val).groups = i.groups ∧
        (t.img c core.val).mxq = { op with started := true, st := mxValidate i (s.width core.val) op } :: rest) ∧
      (op.gov = 0 → (s.die (s.dieOf core.val)).window = true →
        exec (.mxaOpStart core) s = .next ((s.setImg c core.val { i with mxq := { op with gov := 1 } :: rest }).count (dkey 0x2020 0x06))) ∧
      (op.gov = 0 → (s.die (s.dieOf core.val)).window = false →
        ∃ t : State, exec (.mxaOpStart core) s = .next t ∧ (t.img c core.val).groups = i.groups ∧
          (t.img c core.val).mxq = { op with started := true, st := mxValidate i (s.width core.val) op } :: rest ∧
          t.die (s.dieOf core.val) = { s.die (s.dieOf core.val) with window := true, grove := core.val / 8 })) ∧
    (∀ op rest, i.mxq = op :: rest → op.started = true →
      (s.launchFallen op.launch = true → exec (.mxaOpComplete core) s =
        .next ((s.mxStop core.val op (s.launchCode op.launch)).agGo (opAg op core.val))) ∧
      (s.launchFallen op.launch = false → op.outcome = none → (op.kind = .drain → drainTurn i op = true) →
        let o := s.mxRun op core.val (s.width core.val)
        (o.wait = true → exec (.mxaOpComplete core) s = .next (s.agWait o.s (opAg op core.val))) ∧
        (o.wait = false → (∀ r ∈ o.s.reqs, (opAg op core.val).owns r = true → r.ph = .done ∨ r.pref = true) →
          exec (.mxaOpComplete core) s =
            .next (((o.s.agDrop (opAg op core.val)).mxEnd core.val op o.st o.body o.pos).agGo (opAg op core.val))))) ∧
    (∀ x p y, i.mxq = [] → i.sets.find? (fun x => !x.left.isEmpty) = some x → sbFence x.img = true →
      ({ s := s : Prog }).checkTile x.op core.val (s.width core.val) x = (p, y) → p.wait = false → p.stop = 0 →
      exec (.specCheckTile core) s = .next (((((((p.tileCounts.agDrop (opAg x.op core.val)).checkCounts x y).count (dkey 0x4051 0x07) p.rows).count
        (dkey 0x2020 0x04) p.rows).updSet c core.val x.op.id (fun _ => y)).settleSet c core.val y).agGo (opAg x.op core.val)
          |>.countFree (dkey 0x4030 0x04)))) ∧
  (∀ (s : State) (core : Nat) (op : MxOp) (st : Status) (body : Nat) (pos : Option Nat), st ≠ Code.indexFault →
    let i := s.img op.ctx core
    let t := s.mxEnd core op st body pos
    let j := t.img op.ctx core
    j.mxq = (match i.mxq.filter (fun x => x.id != op.id) with | [] => [] | x :: r => { x with gov := 2 } :: r) ∧
    (∀ r, op.recOff = some r → leNat (cellsRead j.ls r 32) = st.toNat * 2 ^ 240 + body % 2 ^ 240) ∧
    (∀ a, (∀ r, op.recOff = some r → a < r ∨ r + 32 ≤ a) → mapGet (0 : Byte) j.ls a = mapGet (0 : Byte) i.ls a) ∧
    (∀ gr k, mapFind i.groups op.slot = some gr → gr.launch = op.launch → gr.idx = op.group → mapFind gr.arTok op.token = some k →
      k.unit = op.id → (∀ a x rd m b, gr.wait ≠ .token a x rd m b) →
      mapFind j.groups op.slot = some { gr with
        arTok := mapInsert (mapErase gr.arTok op.token) op.token { k with st := some st } }) ∧
    (∀ k, k ≠ op.slot → mapFind j.groups k = mapFind i.groups k)) ∧
  (∀ (s : State) (c core : Nat) (op : MxOp) (rest : List MxOp),
    ((s.mxBegin c core op rest).img c core).mxq = { op with started := true, st := mxValidate (s.img c core) (s.width core) op } :: rest ∧
    ∀ w, (op.kind = .mxa → mxDescBad (s.img c core) w op = true → mxValidate (s.img c core) w op = Code.descriptorInvalid) ∧
      (op.kind = .mxa → mxDescBad (s.img c core) w op = false → mxModeBad (s.img c core) op = true →
        mxValidate (s.img c core) w op = Code.modeFormat) ∧
      (op.kind = .mxa → mxDescBad (s.img c core) w op = false → mxModeBad (s.img c core) op = false → mxValidate (s.img c core) w op = 0) ∧
      (op.kind = .mxa → bits op.ctl 60 4 > 6 → mxDescBad (s.img c core) w op = false → mxValidate (s.img c core) w op = Code.modeFormat))

/-- O30. R51, R52, R116, R203 to R206, R494: the events of the tensor mover. TM_RESPONSE takes the transfer's next unit: a fill of FP32
words in the core's local store writes RC's word over its unit; a transfer whose elements are done and whose requests are all back is
finished. TM_TOKEN_COMPLETE takes a finished one out, writes its record and ends its token. Run-ahead and stream prefetch ask for a block
or a line, or drop it. -/
def Obligations.TensorEvents : Prop :=
  (∀ (s : State) (core : Fin 576) (c id : Nat) (x : Xfer), s.running = true → s.liveCtx core.val = some c →
    s.xfer? c core.val id = some x →
    (x.fin = false → exec (.tmResponse core id) s = .next (s.tmStep c core.val x)) ∧
    (x.fin = false → x.kind ≠ .insert → (∀ r ∈ s.reqs, (xferAg x core.val).owns r = false) → s.frameHolds id = false → x.st = 0 →
      x.done ≥ x.total → x.bad = 0 → x.flying = [] → (∀ g ∈ s.gws, ∀ q ∈ g.2.streams, ∀ f ∈ q.frames, f.xfers.contains id = false) →
      exec (.tmResponse core id) s = .next ((s.updXfer c core.val id (fun _ => { x with fin := true })).agGo (xferAg x core.val))) ∧
    (∀ n, x.fin = false → x.kind = .fill → x.st = 0 → x.done = 0 → x.total = n → 0 < n → n ≤ 64 → x.ctx = c → x.bad = 0 → x.flying = [] →
      (∀ r ∈ s.reqs, (xferAg x core.val).owns r = false) →
      let d := descOf x.dst
      d.fmt = 0 → d.space = 2 → d.trans = false → d.exts = [n, 1, 1, 1] → d.base % 4 = 0 → d.base + 4 * n ≤ (spaceRange (s.img c core.val) x.slot .core).2 →
      ∃ (t : State) (ls : List Host.Cell) (y : Xfer), exec (.tmResponse core id) s = .next (t.agGo (xferAg x core.val)) ∧
        t = s.updImg c core.val (fun m => { m with ls := ls, xfers := modifyWhere (fun z => z.id == id) (fun _ => y) m.xfers }) ∧
        y.done = n ∧ y.elems = x.elems + n ∧ y.st = 0 ∧ y.fin = false ∧
        let base := (spaceRange (s.img c core.val) x.slot .core).1 + d.base
        ∀ a, (a < base ∨ base + 4 * n ≤ a → mapGet (0 : Byte) ls a = mapGet (0 : Byte) (s.img c core.val).ls a) ∧
          ∀ k < 4 * n, mapGet (0 : Byte) ls (base + k) = BitVec.ofNat 8 (x.rc / 2 ^ (8 * (k % 4)))) ∧
    (x.fin = true → x.st = 0 → x.cnt = [0, 0, 0, 0, 0] →
      (x.kind = .copy → isConv (descOf x.src).fmt (descOf x.dst).fmt x.rc = true → rcMode x.rc ≠ 1) → x.ctx = c →
      ∃ t : State, exec (.tmTokenComplete core id) s = .next t ∧
        (t.img c core.val).xfers = (s.img c core.val).xfers.filter (fun y => y.id != id) ∧ t.mem = s.mem ∧ t.reqs = s.reqs ∧
        (∀ r, x.recOff = some r → leNat (cellsRead (t.img c core.val).ls r 32) = convRecord x) ∧
        (∀ a, (∀ r, x.recOff = some r → a < r ∨ r + 32 ≤ a) →
          mapGet (0 : Byte) (t.img c core.val).ls a = mapGet (0 : Byte) (s.img c core.val).ls a) ∧
        ∀ gr k, mapFind (s.img c core.val).groups x.slot = some gr → gr.launch = x.launch → gr.idx = x.gidx →
          mapFind gr.tmTok x.token = some k → k.unit = id → (∀ a w rd m b, gr.wait ≠ .token a w rd m b) →
          mapFind (t.img c core.val).groups x.slot = some { gr with
            tmTok := mapInsert (mapErase gr.tmTok x.token) x.token { k with st := some 0 } }) ∧
    (∀ a nc block, x.kind = .copy → (descOf x.src).space = 0 → x.fin = false → x.done < x.total → x.done = 0 →
      let d := descOf x.src
      let y := descOf x.dst
      atomOrder x d y (fun r => leNat (cellsRead (s.img c core.val).ls (x.rc + 4 * r) 4)) = List.range (atomCount x y) →
      let pos := ((d.partsOf (d.unlin (((List.range (atomCount x y)).map (atomAt x y)).flatten.headD 0))).map Prod.fst).headD d.base
      s.dv (dkey 0x3002 0x01) ≠ 0 → block % 256 = 0 → pos / 256 * 256 ≤ block → block ≤ pos + 16384 →
      (∀ r ∈ s.reqs, ¬ ((xferAg x core.val).owns r = true ∧ r.pref = true ∧ r.va = block)) →
      (d.extent.1 ≤ block → block + 256 ≤ d.extent.2 → s.prefetchable x.ctx block = some (a, nc) → moverUsed s.reqs core.val + 9 ≤ 64 →
        (s.reqs.filter (fun r => r.src == .core core.val && r.pref && r.xfer != 0)).length < 128 →
        let r : Req := { id := s.nextId, src := .core core.val, ctx := x.ctx, slot := x.slot, op := .rd 256, addr := a, va := block,
                         ph := .slot, xfer := x.id, owner := x.launch, dev := s.dev.deviceId, pref := true, alloc := true }
        s.capFree r = true → exec (.runaheadPrefetch core id block) s =
          .next ((({ s with nextId := s.nextId + 1, reqs := s.reqs ++ [r] }).count (dkey 0x3002 0x03)).agGo (xferAg x core.val))) ∧
      (block < d.extent.1 ∨ d.extent.2 < block + 256 ∨ s.prefetchable x.ctx block = none →
        exec (.runaheadPrefetch core id block) s = .next (s.count (dkey 0x3002 0x04))))) ∧
  (∀ (s : State) (g : GRef) (h : Here) (line a : Nat), s.running = true → s.groupAt g.core.val g.slot.val = some h →
    s.dv (dkey 0x3002 0x02) ≠ 0 → h.grp.streak ≥ 3 → line % 64 = 0 → h.grp.lastMiss < line → line ≤ h.grp.lastMiss + 256 →
    line / 65536 = h.grp.lastMiss / 65536 → h.img.cacheKiB ≠ 0 → slotsUsed s.reqs g.core.val + 5 ≤ 32 →
    (s.prefetchable h.ctx line = none → exec (.streamPrefetch g line) s = .next (s.count (dkey 0x3002 0x04))) ∧
    (s.prefetchable h.ctx line = some (a, true) → exec (.streamPrefetch g line) s = .next (s.count (dkey 0x3002 0x04))) ∧
    (s.prefetchable h.ctx line = some (a, false) → lineHit (s.cache g.core.val) h.ctx a = none →
      let r : Req := { id := s.nextId, src := .core g.core.val, ctx := h.ctx, slot := g.slot.val, op := .rd 64, addr := a, va := line,
                       ph := .slot, alloc := true, pref := true, owner := h.grp.launch, gidx := h.grp.idx, dev := s.dev.deviceId }
      s.slotFree r g.core.val = true →
      exec (.streamPrefetch g line) s =
        .next ((({ s with nextId := s.nextId + 1, reqs := s.reqs ++ [r] }).count (dkey 0x3002 0x03)).pump h.ctx g.core.val)))

/-- O31. R23, R27, R341: GROUP_START takes the lowest free slot: all registers zero, no predicate true, all lanes active at the entry
point. R28, R44, R45, R48, R49, R55: responses, the back-off, the watchdog and a requested halt. The response of a load's last line puts
the loaded bytes into the group's registers, and the group goes on, its watchdog having paused; another response leaves the group with one
request less to wait for. The watchdog faults a group after its period; a halt takes effect between instructions. R235, R236, R251: a
release is applied once every write and transfer it waits for is: its requests are no longer held, and one on a lock of the core's own
store leaves 0 there. It waits while one is not; a failed transfer drops it. -/
def Obligations.GroupEvents : Prop :=
  (∀ (s : State) (core : Fin 576) (c k : Nat) (l : Launch), s.running = true → s.liveCtx core.val = some c →
    let i := s.img c core.val
    s.launch? i.launch = some l → l.fallen = false → i.nextIdx < l.groups →
    lowest i.nslots (fun k => (mapFind i.groups k).isNone) = some k →
    ∃ t : State, exec (.groupStart core) s = .next t ∧
      (t.img c core.val).nextIdx = i.nextIdx + i.stride ∧
      (∀ j, j ≠ k → (∀ e ∈ i.groups, e.2.target = false ∧ e.2.halt.frozen = false) →
        mapFind (t.img c core.val).groups j = mapFind i.groups j) ∧
      (∀ j gr, j ≠ k → mapFind i.groups j = some gr → ∃ gr', mapFind (t.img c core.val).groups j = some gr' ∧ gr'.run = gr.run ∧
        gr'.regs = gr.regs ∧ gr'.preds = gr.preds ∧ gr'.wait = gr.wait ∧ gr'.idx = gr.idx) ∧
      ∃ gr, mapFind (t.img c core.val).groups k = some gr ∧ gr.idx = i.nextIdx ∧ gr.launch = l.id ∧ gr.nregs = l.nregs ∧
        gr.run = some { pc := l.entry, mask := 0xFFFFFFFF } ∧ gr.stack = [] ∧ gr.parked = [] ∧ gr.wait = .none ∧
        (∀ r ln, gr.reg r ln = 0) ∧ (∀ q, 1 ≤ q → gr.pred q = 0)) ∧
  ((∀ (s : State) (id n : Nat) (r : Req), s.running = true → s.req? id = some r → r.src = .core n → r.xfer = 0 → r.ph = .done →
    exec (.accessResponse id) s = .next ((s.respond r n).pump r.ctx n) ∧
    (∀ rd size gr as lines, mapFind (s.img r.ctx n).groups r.slot = some gr → gr.launch = r.owner → gr.idx = r.gidx →
      r.alloc = false → r.pref = false → r.st = 0 → (∃ k, r.op = .rd k) →
      let u : State := { s with reqs := s.reqs.filter (fun x => x.id != id) }
      let got := lines ++ [(r.va, r.res)]
      let data := fun a => ((got.find? (fun x => x.1 == a / 64 * 64)).map Prod.snd).getD []
      (size ≤ 4 → gr.wait = .access [id] (.load rd size as lines) → (∀ e ∈ as, ∃ x ∈ got, x.1 = e.2 / 64 * 64) →
        exec (.accessResponse id) s = .next ((u.putGroup r.ctx n r.slot
          { (as.foldl (fun (g : Group) e => g.setRun rd (if size ≤ 2 then 1 else 2 ^ size / 4) e.1
              (leNat (((data e.2).drop (e.2 % 64)).take (2 ^ size)))) gr).step16 with
            wait := .none, wdog := gr.wdog + (s.now - gr.waitAt) }).pump r.ctx n)) ∧
      (∀ ids, gr.wait = .access ids (.load rd size as lines) → id ∈ ids → (∃ k ∈ ids, k ≠ id) →
        exec (.accessResponse id) s = .next ((u.setGroup r.ctx n r.slot
          { gr with wait := .access (ids.filter (fun x => x != id)) (.load rd size as got) }).pump r.ctx n)))) ∧
  (∀ (s : State) (g : GRef) (h : Here), s.running = true → s.groupAt g.core.val g.slot.val = some h →
    (h.grp.wait = .backoff → exec (.lockBackoffExpiry g) s = .next (s.putGroup h.ctx g.core.val g.slot.val
      { h.grp with wait := .none, parked := []
                   stack := h.grp.parked.map (fun k => { pc := k.pc, mask := k.mask, fid := k.fid, retry := true }) ++ h.grp.stack })) ∧
    (∀ p, h.grp.halt.halted = false → h.grp.wait = .none → h.grp.run = some p →
      (h.grp.wdog + 1000000 * s.dv (dkey 0x4010 0x01) ≤ s.now →
        exec (.groupWatchdogExpiry g) s = .next (s.groupFault h.ctx g.core.val g.slot.val h.grp Code.livelock p.pc)) ∧
      (s.now < h.grp.wdog + 1000000 * s.dv (dkey 0x4010 0x01) → exec (.groupWatchdogExpiry g) s = .next s)) ∧
    (h.grp.halt.req = true → h.grp.wait = .none → h.grp.halt.mark = 0 →
      exec (.groupHalt g) s = .next (s.setGroup h.ctx g.core.val g.slot.val { h.grp with
        halt := { halted := true, cause := h.grp.halt.cause, since := s.now, frozen := h.grp.halt.frozen } })))) ∧
  (∀ (s : State) (id : Nat) (r : Rel) (q : Req), s.running = true → s.rels.find? (fun x => x.id == id) = some r →
    (r.ids.head?).bind s.req? = some q →
    let xs := r.xwaits.filterMap (fun x => s.xfer? q.ctx r.core x)
    ((∀ n ∈ r.waits, ∀ x, s.req? n = some x → x.ph = .done ∧ x.st = 0) → (∀ x ∈ xs, x.fin = true ∧ x.st = 0) →
      (∀ x ∈ s.reqs, x.id ∈ r.ids → x.noslot = false) →
      ∃ u : State, exec (.releaseApply id) s = .next (u.pump q.ctx r.core) ∧ u.rels = s.rels.filter (fun x => x.id != id) ∧
        u.reqs = s.reqs.map (fun x => if r.ids.contains x.id then { x with held := false } else x) ∧ u.images = s.images ∧ u.mem = s.mem ∧
        u.caches = s.caches ∧ u.launches = s.launches) ∧
    ((∃ n ∈ r.waits, ∃ x, s.req? n = some x ∧ ¬ (x.ph = .done ∧ x.st = 0)) → (∀ x ∈ xs, x.st = 0) →
      exec (.releaseApply id) s = .next s) ∧
    (∀ x, xs.find? (fun x => x.fin && x.st != 0) = some x → ∃ t, exec (.releaseApply id) s = .next t))

/-! The dictionary. -/

/-- O32. R394 to R396, R401: a persistent value of PORT_CTRL, ROUTE_MODE, ROUTE_d, CAP_EN, POWER_CAP, CAP_GUARD or any other RWS entry
that a class may write, that fits and is consistent, goes to the journal, with nothing else changed until it commits. R345, R394, R395,
R396: what refuses a write, the first reason that applies being given: no such entry, an entry that is only read, a value that does not
fit its type or range, a class that may not write it, an inconsistent value. Nothing changes but the status given back. R461, R463, R464:
zero written to a counter clears it and takes it off OVERFLOW_LIST; SNAP_INDEX freezes an index's counters of at most 8 bytes, every other
sub-index as zero. -/
def Obligations.EntryWrites : Prop :=
  (∀ (s : State) (c : Cls), s.Serves →
    (∀ (port : Fin 18) (v : Word), mayWrite c (dkey 0x5002 (port.val + 1)) = true → s.portBad port.val v.toNat = false →
      exec (.portCtrl c port v) s = .next (s.journals c (dkey 0x5002 (port.val + 1)) (leBytes 4 v.toNat))) ∧
    (∀ v, mayWrite c (dkey 0x5000 0x03) = true → v ≤ 1 →
      exec (.routeMode c v) s = .next (s.journals c (dkey 0x5000 0x03) (leBytes 1 v))) ∧
    (∀ (d : Fin 64) (v : Word), mayWrite c (dkey 0x5001 (d.val + 1)) = true → v.toNat < 2 ^ 18 →
      exec (.routeD c d v) s = .next (s.journals c (dkey 0x5001 (d.val + 1)) (leBytes 4 v.toNat))) ∧
    (∀ v, mayWrite c (dkey 0x2000 0x02) = true → v ≤ 1 →
      (v = 1 → s.capRefused (s.dv (dkey 0x2000 0x01)) (s.dv (dkey 0x2000 0x03)) = false) →
      exec (.capEn c v) s = .next (s.journals c (dkey 0x2000 0x02) (leBytes 1 v))) ∧
    (∀ v, mayWrite c (dkey 0x2000 0x01) = true → 600 ≤ v → v ≤ 3200 →
      (s.dv (dkey 0x2000 0x02) = 1 → s.capRefused v (s.dv (dkey 0x2000 0x03)) = false) →
      exec (.powerCap c v) s = .next (s.journals c (dkey 0x2000 0x01) (leBytes 2 v))) ∧
    (∀ v, mayWrite c (dkey 0x2000 0x03) = true → v ≤ 400 →
      (s.dv (dkey 0x2000 0x02) = 1 → s.capRefused (s.dv (dkey 0x2000 0x01)) v = false) →
      exec (.capGuard c v) s = .next (s.journals c (dkey 0x2000 0x03) (leBytes 2 v))) ∧
    (∀ key v tok e, keySub key ≠ 0 → entryAt key = some e → mayWrite c key = true → e.acc = .rws → bitAt e.classes 3 = false →
      e.fits v = true → s.rwsBad key (leNat v) = 0 →
      exec (.entryWrite c key v tok) s = .next (s.journals c key v tok))) ∧
  (∀ (s : State) (c : Cls) (key : Nat) (v : List Byte) (tok : Option Token), s.Serves →
    (entryAt key = none → exec (.entryWrite c key v tok) s = .next (s.answered Code.entryAccess)) ∧
    (∀ e, keySub key ≠ 0 → entryAt key = some e →
      (e.acc = .ro → e.counter = 0 → exec (.entryWrite c key v tok) s = .next (s.answered Code.entryAccess)) ∧
      (e.acc = .ro → e.counter ≠ 0 → v.length ≠ e.bytes ∨ leNat v ≠ 0 →
        exec (.entryWrite c key v tok) s = .next (s.answered Code.entryRange)) ∧
      (e.acc ≠ .ro → e.fits v = false → exec (.entryWrite c key v tok) s = .next (s.answered Code.entryRange)) ∧
      (e.acc ≠ .ro → e.fits v = true → mayWrite c key = false →
        exec (.entryWrite c key v tok) s = .next (s.answered Code.entryAccess)) ∧
      (mayWrite c key = true → e.fits v = true → e.acc = .rws → bitAt e.classes 3 = false → s.rwsBad key (leNat v) ≠ 0 →
        exec (.entryWrite c key v tok) s = .next (s.answered (s.rwsBad key (leNat v)))))) ∧
  (∀ (s : State) (c : Cls), s.Serves →
    (∀ key v e, keySub key ≠ 0 → entryAt key = some e → mayWrite c key = true → e.acc = .ro → e.counter ≠ 0 → v.length = e.bytes →
      leNat v = 0 →
      exec (.counterClear c key v) s =
        .next (({ s.setDv key 0 with ovfl := s.ovfl.filter (fun x => x != 2 ^ 31 + key) } : State).answered 0)) ∧
    (∀ i, mayWrite c (dkey 0x7010 0x03) = true → clsT c = false → i < 2 ^ 16 →
      ∃ l : List Nat, exec (.snapIndex c i) s =
          .next ((({ s with snap := some (i, l) } : State).setDv (dkey 0x7010 0x03) i).answered 0) ∧
        l.length = subsOf i ∧
        ∀ k < subsOf i, ∀ e, entryAt (dkey i (k + 1)) = some e →
          l.getD k 0 = if e.counter ≠ 0 ∧ e.bytes ≤ 8 then s.dv (dkey i (k + 1)) else 0))

/-- O33. R275, R402, R404, R434: the entries whose write acts at once. REKEY_NOW starts a rekey, with a HELLO, on each active port it
names that runs none; COMPACT_NOW a compaction unless one runs; REPLAN_NOW hands the five entries of a re-plan to the journal and counts
it. -/
def Obligations.ActingRows : Prop :=
  ∀ (s : State) (c : Cls), s.Serves →
    (∀ v : Word, mayWrite c (dkey 0x5010 0x05) = true → v.toNat < 2 ^ 18 →
      ∃ t : State, exec (.rekeyNow c v) s = .next (t.answered 0) ∧
        t = ((List.range 18).filter (fun p => bitAt v.toNat p)).foldl (fun (t : State) p => t.beginRekey p)
          (s.setDv (dkey 0x5010 0x05) v.toNat) ∧
        ∀ p < 18,
          (bitAt v.toNat p = true → (s.port p).active = true → (s.port p).rk = none → (s.port p).newEp = none →
            ∃ k : Rekey, k.began = s.now ∧ k.peer = [] ∧
              t.port p = { s.port p with rk := some k, rkDue := false, txq := (s.port p).txq ++ [mgmtPkt 1 k.hello] }) ∧
          (bitAt v.toNat p = false ∨ (s.port p).active = false ∨ (s.port p).rk ≠ none ∨ (s.port p).newEp ≠ none →
            t.port p = s.port p)) ∧
    (mayWrite c (dkey 0xA000 0x04) = true →
      (s.mgmt.compact = none → exec (.compactNow c 1) s =
        .next (((s.setDv (dkey 0xA000 0x04) 1).updMgmt (fun m => { m with compact := some s.mgmt.seq })).answered 0)) ∧
      (s.mgmt.compact ≠ none → exec (.compactNow c 1) s = .next ((s.setDv (dkey 0xA000 0x04) 1).answered 0)) ∧
      exec (.compactNow c 0) s = .next ((s.setDv (dkey 0xA000 0x04) 0).answered 0)) ∧
    (∀ v, mayWrite c (dkey 0xA010 0x01) = true → v % 1024 = 0 → v < slotSize →
      exec (.pkgOffset c v) s = .next ((if v = 0 then (s.setDv (dkey 0xA010 0x01) v).updMgmt (fun m => m.setSlot s.idleSlot [])
        else s.setDv (dkey 0xA010 0x01) v).answered 0)) ∧
    (∀ v, mayWrite c (dkey 0xA010 0x02) = true → v.length = 1024 → s.dv (dkey 0xA010 0x01) < slotSize →
      ∃ m : Mgmt, exec (.pkgData c v) s =
          .next ((({ s with mgmt := m } : State).setDv (dkey 0xA010 0x01) (s.dv (dkey 0xA010 0x01) + 1024)).answered 0) ∧
        (∀ k, k < 1024 → mapGet (0xFF : Byte) (m.slot s.idleSlot) (s.dv (dkey 0xA010 0x01) + k) = v.getD k 0) ∧
        (∀ a, a < s.dv (dkey 0xA010 0x01) ∨ s.dv (dkey 0xA010 0x01) + 1024 ≤ a →
          mapGet (0xFF : Byte) (m.slot s.idleSlot) a = mapGet (0xFF : Byte) (s.mgmt.slot s.idleSlot) a) ∧
        m.slot (!s.idleSlot) = s.mgmt.slot (!s.idleSlot)) ∧
    (∀ heart, mayWrite c (dkey 0x2060 0x05) = true → heart ≠ [] →
      (∃ (t : State) (l : List JWrite), exec (.replanNow c 1 heart) s = .next (t.answered 0) ∧
        t = (s.setDv (dkey 0x2060 0x05) 1).replan (readingsOf heart) ∧ t.mgmt.own = s.mgmt.own ++ l ∧
        l.map JWrite.key = [dkey 0x2060 0x01, dkey 0x2060 0x02, dkey 0x2060 0x03, dkey 0x2010 0x02, dkey 0x2060 0x04] ∧
        (∀ w ∈ l, w.eff = 2 ∧ w.signed = none) ∧ (l.getLast?.map JWrite.val) = some (s.powerCycles * 2 ^ 32 + s.opTime) ∧
        t.images = s.images ∧ t.mem = s.mem ∧ t.reqs = s.reqs) ∧
      exec (.replanNow c 0 heart) s = .next ((s.setDv (dkey 0x2060 0x05) 0).answered 0))

/-- O34. R121, R373, R376, R377: the rows of a context's record. CTX_SECRET installs a secret once, the provisioning key being used up;
GW_BIND installs a binding whose epoch is above every one the slot has used with its far domain and context. -/
def Obligations.ContextRows : Prop :=
  ∀ (s : State) (c : Cls), s.Serves →
    (∀ (ctx : Fin 4097) (seed : Word), mayWrite c (ctxKey ctx.val 0x20) = true →
      exec (.srSeed c ctx seed) s =
        .next (((s.setDv (ctxKey ctx.val 0x20) seed.toNat).setDv (ctxKey ctx.val 0x21) 0).answered 0)) ∧
    (∀ ctx : Fin 4096, mayWrite c (ctxKey ctx.val 0x61) = true →
      exec (.ctxPrivate c ctx 1) s = .next ((s.updCtx ctx.val (fun x => { x with priv := true })).answered 0) ∧
      ((s.ctx ctx.val).priv = true → exec (.ctxPrivate c ctx 0) s = .next (s.answered Code.entryRange)) ∧
      ((s.ctx ctx.val).priv = false →
        exec (.ctxPrivate c ctx 0) s = .next ((s.updCtx ctx.val (fun x => { x with priv := false })).answered 0))) ∧
    (∀ (ctx : Fin 4096) (v : List Byte), mayWrite c (ctxKey ctx.val 0x60) = true → v.length = 160 →
      ((s.ctx ctx.val).provKey = none ∨ (s.ctx ctx.val).secret ≠ none →
        exec (.ctxSecret c ctx v) s = .next (s.answered Code.contextState)) ∧
      (∀ n pub, (s.ctx ctx.val).provKey = some (n, pub) → (s.ctx ctx.val).secret = none →
        let shared := Config.ecdh n (BitVec.ofNat 776 (leNat (v.take 97)))
        let opened := fun (z : BitVec 384) =>
          let k := Config.hkdf (leBytes 48 s.idKeyHash.toNat) (beBytes 48 z.toNat) (label "dt9-secret" ++ beBytes 2 ctx.val) 44
          Config.gcmOpen (BitVec.ofNat 256 (leNat (k.take 32))) (BitVec.ofNat 96 (leNat (k.drop 32))) [] ((v.drop 97).take 48) 128
        (shared = none ∨ (∃ z, shared = some z ∧ opened z = none) →
          exec (.ctxSecret c ctx v) s = .next (s.answered Code.tokenInvalid)) ∧
        (∀ z sec, shared = some z → opened z = some sec →
          let u := s.updCtx ctx.val (fun x => { x with secret := some (BitVec.ofNat 256 (leNat sec)), provKey := none, epochs := [] })
          exec (.ctxSecret c ctx v) s = .next ((u.offerAll ctx.val).answered 0) ∧
          (u.offerAll ctx.val).ctxs = u.ctxs ∧
          ((∀ p < 18, (s.port p).active = false) → exec (.ctxSecret c ctx v) s = .next (u.answered 0))))) ∧
    (∀ (ctx : Fin 4096) (n : Fin 4) (v : BitVec 64), mayWrite c (ctxKey ctx.val (0x70 + n.val)) = true →
      let x := s.ctx ctx.val
      let other := fun k => k ≠ n.val ∧ k < 4 ∧ bindValid (x.bindVal k) = true ∧ bindDomain (x.bindVal k) = bindDomain v.toNat
      let taken := bindValid v.toNat = true ∧ (bindDomain v.toNat = s.dev.domainId ∨ ∃ k, other k)
      let waits := ∃ e ∈ s.gws, ∃ st ∈ e.2.streams, st.ctx = ctx.val ∧ st.bind = n.val ∧ st.frames ≠ []
      let spent := bindValid v.toNat = true ∧ bindEpoch v.toNat + 1 ≤ mapGet 0 x.epochs (epochKey n.val v.toNat)
      (x.secret = none → exec (.gwBind c ctx n v) s = .next (s.answered Code.contextState)) ∧
      (x.secret ≠ none → taken → exec (.gwBind c ctx n v) s = .next (s.answered Code.entryRange)) ∧
      (x.secret ≠ none → ¬taken → waits → exec (.gwBind c ctx n v) s = .next (s.answered Code.contextState)) ∧
      (x.secret ≠ none → ¬taken → ¬waits → spent → exec (.gwBind c ctx n v) s = .next (s.answered Code.entryRange)) ∧
      (x.secret ≠ none → ¬taken → ¬waits → ¬spent → ∃ gws : List (Nat × Gw),
        exec (.gwBind c ctx n v) s = .next ((({ s with gws := gws } : State).updCtx ctx.val (fun x => { x with
          binds := mapSet {} x.binds n.val { value := BitVec.ofNat 64 (bindClean v.toNat), epoch := bindEpoch v.toNat
                                             peer := bindCtx v.toNat, used := true }
          epochs := if bindValid v.toNat = true then mapSet 0 x.epochs (epochKey n.val v.toNat) (bindEpoch v.toNat + 1)
                    else x.epochs })).answered 0) ∧
        gws.map Prod.fst = s.gws.map Prod.fst ∧
        (∀ g ∈ gws, ∀ st ∈ g.2.streams, ¬ (st.ctx = ctx.val ∧ st.bind = n.val)) ∧
        (∀ g ∈ s.gws, ∀ st ∈ g.2.streams, ¬ (st.ctx = ctx.val ∧ st.bind = n.val) → ∃ g' ∈ gws, g'.1 = g.1 ∧ st ∈ g'.2.streams)))

/-- O35. R379: a token that holds uses the challenge up; one whose fields, binding or signature are wrong is refused with TOKEN_INVALID,
one whose challenge is not outstanding, or too old, with TOKEN_STALE; a refusal is counted and recorded. R54, R227, R379, R380, R405,
R454, R459: the rows that a signed token carries, and the read of a fresh challenge. A token that holds is used up and its row acts; one
that is refused changes nothing of what the row is about. -/
def Obligations.TokenRows : Prop :=
  (∀ (s : State) (t : Token) (op : Nat) (target sub : Option Nat) (bound : Option (List Byte)), op ≤ 7 →
    (s.Signed t op target sub bound → s.checkToken t op target sub bound = (s.spent, 0)) ∧
    ((tokFields t).ver ≠ 1 ∨ (tokFields t).op ≠ op ∨ (∃ x, target = some x ∧ (tokFields t).target ≠ x) ∨
        (tokFields t).binding ≠ bindingOf bound ∨ (op ≤ 5 ∧ s.dv (dkey 0x6001 0x01) = 0) →
      s.checkToken t op target sub bound = ((s.count (dkey 0x6001 0x04)).raise Ev.tokenRefused 0 Code.tokenInvalid, Code.tokenInvalid)) ∧
    (∀ u : State, (∃ x at', u = s.updMgmt (fun m => { m with challenge := some (x, at') })) → u.Signed t op target sub bound →
      (s.mgmt.challenge = none ∨ (∃ x at', s.mgmt.challenge = some (x, at') ∧ (x ≠ (tokFields t).challenge ∨ at' + 300 < s.opTime))) →
      s.checkToken t op target sub bound = ((s.count (dkey 0x6001 0x04)).raise Ev.tokenRefused 0 Code.tokenStale, Code.tokenStale))) ∧
  (∀ (s : State) (c : Cls), s.Serves →
    (mayRead c (dkey 0x6001 0x03) = true →
      exec (.tokenChallengeRead c) s = .next (((s.drawn.updMgmt (fun m =>
        { m with challenge := some (s.freeVal (2 ^ 64), s.opTime) })).answered 0).emit (.bytes "value" (leBytes 8 (s.freeVal (2 ^ 64)))))) ∧
    (∀ tok, mayWrite c (dkey 0x4020 0x04) = true →
      let x := dbgCtx s.dbgTarget
      let bound := some (if x = 4096 then 2 ^ 15 else x)
      (s.Signed tok 1 bound none none →
        exec (.dbgAuth c tok) s = .next (({ s.spent with dbg := { s.dbg with auth := insNat x s.dbg.auth } } : State).dbgNote c 7 0 0
          |>.answered 0)) ∧
      (∀ u st, s.checkToken tok 1 bound none none = (u, st) → st ≠ 0 →
        exec (.dbgAuth c tok) s = .next ((u.dbgNote c 7 0 st).answered st))) ∧
    (∀ tok, mayWrite c (dkey 0x3010 0x04) = true →
      (s.Signed tok 3 none none none →
        exec (.mapoutClear c tok) s = .next ((s.spent.updMgmt (fun m => { m with clearMap := true })).answered 0)) ∧
      (∀ u st, s.checkToken tok 3 none none none = (u, st) → st ≠ 0 → exec (.mapoutClear c tok) s = .next (u.answered st))) ∧
    (∀ tok, mayWrite c (dkey 0x7020 0x05) = true →
      (s.rep.erasing ≠ 0 → exec (.yewClear c tok) s = .next (s.answered Code.entryAccess)) ∧
      (s.rep.erasing = 0 → s.Signed tok 2 none none none → ∃ t : State, exec (.yewClear c tok) s = .next (t.answered 0) ∧
        t.rep.erasing = 2 ∧ t.rep.nextSlot = 1 ∧ t.rep.full = false ∧ t.rep.gen = (s.rep.gen + 1) % 65536 ∧
        t.dv (dkey 0x7020 0x06) = 0 ∧ t.dv (dkey 0x7020 0x07) = 0 ∧ t.mgmt = s.spent.mgmt ∧ t.mem = s.mem) ∧
      (∀ u st, s.rep.erasing = 0 → s.checkToken tok 2 none none none = (u, st) → st ≠ 0 →
        exec (.yewClear c tok) s = .next (u.answered st))) ∧
    (∀ key : BitVec 776, mayWrite c (dkey 0x6001 0x01) = true →
      (clsBit c = 0 → s.dv (dkey 0x6001 0x01) = 0 →
        exec (.authKey c key none) s = .next (s.journals c (dkey 0x6001 0x01) (leBytes 97 key.toNat))) ∧
      (∀ tok, let bound := some (leBytes 97 key.toNat)
        (s.Signed tok 5 none none bound →
          exec (.authKey c key (some tok)) s = .next (s.spent.journals c (dkey 0x6001 0x01) (leBytes 97 key.toNat) (some tok))) ∧
        (∀ u st, s.checkToken tok 5 none none bound = (u, st) → st ≠ 0 →
          exec (.authKey c key (some tok)) s = .next (u.answered st)))) ∧
    (∀ (v : BitVec 640), mayWrite c (dkey 0x7001 0x01) = true →
      exec (.fenceMapWrite c v none) s = .next (s.answered Code.entryAccess) ∧
      (∀ tok, let bound := some (leBytes 80 v.toNat)
        (s.Signed tok 4 (some 0x7001) (some 0x01) bound →
          exec (.fenceMapWrite c v (some tok)) s = .next (s.spent.journals c (dkey 0x7001 0x01) (leBytes 80 v.toNat) (some tok))) ∧
        (∀ u st, s.checkToken tok 4 (some 0x7001) (some 0x01) bound = (u, st) → st ≠ 0 →
          exec (.fenceMapWrite c v (some tok)) s = .next (u.answered st)))) ∧
    (∀ tok, mayWrite c (dkey 0xA010 0x03) = true → (tokFields tok).op = 6 →
      let bound := some (slotBytes (s.mgmt.slot s.idleSlot) 0 256)
      (∀ u st, s.checkToken tok 6 none none bound = (u, st) → st ≠ 0 → exec (.packageActivate c tok) s = .next (u.answered st)) ∧
      (s.Signed tok 6 none none bound →
        (s.pkgOk (s.mgmt.slot s.idleSlot) = false →
          exec (.packageActivate c tok) s = .next (s.spent.answered Code.packageRejected)) ∧
        (s.pkgOk (s.mgmt.slot s.idleSlot) = true → exec (.packageActivate c tok) s = .next (s.spent.updMgmt (fun m => { m with
          hand := some { key := dkey 0xA010 0x04, val := s.idleSlot.toNat, old := s.dv (dkey 0xA010 0x04)
                         req := some { cls := c, key := dkey 0xA010 0x03, val := some (tokenBytes tok) }
                         began := s.now, eff := 3 } }))))) ∧
    (∀ tok, mayWrite c (dkey 0xA010 0x03) = true → (tokFields tok).op = 7 →
      let g := pkgSection (s.mgmt.slot s.idleSlot) 5
      (∀ u st, s.checkToken tok 7 none none (some (g.getD [])) = (u, st) → st ≠ 0 →
        exec (.gradeRestore c tok) s = .next (u.answered st)) ∧
      (s.Signed tok 7 none none (some (g.getD [])) →
        (g = none ∨ s.pkgOk (s.mgmt.slot s.idleSlot) = false →
          exec (.gradeRestore c tok) s = .next (s.spent.answered Code.packageRejected)) ∧
        (g ≠ none → s.pkgOk (s.mgmt.slot s.idleSlot) = true → exec (.gradeRestore c tok) s = .next (s.spent.updMgmt (fun m => { m with
          hand := some { key := 0, val := 0, began := s.now, signed := g
                         req := some { cls := c, key := dkey 0xA010 0x03, val := some (tokenBytes tok) } } }))))))

/-- O36. R54, R55, R57, R58, R59: the debug rows under authority, on one group in run mode. A halt asks the group to halt, a resume lets
it run on past its breakpoint, its watchdog having paused; a step runs one instruction (here a NOP) and halts it again; a read gives a
register, the predicates or 128 B of the group's local store, a write sets them; a breakpoint entry takes its value. R54, Table 17.3:
every debug row without authority refuses with DEBUG_DENIED and leaves its record, which names the target, the action and the requester;
nothing else happens. -/
def Obligations.Debugging : Prop :=
  (∀ (s : State) (c : Cls) (gr : Group), s.Serves → dbgScope s.dbgTarget = 0 → bitAt s.dbgTarget 61 = false → s.dbgAllowed = true →
    s.dbgGroup = some gr →
    let x := dbgCtx s.dbgTarget
    let n := dbgCore s.dbgTarget
    let k := dbgSlot s.dbgTarget
    let at' := fun (t : State) => mapFind (t.img x n).groups k
    let rest := fun (t : State) => ∀ j, j ≠ k → (∀ o, mapFind (s.img x n).groups j = some o → o.halt.frozen = false) →
      mapFind (t.img x n).groups j = mapFind (s.img x n).groups j
    (mayWrite c (dkey 0x4020 0x02) = true →
      (gr.halt.halted = false → ∃ (t : State) (o : Group), exec (.dbgHalt c) s = .next (t.answered 0) ∧ at' t = some o ∧
        o = { gr with halt := o.halt } ∧ o.halt.req = true ∧ o.halt.halted = false ∧ rest t ∧ t.mem = s.mem ∧
        t.dv (dkey 0x4020 0x02) = 1) ∧
      (gr.halt.halted = true → gr.halt.frozen = false → ∃ t : State, exec (.dbgResume c) s = .next (t.answered 0) ∧
        at' t = some { gr with halt := { skip := true }, wdog := gr.wdog + (s.now - gr.halt.since) } ∧ rest t ∧ t.mem = s.mem ∧
        t.dv (dkey 0x4020 0x02) = 2) ∧
      (∀ p a, gr.halt.halted = true → gr.run = some p → gr.wait = .none → gr.clearAt p p.next = true → s.liveCtx n = some x → n < 576 →
        p.pc % 16 = 0 → s.fetchAt x p.pc = some a → s.region a = .near → cellsRead s.mem a 16 = List.replicate 16 0 →
        (∀ r ∈ s.reqs, r.id < s.nextId) →
        ∃ (t : State) (o : Group), exec (.dbgStep c) s = .next (t.answered 0) ∧ at' t = some o ∧
          o.run = some { p with pc := p.next, retry := false } ∧ o.halt.halted = true ∧ o.halt.cause = 5 ∧ o.regs = gr.regs ∧
          o.preds = gr.preds ∧ rest t ∧ t.mem = s.mem) ∧
      (gr.halt.halted = false → ∃ t : State, exec (.dbgStep c) s = .next (t.answered Code.debugDenied) ∧ t.images = s.images)) ∧
    (mayRead c (dkey 0x4021 0x02) = true →
      (gr.halt.halted = false → ∃ t : State, exec (.dbgDataRead c) s = .next (t.answered Code.debugDenied) ∧ t.images = s.images) ∧
      (gr.halt.halted = true →
        let q := s.dv (dkey 0x4021 0x01)
        (bits q 30 2 = 0 → bits q 0 14 ≤ gr.nregs → ∃ (t : State) (bs : List Byte),
          exec (.dbgDataRead c) s = .next ((t.answered 0).emit (.bytes "value" bs)) ∧ t.images = s.images ∧ bs.length = 128 ∧
          ∀ l < 32, leNat ((bs.drop (4 * l)).take 4) = (gr.reg (bits q 0 14) l).toNat) ∧
        (bits q 30 2 = 1 → ∃ (t : State) (bs : List Byte),
          exec (.dbgDataRead c) s = .next ((t.answered 0).emit (.bytes "value" bs)) ∧ t.images = s.images ∧ bs.length = 128 ∧
          ∀ l < 32, ∀ p < 8, (bs.getD l 0).getLsbD p = (gr.pred p).getLsbD l) ∧
        (bits q 30 2 = 2 → ∀ a, s.dbgLocal (bits q 0 14) = some a → ∃ t : State,
          exec (.dbgDataRead c) s = .next ((t.answered 0).emit (.bytes "value" (cellsRead (s.img x n).ls a 128))) ∧
          t.images = s.images))) ∧
    (∀ v, mayWrite c (dkey 0x4021 0x02) = true → v.length = 128 →
      (gr.halt.halted = false → ∃ t : State, exec (.dbgDataWrite c v) s = .next (t.answered Code.debugDenied) ∧ t.images = s.images) ∧
      (gr.halt.halted = true →
        let q := s.dv (dkey 0x4021 0x01)
        (bits q 30 2 = 0 → bits q 0 14 ≤ gr.nregs → ∃ (t : State) (o : Group),
          exec (.dbgDataWrite c v) s = .next (t.answered 0) ∧ at' t = some o ∧ o = { gr with regs := o.regs } ∧ rest t ∧
          ∀ r, ∀ l < 32, o.reg r l = if r = bits q 0 14 ∧ r ≠ 0 then BitVec.ofNat 32 (leNat ((v.drop (4 * l)).take 4)) else gr.reg r l) ∧
        (bits q 30 2 = 1 → ∃ (t : State) (o : Group),
          exec (.dbgDataWrite c v) s = .next (t.answered 0) ∧ at' t = some o ∧ o = { gr with preds := o.preds } ∧ rest t ∧
          ∀ p, 1 ≤ p → p < 8 → ∀ l < 32, (o.pred p).getLsbD l = (v.getD l 0).getLsbD p) ∧
        (bits q 30 2 = 2 → ∀ a, s.dbgLocal (bits q 0 14) = some a → ∃ t : State,
          exec (.dbgDataWrite c v) s = .next (t.answered 0) ∧ (t.img x n).groups = (s.img x n).groups ∧
          ∀ b, mapGet (0 : Byte) (t.img x n).ls b = if a ≤ b ∧ b < a + 128 then v.getD (b - a) 0 else mapGet (0 : Byte) (s.img x n).ls b))) ∧
    (∀ sub (v : BitVec 64), 1 ≤ sub → sub ≤ 0x18 → mayWrite c (dkey 0x4022 sub) = true →
      let ctl := 9 ≤ sub ∧ sub ≤ 0x14
      let m := if ctl then v.toNat % 2 ^ 32 else v.toNat
      (s.bpBad sub m = true → ∃ t : State, exec (.breakpointWrite c sub v) s = .next (t.answered Code.entryRange) ∧
        t.images = s.images ∧ ∀ y, 1 ≤ y → y ≤ 0x18 → t.dv (dkey 0x4022 y) = s.dv (dkey 0x4022 y)) ∧
      (s.bpBad sub m = false → ∃ t : State, exec (.breakpointWrite c sub v) s = .next (t.answered 0) ∧ t.images = s.images ∧
        (∀ y, 1 ≤ y → y ≤ 0x18 → t.dv (dkey 0x4022 y) = if y = sub then bpClean sub m else s.dv (dkey 0x4022 y)) ∧
        (ctl → mapGet 4096 t.dbg.bpCtx (sub - 9) = x)))) ∧
  (∀ (s u : State) (c : Cls) (i : Instr) (n addr : Nat), s.Serves → dbgScope s.dbgTarget ≠ 3 → s.dbgAllowed = false →
    (mayWrite c (dkey 0x4020 0x02) = true ∧ u = s.setDv (dkey 0x4020 0x02) n ∧ addr = 0 ∧
        ((i = .dbgHalt c ∧ n = 1) ∨ (i = .dbgResume c ∧ n = 2) ∨ (i = .dbgStep c ∧ n = 3))) ∨
      (mayRead c (dkey 0x4021 0x02) = true ∧ u = s ∧ addr = 0 ∧ i = .dbgDataRead c ∧ n = 4) ∨
      (mayWrite c (dkey 0x4021 0x02) = true ∧ u = s ∧ addr = 0 ∧ n = 5 ∧ ∃ v, v.length = 128 ∧ i = .dbgDataWrite c v) ∨
      (u = s ∧ n = 6 ∧ ∃ (sub : Nat) (v : BitVec 64), 1 ≤ sub ∧ sub ≤ 8 ∧ mayWrite c (dkey 0x4022 sub) = true ∧
        i = .breakpointWrite c sub v ∧ addr = v.toNat) →
    exec i s = .next ((u.raiseCore Ev.debugAction (s.physAny (dbgCore s.dbgTarget)) Code.debugDenied addr (n + 2 ^ 63)
      (dbgCtx s.dbgTarget) (clsBit c + 2 ^ 32 * clsSession c)).answered Code.debugDenied))

/-! Memory. -/

/-- O37. R199 to R201, R293, R450: a queue serves, round-robin among the sources of its entries, the source next after the one served
last, and of one source the oldest entry; a bank first one that 32 services have gone by. The block is read or written at its place; when
it was the last of a request of a core the request is done with what it read. In the near tier corrected words are counted, and a request
whose words are lost fails with UNCORRECTABLE and does nothing (log 80). An atomic unit then holds the block, and gives back an idle one.
-/
def Obligations.QueueService : Prop :=
  ∀ (s : State) (e : QEnt) (r : Req), s.running = true →
    (∀ (stack : Fin 16) (ch : Fin 32) (pc : Fin 2) (bank : Nat), bank < 65536 → (stackOf s stack.val).tripped = false →
      let k := qBank { stack := stack.val, ch := ch.val, pc := pc.val, bank := bank, block := 0 }
      s.nextServed k = some (e, r) →
      exec (.hbmBankService stack ch pc bank) s = .next (((s.serves k e r).servePart r.id e.part).goOn r) ∧
      (∀ n o, r.src = .core n → r.walk = [] → r.win = false → r.got = [] → r.st = 0 → blocksOf r = [e.part] → gOffset r.addr = o →
        s.region e.part = .hbm → mapFind s.side (e.part / 64) = none → (∀ x ∈ s.side, x.1 ≠ e.part / 64) → e.part % 64 = 0 →
        (∀ m, r.op = .rd m → ∃ (t : State) (x : Req), exec (.hbmBankService stack ch pc bank) s = .next (t.pump r.ctx n) ∧
          t.req? r.id = some x ∧ x.ph = .done ∧ x.st = 0 ∧ x.res = cellsRead s.mem o m ∧ t.mem = s.mem ∧ t.images = s.images) ∧
        (∀ cs, r.op = .wr cs → ∃ (t : State) (x : Req), exec (.hbmBankService stack ch pc bank) s = .next (t.pump r.ctx n) ∧
          t.req? r.id = some x ∧ x.ph = .done ∧ x.st = 0 ∧ t.mem = cellsPut s.mem (cs.map (fun c => (o + c.1, c.2))) ∧
          t.images = s.images))) ∧
    (∀ (die : Fin 8) (group : Fin 16) (ecc : Ecc), s.pwr.domRet.contains (720 + 16 * die.val + group.val) = false →
      let k := qNear die.val group.val
      s.nextServed k = some (e, r) →
      let t := s.sramFixed ecc.fixed
      (ecc.lost = false → exec (.nearBankService die group ecc) s = .next (((t.serves k e r).servePart r.id e.part).goOn r)) ∧
      (ecc.lost = true → exec (.nearBankService die group ecc) s =
        .next ((((t.nearLost die.val group.val).serves k e r).servePart r.id e.part true).goOn r)) ∧
      (∀ n, r.src = .core n → r.walk = [] → r.win = false → r.got = [] → r.st = 0 → blocksOf r = [e.part] →
        s.region e.part = .near →
        (∀ m, ecc.lost = false → r.op = .rd m → ∃ (u : State) (x : Req), exec (.nearBankService die group ecc) s = .next (u.pump r.ctx n) ∧
          u.req? r.id = some x ∧ x.ph = .done ∧ x.st = 0 ∧ x.res = cellsRead s.mem (gOffset r.addr) m ∧ u.mem = s.mem) ∧
        (∀ cs, ecc.lost = false → r.op = .wr cs → ∃ (u : State) (x : Req),
          exec (.nearBankService die group ecc) s = .next (u.pump r.ctx n) ∧ u.req? r.id = some x ∧ x.ph = .done ∧ x.st = 0 ∧
          u.mem = cellsPut s.mem (cs.map (fun c => (gOffset r.addr + c.1, c.2)))) ∧
        (ecc.lost = true → ∃ (u : State) (x : Req), exec (.nearBankService die group ecc) s = .next (u.pump r.ctx n) ∧
          u.req? r.id = some x ∧ x.ph = .done ∧ x.st = Code.uncorrectable ∧ x.res = [] ∧ u.mem = s.mem))) ∧
    (∀ unit : Fin 144, s.nextServed (qUnit unit.val) = some (e, r) →
      ∃ (u : AUnit) (t : State), t = ({ s with aunits := mapSet {} s.aunits unit.val u } : State).count (dkey 0x5030 0x08) ∧
        u.held.length ≤ 16 ∧ u.held.head? = some (gOffset r.addr / 64, s.now) ∧
        (∀ b ∈ u.held, b = (gOffset r.addr / 64, s.now) ∨ b ∈ (mapGet {} s.aunits unit.val).held) ∧
        exec (.atomicUnitOp unit) s = .next (((t.serves (qUnit unit.val) e r).servePart r.id e.part).goOn r) ∧
        (∀ n a typ v w ret, r.src = .core n → r.walk = [] → r.win = false → r.got = [] → r.st = 0 → r.op = .at a typ v w ret →
          s.region (gOffset r.addr) = .near →
          ∃ (y : State) (x : Req), exec (.atomicUnitOp unit) s = .next (y.pump r.ctx n) ∧
            let old := cellsRead s.mem (gOffset r.addr) (typBytes typ)
            y.req? r.id = some x ∧ x.ph = .done ∧ x.st = 0 ∧ x.res = old ∧
            y.mem = cellsPut s.mem (zipFrom (gOffset r.addr) (leBytes (typBytes typ) (atomNew a typ (leNat old) v w))))) ∧
    (∀ (unit : Fin 144) (block : Nat), ∃ u : AUnit,
      (∀ b, b ∈ u.held ↔ b ∈ (mapGet {} s.aunits unit.val).held ∧ ¬ (b.1 = block ∧ b.2 + 1000 ≤ s.now)) ∧
      exec (.atomicBlockWriteback unit block) s = .next { s with aunits := mapSet {} s.aunits unit.val u }) ∧
    (∀ k, s.nextServed k = some (e, r) →
      let b := s.bank k
      let es := s.entries k
      let num := fun (x : QEnt × Req) => s.srcAt k x.2.src
      (e, r) ∈ es ∧
      (2 ^ 40 ≤ k →
        ((num (e, r) > b.lastSrv ∧ ∀ x ∈ es, num x > b.lastSrv → num (e, r) ≤ num x) ∨
         (∀ x ∈ es, num x ≤ b.lastSrv ∧ num (e, r) ≤ num x)) ∧
        es.find? (fun x => num x == num (e, r)) = some (e, r)) ∧
      (k < 2 ^ 40 → ∀ x rest, es = x :: rest → x.1.came + 32 ≤ b.served + 1 → (e, r) = x))

/-- O38. R212, R215, R216, R293: what the service of one block of a request does: a read gives the block's bytes, a write changes its
bytes and no other, an atomic gives the old word and leaves the new; a block with one wrong symbol reads corrected and is written back; an
uncorrectable or poisoned block fails a read and a partial write with UNCORRECTABLE and keeps its bytes; a write of all of it makes it
good. A request is done with its last block, and not before. -/
def Obligations.AppliedRequests : Prop :=
  ∀ (s : State) (r : Req) (p : Nat), s.req? r.id = some r → r.win = false → r.walk = [] → r.st = 0 → r.ph ≠ .done →
    let o := gOffset r.addr
    let t := s.servePart r.id p
    let ends := fun (st : Status) (res : List Byte) => ∃ x, t.req? r.id = some x ∧ x.ph = .done ∧ x.st = st ∧ x.res = res
    let bytes := cellsRead s.mem (64 * (p / 64)) 64
    (∀ q ∈ blocksOf r, q ≠ p → mapFind r.got q = none → ∃ x, t.req? r.id = some x ∧ x.ph = r.ph) ∧
    (blocksOf r = [p] → r.got = [] →
      (∀ n, r.op = .rd n →
        (s.region p = .near ∨ (s.region p = .hbm ∧ p % 64 = 0 ∧ ∀ e ∈ s.side, e.1 ≠ p / 64) →
          ends 0 (cellsRead s.mem o n) ∧ t.mem = s.mem ∧ t.side = s.side) ∧
        (∀ w, s.region p = .hbm → p % 64 = 0 → s.side.filter (fun e => e.1 == p / 64) = [(p / 64, w)] → mapFind s.side (p / 64) = some w →
          (∀ d tag, decodeBlock bytes w = .fixed d tag →
            t.mem = cellsWrite s.mem p d ∧ t.side = mapErase s.side (p / 64) ∧ ends 0 (cellsRead t.mem o n)) ∧
          (decodeBlock bytes w = .poison ∨ decodeBlock bytes w = .lost → t.mem = s.mem ∧ ends Code.uncorrectable []))) ∧
      (∀ cs, r.op = .wr cs → p % 64 = 0 →
        (s.region p = .near ∨ (s.region p = .hbm ∧ (64 ≤ cs.length ∨ mapFind s.side (p / 64) = none)) →
          ends 0 [] ∧ t.mem = cellsPut s.mem (cs.map (fun c => (o + c.1, c.2))) ∧
          (∀ a, (∀ c ∈ cs, o + c.1 ≠ a) → mapGet (0 : Byte) t.mem a = mapGet (0 : Byte) s.mem a) ∧
          (s.region p = .hbm → mapFind t.side (p / 64) = none)) ∧
        (∀ w, s.region p = .hbm → cs.length < 64 → mapFind s.side (p / 64) = some w →
          (decodeBlock bytes w = .poison ∨ decodeBlock bytes w = .lost) → t.mem = s.mem ∧ ends Code.uncorrectable [])) ∧
      (∀ a typ v w ret, r.op = .at a typ v w ret → (s.region o = .near ∨ (s.region o = .hbm ∧ s.side = [])) →
        let old := cellsRead s.mem o (typBytes typ)
        t.mem = cellsPut s.mem (zipFrom o (leBytes (typBytes typ) (atomNew a typ (leNat old) v w))) ∧ ends 0 old) ∧
      (∀ v, r.op = .flag v → (s.region o = .near ∨ (s.region o = .hbm ∧ s.side = [])) →
        t.mem = cellsPut s.mem (zipFrom o (leBytes 4 v)) ∧ ends 0 []))

/-- O39. R217 to R219, R222: refreshes and on-die counts are counted; a command-address parity error is counted and the limit within 1 s
queues the channel's map-out; the scrub asks for the next block of a pseudo-channel, and passes by a poisoned one. R220, R221: a stack's
temperature sets its refresh step, and at 110 °C the stack trips: the device's thermal trip follows. R224, R225, R229: a channel map-out
goes step by step: it waits for what its controllers had admitted, commits the map to the journal, moves the pages that reach into the
removed rows, and brings the map into force: the slot is out of service, every byte below the removed rows is kept, the rows are gone, and
the next slot of the queue has its turn. -/
def Obligations.StackUpkeep : Prop :=
  (∀ (s : State) (stack : Fin 16) (ch : Fin 32) (pc : Fin 2), s.running = true →
    (∀ bank, bank < 65536 → (stackOf s stack.val).tripped = false →
      let k := qBank { stack := stack.val, ch := ch.val, pc := pc.val, bank := bank, block := 0 }
      ∃ m, exec (.hbmRefresh stack ch pc bank) s = .next { s with banks := m } ∧ m = mapSet {} s.banks k (mapGet {} m k) ∧
        mapGet {} m k = { mapGet ({} : BankQ) s.banks k with refresh := (mapGet ({} : BankQ) s.banks k).refresh + 1 }) ∧
    (∀ n, exec (.ondieEccPoll stack n) s = .next (s.count (dkey 0x3011 0x03) n)) ∧
    (let l := ((stackOf (s.count (dkey 0x3011 0x05)) stack.val).parity.filter (fun e => decide (s.now < e.2 + 1000000000))) ++ [(ch.val, s.now)]
     let t := (s.count (dkey 0x3011 0x05)).updStack stack.val (fun k => { k with parity := l })
     let slot := 16 * ch.val + stack.val
     ((l.filter (fun e => e.1 == ch.val)).length < t.dv (dkey 0x3014 0x01) → exec (.caParityError stack ch) s = .next t) ∧
     (t.dv (dkey 0x3014 0x01) ≤ (l.filter (fun e => e.1 == ch.val)).length → bitAt t.outSet slot = false →
       slot ∉ t.hbm.mapout.queue →
       exec (.caParityError stack ch) s = .next { t with hbm := { t.hbm with mapout := {
         queue := t.hbm.mapout.queue ++ [slot], step := if t.hbm.mapout.step = 0 then 1 else t.hbm.mapout.step } } })) ∧
    (let k := (stack.val * 32 + ch.val) * 2 + pc.val
     let n := mapGet 0 s.hbm.scrub k
     let t : State := { s with hbm := { s.hbm with scrub := mapSet 0 s.hbm.scrub k (n + 1) } }
     (stackOf s stack.val).tripped = false → bitAt s.outSet (16 * ch.val + stack.val) = false → s.stopped.2.contains stack.val = false →
     (16 * ch.val + stack.val) ∉ s.hbm.mapout.queue →
     (∀ r ∈ s.reqs, ¬ (r.src = .firmware ∧ r.xfer = 0 ∧ r.gidx = k + 1)) →
     (n ≠ 2 ^ 25 →
       (∀ o, s.offsetAt stack.val ch.val pc.val n = some o → s.poisoned (o / 64) = true → exec (.scrubRead stack ch pc) s = .next t) ∧
       (∀ o, s.offsetAt stack.val ch.val pc.val n = some o → s.poisoned (o / 64) = false →
         exec (.scrubRead stack ch pc) s = .next ({ t with
           nextId := s.nextId + 1
           reqs := s.reqs ++ [{ id := s.nextId, src := .firmware, op := .rd 64, addr := mkGlobal s.dev.deviceId o, ph := .slot
                                gidx := k + 1 }] } : State).readmit)) ∧
     (n = 2 ^ 25 → s.scrubOver = false → exec (.scrubRead stack ch pc) s = .next s) ∧
     (n = 2 ^ 25 → s.scrubOver = true →
       exec (.scrubRead stack ch pc) s = .next (({ s with hbm := { s.hbm with scrub := [] } } : State).count (dkey 0x3012 0x02))))) ∧
  (∀ (s : State) (stack : Fin 16) (temp : Int), s.running = true → (stackOf s stack.val).tripped = false →
    (temp < 110 → (stackOf s stack.val).step = 0 →
      let n := if temp ≥ 105 then 3 else if temp ≥ 95 then 2 else if temp ≥ 85 then 1 else 0
      let t := s.updStack stack.val (fun x => { x with temp := temp, step := n })
      exec (.stackTempRead stack temp) s =
        .next (if n ≥ 2 then (t.count (dkey 0x3013 0x03)).raise Ev.refreshStep (32 * stack.val) else t)) ∧
    (110 ≤ temp →
      let u := s.updStack stack.val (fun x => { x with temp := temp, tripped := true })
      ((∀ r ∈ s.reqs, u.admittedTo r (fun o => (u.place o).stack == stack.val) = false) →
        exec (.stackTempRead stack temp) s = .next (u.thermalTrip 2 stack.val (8 + dieOfStack stack.val))) ∧
      ∃ t : State, exec (.stackTempRead stack temp) s = .next t ∧ t.dev.phase = .tripped ∧ t.dev.thermtrip = true ∧
        (stackOf t stack.val).tripped = true)) ∧
  (∀ (s : State) (slot : Nat) (rest : List Nat), s.running = true → s.fencedFlash = false → s.stopped.2.contains (slot % 16) = false →
    s.hbm.mapout.queue = slot :: rest →
    let top := s.hbmBacked - 4 * 2 ^ 30
    let lim := top / granuleBytes
    let at' := fun n => ({ s with hbm := { s.hbm with mapout := { queue := slot :: rest, step := n } } } : State)
    let inRows := fun o => decide (o ≥ top) || s.chanAt o == 32 * (slot % 16) + slot / 16
    (s.hbm.mapout.step = 1 → (∃ r ∈ s.reqs, s.admittedTo r inRows = true) → exec .channelMapout s = .next s) ∧
    (s.hbm.mapout.step = 1 → (∀ r ∈ s.reqs, s.admittedTo r inRows = false) →
      exec .channelMapout s = .next ({ at' 2 with mgmt := { s.mgmt with own := s.mgmt.own ++ [
        { key := dkey 0x3010 0x03, val := s.outSet ||| 2 ^ slot, old := s.outSet, began := s.now, eff := 3, keep := true }] } })) ∧
    (s.hbm.mapout.step = 2 → (∃ w ∈ s.mgmt.own, w.key = dkey 0x3010 0x03) → exec .channelMapout s = .next s) ∧
    (s.hbm.mapout.step = 2 → (∀ w ∈ s.mgmt.own, w.key ≠ dkey 0x3010 0x03) → exec .channelMapout s = .next (at' 3)) ∧
    (s.hbm.mapout.step = 3 → s.tablesIn lim = [] → (∀ r ∈ s.dev.fw, ¬ (lim < r.1 + r.2 ∧ r.1 < 33554432)) →
      (s.pagesIn lim = [] → exec .channelMapout s = .next (at' 4)) ∧
      (∀ c va lf, s.pagesIn lim = [(c, va, lf)] → s.pinned (c, va, lf) = false → s.side = [] →
        let n := leafBytes lf.size / granuleBytes
        (∀ h, s.lowFree n lim (33554432 / n) 0 = some h → ∃ t : State, exec .channelMapout s = .next t ∧ t.hbm.mapout.step = 4 ∧
          (t.ctx c).leaves = (s.ctx c).leaves.map (fun l =>
            if l.1 = va then (l.1, { lf with target := lf.target - gOffset lf.target + h * granuleBytes }) else l) ∧
          t.outSet = s.outSet ∧ t.hbm.mapout.queue = slot :: rest) ∧
        (s.lowFree n lim (33554432 / n) 0 = none → ∃ t : State, exec .channelMapout s = .next t ∧ t.hbm.mapout.step = 4 ∧
          (t.ctx c).leaves = mapErase (s.ctx c).leaves va ∧ t.outSet = s.outSet))) ∧
    (s.hbm.mapout.step = 4 → s.reqs = [] → s.side = [] → s.outCount < 511 → slot < 512 →
      ∃ t : State, exec .channelMapout s = .next t ∧ t.hbm.mapout.queue = rest ∧
        t.hbm.mapout.step = (if rest = [] then 0 else 1) ∧ t.outSet = s.outSet ||| 2 ^ slot ∧
        (∀ a, a < top → mapGet (0 : Byte) t.mem a = mapGet (0 : Byte) s.mem a) ∧
        (∀ a, top ≤ a → a < 2 ^ 41 → mapGet (0 : Byte) t.mem a = 0) ∧
        (∀ a, 2 ^ 41 ≤ a → mapGet (0 : Byte) t.mem a = mapGet (0 : Byte) s.mem a)))

/-! Links. -/

/-- O40. R256, R258, R260, R261, R263, R265, R267, R272, R274, R276: a received flit. One in an uncorrectable codeword or with a wrong CRC
is counted and asks for a replay; a good one counts as received and, on a locked port, acts by its type: DATA only with a good tag and in
sequence, INIT in the exchange, KEYX as one fragment of its message, NULL by its acknowledgement. What the line's decoder corrected
meanwhile is a free count. R258, R266, R267, R271: what a port sends next: the replayed flit, a new one, or NULL where the replay buffer
is full or the link is not active; when ACK has not advanced for ACK_TIMER a replay starts from the oldest flit. -/
def Obligations.Flits : Prop :=
  (∀ (s : State) (port : Fin 18) (f : BitVec 2048), s.running = true → (s.port port.val).ether = false → (s.port port.val).pmd = true →
    let p := port.val
    let x := s.port p
    let t := s.updPort p (fun y => { y with bad := 0, good := y.good + 1, lastRx := s.now })
    let ends := fun (i : Instr) (u : State) => exec i s = .next (u.countFree (dkey (0x5100 + p) 0x01))
    let missed := s.count (dkey (0x5100 + p) 0x02)
    (ends (.dataFlit port f false) (missed.flitFail p true) ∧ ends (.initFlit port f false) (missed.flitFail p false) ∧
     ends (.keyxFlit port f false) (missed.flitFail p false) ∧ ends (.nullFlit port f false) (missed.flitFail p false)) ∧
    (flitCrcOk f = false → ends (.dataFlit port f true) (s.flitFail p true) ∧
      ∃ u : State, exec (.dataFlit port f true) s = .next u ∧ (u.port p).bad = x.bad + 1 ∧ (u.port p).good = 0 ∧
        (x.st = 4 → (u.port p).nak = true) ∧ (7 ≤ x.bad → (u.port p).lock = false) ∧ (x.bad < 7 → (u.port p).lock = x.lock) ∧
        (u.port p).rxX = x.rxX ∧ u.reqs = s.reqs ∧ u.mem = s.mem) ∧
    (flitCrcOk f = true → x.lock = true →
      (flitType f = 0 → x.st = 4 → s.portLow p = false →
        (t.openFlit p f = none → ends (.dataFlit port f true) (t.tagFail p)) ∧
        (∀ plain, t.openFlit p f = some plain →
          (fieldOf f 112 12 ≠ x.rxX % 4096 → ends (.dataFlit port f true)
            ((t.count (dkey (0x5100 + p) 0x05)).updPort p (fun y => { y with nak := true }))) ∧
          (fieldOf f 112 12 = x.rxX % 4096 → ends (.dataFlit port f true) (t.acceptFlit p f plain) ∧
            (∀ d, fieldOf f 79 4 = 0 → badSlots f = false → f.getLsbD 98 = false → x.ackKind (fieldOf f 100 12) (f.getLsbD 99) = .new d →
              (∀ v < 4, mapGet 0 x.credits v + bits (fieldOf f 0 32) (8 * v) 8 ≤ initCredit (x.peerInit.getD 0) v) →
              ∃ u : State, exec (.dataFlit port f true) s = .next u ∧ (u.port p).rxX = x.rxX + 1 ∧ (u.port p).nak = false ∧
                (u.port p).rxEp = fieldOf f 96 2 ∧ (u.port p).replay = x.replay.drop d ∧ (u.port p).ackX = x.ackX + d ∧
                (∀ v < 4, mapGet 0 (u.port p).credits v = mapGet 0 x.credits v + bits (fieldOf f 0 32) (8 * v) 8) ∧
                (u.port p).rx = x.rx ∧ (u.port p).txq = x.txq ∧ u.reqs = s.reqs ∧ u.mem = s.mem)))) ∧
      (flitType f = 1 → x.st = 2 → t.initBad p (fieldOf f 128 1792) = true → ends (.initFlit port f true) (t.attemptFail p)) ∧
      (flitType f = 1 → x.st = 2 → t.initBad p (fieldOf f 128 1792) = false → x.ackvSeen = false → f.getLsbD 99 = false →
        ends (.initFlit port f true) (t.movePort p (fun y => { y with peerInit := some (fieldOf f 128 1792) })) ∧
        ∃ u : State, exec (.initFlit port f true) s = .next u ∧
          u.port p = { t.port p with peerInit := some (fieldOf f 128 1792) }) ∧
      (flitType f = 1 → x.st = 4 → ends (.initFlit port f true) (t.linkDown p .init)) ∧
      (flitType f = 2 → x.st = 3 → ∀ len, len = fieldOf f 152 16 → len ≤ 200 → 1 ≤ fieldOf f 128 8 → fieldOf f 128 8 ≤ 3 →
        fieldOf f 136 8 < fieldOf f 144 8 →
        let frag := (fieldOf f 128 8, fieldOf f 136 8, fieldOf f 144 8, leBytes len (fieldOf f 168 1600))
        ends (.keyxFlit port f true)
          (t.updPort p (fun y => { y with frags := y.frags.filter (fun g => !(g.1 == frag.1 && g.2.1 == frag.2.1)) ++ [frag] }))) ∧
      (flitType f = 3 → x.st = 4 → f.getLsbD 98 = false → ∀ d, x.ackKind (fieldOf f 100 12) (f.getLsbD 99) = .new d →
        ends (.nullFlit port f true) (t.updPort p (fun y => y.acked d s.now)) ∧
        (x.acked d s.now).replay = x.replay.drop d ∧ (x.acked d s.now).ackX = x.ackX + d) ∧
      (flitType f = 3 → x.st = 4 → x.ackKind (fieldOf f 100 12) (f.getLsbD 99) = .never →
        ends (.nullFlit port f true) (t.linkDown p .protocol)))) ∧
  (∀ (s : State) (port : Fin 18), s.running = true → (s.port port.val).ether = false →
    let p := port.val
    let x := s.port p
    (x.pmd = true → x.st ≠ 4 ∨ s.portLow p = true → exec (.flitSend port) s = .next (s.emitFlit p x.nullFlit)) ∧
    (x.pmd = true → x.st = 4 → s.portLow p = false →
      (∀ c f, x.cursor = some c → x.replay[c]? = some f →
        exec (.flitSend port) s =
          .next ((s.updPort p (fun y => { y with cursor := if c + 1 < y.replay.length then some (c + 1) else none })).emitFlit p f)) ∧
      (x.cursor = none → 2048 ≤ x.replay.length → exec (.flitSend port) s = .next (s.emitFlit p x.nullFlit)) ∧
      (∀ k, x.cursor = none → x.replay.length < 2048 → x.txq = [] → x.newEp = none → mapFind x.txKeys x.txEp = some k →
        ∃ (t : State) (f : BitVec 2048), exec (.flitSend port) s = .next t ∧ t.out = s.out ++ [.flit p f] ∧
          (t.port p).replay = x.replay ++ [f] ∧ (t.port p).txX = x.txX + 1 ∧ (t.port p).txq = [] ∧ (t.port p).rxX = x.rxX ∧ t.reqs = s.reqs)) ∧
    (let since := max x.ackAt ((x.lastRep.map Prod.snd).getD 0)
     x.st = 4 → x.replay ≠ [] →
      (since + 1000 * s.dv (dkey 0x5010 0x01) ≤ s.now → x.repRun + 1 < s.dv (dkey 0x5010 0x03) →
        exec (.ackTimerExpiry port) s = .next ((s.count (dkey (0x5100 + p) 0x06)).updPort p (fun y => { y with
          cursor := some 0, lastRep := some (if x.ackX = 0 then 4096 else (x.ackX - 1) % 4096, s.now), repRun := x.repRun + 1 }))) ∧
      (s.now < since + 1000 * s.dv (dkey 0x5010 0x01) → exec (.ackTimerExpiry port) s = .next s)))

/-- O41. R268: REPLAYS counts the replays started since ACK last advanced; at REPLAY_LIMIT, 1,024 by default, the link goes down. -/
def Obligations.ReplayLimit : Prop :=
  dictDefault (dkey 0x5010 0x03) = 1024 ∧
  (∀ (x : Port) (d now : Nat), d ≠ 0 → (x.acked d now).repRun = 0) ∧
  ∀ (s : State) (p ack : Nat),
    let limit := s.dv (dkey 0x5010 0x03)
    let n := (s.port p).repRun + 1
    let u := (s.count (dkey (0x5100 + p) 0x06)).updPort p (fun x => { x with cursor := some 0, lastRep := some (ack, s.now), repRun := n })
    (n < limit → s.startReplay p ack = u ∧ (u.port p).repRun = n) ∧
    (limit ≤ n → s.startReplay p ack = u.linkDown p .replayLimit)

/-- O42. R253, R256, R272, R276, R277: the events of a port's bring-up and of its end, each timer acting once its time has passed. An
attempt that fails waits to retry; a link that goes down keeps no key, credit, replay or packet. -/
def Obligations.PortEvents : Prop :=
  ∀ (s : State) (port : Fin 18), s.running = true →
    let p := port.val
    let x := s.port p
    let empty := fun (y : Port) => y.txKeys = [] ∧ y.rxKeys = [] ∧ y.salts = [] ∧ y.ctxKeys = [] ∧ y.credits = [] ∧ y.replay = [] ∧
      y.txq = [] ∧ y.rx = [] ∧ y.peerInit = none
    let fails := fun (i : Instr) => exec i s = .next (s.attemptFail p) ∧
      ∃ t : State, exec i s = .next t ∧ (t.port p).st = 5 ∧ (t.port p).began = s.now ∧ empty (t.port p) ∧ t.mem = s.mem
    let downs := fun (i : Instr) (c : DownCause) => exec i s = .next (s.linkDown p c) ∧
      ∃ t : State, exec i s = .next t ∧ (t.port p).st = (if s.portMode p = 0 then 0 else 5) ∧ empty (t.port p)
    (x.st = 5 → s.portMode p ≠ 0 → x.began + 1000000 * s.dv (dkey 0x5010 0x06) ≤ s.now → exec (.retrainIntervalExpiry port) s =
      .next (s.movePort p (fun y => { st := 1, ether := s.portMode p == 2, began := s.now, downAt := y.downAt }))) ∧
    (x.st = 1 → x.pmd = false →
      (x.ether = false → exec (.pmdTrainingDone port) s = .next (s.movePort p (fun y => { y with pmd := true, st := 1 }))) ∧
      (x.ether = true → ∃ t : State, exec (.pmdTrainingDone port) s = .next t ∧ t.port p = { x with pmd := true, st := 4 } ∧
        t = ((s.movePort p (fun y => { y with pmd := true, st := 4 })).moveStreams.sendOff))) ∧
    (∀ lim, (x.st = 1 ∧ x.pmd = false ∧ lim = 1000) ∨ (x.st = 1 ∧ x.pmd = true ∧ lim = 1001) ∨ (x.st = 2 ∧ lim = 1002) ∨
        (x.st = 3 ∧ lim = 1012) →
      (x.began + 1000000 * lim ≤ s.now → fails (.bringupStepTimeout port)) ∧
      (s.now < x.began + 1000000 * lim → exec (.bringupStepTimeout port) s = .next s) ∧
      ∀ lane, fails (.laneSignalLoss port lane)) ∧
    (x.st = 2 → x.sentAt + 1000 ≤ s.now → exec (.initResend port) s = .next (s.sendInit p) ∧
      (s.sendInit p).out = s.out ++ [.flit p (sealFlit (flitHeader 1 0 0 x.peerInit.isSome false 0 0) x.ourInit 0)] ∧
      (s.sendInit p).port p = { x with sentAt := s.now }) ∧
    (x.st = 4 → ∀ lane, downs (.laneSignalLoss port lane) .signal) ∧
    (x.st = 4 → x.ether = false →
      let n := 1000 * s.dv (dkey 0x5010 0x02)
      ((x.lock = false ∧ x.lostAt + n ≤ s.now) ∨ x.lastRx + n ≤ s.now → downs (.rxSilenceExpiry port) .silence) ∧
      ((x.lock = true ∨ s.now < x.lostAt + n) → s.now < x.lastRx + n → exec (.rxSilenceExpiry port) s = .next s)) ∧
    (∀ t0, x.closing = some t0 →
      (t0 + 20000 ≤ s.now → exec (.portDisableWaitExpiry port) s = .next ((s.linkDown p .disabled).portAttempt p) ∧
        ∃ t : State, exec (.portDisableWaitExpiry port) s = .next t ∧ (t.port p).st = (if s.portMode p = 0 then 0 else 1) ∧
          empty (t.port p)) ∧
      (s.now < t0 + 20000 → exec (.portDisableWaitExpiry port) s = .next s)) ∧
    (∀ c st, empty ((s.linkDown p c).port p) ∧ empty ((s.attemptFail p st).port p))

/-- O43. R274, R275, R375: the key exchange of a link, its rekey, and the keys of contexts. What a certificate or a signature proves is
uninterpreted (log 7), so the outcome of each check stands in the statement. -/
def Obligations.KeyExchange : Prop :=
  ∀ (s : State) (port : Fin 18), s.running = true → (s.port port.val).ether = false →
    let p := port.val
    let x := s.port p
    (∀ m, x.st = 3 → x.message 1 = some m → x.peerHello = [] →
      let t := s.updPort p (fun y => y.dropMessage 1)
      (m.length = 129 → ∃ u : State, exec (.hello port) s = .next u ∧ u.out = s.out ++ (keyxFrags 2 s.idChain).map (Out.flit p) ∧
        u.port p = { x.dropMessage 1 with peerHello := m, sentAt := s.now } ∧
        u = (t.updPort p (fun y => { y with peerHello := m })).sendKeyx p 2 t.idChain) ∧
      (m.length ≠ 129 → exec (.hello port) s = .next (t.attemptFail p))) ∧
    (∀ m, x.st = 3 → x.peerHello ≠ [] → x.message 2 = some m → x.chain = [] →
      let t := s.updPort p (fun y => y.dropMessage 2)
      let leaf := Config.chainLeafKey
          (if initNode (x.peerInit.getD 0) then leBytes 97 (t.dv (dkey 0x6001 0x02)) else Config.rootAnchor) m
      (leaf = none → exec (.cert port) s = .next (t.attemptFail p)) ∧
      (∀ k, leaf = some k →
        let u := t.updPort p (fun y => { y with chain := m, peerKey := k })
        exec (.cert port) s = .next (u.sendKeyx p 3 (finishBytes (u.linkT p))))) ∧
    (∀ m, x.st = 3 → x.chain ≠ [] → x.message 3 = some m →
      let good := m.length = 96 ∧ Config.ecdsaVerify x.peerKey (s.linkT p) (BitVec.ofNat 768 (leNat m.reverse)) = true
      let keys := linkKeys (s.sideL p) x.eph x.peerHello (s.linkT p)
      (¬good ∨ keys = none → exec (.finish port) s = .next (s.attemptFail p)) ∧
      (∀ tx rx, good → keys = some (tx, rx) → exec (.finish port) s =
          .next ((s.updPort p (fun y => y.dropMessage 3)).activate p (s.linkT p) tx rx) ∧
        ∃ t : State, exec (.finish port) s = .next t ∧ (t.port p).st = 4 ∧ (t.port p).txKeys = [(0, tx)] ∧ (t.port p).rxKeys = [(0, rx)] ∧
          (t.port p).salts = [(0, s.linkT p)] ∧ (t.port p).eph = 0 ∧
          ∀ v < 4, mapGet 0 (t.port p).credits v = initCredit (x.peerInit.getD 0) v)) ∧
    (x.sentAt + 10000 ≤ s.now →
      (x.st = 3 → x.chain = [] → x.peerHello = [] → exec (.keyxResend port) s = .next (s.sendKeyx p 1 x.hello)) ∧
      (x.st = 3 → x.chain = [] → x.peerHello ≠ [] →
        exec (.keyxResend port) s = .next ((s.sendKeyx p 1 x.hello).sendKeyx p 2 s.idChain)) ∧
      (x.st = 3 → x.chain ≠ [] → x.peerHello ≠ [] →
        exec (.keyxResend port) s = .next ((s.sendKeyx p 2 s.idChain).sendKeyx p 3 (finishBytes (s.linkT p)))) ∧
      (x.st = 4 → x.rxX = 0 → exec (.keyxResend port) s = .next (s.sendKeyx p 3 (finishBytes ((mapFind x.salts 0).getD 0))))) ∧
    (∀ typ msg, (s.sendKeyx p typ msg).out = s.out ++ (keyxFrags typ msg).map (Out.flit p) ∧
      (s.sendKeyx p typ msg).port p = { x with sentAt := s.now }) ∧
    (x.st = 4 → x.rk = none → x.newEp = none →
      2 ^ s.dv (dkey 0x5010 0x04) ≤ x.flits ∨ 2 ^ s.dv (dkey 0x5010 0x04) ≤ x.flitsRx ∨ x.rekeyed + 86400000000000 ≤ s.now ∨
        x.rkDue = true →
      ∃ (t : State) (k : Rekey), exec (.rekeyStart port) s = .next t ∧ (t.port p).rk = some k ∧ k.began = s.now ∧ k.finSent = false ∧
        k.hello.length = 129 ∧ (t.port p).txq = x.txq ++ [mgmtPkt 1 k.hello] ∧ (t.port p).rkDue = false ∧ (t.port p).txKeys = x.txKeys) ∧
    (∀ k, x.st = 4 → x.rk = some k →
      (k.began + 10000000 ≤ s.now → ∃ t : State, exec (.rekeyTimeout port) s = .next t ∧ t = s.linkDown p .rekey ∧
        (t.port p).st = (if s.portMode p = 0 then 0 else 5) ∧ (t.port p).txKeys = [] ∧ (t.port p).rxKeys = []) ∧
      (s.now < k.began + 10000000 → exec (.rekeyTimeout port) s = .next s)) ∧
    (∀ (ctx : Fin 4096) (v : BitVec 128), x.st = 4 → x.rx = [] →
      let t := s.updPort p (fun y => { y with offers := mapInsert (mapErase y.offers ctx.val) ctx.val v })
      let u := t.updPort p (fun y => { y with offers := mapErase y.offers ctx.val })
      (s.ctxCheck p ctx.val = none → exec (.ctxkeyOffer port ctx v) s = .next t) ∧
      (s.ctxCheck p ctx.val = some v →
        exec (.ctxkeyOffer port ctx v) s = .next (u.updPort p (fun y => { y with ctxKeys := insNat ctx.val y.ctxKeys }))) ∧
      (∀ own, s.ctxCheck p ctx.val = some own → v ≠ own → exec (.ctxkeyOffer port ctx v) s = .next (u.count (dkey 0x6004 0x03)))) ∧
    (∀ sidx (dev : Fin 64) (fl : Flow) q, mapFind s.flows (flowKey sidx dev.val) = some fl → s.flowPort sidx dev.val = some q → fl.port ≠ q →
      s.flowBusy sidx dev.val = false → (s.port fl.port).downAt = 0 ∨ (s.port fl.port).downAt + 20000 ≤ s.now + 1 →
      let moved := mapInsert (mapErase s.flows (flowKey sidx dev.val)) (flowKey sidx dev.val) { port := q }
      exec (.flowMove sidx dev) s = .next ({ s with flows := moved } : State).sendAway ∧
      ((∀ r ∈ s.reqs, r.ph ≠ .slot) → exec (.flowMove sidx dev) s = .next { s with flows := moved }))

/-- O44. R283 to R289: a request packet leaves the receive buffer; a malformed one, one for an address without a requester, and one for a
page its context does not own, is answered at once with ACCESS_DENIED; one that passes waits for acceptance with all its fields. R290 to
R296: acceptance takes source devices in turn and the oldest request of one that may enter its queue; 4 µs after its acceptance a request
is answered with REMOTE_TIMEOUT; a hold goes to a device whose request has waited for 4 µs, and restarts the timers of the requests to the
device that sends it; a requester that hears nothing for the REQ_TIMEOUT of its flit fails its request. A response ends the request it
answers. -/
def Obligations.RemoteRequests : Prop :=
  (∀ (s t : State) (port : Fin 18) (k : RxPkt) (typ : Nat) (i : Instr), s.running = true →
    (typ, i) ∈ [(0x0, Instr.pktRd port), (0x1, .pktWr port), (0x2, .pktWrm port), (0x3, .pktAtom port), (0x4, .pktRed port),
      (0x5, .pktFlag port)] →
    s.takePkt port.val typ = some (t, k) →
    let p := port.val
    let h := k.slots.headD 0
    let o := bits h 0 45
    let adm := bitAt h 67
    let r : Req := { id := s.nextId, src := .port p, ctx := if adm then 4096 else bits h 68 12, slot := bits h 96 11, op := pktOp k
                     addr := mkGlobal s.dev.deviceId o
                     plain := !(bitAt h 56) && (match pktOp k with | .wr _ => true | .at .. => true | _ => false)
                     since := k.came, tag := bits h 80 16, dev := bits h 107 6, port := p, gidx := k.key, ipc := k.slots.length }
    let r' := match s.region o with | .window _ _ => { r with win := true, addr := o } | _ => r
    (k ∈ (s.port p).rx ∧ (t.port p).rx.length + 1 = (s.port p).rx.length ∧ t.reqs = s.reqs ∧ t.mem = s.mem) ∧
    (pktMalformed k = false → s.pktCheck r adm = 0 → exec i s = .next { t.bumpId with reqs := s.reqs ++ [r'] }) ∧
    (pktMalformed k = true ∨ s.pktCheck r adm ≠ 0 → (s.port p).active = true → (∀ x ∈ s.reqs, x.id ≠ s.nextId) →
      let st := if pktMalformed k = true then Code.accessDenied else s.pktCheck r adm
      ∃ (u : State) (q : TxPkt), exec i s = .next u ∧ u.reqs = s.reqs ∧ u.mem = s.mem ∧ (u.port p).txq = (s.port p).txq ++ [q] ∧
        q.vc = 1 ∧ q.slots.length = 1 ∧ bits (q.slots.headD 0) 48 16 = st.toNat ∧ bits (q.slots.headD 0) 80 16 = r.tag) ∧
    (s.region o = .hbm ∨ s.region o = .near → adm = false → k.key = 0 → (s.ctx (bits h 68 12)).priv = false →
      s.pktCheck r adm = if s.ownedBy (bits h 68 12) o (opNeeds (pktOp k)).1 (opNeeds (pktOp k)).2 then 0 else Code.accessDenied) ∧
    (s.region o = .unbacked ∨ s.region o = .control → s.pktCheck r adm = Code.accessDenied)) ∧
  (∀ (s : State), s.running = true →
    (∀ (port : Fin 18) (r : Req) (key blk : Nat),
      let p := port.val
      let may := fun (x : Req) => s.entryOf s.stopped.1 s.stopped.2 x
      let c := (s.reqs.filter (fun x => x.src == .port p && x.ph == .waiting)).filter (fun x => (may x).isSome)
      (roundRobin 64 ((s.port p).lastDev + 1) (fun d => c.any (fun x => x.dev == d))).bind (fun d => c.find? (fun x => x.dev == d)) = some r →
      may r = some (some (r, key, blk)) → s.req? r.id = some r → key < 2 ^ 44 →
      let u := s.admitCand (r, key, blk)
      exec (.requestAccept port) s = .next u.readmit ∧
      (u.port p).lastDev = r.dev ∧ u.mem = s.mem ∧
      (u.bank key).q = (s.bank key).q ++ [{ id := r.id, part := blk, came := (s.bank key).served }] ∧
      (∀ k, k ≠ key → u.bank k = s.bank k) ∧
      (∃ x, u.req? r.id = some x ∧ x.ph ≠ .waiting ∧ x.since = s.now ∧ x.adm = r.adm ++ [blk] ∧ x.op = r.op ∧ x.addr = r.addr) ∧
      (s.reqs = [r] → blocksOf r = [blk] → r.adm = [] → r.walk = [] → exec (.requestAccept port) s = .next u)) ∧
    (∀ (req : Nat) (r : Req) (p : Nat), s.req? req = some r → r.src = .port p → r.ph = .queued ∨ r.ph = .slot → r.expired = false →
      (r.since + 4000 ≤ s.now → (s.port p).active = true →
        let t := (s.count (dkey 0x5030 0x04)).updReq req (fun x => { x with expired := true })
        exec (.remoteDeadlineExpiry req) s = .next (t.queuePkt p (t.replyPkt { r with st := Code.remoteTimeout, res := [] }))) ∧
      (s.now < r.since + 4000 → exec (.remoteDeadlineExpiry req) s = .next s)) ∧
    (∀ (port : Fin 18) (dev : Fin 64), (s.port port.val).active = true →
      ((∃ r ∈ s.reqs, r.src = .port port.val ∧ r.ph = .waiting ∧ r.dev = dev.val ∧ r.since + 4000 ≤ s.now) ∨
        (∃ k ∈ (s.port port.val).rx, k.isReq = true ∧ k.sdev = dev.val ∧ k.came + 4000 ≤ s.now)) →
      (∀ t0, mapFind (s.port port.val).holds dev.val = some (t0 + 1) → t0 + 4000 ≤ s.now) →
      mapFind (s.port port.val).holds dev.val ≠ some 0 →
      ∃ (t : State) (q : TxPkt), exec (.holdTimer port dev) s = .next t ∧ (t.port port.val).txq = (s.port port.val).txq ++ [q] ∧
        q.vc = 1 ∧ q.slots = [pktHeader 0xB 1 dev.val s.dev.deviceId 0 0 0 0] ∧ t.reqs = s.reqs ∧
        mapFind (t.port port.val).holds dev.val = some (s.now + 1)) ∧
    (∀ (port : Fin 18) (t : State) (k : RxPkt), s.takePkt port.val 0xB = some (t, k) →
      ∃ u : State, exec (.pktHold port) s = .next u ∧ u.mem = s.mem ∧
        u.reqs = s.reqs.map (fun r => if s.placed r && r.dev == bits (k.slots.headD 0) 107 6 then { r with since := s.now } else r)) ∧
    (∀ (req : Nat) (r : Req), s.req? req = some r → s.placed r = true →
      (r.since + 1000 * r.limit ≤ s.now →
        exec (.reqTimeoutExpiry req) s = .next (((s.failReq req Code.remoteTimeout).count (dkey 0x5030 0x05)).requestDone r) ∧
        (∀ n, r.src = .core n → s.served n = true → ∃ t : State, exec (.reqTimeoutExpiry req) s = .next t ∧
          t.req? req = some { r with ph := .done, st := Code.remoteTimeout, res := [] } ∧ t.mem = s.mem)) ∧
      (s.now < r.since + 1000 * r.limit → exec (.reqTimeoutExpiry req) s = .next s)) ∧
    (∀ (port : Fin 18) (t : State) (k : RxPkt),
      ∀ e ∈ [(0x8, Instr.pktRdr port), (0x9, .pktAck port), (0xA, .pktAtr port)], s.takePkt port.val e.1 = some (t, k) →
      let h := k.slots.headD 0
      let u := t.owe port.val 1 k.slots.length
      let hit := u.reqs.find? (fun r => r.ph == .sent && !(gOff r.addr) && r.port == port.val && srcIdx r.src == bits h 96 11 &&
        r.tag == bits h 80 16 && r.dev == bits h 107 6 && answers e.1 r.op)
      (hit = none → exec e.2 s = .next (u.count (dkey 0x5030 0x09))) ∧
      (∀ r, hit = some r →
        let n := match r.op with | .rd n => n | .at _ ty _ _ true => typBytes ty | _ => 0
        let st := BitVec.ofNat 16 (bits h 48 16)
        let res := if st = 0 then pktData k 1 n else []
        (st ≠ 0 ∨ k.slots.length = 1 + ceilDiv n 16 →
          exec e.2 s = .next ((u.updReq r.id (fun x => { x with ph := .done, st := st, res := res })).requestDone r) ∧
          (∀ m, r.src = .core m → s.served m = true → s.req? r.id = some r → ∃ v : State, exec e.2 s = .next v ∧
            v.req? r.id = some { r with ph := .done, st := st, res := res } ∧ v.mem = s.mem)) ∧
        (st = 0 → k.slots.length ≠ 1 + ceilDiv n 16 → exec e.2 s = .next (u.linkDown port.val .protocol)))))

/-- O45. R299 to R308: GW_FLUSH after its first record an open bulk frame closes, and its last datagram goes out and is kept; GW_RETRY
after it was sent the frame's datagrams go out again unchanged, or after GW_RETRIES it fails with GATEWAY_TIMEOUT; a received datagram
acts only when it is addressed to the gateway, its tag holds and its header fits it. What the tag check answers is uninterpreted (log 7).
R302, R305, R306: what the plaintext of a datagram does: malformed records discard it; a frame that is not whole is kept; a WRITE frame of
one record to a page the context owns becomes a request for its bytes; a finished WRITE is answered with its stored COMPLETE; a READ_DATA
record ends the read it answers. -/
def Obligations.GatewayRows : Prop :=
  (∀ (s : State) (gw : Fin 4), s.running = true →
    let g := gw.val
    let ent := fun (k : Nat) => s.dv (dkey (0x5040 + g) k)
    (∀ (stream : Nat) (st : Stream) (f : GFrame), (s.gw g).streams.find? (fun x => x.id == stream) = some st →
      st.frames.find? (fun f => !f.closed) = some f → (∀ x ∈ (s.gw g).streams, x.id = stream → x = st) →
      f.begun + 1000 * s.dv (dkey 0x5060 0x02) ≤ s.now →
      ∃ (t : State) (d : LSent), exec (.gwFlushExpiry gw stream) s = .next t ∧
        t.out = s.out ++ [.larch g { dmac := ent 3, smac := ent 2, sip := ent 1, dip := d.dst, port := s.dv (dkey 0x5060 0x01) } d.header d.body] ∧
        t.reqs = s.reqs ∧
        ∃ st' ∈ (t.gw g).streams, st'.id = stream ∧ st'.frames =
          modifyWhere (fun y => y.seq == f.seq) (fun y => { y with closed := true, sent := y.sent ++ [d], sentAt := s.now }) st.frames) ∧
    (∀ (stream seq : Nat) (st : Stream) (f : GFrame), (s.gw g).streams.find? (fun x => x.id == stream) = some st →
      st.frames.find? (fun f => f.seq == seq && f.closed) = some f →
      (f.sentAt + 1000 * s.dv (dkey 0x5060 0x03) ≤ s.now → f.retries < s.dv (dkey 0x5060 0x04) →
        exec (.gwRetryExpiry gw stream seq) s = .next (((s.updStream g st.id (fun x => { x with
          frames := modifyWhere (fun y => y.seq == seq) (fun y => { y with retries := y.retries + 1, sentAt := s.now }) x.frames })).count
            (dkey (0x5040 + g) 0x08)).larchEmits g f.sent)) ∧
      (f.sentAt + 1000 * s.dv (dkey 0x5060 0x03) ≤ s.now → s.dv (dkey 0x5060 0x04) ≤ f.retries →
        exec (.gwRetryExpiry gw stream seq) s = .next ((s.finishFrame g st f Code.gatewayTimeout).sendOff)) ∧
      (s.now < f.sentAt + 1000 * s.dv (dkey 0x5060 0x03) → exec (.gwRetryExpiry gw stream seq) s = .next s)) ∧
    (∀ (d : LarchDgram) (i : Instr), let h := lHead d.header
      (h.ftype, i) ∈ [(0, Instr.larchWrite gw d), (1, .larchRead gw d), (2, .larchReadData gw d), (3, .larchComplete gw d)] →
      s.gwActive g = true →
      (s.gwTakes g d = false → exec i s = .next s) ∧
      (s.gwTakes g d = true → d.dst.toNat ≠ ent 1 ∨ d.port.toNat ≠ s.dv (dkey 0x5060 0x01) ∨ h.ver ≠ 1 ∨
          (s.ctx h.ctx).bindFor h.domain = none →
        exec i s = .next (s.count (dkey (0x5040 + g) 0x0B))) ∧
      (∀ n, s.gwTakes g d = true → d.dst.toNat = ent 1 → d.port.toNat = s.dv (dkey 0x5060 0x01) → h.ver = 1 →
        (s.ctx h.ctx).bindFor h.domain = some n →
        let key := s.larchKey h.ctx n (decide (h.domain < s.dev.domainId))
        let opened := Config.gcmOpen (BitVec.ofNat 256 (leNat (key.take 32)))
          (larchIv (key.drop 32) h.seq h.frag h.device h.stream s.dev.deviceId (decide (2 ≤ h.ftype))) (leBytes 32 d.header.toNat)
          (d.body ++ leBytes 16 d.tag.toNat) 128
        (opened = none → exec i s = .next (s.gwAuthFail g)) ∧
        (∀ plain, opened = some plain → h.bytes ≠ plain.length → exec i s = .next (s.count (dkey (0x5040 + g) 0x0B))) ∧
        (∀ plain, opened = some plain → h.bytes = plain.length →
          (h.ftype ≤ 1 → exec i s = .next (s.farDatagram g d.src.toNat h plain)) ∧
          (h.ftype = 2 → exec i s = .next (s.readDataIn g h n plain)) ∧
          (h.ftype = 3 → plain ≠ [] → exec i s = .next (s.count (dkey (0x5040 + g) 0x0B))) ∧
          (h.ftype = 3 → plain = [] → s.frameOf h n false = none → exec i s = .next s) ∧
          (∀ g' st f, h.ftype = 3 → plain = [] → s.frameOf h n false = some (g', st, f) →
            exec i s = .next ((s.finishFrame g' st f h.st).sendOff) ∧
            (h.st = 0 → (∀ r ∈ s.reqs, r.ph ≠ .slot) →
              exec i s = .next (s.updStream g' st.id (fun x => { x with frames := x.frames.filter (fun y => y.seq != f.seq) })))))))) ∧
  (∀ (s : State) (g src n : Nat) (h : LHead) (plain : List Byte), g < 4 →
    let rs := s.rstream g (rkey h.ctx h.domain h.device h.stream)
    let rtype := if h.ftype = 0 then 1 else 2
    let parsed := parseRecs rtype (plain.length / 16 + 1) plain
    (parsed = none → s.farDatagram g src h plain = s.count (dkey (0x5040 + g) 0x0B)) ∧
    (∀ e, parsed ≠ none → h.ftype = 0 → rs.done.find? (fun x => x.1 == h.seq) = some e →
      s.farDatagram g src h plain = s.larchEmits g (e.2.map (fun d => { d with dst := src }))) ∧
    (parsed ≠ none → (h.ftype = 0 → rs.done.find? (fun x => x.1 == h.seq) = none) →
      (h.seq > rs.low + 16 → s.farDatagram g src h plain = s.count (dkey (0x5040 + g) 0x0B)) ∧
      (h.seq ≤ rs.low + 16 → rs.low ≤ h.seq → rs.frames.find? (fun x => x.seq == h.seq) = none →
        (h.frags ≠ 1 →
          let f : RFrame := { seq := h.seq, ftype := h.ftype, frags := [(h.frag, plain)], src := src
                              count := if h.frags = h.frag + 1 then h.frags else 0 }
          s.farDatagram g src h plain = s.setRstream g { rs with frames := rs.frames.filter (fun x => x.seq != h.seq) ++ [f] }) ∧
        (∀ x : Rec, h.ftype = 0 → h.frags = 1 → h.frag = 0 → parsed = some [x] → x.device = s.dev.deviceId → 0 < x.len → x.len ≤ 256 →
          x.offset % 256 + x.len ≤ 256 → x.data.length = x.len → s.region x.offset = .hbm ∨ s.region x.offset = .near →
          s.ownedBy h.ctx x.offset false true = true → (∀ r ∈ s.reqs, r.id < s.nextId) →
          ∃ r ∈ (s.farDatagram g src h plain).reqs, r.id = s.nextId + 1 ∧ r.src = .gateway g ∧ r.ctx = h.ctx ∧
            r.op = .wr (zipFrom 0 x.data) ∧ gOffset r.addr = x.offset))) ∧
    (∀ g' st f id r x, parseRecs 3 (plain.length / 16 + 1) plain = some [x] → s.frameOf h n true = some (g', st, f) → f.reqs = [id] →
      f.got = [] → s.req? id = some r → r.ph = .sent → x.rtag = id % 2 ^ 32 → x.offset = gOffset r.addr → x.len = x.data.length → x.len ≠ 0 →
      x.data.length = opBytes r.op →
      let u := (s.updReq id (fun y => { y with ph := .done, st := 0, res := x.data })).requestDone r
      (u.req? id = none ∨ (∃ q, u.req? id = some q ∧ q.ph = .done)) →
      s.readDataIn g h n plain = (u.finishFrame g' st f h.st).sendOff))

/-- O46. R319, R323, R324: what an exchange's member sends and when it goes on. A message is its data and its digest record as writes, and
the flag that follows them; a member with nothing under way keeps its state, and one that has failed ends. R314 to R323: an exchange under
way, while its context stands on its cores: the rendezvous compares the records that are there and starts the buckets when all are; a
bucket's messages go out when the slots of its parity are free; a message counts only once its flag has reached its bucket and with the
right digest; an abort record of the step stops this member with its code. Reads of the member's own memory are answered in the premises.
-/
def Obligations.ExchangeRows : Prop :=
  (∀ (s : State) (ctx : Nat) (e : Exch), mapFind s.exch ctx = some e → (∀ x ∈ s.exch, x.1 = ctx → x.2 = e) →
    let ag : Ag := { src := .firmware, ctx := ctx, id := e.id }
    (∀ dev bucket gather data, let b := e.blk
      let me := s.dev.deviceId
      let base := (mapFind e.peers dev).getD (mkGlobal dev e.work) + xSlotAt b bucket (xRank b me) (xRank b dev) gather
      let body := digestBody (xStep b) bucket data.length s.dev.domainId me (if gather then me else dev) (if gather then 1 else 0) 0
      let u := s.exSend ctx e dev bucket gather data
      let cells := fun (r : Req) => match r.op with | .wr cs => cs.map (fun c => (r.addr + c.1, c.2)) | _ => []
      ∃ l : List Req, u.reqs = s.reqs ++ l ∧ (∀ r ∈ l, r.ctx = ctx ∧ r.xfer = e.id ∧ r.src = .firmware ∧ r.ph = .slot) ∧
        l.flatMap cells = zipFrom base data ++ zipFrom (base + 4 * xSe b) (digestRecord data body) ∧ u.mem = s.mem ∧
        mapFind u.exch ctx = some { e with flags := e.flags ++ [(dev, (mapFind e.peers dev).getD 0 + hdrFlag me gather, xTick b (bucket + 1))] }) ∧
    ((∀ r ∈ s.reqs, ag.owns r = false) → e.flags = [] →
      let done := if xGather e.blk then e.agDone else e.rsDone
      (e.fail = none → xExchanges e.blk = true → (e.met = true → done ≠ xBuckets e.blk) → s.exchPump ctx = s) ∧
      (e.fail ≠ none ∨ xExchanges e.blk = false ∨ (e.met = true ∧ done = xBuckets e.blk) →
        s.exchPump ctx = s.exchEnd ctx e.ring e.blk e.fail done e.checked e.cnt ∧ mapFind (s.exchPump ctx).exch ctx = none))) ∧
  (∀ (s t : State) (ctx : Fin 4097) (e : Exch) (hs : List Byte), s.running = true → s.onCores ctx.val = true →
    mapFind s.exch ctx.val = some e → e.fail = none →
    let b := e.blk
    let me := s.dev.deviceId
    let ends := fun (i : Instr) (u : State) => exec i s = .next ((u.agDrop (exAg ctx.val e)).exchPump ctx.val)
    (e.met = false → s.exRead ctx.val e 0 2048 = (t, 0, hs) →
      let rv := fun (d : Nat) => leNat ((hs.drop (hdrRv d)).take 32)
      let there := fun (d : Nat) => bits (rv d) 160 8 = 1
      let mine := fun (d : Nat) => there d ∧ bits (rv d) 128 32 = xStep b
      let differs := ∃ d ∈ othersOf t b, (mine d ∧ bits (rv d) 64 64 ≠ xAgree b) ∨
        (there d ∧ ¬mine d ∧ mapFind e.olds d ≠ some (bits (rv d) 128 32))
      let met := (t.updExch ctx.val (fun x => { x with
        met := true, peers := (othersOf t b).map (fun d => (d, bits (rv d) 0 64)) })).progress ctx.val e.ring
      (differs → ends (.exchangeRendezvous ctx) (t.exchFail ctx.val Code.exchangeParams none false)) ∧
      (¬differs → (∃ d ∈ othersOf t b, ¬mine d) → ends (.exchangeRendezvous ctx) t) ∧
      (¬differs → (∀ d ∈ othersOf t b, mine d) → ends (.exchangeRendezvous ctx) met ∧
        ((∀ r ∈ t.reqs, (exAg ctx.val e).owns r = false) → e.flags = [] → (∀ x ∈ t.exch, x.1 = ctx.val → x.2 = e) →
          mapFind t.exch ctx.val = some e → xExchanges b = true → (if xGather b then e.agDone else e.rsDone) ≠ xBuckets b →
          exec (.exchangeRendezvous ctx) s = .next met))) ∧
    (∀ u v, e.met = true → e.rsBegun = e.rsDone → e.rsBegun < xBuckets b → (xGather b = true → e.rsBegun ≤ e.agDone + 1) →
      (s.exRoom ctx.val e e.rsBegun = (u, 0, false) → ends (.exchangeBucket ctx false) u) ∧
      (s.exRoom ctx.val e e.rsBegun = (u, 0, true) → u.exScatter ctx.val e e.rsBegun = (v, 0) →
        let w := v.updExch ctx.val (fun x => { x with rsBegun := e.rsBegun + 1 })
        (xD b ≠ 1 → ends (.exchangeBucket ctx false) w) ∧
        (∀ y, xD b = 1 → w.reduceShard ctx.val e e.rsBegun = (y, 0) → ends (.exchangeBucket ctx false) y))) ∧
    (e.met = true → xGather b = true → e.agBegun < e.rsDone → e.agBegun = e.agDone → xD b ≠ 1 → ∀ data,
      s.engRead (exAg ctx.val e) (xAccum b + 4 * (xShard b e.agBegun (xRank b me)).1) (4 * (xShard b e.agBegun (xRank b me)).2) = (t, 0, data) →
      let u := t.updExch ctx.val (fun x => { x with agBegun := e.agBegun + 1 })
      ends (.exchangeBucket ctx true) ((othersOf u b).foldl (fun (y : State) d => y.exSend ctx.val e d e.agBegun true data) u)) ∧
    (∀ sender, e.met = true → sender ∈ othersOf s b → e.rsDone < e.rsBegun → e.rsGot.contains (e.rsDone, xRank b sender) = false →
      let at' := xSlotAt b e.rsDone (xRank b sender) (xRank b me) false
      let n := (xShard b e.rsDone (xRank b me)).2
      ∀ t' t'' fl data rec', s.exRead ctx.val e (hdrFlag sender false) 4 = (t, 0, fl) → t.dev = s.dev →
      (xReached b (e.rsDone + 1) (leNat fl) = false → ends (.exchangeMessage ctx e.rsDone sender false) t) ∧
      (xReached b (e.rsDone + 1) (leNat fl) = true → t.exRead ctx.val e at' (4 * n) = (t', 0, data) →
        t'.exRead ctx.val e (at' + 4 * xSe b) 32 = (t'', 0, rec') → t'.dev = s.dev →
        let u := (t''.count (dkey 0x5070 0x03)).updExch ctx.val (fun x => { x with checked := x.checked + 1 })
        let good := digestOf data (digestBody (xStep b) e.rsDone (4 * n) s.dev.domainId sender me 0 0) = bits (leNat rec') 192 64
        (¬good → ends (.exchangeMessage ctx e.rsDone sender false) (u.exMismatch ctx.val e sender e.rsDone 0)) ∧
        (good → (e.rsGot.filter (fun g => g.1 == e.rsDone)).length + 2 ≠ xD b →
          ends (.exchangeMessage ctx e.rsDone sender false) (u.updExch ctx.val (fun x => { x with
            rsGot := e.rsGot.filter (fun g => g.1 == e.rsDone) ++ [(e.rsDone, xRank b sender)] }))))) ∧
    (∀ member : Fin 64, s.exRead ctx.val e (hdrAbort member.val) 16 = (t, 0, hs) →
      (bits (leNat hs) 64 8 ≠ 1 ∨ bits (leNat hs) 32 32 ≠ xStep b → ends (.exchangeAbort ctx member) t) ∧
      (bits (leNat hs) 64 8 = 1 → bits (leNat hs) 32 32 = xStep b →
        let who := if bits (leNat hs) 16 8 = 0 then member.val else bits (leNat hs) 16 8 - 1
        ends (.exchangeAbort ctx member) (t.exchFail ctx.val (BitVec.ofNat 16 (leNat hs)) (some who) false) ∧
        ((∀ r ∈ t.reqs, (exAg ctx.val e).owns r = false) → e.flags = [] → mapFind t.exch ctx.val = some e →
          (∀ x ∈ t.exch, x.1 = ctx.val → x.2 = e) →
          ∃ u : State, exec (.exchangeAbort ctx member) s = .next u ∧ mapFind u.exch ctx.val = none))))

/-! Commands of a ring. -/

/-- O47. R331 to R333, R335, R336: the ring registers. A ring is enabled, disabled, or has its base judged only as R332 asks, and an
enabled one starts at index 0 (log 79: deduced); a base is taken while its ring is disabled; a doorbell names entries; CQ_HEAD makes room;
CQ_IRQ is taken whole, and once its time has passed the interrupt timer raises vector 0 once. R332, R336, R345: a refused ring action
leaves the ring as it is, its code in the status register, is counted in 0x7080:02 and raises vector 1. R333, R335, R338, R343, R345,
R352: a fetched entry is copied whole and starts, one with an unassigned OPC is refused with DETAIL 8, one of a context being destroyed
ends with TORN_DOWN; a refusal counts and completes; a completion frees the ring for its next command and writes one record with PHASE,
STATUS, OPC, ring, index, TAG, RESULT and DETAIL, moving CQ_TAIL. -/
def Obligations.RingsAndFetch : Prop :=
  (∀ (s : State) (ctx : Fin 4097) (ring : Fin 8), s.running = true → s.board.pcie ≠ none → (s.ctx ctx.val).st = 1 → (s.ctx ctx.val).tdi ≠ 1 →
    let c := ctx.val
    let r := ring.val
    let x := s.ring c r
    let q := (s.ringsOf c).cq
    let fine := fun (base : Nat) (v : Word) (bytes : Nat) (need : Need) => base % 4096 = 0 ∧ 6 ≤ ctlLog v ∧ ctlLog v ≤ 16 ∧
      if ctlLoc v = true then s.rangeOk c base (bytes * ctlSize v) need = true else (s.ctx c).busMaster = true
    let mine := fun (v : Word) => ctlLoc v = true ∨ (s.ctx c).priv = false ∨ (s.ctx c).tdi = 2
    (∀ v : Word, let new := v &&& 0xC000001F#32
      (ctlEn new = true → ctlEn x.ctrl = false → ctlEn q.ctrl = true → fine x.base.toNat new 64 .read → mine new →
        exec (.sqCtrl ctx ring v) s = .next (s.updRing c r (fun y => { y with ctrl := new, head := 0, tail := 0 }))) ∧
      (ctlEn new = true → ctlEn x.ctrl = false → ctlEn q.ctrl = false → mine new →
        exec (.sqCtrl ctx ring v) s = .next (s.refuseSq c r Code.ringConfig)) ∧
      (ctlEn new = true → ctlLoc new = false → (s.ctx c).priv = true → (s.ctx c).tdi ≠ 2 →
        ∃ t : State, exec (.sqCtrl ctx ring v) s = .next t ∧ (t.ring c r).ctrl = x.ctrl ∧ (t.ring c r).status ≠ 0) ∧
      (ctlEn new = true → ctlEn x.ctrl = true → new ≠ x.ctrl → mine new →
        exec (.sqCtrl ctx ring v) s = .next (s.refuseSq c r Code.ringConfig)) ∧
      (ctlEn new = false → ctlEn x.ctrl = true → x.head = x.tail → x.cur = none → fine x.base.toNat x.ctrl 64 .read →
        exec (.sqCtrl ctx ring v) s = .next (s.updRing c r (fun y => { y with ctrl := new }))) ∧
      (ctlEn new = false → ctlEn x.ctrl = true → x.head ≠ x.tail ∨ x.cur ≠ none →
        exec (.sqCtrl ctx ring v) s = .next (s.refuseSq c r Code.ringConfig)) ∧
      (ctlEn new = true → ctlEn q.ctrl = false → fine q.base.toNat new 32 .write → mine new →
        exec (.cqCtrl ctx (.ctrl v)) s = .next (s.updCq c (fun y => { y with ctrl := new, head := 0, tail := 0, phase := true }))) ∧
      (ctlEn new = false → ctlEn q.ctrl = true → fine q.base.toNat q.ctrl 32 .write → (∀ e ∈ (s.ringsOf c).sq, ctlEn e.2.ctrl = false) →
        exec (.cqCtrl ctx (.ctrl v)) s = .next (s.updCq c (fun y => { y with ctrl := new }))) ∧
      (ctlEn new = false → ctlEn q.ctrl = true → ctlEn x.ctrl = true → (r, x) ∈ (s.ringsOf c).sq →
        exec (.cqCtrl ctx (.ctrl v)) s = .next (s.refuseCq c Code.ringConfig)) ∧
      exec (.cqCtrl ctx (.irq v)) s = .next (s.updCq c (fun y => { y with irq := v }))) ∧
    (∀ v : BitVec 64,
      (ctlEn x.ctrl = false → exec (.sqBase ctx ring v) s = .next (s.updRing c r (fun y => { y with base := v }))) ∧
      (ctlEn x.ctrl = true → v ≠ x.base → mine x.ctrl → exec (.sqBase ctx ring v) s = .next (s.refuseSq c r Code.ringConfig)) ∧
      (ctlEn x.ctrl = true → v = x.base → ctlEn q.ctrl = true → fine v.toNat x.ctrl 64 .read → mine x.ctrl →
        exec (.sqBase ctx ring v) s = .next s) ∧
      (ctlEn q.ctrl = false → exec (.cqBase ctx v) s = .next (s.updCq c (fun y => { y with base := v }))) ∧
      (ctlEn q.ctrl = true → v ≠ q.base → mine q.ctrl → exec (.cqBase ctx v) s = .next (s.refuseCq c Code.ringConfig))) ∧
    (∀ v : Word, ctlEn x.ctrl = true →
      (v.toNat < ctlSize x.ctrl → ∃ t : State, exec (.sqTail ctx ring v) s = .next t ∧ (t.ring c r).tail = v.toNat ∧ (t.ring c r).head = x.head ∧
        (t.ring c r).rung = x.rung + (v.toNat + ctlSize x.ctrl - x.tail) % ctlSize x.ctrl ∧ (t.ring c r).cur = x.cur ∧ t.out = s.out ∧
        t.mem = s.mem ∧ ∀ r', r' ≠ r → t.ring c r' = s.ring c r') ∧
      (ctlSize x.ctrl ≤ v.toNat → exec (.sqTail ctx ring v) s = .next (s.refuseSq c r Code.ringConfig))) ∧
    (∀ v : Word, let t := s.updCq c (fun y => { y with head := v.toNat % ctlSize y.ctrl })
      (q.spill = [] → exec (.cqHead ctx v) s = .next t) ∧
      (∀ rec, q.spill = [rec] → ctlEn q.ctrl = true → ((t.ringsOf c).cq).full = false →
        exec (.cqHead ctx v) s = .next ((t.updCq c (fun y => { y with spill := [] })).cqWrite c rec))) ∧
    (fieldOf q.irq 0 16 ≠ 0 → q.unsig ≠ 0 →
      (q.since + 1000 * fieldOf q.irq 0 16 ≤ s.now →
        exec (.cqIrqTimer ctx) s = .next ((s.updCq c (fun q => { q with unsig := 0 })).emit (.msix c 0))) ∧
      (s.now < q.since + 1000 * fieldOf q.irq 0 16 → exec (.cqIrqTimer ctx) s = .next s))) ∧
  (∀ (s : State) (c r : Nat) (st : Status), (s.ctx c).st ≠ 0 →
    (∃ t : State, s.refuseSq c r st = t.emit (.msix c 1) ∧ t.out = s.out ∧ t.mem = s.mem ∧ t.ctxs = s.ctxs ∧
      t.ring c r = { s.ring c r with status := st } ∧ (t.ringsOf c).cq = (s.ringsOf c).cq ∧
      (s.dv (dkey 0x7080 0x02) < counterMax (dkey 0x7080 0x02) → t.dv (dkey 0x7080 0x02) = s.dv (dkey 0x7080 0x02) + 1)) ∧
    (∃ t : State, s.refuseCq c st = t.emit (.msix c 1) ∧ t.out = s.out ∧ t.mem = s.mem ∧ t.ctxs = s.ctxs ∧
      t.ring c r = s.ring c r ∧ (t.ringsOf c).cq = { (s.ringsOf c).cq with status := st })) ∧
  (∀ (s : State) (ctx : Fin 4097) (ring : Fin 8),
    let c := ctx.val
    let r := ring.val
    let x := s.ring c r
    let q := (s.ringsOf c).cq
    (∀ e : BitVec 512, s.running = true → s.ioWarned = false → ctlEn x.ctrl = true → ctlLoc x.ctrl = false →
      x.head ≠ x.tail → x.cur = none →
      ∃ (t : State) (cmd : Cmd), cmd.img = e.toNat ∧ cmd.seq = x.head ∧ cmd.t0 = s.now ∧ cmd.prog = s.now ∧ cmd.stage = 0 ∧
        cmd.tearing = false ∧ cmd.limit = s.dv (dkey 0x8000 0x02) ∧
        (t.ring c r).cur = some cmd ∧ (t.ring c r).head = (x.head + 1) % ctlSize x.ctrl ∧ (t.ring c r).tail = x.tail ∧
        t.out = s.out ∧ t.mem = s.mem ∧
        ((s.ctx c).st = 1 → q.spill.length < 64 →
          (opcodes.contains (cOpc e.toNat) = true → exec (.commandFetch ctx ring e) s = .next t) ∧
          (opcodes.contains (cOpc e.toNat) = false →
            exec (.commandFetch ctx ring e) s = .next (t.refuse c r cmd Code.commandInvalid 8 0))) ∧
        ((s.ctx c).st = 4 → exec (.commandFetch ctx ring e) s = .next (t.complete c r cmd Code.tornDown 0 0
          (if cOpc e.toNat = 0x10 then 65535 * 2 ^ 224 else 0)))) ∧
    (∀ (cmd : Cmd) (st : Status) (result detail body : Nat), hasRecord (cOpc cmd.img) = false ∨ cRec cmd.img = 0 → ctlLoc q.ctrl = false →
      let t := s.complete c r cmd st result detail body
      s.Freed t c r (Code.isFailure st) ∧ t.mem = s.mem ∧ t.ctxs = s.ctxs ∧ t.images = s.images ∧ t.owner = s.owner ∧ t.reqs = s.reqs) ∧
    (∀ (cmd : Cmd) (st : Status) (result detail : Nat), ctlEn q.ctrl = true → q.full = false → q.spill = [] → ctlLoc q.ctrl = false →
      hasRecord (cOpc cmd.img) = false → cIrq cmd.img = false → fieldOf q.irq 16 16 = 0 →
      let t := s.complete c r cmd st result detail 0
      (∃ rec, t.out = s.out ++ [.hostWrite c (q.base.toNat + 32 * q.tail) (leBytes 32 rec)] ∧ rec < 2 ^ 256 ∧
        bits rec 240 16 = st.toNat ∧ bits rec 232 8 = cOpc cmd.img ∧ bits rec 229 3 = r ∧ bits rec 228 1 = (if q.phase = true then 1 else 0) ∧
        bits rec 208 16 = cmd.seq % 65536 ∧ bits rec 192 16 = cTag cmd.img ∧ bits rec 128 64 = result % 2 ^ 64 ∧
        bits rec 64 64 = detail % 2 ^ 64) ∧
      ((t.ringsOf c).cq).tail = (q.tail + 1) % ctlSize q.ctrl ∧
      ((t.ringsOf c).cq).phase = (if (q.tail + 1) % ctlSize q.ctrl = 0 then !q.phase else q.phase) ∧
      s.refuse c r cmd st detail 0 = (s.count (dkey 0x7080 0x02)).complete c r cmd st 0 detail 0))

/-- O48. R334, R338, R340: NOP, FENCE, SIGNAL and WAIT: after a failed command of its ring a DEP command ends with PRIOR_FAILED; else NOP
completes, FENCE when the commands it waits for have, SIGNAL once its flag is written, WAIT when a poll finds the word at or past its
value. -/
def Obligations.OrderCommands : Prop :=
  ∀ (s : State) (ctx : Fin 4097) (ring : Fin 8) (cmd : Cmd), cRec cmd.img = 0 →
    let c := ctx.val
    let r := ring.val
    let ag := cmdAg c cmd
    let done := fun (t u : State) (result : Nat) => u = t.complete c r cmd 0 result 0 0 ∧
      (ctlLoc ((s.ringsOf c).cq).ctrl = false → s.Freed u c r false)
    (∀ e ∈ [(0x00, Instr.cmdNop ctx ring), (0x01, .cmdFence ctx ring)], s.offers c r e.1 cmd → cDep cmd.img = true →
      (s.ring c r).failed = true → exec e.2 s = .next (s.refuse c r cmd Code.priorFailed 0 0)) ∧
    (cDep cmd.img = false →
      (s.offers c r 0x00 cmd → ∃ u, exec (.cmdNop ctx ring) s = .next u ∧ done s u 0) ∧
      (s.offers c r 0x01 cmd → s.fenceDone c r cmd = true → ∃ u, exec (.cmdFence ctx ring) s = .next u ∧ done s u 0) ∧
      (s.offers c r 0x01 cmd → s.fenceDone c r cmd = false →
        exec (.cmdFence ctx ring) s = .next (s.updCmd c r (fun k => { k with stage := 1 }))) ∧
      (s.offers c r 0x02 cmd → s.badAddr c (cA0 cmd.img) 4 4 .write = false → s.offVa c (cA0 cmd.img) = false →
        ∀ t, s.flagWrite ag (cA0 cmd.img) (cArg0 cmd.img % 2 ^ 32) = (t, 0) →
        (t.reqs.any ag.owns = false → exec (.signal ctx ring) s = .next (t.complete c r cmd 0 0 0 0)) ∧
        (t.reqs.any ag.owns = true → exec (.signal ctx ring) s = .next (t.updCmd c r (fun k => { k with stage := 1 })))) ∧
      (∀ core off, s.offers c r 0x02 cmd → s.badAddr c (cA0 cmd.img) 4 4 .write = false → s.offVa c (cA0 cmd.img) = false →
        s.windowed c (cA0 cmd.img) 4 .write core off → s.reqs.any ag.owns = false → ctlLoc ((s.ringsOf c).cq).ctrl = false →
        ∃ u, exec (.signal ctx ring) s = .next u ∧ s.Freed u c r false ∧
          (∀ k, k < 4 → mapGet (0 : Byte) (u.img c core).ls (off + k) = BitVec.ofNat 8 (cArg0 cmd.img % 2 ^ 32 / 2 ^ (8 * k))) ∧
          (∀ a, a < off ∨ off + 4 ≤ a → mapGet (0 : Byte) (u.img c core).ls a = mapGet (0 : Byte) (s.img c core).ls a) ∧ u.mem = s.mem) ∧
      (s.offers c r 0x02 cmd → s.badAddr c (cA0 cmd.img) 4 4 .write = true → s.offVa c (cA0 cmd.img) = false →
        exec (.signal ctx ring) s = .next (s.refuse c r cmd Code.commandInvalid 1 0)) ∧
      (s.offers c r 0x03 cmd → s.badAddr c (cA0 cmd.img) 4 4 .read = false → s.offVa c (cA0 cmd.img) = false →
        exec (.wait ctx ring) s = .next (s.updCmd c r (fun k => { k with stage := 1 })))) ∧
    (s.running = true → (s.ring c r).cur = some cmd → cOpc cmd.img = 0x03 → cmd.stage = 1 → cmd.tearing = false →
      (∀ t bs, s.agRead ag .read (cA0 cmd.img) 4 = (t, .ok bs) →
        (cArg0 cmd.img % 2 ^ 32 ≤ leNat bs → exec (.waitPoll ctx ring) s = .next ((t.agDrop ag).complete c r cmd 0 (leNat bs) 0 0)) ∧
        (leNat bs < cArg0 cmd.img % 2 ^ 32 → exec (.waitPoll ctx ring) s = .next (t.agDrop ag))) ∧
      (∀ core off, s.windowed c (cA0 cmd.img) 4 .read core off → cA0 cmd.img % 4 = 0 →
        cArg0 cmd.img % 2 ^ 32 ≤ leNat (s.winRead c core off 4) → ctlLoc ((s.ringsOf c).cq).ctrl = false →
        ∃ u, exec (.waitPoll ctx ring) s = .next u ∧ s.Freed u c r false ∧ u.images = s.images ∧ u.mem = s.mem))

/-- O49. R325, R326, R340, R346: COPY, FILL, GATHER and SNAPSHOT act unit by unit once their operands pass, and a refused one names its
field. FILL repeats its 8 bytes; a copied SNAPSHOT chunk gets its digest record. R340, R343: FILL, COPY and GATHER of at most 1 MiB within
the local windows of a core: their destination holds the pattern, the source's bytes, or the rows that the indices name, the rest of the
core's store is as before, and the command has completed. -/
def Obligations.BulkCommands : Prop :=
  (∀ (s t u : State) (ctx : Fin 4097) (ring : Fin 8) (cmd : Cmd), cRec cmd.img = 0 → cDep cmd.img = false → s.perDie ≠ 0 →
    let c := ctx.val
    let r := ring.val
    let i := cmd.img
    let ag := cmdAg c cmd
    (s.offers c r 0x20 cmd →
      (s.badAddr c (cA0 i) (cArg0 i) 1 .read = false → s.badAddr c (cA1 i) (cArg0 i) 1 .write = false →
        exec (.copy ctx ring) s = .next (s.bulk c r cmd (cArg0 i) 1048576 State.copyUnit)) ∧
      (s.badAddr c (cA0 i) (cArg0 i) 1 .read = true → exec (.copy ctx ring) s = .next (s.refuse c r cmd Code.commandInvalid 1 0))) ∧
    (s.offers c r 0x21 cmd → s.badAddr c (cA1 i) (cArg0 i) 1 .write = false →
      exec (.fill ctx ring) s = .next (s.bulk c r cmd (cArg0 i) 1048576 State.fillUnit)) ∧
    (s.offers c r 0x22 cmd → s.badAddr c (cA1 i) (gRows i * gRowBytes i) 1 .write = false →
      s.badAddr c (cA2 i) (4 * gRows i) 4 .read = false → s.badAddr c (cA0 i) 1 1 .read = false → 1 ≤ gRowBytes i → gRowBytes i ≤ 4096 →
      exec (.gather ctx ring) s = .next (s.bulk c r cmd (gRows i) (max 1 (1048576 / gRowBytes i)) State.gatherUnit)) ∧
    (∀ total per unit, let v := s.updCmd c r (fun k => { k with stage := 1 })
      let g := s.bulkAg c cmd
      let n := min per total
      (s.ring c r).cur = some cmd → cmd.stage = 0 → cmd.aux = 0 → s.reqs.any g.owns = false → (s.ctx c).groves ≠ 0 →
      unit v g i 0 n = (u, Moved.ok) →
      let w := (u.agDrop g).updCmd c r (fun k => { k with aux := n, prog := u.now })
      (n < total → s.bulk c r cmd total per unit = w.agGo g) ∧ (total ≤ n → s.bulk c r cmd total per unit = w.bulkEnd c r g 0 0)) ∧
    (∀ at' n bs, s.agRead ag .read (cA0 i + at') n = (t, .ok bs) →
      s.copyUnit ag i at' n = t.putUnit ag (cA1 i + at') bs ∧ (t.agWrite ag (cA1 i + at') bs = (u, 0) → s.copyUnit ag i at' n = (u, .ok))) ∧
    (∀ at' n, s.fillUnit ag i at' n = s.putUnit ag (cA1 i + at') (fillBytes (cArg1 i) at' n) ∧ (fillBytes (cArg1 i) at' n).length = n ∧
      ∀ k, k < n → (fillBytes (cArg1 i) at' n)[k]? = some (BitVec.ofNat 8 (cArg1 i / 2 ^ (8 * ((at' + k) % 8))))) ∧
    (s.offers c r 0x51 cmd → s.badAddr c (cA0 i) 32 32 .read = false → (s.ctx c).groves ≠ 0 → mapFind s.exch c = none →
      ∀ l, readSnap ag 65536 (cA0 i) [] s = (t, .ok l) → (t.agDrop ag).perDie = s.perDie → (t.agDrop ag).exch = s.exch → (t.agDrop ag).ctxs = s.ctxs →
      (∀ e ∈ l, (t.agDrop ag).entryRefused c e = false ∧ snDigs e % 32 = 0) →
      exec (.snapshot ctx ring) s = .next ((t.agDrop ag).updCmd c r (fun k => { k with stage := 1, ents := l }))) ∧
    (s.offers c r 0x51 cmd → s.badAddr c (cA0 i) 32 32 .read = true → exec (.snapshot ctx ring) s = .next ((s.agDrop ag).refuse c r cmd Code.commandInvalid 1 0)) ∧
    (∀ e n k, s.running = true → (s.ring c r).cur = some cmd → cOpc i = 0x51 → cmd.stage = 1 → cmd.tearing = false →
      s.reqs.any ag.owns = false → snapAt cmd.ents cmd.aux 0 = some (e, n, k) →
      (snVerify e = false → s.snapCopy ag e n k = (u, .ok) → exec (.snapshot ctx ring) s = .next (u.snapStep c r ag e n k true 0)) ∧
      (∀ good sender, snVerify e = true → s.snapVerify ag e k = (u, .ok, good, sender) →
        exec (.snapshot ctx ring) s = .next (u.snapStep c r ag e n k good sender))) ∧
    (∀ e n k bs, s.agRead ag .read (snSrc e + chunkBytes * k) (min chunkBytes (snLen e - chunkBytes * k)) = (t, .ok bs) →
      t.agWrite ag (snDst e + chunkBytes * k) bs = (u, 0) →
      s.snapCopy ag e n k = u.putUnit ag (snDigs e + 32 * k) (digestRecord bs (digestBody (snStep e) k
        (min chunkBytes (snLen e - chunkBytes * k)) s.dev.domainId s.dev.deviceId 0 2 n)))) ∧
  (∀ (s : State) (ctx : Fin 4097) (ring : Fin 8) (cmd : Cmd) (core dst src ixs : Nat),
    let c := ctx.val
    let r := ring.val
    let i := cmd.img
    let old := fun (a : Nat) => mapGet (0 : Byte) (s.img c core).ls a
    cRec i = 0 → cDep i = false → s.perDie ≠ 0 → (s.ctx c).groves ≠ 0 → cmd.aux = 0 → cmd.done = none → s.reqs = [] →
    s.frameHolds cmd.id = false → ctlLoc ((s.ringsOf c).cq).ctrl = false →
    let ends := fun (op : Instr) (n : Nat) (new : Nat → Byte) => ∃ u, exec op s = .next u ∧ s.Freed u c r false ∧ u.mem = s.mem ∧
      (∀ k, k < n → mapGet (0 : Byte) (u.img c core).ls (dst + k) = new k) ∧
      (∀ a, a < dst ∨ dst + n ≤ a → mapGet (0 : Byte) (u.img c core).ls a = old a)
    (s.offers c r 0x21 cmd → cArg0 i ≤ 1048576 → s.badAddr c (cA1 i) (cArg0 i) 1 .write = false →
      s.windowed c (cA1 i) (cArg0 i) .write core dst →
      ends (.fill ctx ring) (cArg0 i) (fun k => BitVec.ofNat 8 (cArg1 i / 2 ^ (8 * (k % 8))))) ∧
    (s.offers c r 0x20 cmd → cArg0 i ≤ 1048576 → s.badAddr c (cA1 i) (cArg0 i) 1 .write = false → s.badAddr c (cA0 i) (cArg0 i) 1 .read = false →
      s.windowed c (cA1 i) (cArg0 i) .write core dst → s.windowed c (cA0 i) (cArg0 i) .read core src →
      ends (.copy ctx ring) (cArg0 i) (fun k => old (src + k))) ∧
    (s.offers c r 0x22 cmd → gRows i = 1 → 1 ≤ gRowBytes i → gRowBytes i ≤ 4096 → s.badAddr c (cA1 i) (gRowBytes i) 1 .write = false →
      s.badAddr c (cA2 i) 4 4 .read = false → s.badAddr c (cA0 i) 1 1 .read = false →
      s.windowed c (cA1 i) (gRowBytes i) .write core dst → s.windowed c (cA2 i) 4 .read core ixs →
      s.windowed c (cA0 i + gRowBytes i * leNat (s.winRead c core ixs 4)) (gRowBytes i) .read core src →
      ends (.gather ctx ring) (gRowBytes i) (fun k => old (src + k))))

/-- O50. R363 to R365, R495: MAP proposes pages, whose leaves say so and whose local granules become the context's PROPOSED; ACCEPT
accepts them; UNMAP removes them once no access of the range is under way, and its granules are SCRUBBING, and read as zero before they
are FREE again. -/
def Obligations.PageCommands : Prop :=
  ∀ (s u : State) (ctx : Fin 4097) (ring : Fin 8) (cmd : Cmd),
    let c := ctx.val
    let r := ring.val
    let i := cmd.img
    let t := targetOf c i
    (s.offers c r 0x30 cmd →
      (firstReason (s.mapReasons t (cA0 i) (mTarget i) (cArg0 i) ++ s.baseReasons c r cmd) = none →
        s.proposePages t (cA0 i) (mTarget i) (cArg0 i) = some u → exec (.map ctx ring) s = .next (u.complete c r cmd 0 0 0 0)) ∧
      (∀ st d, firstReason (s.mapReasons t (cA0 i) (mTarget i) (cArg0 i) ++ s.baseReasons c r cmd) = some (st, d) →
        exec (.map ctx ring) s = .next (s.refuseMap c r cmd st d))) ∧
    (∀ a0 a1 a, s.proposePages t a0 a1 a = some u → a0 % leafBytes (mSize a) = 0 → mSize a ≠ 3 →
      (∀ k, k < mCount a →
        mapFind (u.ctx t).leaves ((a0 + leafBytes (mSize a) * k) / 65536) = some (mLeaf a (a1 + leafBytes (mSize a) * k))) ∧
      (mLeaf a a1).acc = false ∧ (mLeaf a a1).w = bitAt a 3 ∧ (mLeaf a a1).r = bitAt a 2) ∧
    (s.offers c r 0x32 cmd → firstReason (s.acceptReasons c (cA0 i) (cArg1 i) (cArg0 i) ++ s.baseReasons c r cmd) = none →
      exec (.accept ctx ring) s = .next ((s.acceptPages c (cA0 i) (cArg0 i)).complete c r cmd 0 (mCount (cArg0 i)) 0 0)) ∧
    (∀ a0 a k l, mapFind (s.ctx c).leaves k = some l → a0 ≤ 65536 * k → 65536 * k < a0 + leafBytes (mSize a) * mCount a →
      mapFind ((s.acceptPages c a0 a).ctx c).leaves k = some { l with acc := true }) ∧
    (s.offers c r 0x31 cmd → firstReason (s.unmapReasons t (cA0 i) (cArg0 i) ++ s.baseReasons c r cmd) = none →
      let v := s.removeLeaves t (cA0 i) (cA0 i + cArg0 i)
      ((∀ q ∈ v.reqs, q.inRange t (cA0 i) (cA0 i + cArg0 i) = false) → exec (.unmap ctx ring) s = .next (v.complete c r cmd 0 0 0 0)) ∧
      ((∃ q ∈ v.reqs, q.inRange t (cA0 i) (cA0 i + cArg0 i) = true) →
        exec (.unmap ctx ring) s = .next (v.updCmd c r (fun k => { k with stage := 1 })))) ∧
    (∀ lo hi k, lo ≤ 65536 * k → 65536 * k < hi → mapFind ((s.removeLeaves t lo hi).ctx t).leaves k = none ∧
      ∀ k', 65536 * k' < lo ∨ hi ≤ 65536 * k' → mapFind ((s.removeLeaves t lo hi).ctx t).leaves k' = mapFind (s.ctx t).leaves k') ∧
    (∀ g, s.running = true → (s.own g).state = 3 → s.granuleBusy g = false → (∀ e ∈ s.ctxs, e.2.scrub = []) →
      ∃ v : State, exec (.granuleScrub g) s = .next v ∧
        (∀ a, g * 65536 ≤ a → a < (g + 1) * 65536 → mapGet (0 : Byte) v.mem a = 0) ∧
        (∀ a, a < g * 65536 ∨ (g + 1) * 65536 ≤ a → mapGet (0 : Byte) v.mem a = mapGet (0 : Byte) s.mem a) ∧
        mapFind v.owner g = none ∧ v.ctxs = s.ctxs)

/-- O51. R90, R168 to R170, R337, R341 to R343, R347, R370: a LAUNCH from its check to its record: accepted with the seed and number of
its context, its code measured and locked, its cores taken and their parameters copied, its end when its groups and its work are done, its
deadline and its teardown. -/
def Obligations.Launches : Prop :=
  ∀ (s : State) (ctx : Fin 4097) (ring : Fin 8) (cmd : Cmd),
    let c := ctx.val
    let r := ring.val
    let i := cmd.img
    let x := s.ctx c
    (s.offers c r 0x10 cmd → lReplay i = false → cRec i = 0 → cDep i = false → ∀ t h, s.codeHeader c (lCode i) = (t, h) →
      let u := t.agDrop (cmdAg c cmd)
      (∀ h', h = some h' → firstReason (u.launchReasons c i h) = none →
        ∃ (v : State) (l : Launch), exec (.launch ctx ring) s = .next v ∧ v.launches = u.launches ++ [l] ∧ l.id = u.nextId ∧ l.ctx = c ∧
          l.ring = r ∧ l.cmd = i ∧ l.code = lCode i ∧ l.size = h'.size ∧ l.entry = lCode i + h'.entry ∧ l.groups = lGroups i ∧ l.cores = [] ∧
          l.seed = u.dv (ctxKey c 0x20) ∧ l.number = u.dv (ctxKey c 0x21) ∧
          v.dv (ctxKey c 0x21) = (u.dv (ctxKey c 0x21) + 1) % 2 ^ 32 ∧ v.mem = u.mem) ∧
      (∀ st d, st ≠ Code.replayInvalid → firstReason (u.launchReasons c i h) = some (st, d) →
        exec (.launch ctx ring) s = .next (u.refuse c r cmd st d (65535 * 2 ^ 224)))) ∧
    (∀ l, s.running = true → (s.ring c r).cur = some cmd → cOpc i = 0x10 → s.launch? cmd.launch = some l → l.fallen = false →
      (cmd.stage = 1 → x.measuredCode l.code l.size = false →
        let h := Config.sha384 ((cut 65536 l.code l.size).flatMap (fun p => match s.fetchAt c p.1 with | some o => s.rawRead o p.2 | none => []))
        ∃ v : State, exec (.codeMeasure ctx ring) s = .next v ∧
          (v.ctx c).mctx = (if c = 4096 then 0 else Config.sha384 (leBytes 48 x.mctx.toNat ++ leBytes 48 h.toNat)) ∧ (v.ctx c).codeCount = x.codeCount + 1 ∧
          (v.ctx c).locked = x.locked ++ [(l.code, l.size)] ∧ v.images = s.images ∧ v.launches = s.launches ∧
          (v.ring c r).cur = some { cmd with stage := 2 } ∧
          (∀ e ∈ (v.ctx c).leaves, 65536 * e.1 < l.code + l.size → l.code < 65536 * e.1 + leafBytes e.2.size → e.2.w = false)) ∧
      (∀ img srl rest, cmd.stage = 2 → l.replay = (img, srl) :: rest → cmd.launch = cmd.aux →
        ∀ t h', (s.updLaunch l.id (fun k => { k with replay := rest })).codeHeader c (lCode img) = (t, some h') →
        firstReason (t.launchReasons c img (some h')) = none →
        let e := { t.makeLaunch c r img h' srl true with seed := l.seed, strict := l.strict }
        exec (.replayEntryStart ctx ring) s = .next ((({ t with launches := t.launches ++ [e] } : State).bumpId).updCmd
          c r (fun k => { k with launch := t.nextId, stage := if (t.ctx c).measuredCode (lCode img) h'.size then 2 else 1 })) ∧
        e.cmd = img ∧ e.groups = lGroups img ∧ e.code = lCode img ∧ e.entry = lCode img + h'.entry ∧ e.number = srl ∧ e.isEntry = true) ∧
      (cmd.stage = 2 → l.replay = [] → x.groves ≠ 0 → s.exchanging c = false → ¬(c = 4096 ∧ x.quiesceBy ≠ 0) → s.launchFit c (lCores l.cmd) l.wagn = 0 →
        lPlen l.cmd = 0 → lCores l.cmd = 1 → ∀ n, (s.launchCores c l.wagn).filter (fun n => (s.img c n).launch == 0) = [n] →
        (∀ k ∈ s.launchCores c l.wagn, s.liveCtx k = some c) →
        ∃ v : State, exec (.launchStart ctx ring) s = .next v ∧
          (v.img c n).launch = l.id ∧ (v.img c n).nslots = occupancy l.cmd ∧ (v.img c n).groups = [] ∧ (v.img c n).shared = lShared l.cmd ∧
          (v.img c n).grpBytes = lGroupLs l.cmd ∧ (v.img c n).cacheKiB = lCacheKiB l.cmd ∧ (v.img c n).ls = (s.img c n).ls ∧
          v.launches = modifyWhere (fun k => k.id == l.id) (fun k => { k with cores := [n] }) s.launches ∧ v.mem = s.mem) ∧
      (cmd.stage = 3 → l.isEntry = false → l.groups ≤ l.ended → s.launchWork l = false → s.launchReqs l = false →
        exec (.launchComplete ctx ring) s = .next (s.endLaunch l l.status 65535)) ∧
      (cmd.stage = 3 → l.isEntry = true → l.groups ≤ l.ended → s.launchWork l = false → s.launchReqs l = false → l.id ≠ cmd.aux →
        (∀ n ∈ l.cores, (s.img l.ctx n).xfers = []) →
        ∃ v : State, exec (.launchComplete ctx ring) s = .next v ∧ (v.ring c r).cur = some { cmd with launch := cmd.aux, stage := 2 } ∧
          (∀ m ∈ v.launches, m.id ≠ l.id) ∧ v.launches.map Launch.rindex =
            (s.launches.filter (fun m => m.id != l.id)).map (fun m => if m.id = cmd.aux then m.rindex + 1 else m.rindex) ∧ v.mem = s.mem) ∧
      (∀ t0, cmd.stage = 3 → l.begun = some t0 → s.now < t0 + 1000000000 * l.deadline → exec (.kernelDeadlineExpiry ctx ring) s = .next s) ∧
      (∀ t0, cmd.stage = 3 → l.begun = some t0 → t0 + 1000000000 * l.deadline ≤ s.now →
        (∀ n ∈ l.cores, ∀ e ∈ (s.img c n).groups, e.2.launch = l.id → e.2.halt.halted = false) →
        exec (.kernelDeadlineExpiry ctx ring) s = .next (s.failLaunch l.id Code.kernelDeadline 0 0 l.code))) ∧
    (∀ l, s.running = true → (s.ring c r).cur = some cmd → cOpc i = 0x10 → s.launch? cmd.launch = some l → l.fallen = true →
      let t := s.quenchLaunch l l.st
      exec (.launchTeardown ctx ring) s =
        .next (if t.launchReqs l = true then t.updCmd c r (fun k => { k with tearing := true }) else t.dropLaunch l l.st)) ∧
    (s.running = true → (s.ring c r).cur = some cmd → cOpc i ≠ 0x10 → cmd.tearing = false → s.stalled c cmd = false →
      let lim := if cOpc i = 0x03 ∧ bits (cArg0 i) 32 32 ≠ 0 then bits (cArg0 i) 32 32 else cmd.limit
      (s.now < cmd.prog + 1000000 * lim → exec (.commandTimeoutExpiry ctx ring) s = .next s) ∧
      (cmd.prog + 1000000 * lim ≤ s.now → exec (.commandTimeoutExpiry ctx ring) s = .next (s.stopCmd c r cmd Code.commandTimeout)) ∧
      (cmd.prog + 1000000 * lim ≤ s.now → cOpc i ∉ [0x40, 0x41, 0x51] → s.reqs = [] → s.frameHolds cmd.id = false →
        ctlLoc ((s.ringsOf c).cq).ctrl = false →
        ∃ v : State, exec (.commandTimeoutExpiry ctx ring) s = .next v ∧ s.Freed v c r true ∧ v.mem = s.mem ∧ v.images = s.images)) ∧
    (∀ l k replay st, l.ctx = c → l.ring = r → (s.ring c r).cur = some cmd → l.cores = [k] → (s.img c k).launch = l.id → cRec i = 0 →
      (s.img c k).xfers = [] →
      ctlLoc ((s.ringsOf c).cq).ctrl = false → let v := s.endLaunch l st replay
      (v.img c k).launch = 0 ∧ (v.img c k).groups = [] ∧ s.Freed v c r (Code.isFailure st) ∧ (∀ m ∈ v.launches, m.id ≠ l.id) ∧ v.mem = s.mem)

/-- O52. R165, R172 to R182, R312 to R318: OPT_STEP and EXCHANGE are checked as they start; an engine takes the chunk next in its order.
R340, R371, R395, R417, R418: ATTEST, QUERY and HINT. A report is written at A0; a QUERY answers in RESULT; HINT asks a guard of each die.
-/
def Obligations.StepCommands : Prop :=
  (∀ (s t : State) (ctx : Fin 4097) (ring : Fin 8) (cmd : Cmd) (bs : List Byte),
    let c := ctx.val
    let r := ring.val
    let ag := cmdAg c cmd
    let b := leNat bs
    (s.offers c r 0x41 cmd → s.badAddr c (cA0 cmd.img) 128 128 .read = false → s.agRead ag .read (cA0 cmd.img) 128 = (t, .ok bs) →
      oMask b = 0 →
      (firstReason ([(false, Code.commandInvalid, 1), ((t.agDrop ag).optBad c b (some 0), Code.optParams, 1)] ++
          (t.agDrop ag).baseReasons c r cmd) = none → clipSkips b = false →
        ∃ (v : State) (o : OptStep), exec (.optStep ctx ring) s = .next v ∧ v.alder.steps = (t.agDrop ag).alder.steps ++ [o] ∧ o.ctx = c ∧
          o.ring = r ∧ o.blk = b ∧ o.pass = 1 ∧ o.left = List.range (oChunks b) ∧ v.mem = t.mem ∧
          (v.ring c r).cur.map Cmd.stage = (t.ring c r).cur.map (fun _ => 1)) ∧
      (firstReason ([(false, Code.commandInvalid, 1), ((t.agDrop ag).optBad c b (some 0), Code.optParams, 1)] ++
          (t.agDrop ag).baseReasons c r cmd) = none → clipSkips b = true → cRec cmd.img = 0 → ctlLoc ((s.ringsOf c).cq).ctrl = false →
        (∀ o ∈ s.alder.steps, o.key ≠ 8 * c + r) →
        ∃ v : State, exec (.optStep ctx ring) s = .next v ∧ s.Freed v c r false ∧ v.alder.steps = s.alder.steps ∧ v.mem = t.mem) ∧
      ((t.agDrop ag).optBad c b (some 0) = true → cRec cmd.img = 0 → cDep cmd.img = false →
        exec (.optStep ctx ring) s = .next ((t.agDrop ag).refuse c r cmd Code.optParams 1 0))) ∧
    (s.offers c r 0x40 cmd → s.badAddr c (cA0 cmd.img) 128 128 .read = false → s.agRead ag .read (cA0 cmd.img) 128 = (t, .ok bs) →
      xParts b = 0 → cRec cmd.img = 0 → cDep cmd.img = false → (t.agDrop ag).perDie ≠ 0 →
      ((t.agDrop ag).exchBad c b (some []) = true →
        exec (.exchange ctx ring) s = .next ((t.agDrop ag).refuse c r cmd Code.exchangeParams 1 0)) ∧
      ((t.agDrop ag).exchBad c b (some []) = false → (t.agDrop ag).onCores c = true → mapFind (t.agDrop ag).exch c = none →
        (∀ l ∈ (t.agDrop ag).launches, l.ctx = c → l.cores = []) →
        exec (.exchange ctx ring) s = .next ((t.agDrop ag).exchStart c r b cmd []) ∧
        (xExchanges b = false → t.reqs.any ag.owns = false → ctlLoc ((s.ringsOf c).cq).ctrl = false →
          ∃ v : State, exec (.exchange ctx ring) s = .next v ∧ s.Freed v c r false ∧ mapFind v.exch c = none ∧ v.mem = t.mem)) ∧
      ((t.agDrop ag).exchBad c b (some []) = false → mapFind (t.agDrop ag).exch c ≠ none → exec (.exchange ctx ring) s = .next s)) ∧
    (∀ (engine : Fin 16) (o : OptStep), s.running = true → s.engineOk engine.val = true → s.enginePaused engine.val = false →
      s.pwr.domOff.contains (864 + engine.val) = false → s.alder.steps = [o] → (s.ring o.ctx o.ring).cur = some cmd →
      (∀ (k : Nat) (q : ChunkOut) (u : State), o.flying = [] → s.engineNext engine.val = some (o, k) → s.agBusy (cmdAg o.ctx cmd) = false →
        let ag := engAg o.ctx engine.val k cmd
        s.chunkRun ag o k = (u, q) → q.st = 0 →
        let v := ({ (u.agDrop ag) with alder := { u.alder with last := mapSet 0 u.alder.last engine.val (o.key + 1) } }.agGo ag).countFree
          (dkey 0x3080 0x07)
        exec (.alderChunk engine) s = .next ((v.updStep o.key (fun o => { o with
          left := o.left.filter (fun x => x != k), flying := o.flying ++ [(k, engine.val, q)] })).alderSettle)) ∧
      (∀ (k e : Nat) (q : ChunkOut), o.flying = [(k, e, q)] → s.reqs = [] →
        let o' : OptStep := { o with flying := [], updated := o.updated + q.n, cnt := addCounts o.cnt q.cnt.c
                                     nanBlk := o.nanBlk + q.cnt.nan, satur := o.satur + q.cnt.sat
                                     sums := match q.sums with | some v => setKey o.sums k v | none => o.sums }
        let v := ((if q.n = 0 then s else s.count (dkey 0x3080 0x02) q.n).updStep o.key (fun _ => o')).progress o.ctx o.ring
        (o.left ≠ [] → v.engineNext engine.val = none → exec (.alderChunk engine) s = .next v ∧ v.alder.steps = [o'] ∧ v.mem = s.mem) ∧
        (o.left = [] → (oRule o.blk ≠ 3 ∧ oRule o.blk ≠ 4) ∨ o.pass = 2 → exec (.alderChunk engine) s = .next (v.stepEnd o' false) ∧
          (o.st = 0 → cRec cmd.img = 0 → ctlLoc ((s.ringsOf o.ctx).cq).ctrl = false →
            s.Freed (v.stepEnd o' false) o.ctx o.ring false ∧ (v.stepEnd o' false).alder.steps = []))))) ∧
  (∀ (s : State) (ctx : Fin 4097) (ring : Fin 8) (cmd : Cmd), cRec cmd.img = 0 → cDep cmd.img = false →
    let c := ctx.val
    let r := ring.val
    let i := cmd.img
    let ag := cmdAg c cmd
    (s.offers c r 0x52 cmd → s.dv (dkey 0x6000 0x01) ≠ 0 → (s.ctx (attestTarget c i)).st ≠ 0 → s.badAddr c (cA0 i) 640 1 .write = false →
      s.badAddr c (cA1 i) 48 1 .read = false → exec (.attest ctx ring) s = .next (s.refuse c r cmd Code.identityUnavailable 0 0)) ∧
    (∀ t nonce v, s.offers c r 0x52 cmd → s.dv (dkey 0x6000 0x01) = 0 → (s.ctx (attestTarget c i)).st ≠ 0 →
      s.badAddr c (cA0 i) 640 1 .write = false → s.badAddr c (cA1 i) 48 1 .read = false → s.hashing (attestTarget c i) = false →
      (∀ q ∈ s.reqs, q.xfer ≠ cmd.id) → s.agRead ag .read (cA1 i) 48 = (t, .ok nonce) →
      let u := t.updCmd c r (fun k => { k with stage := 1, aux := 640 })
      u.agWrite ag (cA0 i) (u.report (attestTarget c i) nonce) = (v, 0) →
      exec (.attest ctx ring) s = .next (v.bulkEnd c r ag 0 0)) ∧
    (∀ core off core' off', s.offers c r 0x52 cmd → s.dv (dkey 0x6000 0x01) = 0 → (s.ctx (attestTarget c i)).st ≠ 0 →
      s.badAddr c (cA0 i) 640 1 .write = false → s.badAddr c (cA1 i) 48 1 .read = false → s.hashing (attestTarget c i) = false →
      s.reqs = [] → s.frameHolds cmd.id = false → cmd.done = none → ctlLoc ((s.ringsOf c).cq).ctrl = false →
      s.windowed c (cA0 i) 640 .write core off → s.windowed c (cA1 i) 48 .read core' off' →
      ∃ v : State, exec (.attest ctx ring) s = .next v ∧ s.Freed v c r false ∧ v.mem = s.mem ∧
        ∀ k, k < 640 → mapGet (0 : Byte) (v.img c core).ls (off + k) =
          ((s.report (attestTarget c i) (s.winRead c core' off' 48))[k]?).getD 0) ∧
    (s.offers c r 0x53 cmd →
      (qMode i = 3 → exec (.queryEntry ctx ring) s = .next (s.refuse c r cmd Code.commandInvalid 5 0)) ∧
      (∀ t st bs, qMode i = 0 → (∀ q ∈ s.reqs, q.xfer ≠ cmd.id) → s.mgmt.hand = none → s.mgmt.queue = [] →
        s.dictRead (qCls c) (qKey i) = (t, st, bs) →
        (st ≠ 0 → exec (.queryEntry ctx ring) s = .next (t.refuse c r cmd st 5 0)) ∧
        (st = 0 → bs.length ≤ 8 → exec (.queryEntry ctx ring) s = .next (t.complete c r cmd 0 (leNat bs) 0 0))) ∧
      (qMode i = 1 → exec (.queryTranslation ctx ring) s = .next (s.complete c r cmd 0
        (match leafOf (s.ctx (targetOf c i)).leaves (bits (cArg1 i) 0 48) with | some (_, l) => leafWord l | none => 0) 0 0)) ∧
      (qMode i = 2 → c ≠ 4096 → exec (.queryOwnership ctx ring) s = .next (s.refuse c r cmd Code.notAdmin 0 0)) ∧
      (qMode i = 2 → c = 4096 → bits (cArg1 i) 0 45 < 2 ^ 41 →
        exec (.queryOwnership ctx ring) s = .next (s.complete c r cmd 0 (ownerWord (s.own (bits (cArg1 i) 0 45 / 65536))) 0 0))) ∧
    (s.offers c r 0x50 cmd →
      (s.dv (dkey 0x2001 0x01) = 0 → exec (.hint ctx ring) s = .next (s.complete c r cmd 0 0 0 0)) ∧
      (∀ d : Fin 8, s.dv (dkey 0x2001 0x01) ≠ 0 → hDies i = 2 ^ d.val → (s.ctxDies c).contains d.val = true → hClass i = 0 →
        (s.die d.val).held = true → (s.die d.val).guards = [] → (s.die d.val).hold = none → ctlLoc ((s.ringsOf c).cq).ctrl = false →
        ∃ v : State, exec (.hint ctx ring) s = .next v ∧ s.Freed v c r false ∧
          (v.die d.val).hold = some ((hInt i + 1) * (s.dieCores d.val).length) ∧ (v.die d.val).holdTo = s.now + 100000 ∧ (v.die d.val).guards = [] ∧ v.mem = s.mem) ∧
      (∀ d : Fin 8, s.dv (dkey 0x2001 0x01) ≠ 0 → hDies i = 2 ^ d.val → (s.ctxDies c).contains d.val = true → 1 ≤ hClass i → hClass i ≤ 3 →
        (s.die d.val).held = false → (s.die d.val).down = false →
        let g : Guard := { mv16 := s.dv (dkey 0x2001 0x02) * (hInt i + 1), dur := hDur i, cmd := 8 * c + r + 1 }
        exec (.hint ctx ring) s = .next (((s.count (dkey 0x2001 0x03)).updCmd c r (fun k => { k with stage := 1 })).updDie d.val (fun p =>
          { p with guards := p.guards ++ [g], want := some (p.want.getD p.volt), askAt := s.now })))))

/-- O53. R351, R352, R355 to R357, R366: the commands on contexts. R208, R349, R351, R352, R358 to R361, R378, Table 14.6: quiesce
timeouts, resets of groves and functions, slices and their switch jobs, and the TDISP states. -/
def Obligations.ContextCommands : Prop :=
  (∀ (s : State) (ctx : Fin 4097) (ring : Fin 8) (cmd : Cmd), cRec cmd.img = 0 → cDep cmd.img = false →
    let c := ctx.val
    let r := ring.val
    let i := cmd.img
    let t := targetOf 4096 i
    (s.offers c r 0x60 cmd → c ≠ 4096 → s.perDie ≠ 0 → (s.ctx (bits (cArg0 i) 0 12)).st = 0 → bitAt i 12 = false → plGroves (cArg1 i) = 0 →
      exec (.ctxCreate ctx ring) s = .next (s.refuse c r cmd Code.notAdmin 0 0)) ∧
    (c = 4096 →
      (s.offers c r 0x60 cmd → s.perDie ≠ 0 → bitAt i 12 = false → (s.ctx (bits (cArg0 i) 0 12)).st = 0 → plGroves (cArg1 i) = 0 →
        ctlLoc ((s.ringsOf 4096).cq).ctrl = false →
        ∃ v : State, exec (.ctxCreate ctx ring) s = .next v ∧ (v.ctx (bits (cArg0 i) 0 12)).st = 1 ∧
          (v.ctx (bits (cArg0 i) 0 12)).provKey.isSome = true ∧ (v.ctx (bits (cArg0 i) 0 12)).groves = 0 ∧
          (v.ctx (bits (cArg0 i) 0 12)).leaves = [] ∧ (v.ctx (bits (cArg0 i) 0 12)).secret = none ∧
          s.Freed v 4096 r false ∧ (∀ k, k ≠ bits (cArg0 i) 0 12 → v.ctx k = s.ctx k) ∧ v.mem = s.mem) ∧
      (s.offers c r 0x60 cmd → s.perDie ≠ 0 → bitAt i 12 = false → (s.ctx (bits (cArg0 i) 0 12)).st ≠ 0 → plGroves (cArg1 i) = 0 →
        exec (.ctxCreate ctx ring) s = .next (s.refuse c r cmd Code.contextState 0 0)) ∧
      (s.offers c r 0x63 cmd → (s.ctx t).st = 2 → (s.ctx t).groves ≠ 0 → (∀ e ∈ s.parts, t ∈ e.2.members → e.2.resident ≠ nobody) →
        exec (.ctxResume ctx ring) s = .next ((s.updCtx t (fun x => { x with st := 1 })).complete 4096 r cmd 0 0 0 0)) ∧
      (∀ w, s.offers c r 0x63 cmd → (s.ctx t).st = 2 → (s.ctx t).groves = 0 → plGroves (cArg1 i) ≠ 0 → s.perDie ≠ 0 →
        firstReason (s.placeReasons t (cArg1 i)) = none → (s.updCtx t (fun x => { x with st := 1 })).placeCtx t (cArg1 i) = some w →
        exec (.ctxResume ctx ring) s = .next (w.complete 4096 r cmd 0 0 0 0) ∧ (w.ctx t).st = 1 ∧ (w.ctx t).grove0 = plFirst (cArg1 i) ∧
        (w.ctx t).groves = plGroves (cArg1 i) ∧ w.mem = s.mem) ∧
      (s.offers c r 0x62 cmd → t ≠ 4096 → (s.ctx t).st = 1 →
        exec (.ctxSuspend ctx ring) s = .next (((s.updCmd 4096 r (fun k => { k with stage := 1 })).beginQuiesce t).suspendGo r { cmd with stage := 1 })) ∧
      (s.offers c r 0x62 cmd → t = 4096 → bitAt (cFlags i) 0 = true →
        exec (.ctxSuspend ctx ring) s = .next (((s.updCmd 4096 r (fun k => { k with stage := 1 })).updCtx 4096 (fun x =>
          { x with quiesceBy := s.now + 1000000 * s.dv (dkey 0x8000 0x03) + 1 })).suspendAdmin r { cmd with stage := 1 })) ∧
      (s.offers c r 0x62 cmd → t = 4096 → bitAt (cFlags i) 0 = true → s.adminRuns = false → s.switching 4096 = false → (s.ctx 4096).groves = 0 →
        ctlLoc ((s.ringsOf 4096).cq).ctrl = false →
        ∃ v : State, exec (.ctxSuspend ctx ring) s = .next v ∧ s.Freed v 4096 r false ∧ (v.ctx 4096).st = (s.ctx 4096).st ∧
          (v.ctx 4096).groves = 0 ∧ (v.ctx 4096).quiesceBy = 0 ∧ v.mem = s.mem) ∧
      (s.offers c r 0x62 cmd → t ≠ 4096 → (s.ctx t).st = 2 → bitAt (cFlags i) 0 = false → ctlLoc ((s.ringsOf 4096).cq).ctrl = false →
        ∃ v : State, exec (.ctxSuspend ctx ring) s = .next v ∧ s.Freed v 4096 r false ∧ v.ctxs = s.ctxs ∧ v.mem = s.mem) ∧
      (s.offers c r 0x62 cmd → t ≠ 4096 → (s.ctx t).st = 1 → bitAt (cFlags i) 0 = false → s.quiet t = true → s.switching t = false →
        ctlLoc ((s.ringsOf 4096).cq).ctrl = false →
        ∃ v : State, exec (.ctxSuspend ctx ring) s = .next v ∧ s.Freed v 4096 r false ∧ (v.ctx t).st = 2 ∧ (v.ctx t).quiesceBy = 0 ∧
          (v.ctx t).groves = (s.ctx t).groves ∧ (v.ctx t).leaves = (s.ctx t).leaves ∧ v.mem = s.mem) ∧
      (s.offers c r 0x61 cmd → t ≠ 4096 → (s.ctx t).st = 1 → s.switching t = false →
        let u := ((s.updCmd 4096 r (fun k => { k with stage := 1 })).updCtx t (fun x => { x with st := 4 })).forcedStop t Code.tornDown
        (u.quiet t = false → exec (.ctxDestroy ctx ring) s = .next u) ∧
        (u.quiet t = true → (∀ e ∈ (u.ringsOf t).sq, ctlEn e.2.ctrl = false) → u.accessing t = false →
          exec (.ctxDestroy ctx ring) s = .next ((((u.releaseCtx t).updCtx t (fun x => { x with scrub := u.heldGranules t })).complete
            4096 r { cmd with stage := 1 } 0 0 0 0).freeIfDone t))))) ∧
  (∀ (s : State), s.running = true →
    (∀ ctx : Fin 4097, let x := s.ctx ctx.val
      (x.st = 3 → x.quiesceBy ≠ 0 → x.quiesceBy ≤ s.now + 1 → s.quiet ctx.val = false →
        exec (.quiesceTimeoutExpiry ctx) s = .next ((s.forcedStop ctx.val Code.quiesceForced).settle ctx.val)) ∧
      (x.st = 3 → x.quiesceBy ≠ 0 → x.quiesceBy ≤ s.now + 1 → s.quiet ctx.val = true → s.switching ctx.val = false →
        ∃ v : State, exec (.quiesceTimeoutExpiry ctx) s = .next v ∧ (v.ctx ctx.val).st = 2 ∧ (v.ctx ctx.val).quiesceBy = 0 ∧ v.mem = s.mem) ∧
      (s.now + 1 < x.quiesceBy → (∀ l ∈ s.launches, l.ctx = ctx.val → l.fallen = false) → exec (.quiesceTimeoutExpiry ctx) s = .next s)) ∧
    (∀ vf : Fin 4096, let x := s.ctx vf.val
      let left := s.updCtx vf.val (fun x => { x with busMaster := false, tdi := if x.tdi = 1 ∨ x.tdi = 2 then 3 else x.tdi })
      (x.st = 1 → exec (.flr vf) s = .next (((left.beginQuiesce vf.val).forcedStop vf.val Code.quiesceForced).settle vf.val)) ∧
      (x.st = 0 ∨ x.st = 2 ∨ x.st = 4 → exec (.flr vf) s = .next left ∧ (left.ctx vf.val).busMaster = false) ∧
      (∀ n, x.tdi = 0 → s.mgmt.spdm = true → x.st = 1 ∨ x.st = 2 ∨ x.st = 3 →
        exec (.lockInterface vf n) s = .next (s.updCtx vf.val (fun x => { x with tdi := 1, stream := n }))) ∧
      (∀ n, x.tdi ≠ 0 → exec (.lockInterface vf n) s = .next s) ∧
      (x.tdi = 1 → s.mgmt.spdm = true → exec (.startInterface vf) s = .next (s.updCtx vf.val (fun x => { x with tdi := 2 }))) ∧
      (s.mgmt.spdm = true → x.st = 1 → ∃ v : State, exec (.stopInterface vf) s = .next v ∧ (v.ctx vf.val).tdi = 0 ∧
        (v.ctx vf.val).secret = none ∧ (v.ctx vf.val).provKey = none ∧ (v.ctx vf.val).mctx = 0 ∧ (v.ctx vf.val).codeCount = 0 ∧
        (v.ctx vf.val).debugged = false ∧ (v.ctx vf.val).tables = [] ∧ (∀ e ∈ (v.ctx vf.val).leaves, 2 ^ 48 ≤ 65536 * e.1) ∧
        (v.ctx vf.val).st = 1 ∧ (v.ctx vf.val).binds = [] ∧ (v.ctx vf.val).locked = [] ∧ v.images = s.images) ∧
      (x.tdi = 2 → x.st = 1 → exec (.tdiError vf) s = .next ((s.beginQuiesce vf.val).settle vf.val)) ∧
      (x.tdi = 2 → x.st = 2 → exec (.tdiError vf) s = .next (s.updCtx vf.val (fun x => { x with tdi := 3 })))) ∧
    (∀ offers req, s.board.pcie ≠ none → (s.dv (dkey 0x6000 0x01) ≠ 0 →
        exec (.spdmRequest offers req) s = .next (s.emit (.value "status" Code.identityUnavailable.toNat))) ∧
      (s.dv (dkey 0x6000 0x01) = 0 → exec (.spdmRequest offers req) s =
        .next ((s.updMgmt (fun m => { m with spdm := m.spdm || offers, spdmRefused := m.spdmRefused || !offers })).emit (.value "spdm" (if s.mgmt.spdm || offers then 1 else 0))))) ∧
    (∀ (grove0 : Fin 72) (p : Part), mapFind s.parts grove0.val = some p →
      (p.toCtx = none → s.now < p.begun + 1000 * p.slice → exec (.sliceEnd grove0) s = .next s) ∧
      (p.toCtx = none → p.begun + 1000 * p.slice ≤ s.now → s.nextMember p = none ∨ s.nextMember p = some p.resident →
        exec (.sliceEnd grove0) s = .next (s.updPart grove0.val (fun p => { p with begun := s.now }))) ∧
      (∀ c, p.toCtx = none → p.begun + 1000 * p.slice ≤ s.now → s.nextMember p = some c → c ≠ p.resident →
        (∃ d ∈ s.partDies grove0.val p.groves, 4 ≤ s.jobsOn d) → p.extended = false →
        exec (.sliceEnd grove0) s = .next ((s.updPart grove0.val (fun p => { p with extended := true })).count (dkey 0x6003 0x04))) ∧
      (∀ c, p.toCtx = none → p.begun + 1000 * p.slice ≤ s.now → s.nextMember p = some c → c ≠ p.resident → (∀ d ∈ s.partDies grove0.val p.groves, s.jobsOn d < 4) →
        exec (.sliceEnd grove0) s = .next ((s.dropCaches grove0.val p.groves).updPart grove0.val (fun p => { p with
          toCtx := some c, jobs := s.partDies grove0.val p.groves, extended := false }))) ∧
      (∀ c (die : Fin 8), p.toCtx = some c → p.jobs = [die.val] →
        exec (.switchJobComplete grove0 die) s = .next (((s.updPart grove0.val (fun p => { p with
          jobs := [], toCtx := none, resident := c, begun := s.now })).count (dkey 0x6003 0x03)).raise Ev.traceSwitch (s.physAny (8 * grove0.val)))) ∧
      (∀ c (die : Fin 8) d', p.toCtx = some c → die.val ∈ p.jobs → d' ∈ p.jobs → d' ≠ die.val →
        exec (.switchJobComplete grove0 die) s = .next (s.updPart grove0.val (fun q => { q with jobs := p.jobs.filter (fun d => d != die.val) })))) ∧
    (∀ (grove : Fin 72) (l : Launch) (t0 : Nat), l ∈ s.launches → l.fallen = true → l.forced = some t0 → t0 + 1000000 ≤ s.now → (∃ k < 8, 8 * grove.val + k ∈ l.cores) →
      exec (.groveReset grove []) s = .next ((((((List.range 8).map (fun k => 8 * grove.val + k)).foldl (fun (t : State) n => t.dropCore n) s).count
        (dkey 0x7080 0x05)).raise Ev.groveReset (s.groveDie grove.val)))))

/-- O54. R453: CORE_FENCE names a logical core in ARG0[9:0] and answers its physical core in RESULT, with cause 2; a core that is not
served, one already fenced among them, refuses with COMMAND_INVALID and DETAIL 1. -/
def Obligations.CoreFence : Prop :=
  ∀ (s : State) (ring : Fin 8) (cmd : Cmd), s.offers 4096 ring.val 0x64 cmd → cRec cmd.img = 0 → cDep cmd.img = false →
    (∀ p, s.physOf (cArg0 cmd.img % 1024) = some p →
      exec (.coreFence 4096 ring) s = .next ((s.fenceCore p 2).complete 4096 ring.val cmd 0 p 0 0) ∧
      (s.launches = [] → (∀ e ∈ s.images, e.2.xfers = []) → ctlLoc ((s.ringsOf 4096).cq).ctrl = false → ∃ t : State,
        exec (.coreFence 4096 ring) s = .next t ∧ s.Freed t 4096 ring.val false ∧ t.dev.fenced = s.dev.fenced ++ [p] ∧ t.mem = s.mem)) ∧
    (s.served (cArg0 cmd.img % 1024) = false →
      exec (.coreFence 4096 ring) s = .next (s.refuse 4096 ring.val cmd Code.commandInvalid 1 0)) ∧
    ∀ n, s.dev.fenced.contains (s.physAny n) = true → s.served n = false

/-! Management, power and the board. -/

/-- O55. R384 to R391: the management port, the opening of a session, and its sealed datagrams: one that is malformed or of no such
session is discarded, one whose tag fails is counted, one that holds restarts the idle timer and acts; a repeated SEQ is answered from the
stored RESPONSE. What the tag and the signature checks answer is uninterpreted (log 7). -/
def Obligations.Sessions : Prop :=
  ∀ (s : State) (d : Dgram), s.running = true → s.mgmt.port = 1 →
    let t := s.count (dkey 0x1100 0x0C)
    (d.framed = false → ∀ i ∈ [Instr.openSession d, .confirm d, .read d, .write d, .keepalive d, .close d],
      exec i s = .next (s.count (dkey 0x1100 0x0B))) ∧
    (d.framed = true →
    (∀ e ∈ [(1, Instr.openSession d), (3, .confirm d), (4, .read d), (5, .write d), (8, .keepalive d), (9, .close d)], d.typ = e.1 →
      dgramBad d = true → exec e.2 s = .next (t.count (dkey 0x1100 0x0B))) ∧
    (d.typ = 1 → dgramBad d = false → d.segs = 1 → d.session = 0 → d.payload.length = 129 → s.dv (dkey 0x6000 0x01) = 0 → s.mgmt.sess.length < 4 →
      let id := s.nextId % 2 ^ 32
      let z := Config.ecdh (Config.freeNat s.fresh) (BitVec.ofNat 776 (leNat (d.payload.take 97)))
      ∃ u : State, exec (.openSession d) s = .next u ∧ (z = none → u = t.discard) ∧
        (∀ z', z = some z' → ∃ x : Sess, mapFind u.mgmt.sess id = some x ∧ x.isOpen = false ∧ x.alarms = d.alarms ∧ x.began = s.now ∧
          x.md = ryDerive x.t z' "ryurus-MD" ∧ x.dm = ryDerive x.t z' "ryurus-DM" ∧ x.reqSeq = 0 ∧
          (∀ k, k ≠ id → mapFind u.mgmt.sess k = mapFind s.mgmt.sess k) ∧ ∃ l, l ≠ [] ∧ u.out = s.out ++ l)) ∧
    (∀ x, dgramBad d = false → s.sess? d.session = some x → d.segs = 1 →
      let y := { x with idle := s.now }
      let u := t.updSess d.session (fun _ => y)
      let heard := fun (body : List Byte → State) =>
        match Config.gcmOpen (ryKey x.md) (ryIv x.md d.seq d.seg) (headerBytes (dgramHeader d)) (d.payload ++ leBytes 16 d.tag.toNat) 128 with
        | none => t.count (dkey 0x1100 0x0A)
        | some b => body b
      (x.isOpen = false → d.typ = 3 → exec (.confirm d) s = .next (heard (fun b =>
        if u.dv (dkey 0x6001 0x01) = 0 ∨ (b.length = 96 ∧
            Config.ecdsaVerify (BitVec.ofNat 776 (u.dv (dkey 0x6001 0x01))) x.t (BitVec.ofNat 768 (leNat b.reverse)) = true) then
          u.updSess d.session (fun z => { z with isOpen := true })
        else ((u.closeSess d.session).count (dkey 0x1100 0x0A)).raise Ev.sessionAuth 0))) ∧
      (x.isOpen = true →
        (d.typ = 4 → exec (.read d) s = .next (heard (fun b => u.sequenced d y (if b.length = 4 then
          some { cls := .m d.session, key := requestKey b, dest := .sess d.session d.seq } else none)))) ∧
        (d.typ = 5 → exec (.write d) s = .next (heard (fun b =>
          let n := b.length - (if d.token then 128 else 0)
          u.sequenced d y (if b.length < 4 + (if d.token then 128 else 0) then none else
            some { cls := .m d.session, key := requestKey b, val := some ((b.take n).drop 4), dest := .sess d.session d.seq
                   tok := if d.token then some (BitVec.ofNat 1024 (leNat (b.drop n))) else none })))) ∧
        (d.typ = 8 → exec (.keepalive d) s = .next (heard (fun _ => u))) ∧
        (d.typ = 9 → exec (.close d) s = .next (heard (fun _ => u.closeSess d.session)))) ∧
      (∀ b, x.isOpen = true →
        Config.gcmOpen (ryKey x.md) (ryIv x.md d.seq d.seg) (headerBytes (dgramHeader d)) (d.payload ++ leBytes 16 d.tag.toNat) 128 = some b →
        (d.typ = 8 → ∃ v : State, exec (.keepalive d) s = .next v ∧ mapFind v.mgmt.sess d.session = some { x with idle := s.now } ∧
          v.out = s.out ∧ v.mem = s.mem) ∧
        (d.typ = 9 → ∃ v : State, exec (.close d) s = .next v ∧ mapFind v.mgmt.sess d.session = none ∧
          (∀ k, k ≠ d.session → mapFind v.mgmt.sess k = mapFind s.mgmt.sess k) ∧ v.mem = s.mem)))) ∧
    (∀ (x : Sess) r,
      (d.seq = x.reqSeq + 1 → s.sequenced d x (some r) =
        (s.updSess d.session (fun z => { z with reqSeq := d.seq, reply := [] })).request r) ∧
      (d.seq = x.reqSeq → x.reqSeq ≠ 0 → s.sequenced d x (some r) = s.sendAll d.session 6 d.seq x.reply) ∧
      (d.seq ≠ x.reqSeq + 1 → d.seq ≠ x.reqSeq → s.sequenced d x (some r) = s.count (dkey 0x1100 0x0B))) ∧
    (∀ id x, s.sess? id = some x →
      (x.isOpen = false → x.began + 1000000000 ≤ s.now →
        exec (.confirmTimeout id) s = .next (((s.closeSess id).count (dkey 0x1100 0x0A)).raise Ev.sessionAuth 0)) ∧
      (x.isOpen = true ∨ s.now < x.began + 1000000000 → exec (.confirmTimeout id) s = .next s) ∧
      (let due := x.idle + s.dv (dkey 0x1100 0x08) * 1000000000
       (x.isOpen = true → due ≤ s.now → exec (.sessionIdleExpiry id) s = .next (s.closeSess id)) ∧
       (s.now < due → exec (.sessionIdleExpiry id) s = .next s)) ∧
      (∀ seq a, x.asm.find? (fun a => a.seq == seq) = some a →
        (a.began + 100000000 ≤ s.now → exec (.segmentTimeout id seq) s =
          .next ((s.updSess id (fun z => { z with asm := z.asm.filter (fun b => b.seq != seq) })).count (dkey 0x1100 0x0B) a.parts.length)) ∧
        (s.now < a.began + 100000000 → exec (.segmentTimeout id seq) s = .next s))) ∧
    (∀ a : BitVec 128, (a.toNat = s.mgmtAddress → exec (.neighborSolicitation a) s =
        .next (s.emit (.value "neighbor advertisement" s.mgmtAddress))) ∧
      (a.toNat ≠ s.mgmtAddress → exec (.neighborSolicitation a) s = .next (s.count (dkey 0x1100 0x0B)))) ∧
    (let down := s.updMgmt (fun m => { m with port := 0 })
     exec (.duplicateAddressDetection false) down = .next (down.updMgmt (fun m => { m with port := 1 })) ∧
     exec (.duplicateAddressDetection true) down = .next ((down.updMgmt (fun m => { m with port := 2 })).raise Ev.duplicateAddress 0))

/-- O56. R392, R396, R401, R402, R407: a mailbox takes a request while its GO reads 0, and a read is answered in it; a journal write that
reads back valid takes effect and is answered, one that times out answers JOURNAL_TIMEOUT; compaction moves to the erased area. -/
def Obligations.MailboxAndJournal : Prop :=
  ∀ (s : State), s.running = true →
    (∀ (ctx : Fin 4097) (entry : Word) (data : List Byte) (tok : Option Token), s.board.pcie ≠ none → let b := mapGet ({} : Mbox) s.mgmt.mbox ctx.val
      let cls := if ctx.val = 4096 then Cls.h else .t ctx.val
      (b.go = true → exec (.mailboxRead ctx entry) s = .next s ∧ exec (.mailboxWrite ctx entry data tok) s = .next s) ∧
      (b.go = false →
        let b1 : Mbox := { b with go := true, write := true, useTok := tok.isSome, entry := entry &&& 0xFFFFFF, len := data.length, data := data, token := tok.getD b.token }
        exec (.mailboxWrite ctx entry data tok) s = .next ((s.updMgmt (fun m => { m with mbox := mapSet {} m.mbox ctx.val b1 })).request
          { cls := cls, key := fieldOf entry 0 24, val := some data, tok := tok, dest := .mbox ctx.val }) ∧
        (∀ e, s.Serves → keySub (fieldOf entry 0 24) ≠ 0 → entryAt (fieldOf entry 0 24) = some e → mayWrite cls (fieldOf entry 0 24) = true →
          e.acc = .rws → bitAt e.classes 3 = false → e.fits data = true → s.rwsBad (fieldOf entry 0 24) (leNat data) = 0 →
          ∃ (t : State) (w : JWrite), exec (.mailboxWrite ctx entry data tok) s = .next t ∧ mapGet ({} : Mbox) t.mgmt.mbox ctx.val = b1 ∧
            t.mgmt.hand = some w ∧ w.key = fieldOf entry 0 24 ∧ w.val = cleaned w.key (leNat data) ∧ w.old = s.dv w.key ∧ t.dict = s.dict) ∧
        (s.Serves → entryAt (fieldOf entry 0 24) = none →
          ∃ t : State, exec (.mailboxWrite ctx entry data tok) s = .next t ∧ t.dict = s.dict ∧ t.mgmt.hand = none ∧
            mapGet ({} : Mbox) t.mgmt.mbox ctx.val = { b1 with go := false, status := Code.entryAccess })) ∧
      (∀ e, b.go = false → s.mgmt.hand = none → s.mgmt.queue = [] → keySub (fieldOf entry 0 24) ≠ 0 → mayRead cls (fieldOf entry 0 24) = true →
        fieldOf entry 0 24 ≠ dkey 0x4021 0x02 → fieldOf entry 0 24 ≠ dkey 0x6001 0x03 → entryAt (fieldOf entry 0 24) = some e → 0 < e.bytes →
        ∃ (t : State) (b' : Mbox), exec (.mailboxRead ctx entry) s = .next t ∧ mapGet ({} : Mbox) t.mgmt.mbox ctx.val = b' ∧ b'.go = false ∧
          b'.status = 0 ∧ b'.data = s.entryView e (fieldOf entry 0 24) ∧ b'.len = e.bytes ∧ b'.entry = entry &&& 0xFFFFFF ∧ t.dict = s.dict ∧
          t.mgmt.queue = [] ∧ t.mgmt.hand = none) ∧
      (b.go = false → s.mgmt.hand = none → s.mgmt.queue = [] → keySub (fieldOf entry 0 24) ≠ 0 → mayRead cls (fieldOf entry 0 24) = false →
        ∃ t : State, exec (.mailboxRead ctx entry) s = .next t ∧ (mapGet ({} : Mbox) t.mgmt.mbox ctx.val).status = Code.entryAccess ∧
          (mapGet ({} : Mbox) t.mgmt.mbox ctx.val).go = false ∧ t.dict = s.dict)) ∧
    (∀ w, s.jRoom w = true →
      (s.mgmt.jNext = .own w → exec .journalCommit s = .next (((s.updMgmt (fun m => { m with own := m.own.drop 1, clearMap :=
        m.clearMap && !(w.key == dkey 0x3010 0x03 && w.eff == 1) })).program w).takeEffect w)) ∧
      (s.mgmt.jNext = .hand w → exec .journalCommit s = .next ((((s.program w).takeEffect w).committed w).handDone w 0)) ∧
      (s.mgmt.jNext = .late w → w.signed = none →
        exec .journalCommit s = .next (((s.updMgmt (fun m => { m with late := m.late.drop 1 })).program w).program { w with val := w.old })) ∧
      (s.mgmt.compactNext = false → let t := s.program w
        (t.mgmt.area t.mgmt.areaB).recs = (s.mgmt.area s.mgmt.areaB).recs ++ numbered (s.mgmt.seq + 1) w.recs ∧
        t.mgmt.seq = s.mgmt.seq + w.recs.length ∧ t.mgmt.areaB = s.mgmt.areaB ∧ t.dict = s.dict) ∧
      (w.eff = 0 → w.signed = none → (s.takeEffect w).dv w.key = w.val)) ∧
    (∀ h, s.mgmt.own = [] → s.mgmt.hand = some h → s.now < h.began + 50000000 → exec .journalWriteTimeout s = .next s) ∧
    (∀ h, s.mgmt.own = [] → s.mgmt.hand = some h → h.began + 50000000 ≤ s.now →
      exec .journalWriteTimeout s = .next ((((((s.updMgmt (fun m => { m with late := m.late ++ [h] })).updMgmt (fun m =>
        { m with compactNext := true })).count (dkey 0xA000 0x07)).raise Ev.journalTimeout 0 Code.journalTimeout)).handDone h Code.journalTimeout)) ∧
    (∀ w r, s.mgmt.own = w :: r → s.mgmt.hand = none → w.eff = 1 → w.keep = true → w.began + 50000000 ≤ s.now →
      exec .journalWriteTimeout s = .next (((((s.updMgmt (fun m => { m with own := r ++ [{ w with began := s.now }] })).updMgmt (fun m =>
        { m with compactNext := true })).count (dkey 0xA000 0x07)).raise Ev.journalTimeout 0 Code.journalTimeout))) ∧
    (∀ q, s.mgmt.compact = some q → s.fencedFlash = false → (s.mgmt.area (!s.mgmt.areaB)).erased = true →
      ∃ t : State, exec .compaction s = .next t ∧ t.mgmt.areaB = (!s.mgmt.areaB) ∧ t.mgmt.compact = none ∧
        (t.mgmt.area t.mgmt.areaB).header = true ∧ (t.mgmt.area t.mgmt.areaB).ended = true ∧
        (t.mgmt.area t.mgmt.areaB).gen = (s.mgmt.area s.mgmt.areaB).gen + 1 ∧ (t.mgmt.area s.mgmt.areaB).header = false ∧ t.mem = s.mem) ∧
    (s.fencedFlash = false → (s.mgmt.area (!s.mgmt.areaB)).erased = false →
      ∃ t : State, exec .journalAreaErase s = .next t ∧ t.mgmt.area (!s.mgmt.areaB) = {} ∧ t.mgmt.area s.mgmt.areaB = s.mgmt.area s.mgmt.areaB) ∧
    exec .opTimeJournal s = .next (s.updMgmt (fun m => { m with own := m.own ++
      [{ key := dkey 0x1000 0x08, val := s.opTime, old := s.dv (dkey 0x1000 0x08), began := s.now }] }))

/-- O57. R409, R410, R416, R420, R432: a root moves one step of the grid toward its goal, up only within the voltage acknowledged; its
voltage is asked for and acknowledged or given up; telemetry, its age, and the cap loop set what it moves to. R418 to R423: guards and
filler holds end, a droop crossing suppresses root edges and freezes the step sequence, a fall of the load triggers the filler's ramp, and
the start governor serves the waiting groves in turn. -/
def Obligations.RootsAndKeeper : Prop :=
  (let grid := fun f : Nat => f = 5760 ∨ (3600 ≤ f ∧ f ≤ 5750 ∧ f % 25 = 0)
  (∀ f, grid (gridNear f)) ∧ (∀ f, grid f → grid (rootUp f) ∧ grid (rootDown f) ∧ (f < 5760 → f < rootUp f) ∧ (3600 < f → rootDown f < f)) ∧
  ∀ (s : State) (die : Fin 8), s.running = true →
    let d := die.val
    let p := s.die d
    let free := p.down = false ∧ p.frozen = false ∧ p.supp = 0 ∧ s.railLow d = false
    let u := if p.throttled then s.updDie d (fun p => { p with limit := rootDown p.limit }) else s
    (¬ free → exec (.rootStep die) s = .next s) ∧
    (free → p.root < u.rootGoal d → rootUp p.root ≤ p.volt →
      exec (.rootStep die) s = .next ((u.updDie d (fun p => { p with root := rootUp p.root })).count (dkey 0x2010 0x03))) ∧
    (free → p.root < u.rootGoal d → p.volt < rootUp p.root →
      exec (.rootStep die) s = .next (u.updDie d (fun p => p.ask s.now (p.want.getD (u.rootGoal d))))) ∧
    (free → u.rootGoal d < p.root → exec (.rootStep die) s = .next ((u.updDie d (fun p =>
      let q := { p with root := rootDown p.root }
      if rootDown p.root = u.rootGoal d then q.ask s.now (rootDown p.root) else q)).count (dkey 0x2010 0x03))) ∧
    (free → u.rootGoal d = p.root → p.volt = p.root ∨ p.want ≠ none → exec (.rootStep die) s = .next u) ∧
    (free → u.rootGoal d = p.root → p.volt ≠ p.root → p.want = none →
      exec (.rootStep die) s = .next (u.updDie d (fun q => { q with want := some p.root, askAt := s.now }))) ∧
    (∀ f, p.ask s.now f = if p.want = some f then p else { p with want := some f, askAt := s.now }) ∧
    (∀ f, p.want = some f → exec (.avsAck die) s = .next ((s.updDie d (fun p => { p with volt := f, want := none, millivolt := s.setpoint d f
                                                                                         guards := p.guards.map (fun g => { g with ready := true }) })).hintsDone)) ∧
    (∀ f, p.want = some f → (∀ e < 8, (s.die e).guards = []) →
      (∃ t : State, exec (.avsAck die) s = .next t ∧ t.die d = { p with volt := f, want := none, millivolt := s.setpoint d f } ∧
        t.rings = s.rings ∧ t.mem = s.mem) ∧
      (p.askAt + 20000 ≤ s.now → ∃ t : State, exec (.avsTimeout die) s = .next t ∧ t.die d = { p with want := none } ∧ t.rings = s.rings ∧ t.mem = s.mem)) ∧
    (s.now < p.askAt + 20000 → exec (.avsTimeout die) s = .next s) ∧
    (p.want ≠ none → p.askAt + 20000 ≤ s.now → exec (.avsTimeout die) s = .next (((s.count (dkey 0x2030 0x06)).raise Ev.telemetryStale d).dropGuards d)) ∧
    (∀ mw mv, exec (.avsTelemetryRead die mw mv false) s = .next (s.updDie d (fun p => { p with fresh := 0 })) ∧
      ∃ t : State, exec (.avsTelemetryRead die mw mv true) s = .next t ∧ (t.rail d).power = mw ∧ (t.rail d).mv = mv ∧ (t.rail d).lastOk = s.now ∧
        (t.die d).samples = (mw :: p.samples).take 20 ∧ (t.die d).held = (p.held && decide (p.fresh + 1 < 20)) ∧
        (∀ k, k ≠ d → t.rail k = s.rail k) ∧ (∀ e, e ≠ d → t.die e = s.die e) ∧ t.mem = s.mem ∧
        (let total := (List.range 8).foldl (fun a k => a + (t.rail k).power) t.otherPower
         (4400000 < total → t.pwr.edp = true) ∧ (total ≤ 4000000 → t.pwr.edp = false) ∧
         (4000000 < total → total ≤ 4400000 → t.pwr.edp = s.pwr.edp))) ∧
    (∀ (rail : Fin 40) mw mv, exec (.pmbusTelemetryRead rail mw mv false) s = .next s ∧
      (rail.val < 8 → exec (.pmbusTelemetryRead rail mw mv true) s = .next s) ∧
      (8 ≤ rail.val → exec (.pmbusTelemetryRead rail mw mv true) s = .next (s.updRail rail.val (fun r =>
        { r with power := mw, mv := mv, lastOk := s.now, stale := false })))) ∧
    (∀ rail : Fin 40, s.now < (s.rail rail.val).lastOk + 2000000 → exec (.telemetryStale rail) s = .next s) ∧
    (∀ rail : Fin 40, (s.rail rail.val).lastOk + 2000000 ≤ s.now → let v := s.updRail rail.val (fun r => { r with stale := true })
      (8 ≤ rail.val → exec (.telemetryStale rail) s = .next (v.raise Ev.telemetryStale rail.val)) ∧
      (rail.val < 8 → exec (.telemetryStale rail) s = .next (((v.updDie rail.val (fun p => { p with held := true, fresh := 0 })).count
        (dkey 0x2030 0x06)).raise Ev.telemetryStale rail.val))) ∧
    (∃ t : State, exec .capLoop s = .next t ∧ t.mem = s.mem ∧ -16 ≤ s.capSteps ∧ s.capSteps ≤ 8 ∧
      t.pwr.ft = (if s.dv (dkey 0x2000 0x02) ≠ 0 then gridNear ((s.pwr.ft : Int) + 25 * s.capSteps).toNat else 5760) ∧
      (t.die d).target = min t.pwr.ft (min (t.die d).limit (s.rootMax d)) ∧ (t.die d).root = p.root ∧
      (t.die d).limit = (match p.cool with | some n => if n ≥ 1 then 5760 else p.limit | none => p.limit))) ∧
  (∀ (s : State) (die : Fin 8), s.running = true →
    let d := die.val
    let p := s.die d
    ((∀ g ∈ p.guards, g.ready = true → g.cmd = 0 → s.now < g.ends) → exec (.hintExpiry die) s = .next s) ∧
    ((∃ g ∈ p.guards, g.ready = true ∧ g.cmd = 0 ∧ g.ends ≤ s.now) → ∃ pre g post, p.guards = pre ++ g :: post ∧ g.ready = true ∧ g.cmd = 0 ∧
      (∀ x ∈ p.guards, x.ready = true → x.cmd = 0 → g.ends ≤ x.ends) ∧
      exec (.hintExpiry die) s = .next (s.updDie d (fun p => { p with guards := pre ++ post }))) ∧
    (s.now < p.holdTo ∨ s.hinting d = true → exec (.fillerHoldExpiry die) s = .next s) ∧
    (∀ h, p.hold = some h → p.holdTo ≤ s.now → s.hinting d = false → exec (.fillerHoldExpiry die) s = .next (s.updDie d (fun p =>
      { p with hold := none, trig := some (s.now, h), ramp := s.dv (dkey 0x2020 0x02) }))) ∧
    (∀ detector : Fin 16, p.down = false → let u := (s.count (dkey 0x2011 0x02)).updDie d (fun p =>
        { p with supp := 4, low := insNat detector.val p.low, clearAt := s.now })
      (p.frozen = true → exec (.droopCrossing die detector) s = .next u) ∧
      (p.frozen = false → exec (.droopCrossing die detector) s = .next ((u.updDie d (fun p => { p with frozen := true })).count (dkey 0x2011 0x04)))) ∧
    (p.supp = 0 ∨ s.now < p.clearAt + 20 → exec (.droopRelease die) s = .next s) ∧
    (p.supp ≠ 0 → p.clearAt + 20 ≤ s.now → ∃ t : State, exec (.droopRelease die) s = .next t ∧
      t.die d = { p with supp := p.supp - 1, low := [], clearAt := s.now } ∧ (∀ e, e ≠ d → t.die e = s.die e) ∧ t.mem = s.mem) ∧
    (p.supp = 0 → s.railLow d = false → p.clearAt + 5000 ≤ s.now →
      exec (.stepFreezeEnd die) s = .next (s.updDie d (fun p => { p with frozen := false }))) ∧
    (p.supp ≠ 0 ∨ s.railLow d = true ∨ s.now < p.clearAt + 5000 → exec (.stepFreezeEnd die) s = .next s) ∧
    (∀ x, p.down = false → s.dv (dkey 0x2020 0x01) ≠ 0 →
      let l := (x :: p.loads).take 12
      let hit := p.hold.isNone && loadFell (s.dieCores d).length l && !(loadFell (s.dieCores d).length p.loads)
      let u := if hit then s.count (dkey 0x2020 0x03) else s
      ∃ (t : State) (q : DieP), exec (.pewterSample die x) s = .next t ∧ (p.filler = 0 → t = u.updDie d (fun _ => q)) ∧ t.die d = q ∧
        (∀ e, e ≠ d → t.die e = s.die e) ∧ t.mem = s.mem ∧ q.loads = l ∧ q.root = p.root ∧ q.hold = p.hold ∧
        q.filler = min (16 * u.idleArrays d) (q.fillGoal s.now - x) ∧
        (hit = true → q.ramp = u.dv (dkey 0x2020 0x02) ∧
          q.trig = some (s.now, match p.trig with | some _ => max x (p.fillGoal s.now) | none => (l[10]?).getD 0)) ∧
        (hit = false → ∀ t0 l1, p.trig = some (t0, l1) → q.trig = if s.now > t0 + 1000 * p.ramp then none else some (t0, l1))) ∧
    (∀ x, p.down = false → s.dv (dkey 0x2020 0x01) = 0 →
      ∃ (t : State) (q : DieP), exec (.pewterSample die x) s = .next t ∧ t.die d = q ∧ t.mem = s.mem ∧ q.loads = [] ∧ q.trig = none ∧ q.hold = p.hold) ∧
    ((∀ n ∈ s.dieCores d, s.govWaits n = false) → exec (.governorWindow die) s = .next (s.updDie d (fun p => { p with window := false }))) ∧
    ((∃ n ∈ s.dieCores d, s.govWaits n = true) → ∃ (g : Nat) (t : State), exec (.governorWindow die) s = .next t ∧
      (∃ n ∈ s.dieCores d, s.govWaits n = true ∧ n / 8 = g) ∧
      (p.grove < g → ∀ n ∈ s.dieCores d, s.govWaits n = true → p.grove < n / 8 → g ≤ n / 8) ∧
      (g ≤ p.grove → ∀ n ∈ s.dieCores d, s.govWaits n = true → g ≤ n / 8 ∧ n / 8 ≤ p.grove) ∧
      (t.die d).grove = g ∧ (t.die d).window = true ∧ t.mem = s.mem ∧
      ∀ n ∈ s.dieCores d, t.govWaits n = (s.govWaits n && decide (n / 8 ≠ g))))

/-- O58. R425 to R430: a supply warning fences flash programming and freezes a compute rail's steps until every rail is back; one that
lasts brings the safe state; a reset level takes the die, or the device; power domains sleep and wake. -/
def Obligations.SupplyAndDomains : Prop :=
  ∀ (s : State) (rail : Fin 40),
    let k := rail.val
    (s.running = true → ∀ mv,
      ((s.rail k).st ≠ 0 → exec (.supplyWarning rail mv) s = .next (s.updRail k (fun r => { r with lowest := min r.lowest mv }))) ∧
      ((s.rail k).st = 0 → ∃ t : State, exec (.supplyWarning rail mv) s = .next t ∧ (t.rail k).st = 1 ∧ (t.rail k).since = s.now ∧
        (t.rail k).lowest = mv ∧ (∀ j, j ≠ k → t.rail j = s.rail j) ∧ t.fencedFlash = true ∧ (k < 8 → (t.die k).frozen = true) ∧
        (∀ e, e ≠ k → t.die e = s.die e) ∧ t.mem = s.mem ∧ t.reqs = s.reqs ∧ t.launches = s.launches)) ∧
    (s.running = true → (∃ e ∈ s.pwr.rails, e.2.st ≠ 0) → (∀ e ∈ s.pwr.rails, e.2.st ≠ 2) →
      (∀ e ∈ s.pwr.rails, e.2.st ≠ 0 → s.now ≤ e.2.since + 1000000) →
      ∃ u : State, exec .warningCleared s = .next u.readmit.serveNext ∧ (∀ j, (u.rail j).st = 0) ∧ u.mem = s.mem ∧
        u.pwr.failed = s.pwr.failed ∧ u.pwr.dies = s.pwr.dies) ∧
    (s.running = true → (s.rail k).st = 1 → s.now ≤ (s.rail k).since + 1000000 → exec (.powerFailure rail) s = .next s) ∧
    (s.running = true → (s.rail k).st = 1 → (s.rail k).since + 1000000 < s.now → exec (.powerFailure rail) s = .next (s.enterSafe k)) ∧
    (∀ u : State, let t := u.enterSafe k
      t.dev.phase = .safe ∧ t.dev.alert = true ∧ t.board.inSafe = true ∧ t.reqs = [] ∧ t.pwr.failed = true ∧ t.pwr.failRail = k) ∧
    (s.dev.phase = .safe → s.pwr.failed = true → exec .powerFailureRecovery s = .next (({ s with pwr := { s.pwr with
      failed := false, rails := s.pwr.rails.map (fun (e : Nat × RailP) => (e.1, { e.2 with st := 0 })) } }.count (dkey 0x2030 0x04)).raise
        Ev.powerFailure s.pwr.failRail)) ∧
    (s.running = true →
      let v := s.updRail k (fun r => { r with st := 2, since := if r.st = 0 then s.now else r.since })
      let u := { v with dev := { v.dev with alert := true } }
      (8 ≤ k → exec (.railResetLevel rail) s = .next (u.enterSafe k)) ∧
      (k < 8 → (s.die k).down = true → exec (.railResetLevel rail) s = .next u) ∧
      (k < 8 → (s.die k).down = false → exec (.railResetLevel rail) s = .next (u.dieReset k) ∧ ((u.dieReset k).die k).down = true)) ∧
    (∀ dom : Fin 911, s.running = true → s.domainNaps dom.val = true →
      (s.domainBusy dom.val = true → exec (.domainWake dom) s = .next { s with pwr := { s.pwr with
          domOff := s.pwr.domOff.filter (fun x => x != dom.val), domRet := s.pwr.domRet.filter (fun x => x != dom.val) } } ∧
        exec (.domainIdleOff dom) s = .next s) ∧
      (s.domainBusy dom.val = false → exec (.domainWake dom) s = .next s ∧
        (dom.val < 848 → exec (.domainIdleOff dom) s = .next { s with pwr := { s.pwr with domRet := insNat dom.val s.pwr.domRet } }) ∧
        (848 ≤ dom.val → exec (.domainIdleOff dom) s = .next { s with pwr := { s.pwr with domOff := insNat dom.val s.pwr.domOff } })))

/-- O59. R429, R431 to R436, R449: junction sensors throttle, gate and trip; a re-plan lowers no margin below 45 mV and raises no root; a
die comes back at 3,600 MHz; a self-test that fails twice fences its core. R452: a fenced core is fenced once; its bit in FENCE_MAP and
its byte in FENCE_CAUSE are set, and nothing of it is left to run. -/
def Obligations.ThermalAndHealth : Prop :=
  (∀ s : State, s.running = true →
    (∀ (sensor : Sensor) (temp : Int), (mapGet ({} : SensorP) s.pwr.sensors (sensorKey sensor)).failed = false →
      let put := fun f : SensorP → SensorP => ({ s with pwr := { s.pwr with sensors := mapUpd {} s.pwr.sensors (sensorKey sensor) f } } : State)
      let d := sensorDie sensor
      (temp < -40 ∨ 150 < temp → exec (.junctionSensorRead sensor temp) s = .next
        (((put (fun x => { x with failed := true })).raise Ev.sensorFailed (sensorUnit sensor)).followTj d)) ∧
      (-40 ≤ temp → temp ≤ 150 → let u := (put (fun x => { x with read := true, temp := temp })).followTj d
        let v := ((u.updDie d (fun p => { p with hot := true })).count (dkey 0x2050 0x04)).raise Ev.thermalEmergency (sensorUnit sensor)
        (temp < 105 → exec (.junctionSensorRead sensor temp) s = .next u) ∧
        (105 ≤ temp → temp < 110 → exec (.junctionSensorRead sensor temp) s = .next (if (u.die d).hot then u else v)) ∧
        (110 ≤ temp → ∃ t : State, exec (.junctionSensorRead sensor temp) s = .next t ∧ t.dev.phase = .tripped ∧ t.dev.thermtrip = true ∧
          t.dv (dkey 0x2050 0x05) = 256 + sensorUnit sensor))) ∧
    (∀ d t, d < 8 → s.tj d = some t → ((s.followTj d).die d).throttled = decide (t ≥ (s.dv (dkey 0x2050 0x02) : Int)) ∧
      ((s.followTj d).die d).hot = ((s.die d).hot && decide (t ≥ 103)) ∧ ∀ e, e ≠ d → (s.followTj d).die e = s.die e) ∧
    (∀ heart, ∃ t : State, exec (.heartwoodReplan heart) s = .next t ∧ t = s.replan (readingsOf heart) ∧
      t.mgmt.own.map JWrite.key = s.mgmt.own.map JWrite.key ++
        [dkey 0x2060 0x01, dkey 0x2060 0x02, dkey 0x2060 0x03, dkey 0x2010 0x02, dkey 0x2060 0x04] ∧ t.mem = s.mem) ∧
    (∀ (q : Plan) kdel d heart, d < 8 → let r := q.die kdel d heart
      bits r.rmax (16 * d) 16 ≤ bits q.rmax (16 * d) 16 ∧ min 45 (bits q.margin (8 * d) 8) ≤ bits r.margin (8 * d) 8 ∧
      ∀ e < 8, e ≠ d → bits r.rmax (16 * e) 16 = bits q.rmax (16 * e) 16 ∧ bits r.margin (8 * e) 8 = bits q.margin (8 * e) 8 ∧
        bits r.slow (32 * e) 32 = bits q.slow (32 * e) 32) ∧
    (∀ (die : Fin 8) heart, let d := die.val
      ((s.die d).down = false → exec (.dieRejoin die heart) s = .next s) ∧
      ((s.die d).down = true → ∃ u : State, exec (.dieRejoin die heart) s = .next u.readmit ∧ (u.die d).down = false ∧ (u.die d).root = 3600 ∧
        (u.die d).target = 3600 ∧ (u.rail d).st = 0 ∧ u.mem = s.mem)) ∧
    (∀ (core : Fin 640) (vector : Fin 8) (failing : BitVec 16), s.arrayIdle core.val = true →
      let p := core.val
      let k := mapGet ({} : Kat) s.rep.kats p
      let again := k.rerun == some vector.val
      exec (.selftestRun core vector failing) s =
        .next (((s.count (dkey 0x2020 0x05)).selftest p vector.val failing.toNat).countFree (dkey 0x4030 0x04)) ∧
      (s.katDue p = true →
        exec (.selftestForced core vector failing) s = .next ((s.selftest p vector.val failing.toNat).countFree (dkey 0x4030 0x04))) ∧
      (s.katDue p = false → exec (.selftestForced core vector failing) s = .next s) ∧
      s.selftest p vector.val 0 = (s.updKat p (fun k => { k with last := s.now, rerun := if again then none else k.rerun })).count (dkey 0x7000 0x09) ∧
      (failing ≠ 0 → ∃ x : State, (mapGet ({} : Kat) x.rep.kats p).mismatch = some s.now ∧ x.mem = s.mem ∧ x.dev = s.dev ∧
        bits (x.dv (dkey 0x7001 0x03)) (16 * p) 16 = (bits (s.dv (dkey 0x7001 0x03)) (16 * p) 16 ||| failing.toNat) ∧
        s.selftest p vector.val failing.toNat =
          if again || (match k.mismatch with | some t => decide (s.now < t + s.dv (dkey 0x7000 0x05) * hour) | none => false)
          then x.fenceCore p 1 else x.updKat p (fun k => { k with rerun := some vector.val })))) ∧
  (∀ (s : State) (p cause : Nat), s.dev.fenced.contains p = false → p < 640 → cause < 256 →
    let t := s.fenceCore p cause
    t.dev.fenced = s.dev.fenced ++ [p] ∧ t.dev.coreMap = s.dev.coreMap ∧ bitAt (t.dv (dkey 0x7001 0x01)) p = true ∧
    bits (t.dv (dkey 0x7001 0x02)) (8 * p) 8 = cause ∧ t.fenceCore p 1 = t ∧
    (s.launches = [] → (∀ e ∈ s.images, e.2.xfers = []) → t.mem = s.mem ∧ t.rings = s.rings ∧
      (s.logOf p ≠ 0x3FF → ∀ c n, n = s.logOf p → n < 1024 → (t.img c n) = {})))

/-- O60. R445, R447, R448, R455, R456, R459: a held alarm is queued; the 16 most urgent leave the queue for the sessions and the history;
the recorder programs its oldest staged record in the next slot, and erases sector by sector. R471 to R478, R480, R481, R17: PERST#, the
rails and REFCLK, PCIe resets and configuration requests, and the test port. -/
def Obligations.ReportsAndBoard : Prop :=
  ((∀ q : List Alarm, (q.map Alarm.aseq).Nodup →
    let before := fun a b : Alarm => a.prio < b.prio ∨ (a.prio = b.prio ∧ a.aseq < b.aseq)
    let out := (alarmTake q).1
    let rest := (alarmTake q).2
    out.length = min 16 q.length ∧ out.Pairwise before ∧ (∀ a ∈ out, ∀ b ∈ rest, before a b) ∧ rest.Sublist q ∧
      ∀ a, a ∈ q ↔ a ∈ out ∨ a ∈ rest) ∧
  (∀ (h : List Alarm) a, (historyAdd h a).length ≤ 64) ∧
  ∀ (s : State), s.running = true →
    (∀ pre a post, s.rep.held = pre ++ a :: post → (∀ b ∈ pre, b.cls * 65536 + b.event ≠ a.cls * 65536 + a.event) →
      let key := a.cls * 65536 + a.event
      (mapGet 0 s.rep.lastQueued key + 100000000 ≤ s.now + 1 →
        exec (.alarmHoldRelease key) s = .next ((s.updRep (fun r => { r with held := pre ++ post })).enqueueAlarm a)) ∧
      (s.now + 1 < mapGet 0 s.rep.lastQueued key + 100000000 → exec (.alarmHoldRelease key) s = .next s)) ∧
    (s.rep.queue = [] → exec .alarmDispatch s = .next s) ∧
    (s.rep.queue ≠ [] → let out := (alarmTake s.rep.queue).1
      exec .alarmDispatch s = .next (((s.mgmt.sess.filter (fun e => e.2.isOpen && e.2.alarms)).map Prod.fst).foldl
        (fun (t : State) id => t.sendMsg id 7 (out.flatMap (fun a => leBytes 32 (alarmBits a))))
        (s.updRep (fun r => { r with queue := (alarmTake s.rep.queue).2, history := out.foldl historyAdd r.history })))) ∧
    (∀ y rest, s.rep.staging = y :: rest → s.rep.started = true → s.rep.full = false → s.rep.nextSlot ≤ 262142 →
      let n := s.rep.nextSlot
      let mayNot : Bool := s.fencedFlash || (s.rep.erasing != 0 && decide (s.rep.erasing ≤ n / 1024 + 1))
      let t := (s.updRep (fun r => { r with staging := rest, nextSlot := n + 1 })).yewPut n y
      (mayNot = true → exec .yewProgram s = .next s) ∧
      (mayNot = false → n < 262142 → exec .yewProgram s = .next t) ∧
      (mayNot = false → n = 262142 → exec .yewProgram s = .next t.yewFull ∧ t.yewFull.rep.full = true) ∧
      mapGet 0 t.rep.log n = yewBits y n s.rep.gen) ∧
    (s.fencedFlash = true ∨ s.rep.erasing = 0 → exec .yewSectorErase s = .next s) ∧
    (∀ k, s.rep.erasing = k + 1 → s.fencedFlash = false → ∃ t : State, exec .yewSectorErase s = .next t ∧
      (∀ slot, slot / 1024 ≠ k → mapGet 0 t.rep.log slot = mapGet 0 s.rep.log slot) ∧
      (∀ slot, slot / 1024 = k → slot ≠ 0 → mapGet 0 t.rep.log slot = 0) ∧
      (k = 0 → mapGet 0 t.rep.log 0 = yewBits (s.yewOwn 4 0 []) 0 s.rep.gen) ∧
      t.rep.erasing = (if k ≥ 255 then 0 else k + 2) ∧ t.rep.queue = s.rep.queue ∧ t.dict = s.dict ∧ t.mem = s.mem)) ∧
  (∀ s : State,
    (s.dev.phase = .held → exec .perstAssert s = .next s) ∧
    (s.dev.phase ≠ .held → ∃ t : State, exec .perstAssert s = .next t ∧ t.dev.phase = .held ∧ t.dict = [] ∧ t.mem = [] ∧ t.reqs = [] ∧
      t.launches = [] ∧ t.rings = [] ∧ t.caches = [] ∧ t.mgmt.sess = [] ∧ t.board.rrs = true ∧ t.board.perstAt = s.now ∧
      t.mgmt.slotA = s.mgmt.slotA ∧ t.mgmt.slotB = s.mgmt.slotB ∧ t.dev.factory = s.dev.factory ∧ t.dev.thermtrip = s.dev.thermtrip ∧
      t.pending = s.pending ∧ t.now = s.now) ∧
    (∀ r, s.dev.phase ≠ .held → exec (.perstRelease r) s = .next s) ∧
    (∀ r, s.dev.phase = .held →
      (∀ k, s.board.outOfOrder = some k → exec (.perstRelease r) s = .next { s with
        dev := { s.dev with phase := .badRails, alert := true }, board := { s.board with inSafe := true }
        pwr := { s.pwr with failed := true, failRail := k } }) ∧
      (s.board.outOfOrder = none → ∃ t : State, exec (.perstRelease r) s = .next t ∧ t.dev.phase = .running ∧ t.board.rrs = false ∧
        t.board.pcie = (if r.pcie.flit = true then some (min 640 r.pcie.rate, min 16 r.pcie.lanes) else none) ∧
        t.board.pcieRefused = !r.pcie.flit)) ∧
    (∀ heart (d : Nat), d < 8 → ((s.startClocks heart).die d).root = (if s.pwr.slow then 3600 else 4800) ∧
      ((s.startClocks heart).die d).target = (if s.pwr.slow then 3600 else 4800)) ∧
    (∀ (rail : Fin 40) what, s.dev.phase ≠ .held → exec (.railCrossing rail what) s = .next s) ∧
    (∀ rail : Fin 40, s.dev.phase = .held →
      let put := fun f : RailLatch → RailLatch => { s.board with rails := mapUpd {} s.board.rails rail.val f }
      exec (.railCrossing rail .ten) s = .next { s with board := put (fun _ => { ten := some s.now })
                                                        dev := { s.dev with thermtrip := s.dev.thermtrip && rail.val != 38 } } ∧
      exec (.railCrossing rail .ninety) s = .next { s with board := put (fun x => { x with ninety := some s.now }) } ∧
      (let b := put (fun x => { x with valid := some (s.board.validSeq, s.now) })
       exec (.railCrossing rail .valid) s = .next { s with board := { b with validSeq := s.board.validSeq + 1 } })) ∧
    (s.running = true → exec .refclkLoss s = .next { s with
      board := { s.board with refclkAt := some s.now }, dev := { s.dev with phase := .noRefclk, alert := true }
      rep := { s.rep with staging := [] } }) ∧
    (s.running = true → s.board.pcie ≠ none → ∃ t : State, exec .pcieHotReset s = .next t ∧ (∀ r < 8, ctlEn (t.ring 4096 r).ctrl = false) ∧
      ctlEn (t.ringsOf 4096).cq.ctrl = false) ∧
    (s.running = false ∨ s.board.pcie = none → exec .pcieHotReset s = .next s) ∧
    (∀ (f : Fin 4097) b, s.running = true → s.board.pcie = none → exec (.configRequest f b) s = .next s) ∧
    (∀ (f : Fin 4097) b, s.dev.phase ≠ .held → s.dev.phase ≠ .noRefclk → s.running = false ∨ s.board.pcie ≠ none →
      (s.board.rrs = true → exec (.configRequest f b) s = .next (s.emit (.value "configuration retry status" f.val))) ∧
      (s.board.rrs = false → exec (.configRequest f none) s = .next (s.emit (.value "configuration" f.val)) ∧
        ∀ v, exec (.configRequest f (some v)) s = .next ((s.updCtx f.val (fun x => { x with busMaster := v })).emit
          (.value "configuration" f.val)))) ∧
    (let tap := fun op : TapOp => ({ s with board := { s.board with tap := op } } : State)
     let inReset : Bool := s.dev.phase == .held && decide (s.board.perstAt + 1000000 ≤ s.now)
     exec (.tapInstruction .idcode) s = .next ((tap .idcode).emit (.value "IDCODE" 0x1D70954D)) ∧
     exec (.tapInstruction .bypass) s = .next (tap .bypass) ∧ (∀ n, exec (.tapInstruction (.other n)) s = .next (tap .bypass)) ∧
     exec (.tapInstruction .samplePreload) s = .next (tap (if inReset then .samplePreload else .bypass)) ∧
     exec (.tapInstruction .extest) s = .next (tap (if inReset then .extest else .bypass))))
end

