-- ==== Sys2Proof/Laws/Maps.lean ====
section
/-!
SUPPORT. Laws/Maps.lean: what a read of a sparse table gives after a write, and that every write keeps the canonical form.
-/
namespace Sys2Proof.Machine

variable {α : Type}

theorem mapFind_erase_self (m : Map α) (k : Nat) : mapFind (mapErase m k) k = none := by
  induction m with
  | nil => rfl
  | cons e r ih =>
    obtain ⟨a, v⟩ := e
    by_cases h : a = k <;> simp [mapErase, mapFind, h, ih]

theorem mapFind_erase_other (m : Map α) (k j : Nat) (h : j ≠ k) : mapFind (mapErase m k) j = mapFind m j := by
  induction m with
  | nil => rfl
  | cons e r ih =>
    obtain ⟨a, v⟩ := e
    by_cases ha : a = k
    · have : a ≠ j := fun q => h (by rw [← ha, q])
      simp only [mapErase, ha, if_true, mapFind]
      rw [if_neg (fun q => h q.symm)]; exact ih
    · simp only [mapErase, ha, if_false, mapFind, ih]

theorem mapFind_insert_self (m : Map α) (k : Nat) (v : α) : mapFind m k = none → mapFind (mapInsert m k v) k = some v := by
  induction m with
  | nil => intro _; simp [mapInsert, mapFind]
  | cons e r ih =>
    obtain ⟨a, x⟩ := e
    intro h
    by_cases ha : a = k
    · simp [mapFind, ha] at h
    · simp only [mapFind, if_neg ha] at h
      by_cases hk : k < a <;> simp [mapInsert, mapFind, hk, ha, ih h]

theorem mapFind_insert_other (m : Map α) (k j : Nat) (v : α) (h : j ≠ k) : mapFind (mapInsert m k v) j = mapFind m j := by
  have h' : ¬ k = j := fun q => h q.symm
  induction m with
  | nil => simp [mapInsert, mapFind, h']
  | cons e r ih =>
    obtain ⟨a, x⟩ := e
    by_cases hk : k < a
    · simp [mapInsert, mapFind, hk, h']
    · simp [mapInsert, mapFind, hk, ih]

/-- A read after a write of the same key gives the value written. -/
@[simp] theorem mapGet_set_self [DecidableEq α] (d : α) (m : Map α) (k : Nat) (v : α) : mapGet d (mapSet d m k v) k = v := by
  unfold mapGet mapSet
  split
  · next h => simp [mapFind_erase_self, h]
  · simp [mapFind_insert_self _ _ _ (mapFind_erase_self m k)]

/-- A write leaves every other key alone. -/
theorem mapGet_set_other [DecidableEq α] (d : α) (m : Map α) (k j : Nat) (v : α) (h : j ≠ k) :
    mapGet d (mapSet d m k v) j = mapGet d m j := by
  unfold mapGet mapSet
  split
  · rw [mapFind_erase_other m k j h]
  · rw [mapFind_insert_other _ _ _ _ h, mapFind_erase_other m k j h]

/-- The canonical form, said by its parts. -/
def mapOrd [DecidableEq α] (d : α) (m : Map α) : Prop := m.Pairwise (fun x y => x.1 < y.1) ∧ ∀ e ∈ m, e.2 ≠ d

theorem mapWf_iff [DecidableEq α] (d : α) (m : Map α) : mapWf d m = true ↔ mapOrd d m := by
  induction m with
  | nil => simp [mapWf, mapOrd]
  | cons e r ih =>
    obtain ⟨a, v⟩ := e
    cases r with
    | nil => simp [mapWf, mapOrd]
    | cons f t =>
      obtain ⟨b, w⟩ := f
      simp only [mapWf, Bool.and_eq_true, decide_eq_true_eq, bne_iff_ne, ne_eq, ih, mapOrd]
      constructor
      · rintro ⟨⟨hab, hv⟩, hp, hd⟩
        refine ⟨List.pairwise_cons.mpr ⟨?_, hp⟩, ?_⟩
        · intro y hy
          rcases List.mem_cons.mp hy with rfl | hy
          · exact hab
          · exact Nat.lt_trans hab ((List.pairwise_cons.mp hp).1 y hy)
        · intro e he
          rcases List.mem_cons.mp he with rfl | he
          · exact hv
          · exact hd e he
      · rintro ⟨hp, hd⟩
        have h1 := List.pairwise_cons.mp hp
        exact ⟨⟨h1.1 (b, w) (by simp), hd (a, v) (by simp)⟩, h1.2, fun e he => hd e (List.mem_cons_of_mem _ he)⟩

theorem mapErase_eq_filter (m : Map α) (k : Nat) : mapErase m k = m.filter (fun e => decide (e.1 ≠ k)) := by
  induction m with
  | nil => rfl
  | cons e r ih =>
    obtain ⟨a, v⟩ := e
    by_cases h : a = k <;> simp [mapErase, h, ih]

theorem mem_mapInsert (m : Map α) (k : Nat) (v : α) (e : Nat × α) : e ∈ mapInsert m k v ↔ e = (k, v) ∨ e ∈ m := by
  induction m with
  | nil => simp [mapInsert]
  | cons x r ih =>
    obtain ⟨a, w⟩ := x
    by_cases hk : k < a
    · simp [mapInsert, hk]
    · simp only [mapInsert, hk, if_false, List.mem_cons, ih]; tauto

theorem mapErase_wf [DecidableEq α] (d : α) (m : Map α) (k : Nat) (h : mapWf d m = true) : mapWf d (mapErase m k) = true := by
  rw [mapWf_iff] at h ⊢
  rw [mapErase_eq_filter]
  exact ⟨h.1.sublist List.filter_sublist, fun e he => h.2 e (List.mem_of_mem_filter he)⟩

/-- A write keeps the canonical form. -/
theorem mapSet_wf [DecidableEq α] (d : α) (m : Map α) (k : Nat) (v : α) (h : mapWf d m = true) : mapWf d (mapSet d m k v) = true := by
  unfold mapSet
  split
  · exact mapErase_wf d m k h
  · next hv =>
    have he := mapErase_wf d m k h
    have hk : ∀ e ∈ mapErase m k, e.1 ≠ k := by
      intro e he
      rw [mapErase_eq_filter] at he
      simpa using (List.mem_filter.mp he).2
    generalize mapErase m k = q at he hk
    rw [mapWf_iff] at he ⊢
    refine ⟨?_, fun e hm => ?_⟩
    · clear h
      induction q with
      | nil => simp [mapInsert]
      | cons x r ih =>
        obtain ⟨a, w⟩ := x
        have hp := List.pairwise_cons.mp he.1
        by_cases hka : k < a
        · simp only [mapInsert, hka, if_true]
          refine List.pairwise_cons.mpr ⟨?_, he.1⟩
          intro y hy
          rcases List.mem_cons.mp hy with rfl | hy
          · exact hka
          · exact Nat.lt_trans hka (hp.1 y hy)
        · simp only [mapInsert, hka, if_false]
          refine List.pairwise_cons.mpr ⟨?_, ih ⟨hp.2, fun e h => he.2 e (List.mem_cons_of_mem _ h)⟩
            (fun e h => hk e (List.mem_cons_of_mem _ h))⟩
          intro y hy
          rcases (mem_mapInsert r k v y).mp hy with rfl | hy
          · have := hk (a, w) (by simp)
            simp only at this ⊢; omega
          · exact hp.1 y hy
    · rcases (mem_mapInsert q k v e).mp hm with rfl | hm
      · exact hv
      · exact he.2 e hm

/-- A table filtered keeps the canonical form. -/
theorem mapFilter_wf [DecidableEq α] (d : α) (m : Map α) (f : Nat × α → Bool) (h : mapWf d m = true) :
    mapWf d (m.filter f) = true := by
  rw [mapWf_iff] at h ⊢
  exact ⟨h.1.sublist List.filter_sublist, fun e he => h.2 e (List.mem_of_mem_filter he)⟩

end Sys2Proof.Machine
end

