-- ==== Sys2Proof/Laws/State.lean ====
section
/-!
SUPPORT. Laws/State.lean: one lemma per field per plain update of the state, each true by rfl, and the reads after an update of one
entry of a table.
-/
namespace Sys2Proof.Machine

/-! tick. -/

@[simp] theorem State.tick_pending (s : State) : (s.tick).pending = s.pending := rfl
@[simp] theorem State.tick_now (s : State) : (s.tick).now = s.now + 1 := rfl
@[simp] theorem State.tick_fresh (s : State) : (s.tick).fresh = s.fresh := rfl
@[simp] theorem State.tick_nextId (s : State) : (s.tick).nextId = s.nextId := rfl
@[simp] theorem State.tick_out (s : State) : (s.tick).out = s.out := rfl
@[simp] theorem State.tick_dev (s : State) : (s.tick).dev = s.dev := rfl
@[simp] theorem State.tick_board (s : State) : (s.tick).board = s.board := rfl
@[simp] theorem State.tick_dict (s : State) : (s.tick).dict = s.dict := rfl
@[simp] theorem State.tick_ovfl (s : State) : (s.tick).ovfl = s.ovfl := rfl
@[simp] theorem State.tick_snap (s : State) : (s.tick).snap = s.snap := rfl
@[simp] theorem State.tick_ctxs (s : State) : (s.tick).ctxs = s.ctxs := rfl
@[simp] theorem State.tick_parts (s : State) : (s.tick).parts = s.parts := rfl
@[simp] theorem State.tick_images (s : State) : (s.tick).images = s.images.map s.laterImage := rfl
@[simp] theorem State.tick_caches (s : State) : (s.tick).caches = s.caches := rfl
@[simp] theorem State.tick_tlbs (s : State) : (s.tick).tlbs = s.tlbs := rfl
@[simp] theorem State.tick_dtlbs (s : State) : (s.tick).dtlbs = s.dtlbs := rfl
@[simp] theorem State.tick_dbg (s : State) : (s.tick).dbg = s.dbg := rfl
@[simp] theorem State.tick_launches (s : State) : (s.tick).launches = s.launches.map s.laterLaunch := rfl
@[simp] theorem State.tick_mem (s : State) : (s.tick).mem = s.mem := rfl
@[simp] theorem State.tick_side (s : State) : (s.tick).side = s.side := rfl
@[simp] theorem State.tick_owner (s : State) : (s.tick).owner = s.owner := rfl
@[simp] theorem State.tick_saves (s : State) : (s.tick).saves = s.saves := rfl
@[simp] theorem State.tick_reqs (s : State) : (s.tick).reqs = s.reqs := rfl
@[simp] theorem State.tick_banks (s : State) : (s.tick).banks = s.banks := rfl
@[simp] theorem State.tick_aunits (s : State) : (s.tick).aunits = s.aunits := rfl
@[simp] theorem State.tick_hbm (s : State) : (s.tick).hbm = s.hbm := rfl
@[simp] theorem State.tick_rels (s : State) : (s.tick).rels = s.rels := rfl
@[simp] theorem State.tick_rep (s : State) : (s.tick).rep = s.rep := rfl
@[simp] theorem State.tick_ports (s : State) : (s.tick).ports = s.ports := rfl
@[simp] theorem State.tick_flows (s : State) : (s.tick).flows = s.flows := rfl
@[simp] theorem State.tick_gws (s : State) : (s.tick).gws = s.gws := rfl
@[simp] theorem State.tick_pwr (s : State) : (s.tick).pwr = s.pwr := rfl
@[simp] theorem State.tick_mgmt (s : State) : (s.tick).mgmt = s.mgmt := rfl
@[simp] theorem State.tick_alder (s : State) : (s.tick).alder = s.alder := rfl
@[simp] theorem State.tick_exch (s : State) : (s.tick).exch = s.exch := rfl

/-! progress. -/

@[simp] theorem State.progress_pending (s : State) (c r : Nat) : (s.progress c r).pending = s.pending := rfl
@[simp] theorem State.progress_now (s : State) (c r : Nat) : (s.progress c r).now = s.now := rfl
@[simp] theorem State.progress_fresh (s : State) (c r : Nat) : (s.progress c r).fresh = s.fresh := rfl
@[simp] theorem State.progress_nextId (s : State) (c r : Nat) : (s.progress c r).nextId = s.nextId := rfl
@[simp] theorem State.progress_out (s : State) (c r : Nat) : (s.progress c r).out = s.out := rfl
@[simp] theorem State.progress_dev (s : State) (c r : Nat) : (s.progress c r).dev = s.dev := rfl
@[simp] theorem State.progress_board (s : State) (c r : Nat) : (s.progress c r).board = s.board := rfl
@[simp] theorem State.progress_dict (s : State) (c r : Nat) : (s.progress c r).dict = s.dict := rfl
@[simp] theorem State.progress_ovfl (s : State) (c r : Nat) : (s.progress c r).ovfl = s.ovfl := rfl
@[simp] theorem State.progress_snap (s : State) (c r : Nat) : (s.progress c r).snap = s.snap := rfl
@[simp] theorem State.progress_ctxs (s : State) (c r : Nat) : (s.progress c r).ctxs = s.ctxs := rfl
@[simp] theorem State.progress_parts (s : State) (c r : Nat) : (s.progress c r).parts = s.parts := rfl
@[simp] theorem State.progress_images (s : State) (c r : Nat) : (s.progress c r).images = s.images := rfl
@[simp] theorem State.progress_caches (s : State) (c r : Nat) : (s.progress c r).caches = s.caches := rfl
@[simp] theorem State.progress_tlbs (s : State) (c r : Nat) : (s.progress c r).tlbs = s.tlbs := rfl
@[simp] theorem State.progress_dtlbs (s : State) (c r : Nat) : (s.progress c r).dtlbs = s.dtlbs := rfl
@[simp] theorem State.progress_dbg (s : State) (c r : Nat) : (s.progress c r).dbg = s.dbg := rfl
@[simp] theorem State.progress_launches (s : State) (c r : Nat) : (s.progress c r).launches = s.launches := rfl
@[simp] theorem State.progress_mem (s : State) (c r : Nat) : (s.progress c r).mem = s.mem := rfl
@[simp] theorem State.progress_side (s : State) (c r : Nat) : (s.progress c r).side = s.side := rfl
@[simp] theorem State.progress_owner (s : State) (c r : Nat) : (s.progress c r).owner = s.owner := rfl
@[simp] theorem State.progress_saves (s : State) (c r : Nat) : (s.progress c r).saves = s.saves := rfl
@[simp] theorem State.progress_reqs (s : State) (c r : Nat) : (s.progress c r).reqs = s.reqs := rfl
@[simp] theorem State.progress_banks (s : State) (c r : Nat) : (s.progress c r).banks = s.banks := rfl
@[simp] theorem State.progress_aunits (s : State) (c r : Nat) : (s.progress c r).aunits = s.aunits := rfl
@[simp] theorem State.progress_hbm (s : State) (c r : Nat) : (s.progress c r).hbm = s.hbm := rfl
@[simp] theorem State.progress_rels (s : State) (c r : Nat) : (s.progress c r).rels = s.rels := rfl
@[simp] theorem State.progress_rep (s : State) (c r : Nat) : (s.progress c r).rep = s.rep := rfl
@[simp] theorem State.progress_ports (s : State) (c r : Nat) : (s.progress c r).ports = s.ports := rfl
@[simp] theorem State.progress_flows (s : State) (c r : Nat) : (s.progress c r).flows = s.flows := rfl
@[simp] theorem State.progress_gws (s : State) (c r : Nat) : (s.progress c r).gws = s.gws := rfl
@[simp] theorem State.progress_pwr (s : State) (c r : Nat) : (s.progress c r).pwr = s.pwr := rfl
@[simp] theorem State.progress_mgmt (s : State) (c r : Nat) : (s.progress c r).mgmt = s.mgmt := rfl
@[simp] theorem State.progress_alder (s : State) (c r : Nat) : (s.progress c r).alder = s.alder := rfl
@[simp] theorem State.progress_exch (s : State) (c r : Nat) : (s.progress c r).exch = s.exch := rfl

/-! drawn. -/

@[simp] theorem State.drawn_pending (s : State) : (s.drawn).pending = s.pending := rfl
@[simp] theorem State.drawn_now (s : State) : (s.drawn).now = s.now := rfl
@[simp] theorem State.drawn_fresh (s : State) : (s.drawn).fresh = s.fresh + 1 := rfl
@[simp] theorem State.drawn_nextId (s : State) : (s.drawn).nextId = s.nextId := rfl
@[simp] theorem State.drawn_out (s : State) : (s.drawn).out = s.out := rfl
@[simp] theorem State.drawn_dev (s : State) : (s.drawn).dev = s.dev := rfl
@[simp] theorem State.drawn_board (s : State) : (s.drawn).board = s.board := rfl
@[simp] theorem State.drawn_dict (s : State) : (s.drawn).dict = s.dict := rfl
@[simp] theorem State.drawn_ovfl (s : State) : (s.drawn).ovfl = s.ovfl := rfl
@[simp] theorem State.drawn_snap (s : State) : (s.drawn).snap = s.snap := rfl
@[simp] theorem State.drawn_ctxs (s : State) : (s.drawn).ctxs = s.ctxs := rfl
@[simp] theorem State.drawn_parts (s : State) : (s.drawn).parts = s.parts := rfl
@[simp] theorem State.drawn_images (s : State) : (s.drawn).images = s.images := rfl
@[simp] theorem State.drawn_caches (s : State) : (s.drawn).caches = s.caches := rfl
@[simp] theorem State.drawn_tlbs (s : State) : (s.drawn).tlbs = s.tlbs := rfl
@[simp] theorem State.drawn_dtlbs (s : State) : (s.drawn).dtlbs = s.dtlbs := rfl
@[simp] theorem State.drawn_dbg (s : State) : (s.drawn).dbg = s.dbg := rfl
@[simp] theorem State.drawn_launches (s : State) : (s.drawn).launches = s.launches := rfl
@[simp] theorem State.drawn_mem (s : State) : (s.drawn).mem = s.mem := rfl
@[simp] theorem State.drawn_side (s : State) : (s.drawn).side = s.side := rfl
@[simp] theorem State.drawn_owner (s : State) : (s.drawn).owner = s.owner := rfl
@[simp] theorem State.drawn_saves (s : State) : (s.drawn).saves = s.saves := rfl
@[simp] theorem State.drawn_reqs (s : State) : (s.drawn).reqs = s.reqs := rfl
@[simp] theorem State.drawn_banks (s : State) : (s.drawn).banks = s.banks := rfl
@[simp] theorem State.drawn_aunits (s : State) : (s.drawn).aunits = s.aunits := rfl
@[simp] theorem State.drawn_hbm (s : State) : (s.drawn).hbm = s.hbm := rfl
@[simp] theorem State.drawn_rels (s : State) : (s.drawn).rels = s.rels := rfl
@[simp] theorem State.drawn_rings (s : State) : (s.drawn).rings = s.rings := rfl
@[simp] theorem State.drawn_rep (s : State) : (s.drawn).rep = s.rep := rfl
@[simp] theorem State.drawn_ports (s : State) : (s.drawn).ports = s.ports := rfl
@[simp] theorem State.drawn_flows (s : State) : (s.drawn).flows = s.flows := rfl
@[simp] theorem State.drawn_gws (s : State) : (s.drawn).gws = s.gws := rfl
@[simp] theorem State.drawn_pwr (s : State) : (s.drawn).pwr = s.pwr := rfl
@[simp] theorem State.drawn_mgmt (s : State) : (s.drawn).mgmt = s.mgmt := rfl
@[simp] theorem State.drawn_alder (s : State) : (s.drawn).alder = s.alder := rfl
@[simp] theorem State.drawn_exch (s : State) : (s.drawn).exch = s.exch := rfl

/-! bumpId. -/

@[simp] theorem State.bumpId_pending (s : State) : (s.bumpId).pending = s.pending := rfl
@[simp] theorem State.bumpId_now (s : State) : (s.bumpId).now = s.now := rfl
@[simp] theorem State.bumpId_fresh (s : State) : (s.bumpId).fresh = s.fresh := rfl
@[simp] theorem State.bumpId_nextId (s : State) : (s.bumpId).nextId = s.nextId + 1 := rfl
@[simp] theorem State.bumpId_out (s : State) : (s.bumpId).out = s.out := rfl
@[simp] theorem State.bumpId_dev (s : State) : (s.bumpId).dev = s.dev := rfl
@[simp] theorem State.bumpId_board (s : State) : (s.bumpId).board = s.board := rfl
@[simp] theorem State.bumpId_dict (s : State) : (s.bumpId).dict = s.dict := rfl
@[simp] theorem State.bumpId_ovfl (s : State) : (s.bumpId).ovfl = s.ovfl := rfl
@[simp] theorem State.bumpId_snap (s : State) : (s.bumpId).snap = s.snap := rfl
@[simp] theorem State.bumpId_ctxs (s : State) : (s.bumpId).ctxs = s.ctxs := rfl
@[simp] theorem State.bumpId_parts (s : State) : (s.bumpId).parts = s.parts := rfl
@[simp] theorem State.bumpId_images (s : State) : (s.bumpId).images = s.images := rfl
@[simp] theorem State.bumpId_caches (s : State) : (s.bumpId).caches = s.caches := rfl
@[simp] theorem State.bumpId_tlbs (s : State) : (s.bumpId).tlbs = s.tlbs := rfl
@[simp] theorem State.bumpId_dtlbs (s : State) : (s.bumpId).dtlbs = s.dtlbs := rfl
@[simp] theorem State.bumpId_dbg (s : State) : (s.bumpId).dbg = s.dbg := rfl
@[simp] theorem State.bumpId_launches (s : State) : (s.bumpId).launches = s.launches := rfl
@[simp] theorem State.bumpId_mem (s : State) : (s.bumpId).mem = s.mem := rfl
@[simp] theorem State.bumpId_side (s : State) : (s.bumpId).side = s.side := rfl
@[simp] theorem State.bumpId_owner (s : State) : (s.bumpId).owner = s.owner := rfl
@[simp] theorem State.bumpId_saves (s : State) : (s.bumpId).saves = s.saves := rfl
@[simp] theorem State.bumpId_reqs (s : State) : (s.bumpId).reqs = s.reqs := rfl
@[simp] theorem State.bumpId_banks (s : State) : (s.bumpId).banks = s.banks := rfl
@[simp] theorem State.bumpId_aunits (s : State) : (s.bumpId).aunits = s.aunits := rfl
@[simp] theorem State.bumpId_hbm (s : State) : (s.bumpId).hbm = s.hbm := rfl
@[simp] theorem State.bumpId_rels (s : State) : (s.bumpId).rels = s.rels := rfl
@[simp] theorem State.bumpId_rings (s : State) : (s.bumpId).rings = s.rings := rfl
@[simp] theorem State.bumpId_rep (s : State) : (s.bumpId).rep = s.rep := rfl
@[simp] theorem State.bumpId_ports (s : State) : (s.bumpId).ports = s.ports := rfl
@[simp] theorem State.bumpId_flows (s : State) : (s.bumpId).flows = s.flows := rfl
@[simp] theorem State.bumpId_gws (s : State) : (s.bumpId).gws = s.gws := rfl
@[simp] theorem State.bumpId_pwr (s : State) : (s.bumpId).pwr = s.pwr := rfl
@[simp] theorem State.bumpId_mgmt (s : State) : (s.bumpId).mgmt = s.mgmt := rfl
@[simp] theorem State.bumpId_alder (s : State) : (s.bumpId).alder = s.alder := rfl
@[simp] theorem State.bumpId_exch (s : State) : (s.bumpId).exch = s.exch := rfl

/-! emit. -/

@[simp] theorem State.emit_pending (s : State) (o : Out) : (s.emit o).pending = s.pending := rfl
@[simp] theorem State.emit_now (s : State) (o : Out) : (s.emit o).now = s.now := rfl
@[simp] theorem State.emit_fresh (s : State) (o : Out) : (s.emit o).fresh = s.fresh := rfl
@[simp] theorem State.emit_nextId (s : State) (o : Out) : (s.emit o).nextId = s.nextId := rfl
@[simp] theorem State.emit_out (s : State) (o : Out) : (s.emit o).out = s.out ++ [o] := rfl
@[simp] theorem State.emit_dev (s : State) (o : Out) : (s.emit o).dev = s.dev := rfl
@[simp] theorem State.emit_board (s : State) (o : Out) : (s.emit o).board = s.board := rfl
@[simp] theorem State.emit_dict (s : State) (o : Out) : (s.emit o).dict = s.dict := rfl
@[simp] theorem State.emit_ovfl (s : State) (o : Out) : (s.emit o).ovfl = s.ovfl := rfl
@[simp] theorem State.emit_snap (s : State) (o : Out) : (s.emit o).snap = s.snap := rfl
@[simp] theorem State.emit_ctxs (s : State) (o : Out) : (s.emit o).ctxs = s.ctxs := rfl
@[simp] theorem State.emit_parts (s : State) (o : Out) : (s.emit o).parts = s.parts := rfl
@[simp] theorem State.emit_images (s : State) (o : Out) : (s.emit o).images = s.images := rfl
@[simp] theorem State.emit_caches (s : State) (o : Out) : (s.emit o).caches = s.caches := rfl
@[simp] theorem State.emit_tlbs (s : State) (o : Out) : (s.emit o).tlbs = s.tlbs := rfl
@[simp] theorem State.emit_dtlbs (s : State) (o : Out) : (s.emit o).dtlbs = s.dtlbs := rfl
@[simp] theorem State.emit_dbg (s : State) (o : Out) : (s.emit o).dbg = s.dbg := rfl
@[simp] theorem State.emit_launches (s : State) (o : Out) : (s.emit o).launches = s.launches := rfl
@[simp] theorem State.emit_mem (s : State) (o : Out) : (s.emit o).mem = s.mem := rfl
@[simp] theorem State.emit_side (s : State) (o : Out) : (s.emit o).side = s.side := rfl
@[simp] theorem State.emit_owner (s : State) (o : Out) : (s.emit o).owner = s.owner := rfl
@[simp] theorem State.emit_saves (s : State) (o : Out) : (s.emit o).saves = s.saves := rfl
@[simp] theorem State.emit_reqs (s : State) (o : Out) : (s.emit o).reqs = s.reqs := rfl
@[simp] theorem State.emit_banks (s : State) (o : Out) : (s.emit o).banks = s.banks := rfl
@[simp] theorem State.emit_aunits (s : State) (o : Out) : (s.emit o).aunits = s.aunits := rfl
@[simp] theorem State.emit_hbm (s : State) (o : Out) : (s.emit o).hbm = s.hbm := rfl
@[simp] theorem State.emit_rels (s : State) (o : Out) : (s.emit o).rels = s.rels := rfl
@[simp] theorem State.emit_rings (s : State) (o : Out) : (s.emit o).rings = s.rings := rfl
@[simp] theorem State.emit_rep (s : State) (o : Out) : (s.emit o).rep = s.rep := rfl
@[simp] theorem State.emit_ports (s : State) (o : Out) : (s.emit o).ports = s.ports := rfl
@[simp] theorem State.emit_flows (s : State) (o : Out) : (s.emit o).flows = s.flows := rfl
@[simp] theorem State.emit_gws (s : State) (o : Out) : (s.emit o).gws = s.gws := rfl
@[simp] theorem State.emit_pwr (s : State) (o : Out) : (s.emit o).pwr = s.pwr := rfl
@[simp] theorem State.emit_mgmt (s : State) (o : Out) : (s.emit o).mgmt = s.mgmt := rfl
@[simp] theorem State.emit_alder (s : State) (o : Out) : (s.emit o).alder = s.alder := rfl
@[simp] theorem State.emit_exch (s : State) (o : Out) : (s.emit o).exch = s.exch := rfl

/-! setDv. -/

@[simp] theorem State.setDv_pending (s : State) (k v : Nat) : (s.setDv k v).pending = s.pending := rfl
@[simp] theorem State.setDv_now (s : State) (k v : Nat) : (s.setDv k v).now = s.now := rfl
@[simp] theorem State.setDv_fresh (s : State) (k v : Nat) : (s.setDv k v).fresh = s.fresh := rfl
@[simp] theorem State.setDv_nextId (s : State) (k v : Nat) : (s.setDv k v).nextId = s.nextId := rfl
@[simp] theorem State.setDv_out (s : State) (k v : Nat) : (s.setDv k v).out = s.out := rfl
@[simp] theorem State.setDv_dev (s : State) (k v : Nat) : (s.setDv k v).dev = s.dev := rfl
@[simp] theorem State.setDv_board (s : State) (k v : Nat) : (s.setDv k v).board = s.board := rfl
@[simp] theorem State.setDv_dict (s : State) (k v : Nat) : (s.setDv k v).dict = mapSet (dictDefault k) s.dict k v := rfl
@[simp] theorem State.setDv_ovfl (s : State) (k v : Nat) : (s.setDv k v).ovfl = s.ovfl := rfl
@[simp] theorem State.setDv_snap (s : State) (k v : Nat) : (s.setDv k v).snap = s.snap := rfl
@[simp] theorem State.setDv_ctxs (s : State) (k v : Nat) : (s.setDv k v).ctxs = s.ctxs := rfl
@[simp] theorem State.setDv_parts (s : State) (k v : Nat) : (s.setDv k v).parts = s.parts := rfl
@[simp] theorem State.setDv_images (s : State) (k v : Nat) : (s.setDv k v).images = s.images := rfl
@[simp] theorem State.setDv_caches (s : State) (k v : Nat) : (s.setDv k v).caches = s.caches := rfl
@[simp] theorem State.setDv_tlbs (s : State) (k v : Nat) : (s.setDv k v).tlbs = s.tlbs := rfl
@[simp] theorem State.setDv_dtlbs (s : State) (k v : Nat) : (s.setDv k v).dtlbs = s.dtlbs := rfl
@[simp] theorem State.setDv_dbg (s : State) (k v : Nat) : (s.setDv k v).dbg = s.dbg := rfl
@[simp] theorem State.setDv_launches (s : State) (k v : Nat) : (s.setDv k v).launches = s.launches := rfl
@[simp] theorem State.setDv_mem (s : State) (k v : Nat) : (s.setDv k v).mem = s.mem := rfl
@[simp] theorem State.setDv_side (s : State) (k v : Nat) : (s.setDv k v).side = s.side := rfl
@[simp] theorem State.setDv_owner (s : State) (k v : Nat) : (s.setDv k v).owner = s.owner := rfl
@[simp] theorem State.setDv_saves (s : State) (k v : Nat) : (s.setDv k v).saves = s.saves := rfl
@[simp] theorem State.setDv_reqs (s : State) (k v : Nat) : (s.setDv k v).reqs = s.reqs := rfl
@[simp] theorem State.setDv_banks (s : State) (k v : Nat) : (s.setDv k v).banks = s.banks := rfl
@[simp] theorem State.setDv_aunits (s : State) (k v : Nat) : (s.setDv k v).aunits = s.aunits := rfl
@[simp] theorem State.setDv_hbm (s : State) (k v : Nat) : (s.setDv k v).hbm = s.hbm := rfl
@[simp] theorem State.setDv_rels (s : State) (k v : Nat) : (s.setDv k v).rels = s.rels := rfl
@[simp] theorem State.setDv_rings (s : State) (k v : Nat) : (s.setDv k v).rings = s.rings := rfl
@[simp] theorem State.setDv_rep (s : State) (k v : Nat) : (s.setDv k v).rep = s.rep := rfl
@[simp] theorem State.setDv_ports (s : State) (k v : Nat) : (s.setDv k v).ports = s.ports := rfl
@[simp] theorem State.setDv_flows (s : State) (k v : Nat) : (s.setDv k v).flows = s.flows := rfl
@[simp] theorem State.setDv_gws (s : State) (k v : Nat) : (s.setDv k v).gws = s.gws := rfl
@[simp] theorem State.setDv_pwr (s : State) (k v : Nat) : (s.setDv k v).pwr = s.pwr := rfl
@[simp] theorem State.setDv_mgmt (s : State) (k v : Nat) : (s.setDv k v).mgmt = s.mgmt := rfl
@[simp] theorem State.setDv_alder (s : State) (k v : Nat) : (s.setDv k v).alder = s.alder := rfl
@[simp] theorem State.setDv_exch (s : State) (k v : Nat) : (s.setDv k v).exch = s.exch := rfl

/-! setCtx. -/

@[simp] theorem State.setCtx_pending (s : State) (c : Nat) (x : Ctx) : (s.setCtx c x).pending = s.pending := rfl
@[simp] theorem State.setCtx_now (s : State) (c : Nat) (x : Ctx) : (s.setCtx c x).now = s.now := rfl
@[simp] theorem State.setCtx_fresh (s : State) (c : Nat) (x : Ctx) : (s.setCtx c x).fresh = s.fresh := rfl
@[simp] theorem State.setCtx_nextId (s : State) (c : Nat) (x : Ctx) : (s.setCtx c x).nextId = s.nextId := rfl
@[simp] theorem State.setCtx_out (s : State) (c : Nat) (x : Ctx) : (s.setCtx c x).out = s.out := rfl
@[simp] theorem State.setCtx_dev (s : State) (c : Nat) (x : Ctx) : (s.setCtx c x).dev = s.dev := rfl
@[simp] theorem State.setCtx_board (s : State) (c : Nat) (x : Ctx) : (s.setCtx c x).board = s.board := rfl
@[simp] theorem State.setCtx_dict (s : State) (c : Nat) (x : Ctx) : (s.setCtx c x).dict = s.dict := rfl
@[simp] theorem State.setCtx_ovfl (s : State) (c : Nat) (x : Ctx) : (s.setCtx c x).ovfl = s.ovfl := rfl
@[simp] theorem State.setCtx_snap (s : State) (c : Nat) (x : Ctx) : (s.setCtx c x).snap = s.snap := rfl
@[simp] theorem State.setCtx_ctxs (s : State) (c : Nat) (x : Ctx) : (s.setCtx c x).ctxs = mapSet {} s.ctxs c x := rfl
@[simp] theorem State.setCtx_parts (s : State) (c : Nat) (x : Ctx) : (s.setCtx c x).parts = s.parts := rfl
@[simp] theorem State.setCtx_images (s : State) (c : Nat) (x : Ctx) : (s.setCtx c x).images = s.images := rfl
@[simp] theorem State.setCtx_caches (s : State) (c : Nat) (x : Ctx) : (s.setCtx c x).caches = s.caches := rfl
@[simp] theorem State.setCtx_tlbs (s : State) (c : Nat) (x : Ctx) : (s.setCtx c x).tlbs = s.tlbs := rfl
@[simp] theorem State.setCtx_dtlbs (s : State) (c : Nat) (x : Ctx) : (s.setCtx c x).dtlbs = s.dtlbs := rfl
@[simp] theorem State.setCtx_dbg (s : State) (c : Nat) (x : Ctx) : (s.setCtx c x).dbg = s.dbg := rfl
@[simp] theorem State.setCtx_launches (s : State) (c : Nat) (x : Ctx) : (s.setCtx c x).launches = s.launches := rfl
@[simp] theorem State.setCtx_mem (s : State) (c : Nat) (x : Ctx) : (s.setCtx c x).mem = s.mem := rfl
@[simp] theorem State.setCtx_side (s : State) (c : Nat) (x : Ctx) : (s.setCtx c x).side = s.side := rfl
@[simp] theorem State.setCtx_owner (s : State) (c : Nat) (x : Ctx) : (s.setCtx c x).owner = s.owner := rfl
@[simp] theorem State.setCtx_saves (s : State) (c : Nat) (x : Ctx) : (s.setCtx c x).saves = s.saves := rfl
@[simp] theorem State.setCtx_reqs (s : State) (c : Nat) (x : Ctx) : (s.setCtx c x).reqs = s.reqs := rfl
@[simp] theorem State.setCtx_banks (s : State) (c : Nat) (x : Ctx) : (s.setCtx c x).banks = s.banks := rfl
@[simp] theorem State.setCtx_aunits (s : State) (c : Nat) (x : Ctx) : (s.setCtx c x).aunits = s.aunits := rfl
@[simp] theorem State.setCtx_hbm (s : State) (c : Nat) (x : Ctx) : (s.setCtx c x).hbm = s.hbm := rfl
@[simp] theorem State.setCtx_rels (s : State) (c : Nat) (x : Ctx) : (s.setCtx c x).rels = s.rels := rfl
@[simp] theorem State.setCtx_rings (s : State) (c : Nat) (x : Ctx) : (s.setCtx c x).rings = s.rings := rfl
@[simp] theorem State.setCtx_rep (s : State) (c : Nat) (x : Ctx) : (s.setCtx c x).rep = s.rep := rfl
@[simp] theorem State.setCtx_ports (s : State) (c : Nat) (x : Ctx) : (s.setCtx c x).ports = s.ports := rfl
@[simp] theorem State.setCtx_flows (s : State) (c : Nat) (x : Ctx) : (s.setCtx c x).flows = s.flows := rfl
@[simp] theorem State.setCtx_gws (s : State) (c : Nat) (x : Ctx) : (s.setCtx c x).gws = s.gws := rfl
@[simp] theorem State.setCtx_pwr (s : State) (c : Nat) (x : Ctx) : (s.setCtx c x).pwr = s.pwr := rfl
@[simp] theorem State.setCtx_mgmt (s : State) (c : Nat) (x : Ctx) : (s.setCtx c x).mgmt = s.mgmt := rfl
@[simp] theorem State.setCtx_alder (s : State) (c : Nat) (x : Ctx) : (s.setCtx c x).alder = s.alder := rfl
@[simp] theorem State.setCtx_exch (s : State) (c : Nat) (x : Ctx) : (s.setCtx c x).exch = s.exch := rfl

/-! updCtx. -/

@[simp] theorem State.updCtx_pending (s : State) (c : Nat) (f : Ctx → Ctx) : (s.updCtx c f).pending = s.pending := rfl
@[simp] theorem State.updCtx_now (s : State) (c : Nat) (f : Ctx → Ctx) : (s.updCtx c f).now = s.now := rfl
@[simp] theorem State.updCtx_fresh (s : State) (c : Nat) (f : Ctx → Ctx) : (s.updCtx c f).fresh = s.fresh := rfl
@[simp] theorem State.updCtx_nextId (s : State) (c : Nat) (f : Ctx → Ctx) : (s.updCtx c f).nextId = s.nextId := rfl
@[simp] theorem State.updCtx_out (s : State) (c : Nat) (f : Ctx → Ctx) : (s.updCtx c f).out = s.out := rfl
@[simp] theorem State.updCtx_dev (s : State) (c : Nat) (f : Ctx → Ctx) : (s.updCtx c f).dev = s.dev := rfl
@[simp] theorem State.updCtx_board (s : State) (c : Nat) (f : Ctx → Ctx) : (s.updCtx c f).board = s.board := rfl
@[simp] theorem State.updCtx_dict (s : State) (c : Nat) (f : Ctx → Ctx) : (s.updCtx c f).dict = s.dict := rfl
@[simp] theorem State.updCtx_ovfl (s : State) (c : Nat) (f : Ctx → Ctx) : (s.updCtx c f).ovfl = s.ovfl := rfl
@[simp] theorem State.updCtx_snap (s : State) (c : Nat) (f : Ctx → Ctx) : (s.updCtx c f).snap = s.snap := rfl
@[simp] theorem State.updCtx_ctxs (s : State) (c : Nat) (f : Ctx → Ctx) : (s.updCtx c f).ctxs = mapSet {} s.ctxs c (f (s.ctx c)) := rfl
@[simp] theorem State.updCtx_parts (s : State) (c : Nat) (f : Ctx → Ctx) : (s.updCtx c f).parts = s.parts := rfl
@[simp] theorem State.updCtx_images (s : State) (c : Nat) (f : Ctx → Ctx) : (s.updCtx c f).images = s.images := rfl
@[simp] theorem State.updCtx_caches (s : State) (c : Nat) (f : Ctx → Ctx) : (s.updCtx c f).caches = s.caches := rfl
@[simp] theorem State.updCtx_tlbs (s : State) (c : Nat) (f : Ctx → Ctx) : (s.updCtx c f).tlbs = s.tlbs := rfl
@[simp] theorem State.updCtx_dtlbs (s : State) (c : Nat) (f : Ctx → Ctx) : (s.updCtx c f).dtlbs = s.dtlbs := rfl
@[simp] theorem State.updCtx_dbg (s : State) (c : Nat) (f : Ctx → Ctx) : (s.updCtx c f).dbg = s.dbg := rfl
@[simp] theorem State.updCtx_launches (s : State) (c : Nat) (f : Ctx → Ctx) : (s.updCtx c f).launches = s.launches := rfl
@[simp] theorem State.updCtx_mem (s : State) (c : Nat) (f : Ctx → Ctx) : (s.updCtx c f).mem = s.mem := rfl
@[simp] theorem State.updCtx_side (s : State) (c : Nat) (f : Ctx → Ctx) : (s.updCtx c f).side = s.side := rfl
@[simp] theorem State.updCtx_owner (s : State) (c : Nat) (f : Ctx → Ctx) : (s.updCtx c f).owner = s.owner := rfl
@[simp] theorem State.updCtx_saves (s : State) (c : Nat) (f : Ctx → Ctx) : (s.updCtx c f).saves = s.saves := rfl
@[simp] theorem State.updCtx_reqs (s : State) (c : Nat) (f : Ctx → Ctx) : (s.updCtx c f).reqs = s.reqs := rfl
@[simp] theorem State.updCtx_banks (s : State) (c : Nat) (f : Ctx → Ctx) : (s.updCtx c f).banks = s.banks := rfl
@[simp] theorem State.updCtx_aunits (s : State) (c : Nat) (f : Ctx → Ctx) : (s.updCtx c f).aunits = s.aunits := rfl
@[simp] theorem State.updCtx_hbm (s : State) (c : Nat) (f : Ctx → Ctx) : (s.updCtx c f).hbm = s.hbm := rfl
@[simp] theorem State.updCtx_rels (s : State) (c : Nat) (f : Ctx → Ctx) : (s.updCtx c f).rels = s.rels := rfl
@[simp] theorem State.updCtx_rings (s : State) (c : Nat) (f : Ctx → Ctx) : (s.updCtx c f).rings = s.rings := rfl
@[simp] theorem State.updCtx_rep (s : State) (c : Nat) (f : Ctx → Ctx) : (s.updCtx c f).rep = s.rep := rfl
@[simp] theorem State.updCtx_ports (s : State) (c : Nat) (f : Ctx → Ctx) : (s.updCtx c f).ports = s.ports := rfl
@[simp] theorem State.updCtx_flows (s : State) (c : Nat) (f : Ctx → Ctx) : (s.updCtx c f).flows = s.flows := rfl
@[simp] theorem State.updCtx_gws (s : State) (c : Nat) (f : Ctx → Ctx) : (s.updCtx c f).gws = s.gws := rfl
@[simp] theorem State.updCtx_pwr (s : State) (c : Nat) (f : Ctx → Ctx) : (s.updCtx c f).pwr = s.pwr := rfl
@[simp] theorem State.updCtx_mgmt (s : State) (c : Nat) (f : Ctx → Ctx) : (s.updCtx c f).mgmt = s.mgmt := rfl
@[simp] theorem State.updCtx_alder (s : State) (c : Nat) (f : Ctx → Ctx) : (s.updCtx c f).alder = s.alder := rfl
@[simp] theorem State.updCtx_exch (s : State) (c : Nat) (f : Ctx → Ctx) : (s.updCtx c f).exch = s.exch := rfl

/-! setImg. -/

@[simp] theorem State.setImg_pending (s : State) (c n : Nat) (i : Image) : (s.setImg c n i).pending = s.pending := rfl
@[simp] theorem State.setImg_now (s : State) (c n : Nat) (i : Image) : (s.setImg c n i).now = s.now := rfl
@[simp] theorem State.setImg_fresh (s : State) (c n : Nat) (i : Image) : (s.setImg c n i).fresh = s.fresh := rfl
@[simp] theorem State.setImg_nextId (s : State) (c n : Nat) (i : Image) : (s.setImg c n i).nextId = s.nextId := rfl
@[simp] theorem State.setImg_out (s : State) (c n : Nat) (i : Image) : (s.setImg c n i).out = s.out := rfl
@[simp] theorem State.setImg_dev (s : State) (c n : Nat) (i : Image) : (s.setImg c n i).dev = s.dev := rfl
@[simp] theorem State.setImg_board (s : State) (c n : Nat) (i : Image) : (s.setImg c n i).board = s.board := rfl
@[simp] theorem State.setImg_dict (s : State) (c n : Nat) (i : Image) : (s.setImg c n i).dict = s.dict := rfl
@[simp] theorem State.setImg_ovfl (s : State) (c n : Nat) (i : Image) : (s.setImg c n i).ovfl = s.ovfl := rfl
@[simp] theorem State.setImg_snap (s : State) (c n : Nat) (i : Image) : (s.setImg c n i).snap = s.snap := rfl
@[simp] theorem State.setImg_ctxs (s : State) (c n : Nat) (i : Image) : (s.setImg c n i).ctxs = s.ctxs := rfl
@[simp] theorem State.setImg_parts (s : State) (c n : Nat) (i : Image) : (s.setImg c n i).parts = s.parts := rfl
@[simp] theorem State.setImg_images (s : State) (c n : Nat) (i : Image) : (s.setImg c n i).images = mapSet {} s.images (imgKey c n) i := rfl
@[simp] theorem State.setImg_caches (s : State) (c n : Nat) (i : Image) : (s.setImg c n i).caches = s.caches := rfl
@[simp] theorem State.setImg_tlbs (s : State) (c n : Nat) (i : Image) : (s.setImg c n i).tlbs = s.tlbs := rfl
@[simp] theorem State.setImg_dtlbs (s : State) (c n : Nat) (i : Image) : (s.setImg c n i).dtlbs = s.dtlbs := rfl
@[simp] theorem State.setImg_dbg (s : State) (c n : Nat) (i : Image) : (s.setImg c n i).dbg = s.dbg := rfl
@[simp] theorem State.setImg_launches (s : State) (c n : Nat) (i : Image) : (s.setImg c n i).launches = s.launches := rfl
@[simp] theorem State.setImg_mem (s : State) (c n : Nat) (i : Image) : (s.setImg c n i).mem = s.mem := rfl
@[simp] theorem State.setImg_side (s : State) (c n : Nat) (i : Image) : (s.setImg c n i).side = s.side := rfl
@[simp] theorem State.setImg_owner (s : State) (c n : Nat) (i : Image) : (s.setImg c n i).owner = s.owner := rfl
@[simp] theorem State.setImg_saves (s : State) (c n : Nat) (i : Image) : (s.setImg c n i).saves = s.saves := rfl
@[simp] theorem State.setImg_reqs (s : State) (c n : Nat) (i : Image) : (s.setImg c n i).reqs = s.reqs := rfl
@[simp] theorem State.setImg_banks (s : State) (c n : Nat) (i : Image) : (s.setImg c n i).banks = s.banks := rfl
@[simp] theorem State.setImg_aunits (s : State) (c n : Nat) (i : Image) : (s.setImg c n i).aunits = s.aunits := rfl
@[simp] theorem State.setImg_hbm (s : State) (c n : Nat) (i : Image) : (s.setImg c n i).hbm = s.hbm := rfl
@[simp] theorem State.setImg_rels (s : State) (c n : Nat) (i : Image) : (s.setImg c n i).rels = s.rels := rfl
@[simp] theorem State.setImg_rings (s : State) (c n : Nat) (i : Image) : (s.setImg c n i).rings = s.rings := rfl
@[simp] theorem State.setImg_rep (s : State) (c n : Nat) (i : Image) : (s.setImg c n i).rep = s.rep := rfl
@[simp] theorem State.setImg_ports (s : State) (c n : Nat) (i : Image) : (s.setImg c n i).ports = s.ports := rfl
@[simp] theorem State.setImg_flows (s : State) (c n : Nat) (i : Image) : (s.setImg c n i).flows = s.flows := rfl
@[simp] theorem State.setImg_gws (s : State) (c n : Nat) (i : Image) : (s.setImg c n i).gws = s.gws := rfl
@[simp] theorem State.setImg_pwr (s : State) (c n : Nat) (i : Image) : (s.setImg c n i).pwr = s.pwr := rfl
@[simp] theorem State.setImg_mgmt (s : State) (c n : Nat) (i : Image) : (s.setImg c n i).mgmt = s.mgmt := rfl
@[simp] theorem State.setImg_alder (s : State) (c n : Nat) (i : Image) : (s.setImg c n i).alder = s.alder := rfl
@[simp] theorem State.setImg_exch (s : State) (c n : Nat) (i : Image) : (s.setImg c n i).exch = s.exch := rfl

/-! updImg. -/

@[simp] theorem State.updImg_pending (s : State) (c n : Nat) (f : Image → Image) : (s.updImg c n f).pending = s.pending := rfl
@[simp] theorem State.updImg_now (s : State) (c n : Nat) (f : Image → Image) : (s.updImg c n f).now = s.now := rfl
@[simp] theorem State.updImg_fresh (s : State) (c n : Nat) (f : Image → Image) : (s.updImg c n f).fresh = s.fresh := rfl
@[simp] theorem State.updImg_nextId (s : State) (c n : Nat) (f : Image → Image) : (s.updImg c n f).nextId = s.nextId := rfl
@[simp] theorem State.updImg_out (s : State) (c n : Nat) (f : Image → Image) : (s.updImg c n f).out = s.out := rfl
@[simp] theorem State.updImg_dev (s : State) (c n : Nat) (f : Image → Image) : (s.updImg c n f).dev = s.dev := rfl
@[simp] theorem State.updImg_board (s : State) (c n : Nat) (f : Image → Image) : (s.updImg c n f).board = s.board := rfl
@[simp] theorem State.updImg_dict (s : State) (c n : Nat) (f : Image → Image) : (s.updImg c n f).dict = s.dict := rfl
@[simp] theorem State.updImg_ovfl (s : State) (c n : Nat) (f : Image → Image) : (s.updImg c n f).ovfl = s.ovfl := rfl
@[simp] theorem State.updImg_snap (s : State) (c n : Nat) (f : Image → Image) : (s.updImg c n f).snap = s.snap := rfl
@[simp] theorem State.updImg_ctxs (s : State) (c n : Nat) (f : Image → Image) : (s.updImg c n f).ctxs = s.ctxs := rfl
@[simp] theorem State.updImg_parts (s : State) (c n : Nat) (f : Image → Image) : (s.updImg c n f).parts = s.parts := rfl
@[simp] theorem State.updImg_images (s : State) (c n : Nat) (f : Image → Image) : (s.updImg c n f).images = mapSet {} s.images (imgKey c n) (f (s.img c n)) := rfl
@[simp] theorem State.updImg_caches (s : State) (c n : Nat) (f : Image → Image) : (s.updImg c n f).caches = s.caches := rfl
@[simp] theorem State.updImg_tlbs (s : State) (c n : Nat) (f : Image → Image) : (s.updImg c n f).tlbs = s.tlbs := rfl
@[simp] theorem State.updImg_dtlbs (s : State) (c n : Nat) (f : Image → Image) : (s.updImg c n f).dtlbs = s.dtlbs := rfl
@[simp] theorem State.updImg_dbg (s : State) (c n : Nat) (f : Image → Image) : (s.updImg c n f).dbg = s.dbg := rfl
@[simp] theorem State.updImg_launches (s : State) (c n : Nat) (f : Image → Image) : (s.updImg c n f).launches = s.launches := rfl
@[simp] theorem State.updImg_mem (s : State) (c n : Nat) (f : Image → Image) : (s.updImg c n f).mem = s.mem := rfl
@[simp] theorem State.updImg_side (s : State) (c n : Nat) (f : Image → Image) : (s.updImg c n f).side = s.side := rfl
@[simp] theorem State.updImg_owner (s : State) (c n : Nat) (f : Image → Image) : (s.updImg c n f).owner = s.owner := rfl
@[simp] theorem State.updImg_saves (s : State) (c n : Nat) (f : Image → Image) : (s.updImg c n f).saves = s.saves := rfl
@[simp] theorem State.updImg_reqs (s : State) (c n : Nat) (f : Image → Image) : (s.updImg c n f).reqs = s.reqs := rfl
@[simp] theorem State.updImg_banks (s : State) (c n : Nat) (f : Image → Image) : (s.updImg c n f).banks = s.banks := rfl
@[simp] theorem State.updImg_aunits (s : State) (c n : Nat) (f : Image → Image) : (s.updImg c n f).aunits = s.aunits := rfl
@[simp] theorem State.updImg_hbm (s : State) (c n : Nat) (f : Image → Image) : (s.updImg c n f).hbm = s.hbm := rfl
@[simp] theorem State.updImg_rels (s : State) (c n : Nat) (f : Image → Image) : (s.updImg c n f).rels = s.rels := rfl
@[simp] theorem State.updImg_rings (s : State) (c n : Nat) (f : Image → Image) : (s.updImg c n f).rings = s.rings := rfl
@[simp] theorem State.updImg_rep (s : State) (c n : Nat) (f : Image → Image) : (s.updImg c n f).rep = s.rep := rfl
@[simp] theorem State.updImg_ports (s : State) (c n : Nat) (f : Image → Image) : (s.updImg c n f).ports = s.ports := rfl
@[simp] theorem State.updImg_flows (s : State) (c n : Nat) (f : Image → Image) : (s.updImg c n f).flows = s.flows := rfl
@[simp] theorem State.updImg_gws (s : State) (c n : Nat) (f : Image → Image) : (s.updImg c n f).gws = s.gws := rfl
@[simp] theorem State.updImg_pwr (s : State) (c n : Nat) (f : Image → Image) : (s.updImg c n f).pwr = s.pwr := rfl
@[simp] theorem State.updImg_mgmt (s : State) (c n : Nat) (f : Image → Image) : (s.updImg c n f).mgmt = s.mgmt := rfl
@[simp] theorem State.updImg_alder (s : State) (c n : Nat) (f : Image → Image) : (s.updImg c n f).alder = s.alder := rfl
@[simp] theorem State.updImg_exch (s : State) (c n : Nat) (f : Image → Image) : (s.updImg c n f).exch = s.exch := rfl

/-! setCache. -/

@[simp] theorem State.setCache_pending (s : State) (n : Nat) (l : List Line) : (s.setCache n l).pending = s.pending := rfl
@[simp] theorem State.setCache_now (s : State) (n : Nat) (l : List Line) : (s.setCache n l).now = s.now := rfl
@[simp] theorem State.setCache_fresh (s : State) (n : Nat) (l : List Line) : (s.setCache n l).fresh = s.fresh := rfl
@[simp] theorem State.setCache_nextId (s : State) (n : Nat) (l : List Line) : (s.setCache n l).nextId = s.nextId := rfl
@[simp] theorem State.setCache_out (s : State) (n : Nat) (l : List Line) : (s.setCache n l).out = s.out := rfl
@[simp] theorem State.setCache_dev (s : State) (n : Nat) (l : List Line) : (s.setCache n l).dev = s.dev := rfl
@[simp] theorem State.setCache_board (s : State) (n : Nat) (l : List Line) : (s.setCache n l).board = s.board := rfl
@[simp] theorem State.setCache_dict (s : State) (n : Nat) (l : List Line) : (s.setCache n l).dict = s.dict := rfl
@[simp] theorem State.setCache_ovfl (s : State) (n : Nat) (l : List Line) : (s.setCache n l).ovfl = s.ovfl := rfl
@[simp] theorem State.setCache_snap (s : State) (n : Nat) (l : List Line) : (s.setCache n l).snap = s.snap := rfl
@[simp] theorem State.setCache_ctxs (s : State) (n : Nat) (l : List Line) : (s.setCache n l).ctxs = s.ctxs := rfl
@[simp] theorem State.setCache_parts (s : State) (n : Nat) (l : List Line) : (s.setCache n l).parts = s.parts := rfl
@[simp] theorem State.setCache_images (s : State) (n : Nat) (l : List Line) : (s.setCache n l).images = s.images := rfl
@[simp] theorem State.setCache_caches (s : State) (n : Nat) (l : List Line) : (s.setCache n l).caches = mapSet [] s.caches n l := rfl
@[simp] theorem State.setCache_tlbs (s : State) (n : Nat) (l : List Line) : (s.setCache n l).tlbs = s.tlbs := rfl
@[simp] theorem State.setCache_dtlbs (s : State) (n : Nat) (l : List Line) : (s.setCache n l).dtlbs = s.dtlbs := rfl
@[simp] theorem State.setCache_dbg (s : State) (n : Nat) (l : List Line) : (s.setCache n l).dbg = s.dbg := rfl
@[simp] theorem State.setCache_launches (s : State) (n : Nat) (l : List Line) : (s.setCache n l).launches = s.launches := rfl
@[simp] theorem State.setCache_mem (s : State) (n : Nat) (l : List Line) : (s.setCache n l).mem = s.mem := rfl
@[simp] theorem State.setCache_side (s : State) (n : Nat) (l : List Line) : (s.setCache n l).side = s.side := rfl
@[simp] theorem State.setCache_owner (s : State) (n : Nat) (l : List Line) : (s.setCache n l).owner = s.owner := rfl
@[simp] theorem State.setCache_saves (s : State) (n : Nat) (l : List Line) : (s.setCache n l).saves = s.saves := rfl
@[simp] theorem State.setCache_reqs (s : State) (n : Nat) (l : List Line) : (s.setCache n l).reqs = s.reqs := rfl
@[simp] theorem State.setCache_banks (s : State) (n : Nat) (l : List Line) : (s.setCache n l).banks = s.banks := rfl
@[simp] theorem State.setCache_aunits (s : State) (n : Nat) (l : List Line) : (s.setCache n l).aunits = s.aunits := rfl
@[simp] theorem State.setCache_hbm (s : State) (n : Nat) (l : List Line) : (s.setCache n l).hbm = s.hbm := rfl
@[simp] theorem State.setCache_rels (s : State) (n : Nat) (l : List Line) : (s.setCache n l).rels = s.rels := rfl
@[simp] theorem State.setCache_rings (s : State) (n : Nat) (l : List Line) : (s.setCache n l).rings = s.rings := rfl
@[simp] theorem State.setCache_rep (s : State) (n : Nat) (l : List Line) : (s.setCache n l).rep = s.rep := rfl
@[simp] theorem State.setCache_ports (s : State) (n : Nat) (l : List Line) : (s.setCache n l).ports = s.ports := rfl
@[simp] theorem State.setCache_flows (s : State) (n : Nat) (l : List Line) : (s.setCache n l).flows = s.flows := rfl
@[simp] theorem State.setCache_gws (s : State) (n : Nat) (l : List Line) : (s.setCache n l).gws = s.gws := rfl
@[simp] theorem State.setCache_pwr (s : State) (n : Nat) (l : List Line) : (s.setCache n l).pwr = s.pwr := rfl
@[simp] theorem State.setCache_mgmt (s : State) (n : Nat) (l : List Line) : (s.setCache n l).mgmt = s.mgmt := rfl
@[simp] theorem State.setCache_alder (s : State) (n : Nat) (l : List Line) : (s.setCache n l).alder = s.alder := rfl
@[simp] theorem State.setCache_exch (s : State) (n : Nat) (l : List Line) : (s.setCache n l).exch = s.exch := rfl

/-! updLaunch. -/

@[simp] theorem State.updLaunch_pending (s : State) (n : Nat) (f : Launch → Launch) : (s.updLaunch n f).pending = s.pending := rfl
@[simp] theorem State.updLaunch_now (s : State) (n : Nat) (f : Launch → Launch) : (s.updLaunch n f).now = s.now := rfl
@[simp] theorem State.updLaunch_fresh (s : State) (n : Nat) (f : Launch → Launch) : (s.updLaunch n f).fresh = s.fresh := rfl
@[simp] theorem State.updLaunch_nextId (s : State) (n : Nat) (f : Launch → Launch) : (s.updLaunch n f).nextId = s.nextId := rfl
@[simp] theorem State.updLaunch_out (s : State) (n : Nat) (f : Launch → Launch) : (s.updLaunch n f).out = s.out := rfl
@[simp] theorem State.updLaunch_dev (s : State) (n : Nat) (f : Launch → Launch) : (s.updLaunch n f).dev = s.dev := rfl
@[simp] theorem State.updLaunch_board (s : State) (n : Nat) (f : Launch → Launch) : (s.updLaunch n f).board = s.board := rfl
@[simp] theorem State.updLaunch_dict (s : State) (n : Nat) (f : Launch → Launch) : (s.updLaunch n f).dict = s.dict := rfl
@[simp] theorem State.updLaunch_ovfl (s : State) (n : Nat) (f : Launch → Launch) : (s.updLaunch n f).ovfl = s.ovfl := rfl
@[simp] theorem State.updLaunch_snap (s : State) (n : Nat) (f : Launch → Launch) : (s.updLaunch n f).snap = s.snap := rfl
@[simp] theorem State.updLaunch_ctxs (s : State) (n : Nat) (f : Launch → Launch) : (s.updLaunch n f).ctxs = s.ctxs := rfl
@[simp] theorem State.updLaunch_parts (s : State) (n : Nat) (f : Launch → Launch) : (s.updLaunch n f).parts = s.parts := rfl
@[simp] theorem State.updLaunch_images (s : State) (n : Nat) (f : Launch → Launch) : (s.updLaunch n f).images = s.images := rfl
@[simp] theorem State.updLaunch_caches (s : State) (n : Nat) (f : Launch → Launch) : (s.updLaunch n f).caches = s.caches := rfl
@[simp] theorem State.updLaunch_tlbs (s : State) (n : Nat) (f : Launch → Launch) : (s.updLaunch n f).tlbs = s.tlbs := rfl
@[simp] theorem State.updLaunch_dtlbs (s : State) (n : Nat) (f : Launch → Launch) : (s.updLaunch n f).dtlbs = s.dtlbs := rfl
@[simp] theorem State.updLaunch_dbg (s : State) (n : Nat) (f : Launch → Launch) : (s.updLaunch n f).dbg = s.dbg := rfl
@[simp] theorem State.updLaunch_launches (s : State) (n : Nat) (f : Launch → Launch) : (s.updLaunch n f).launches = modifyWhere (fun l => l.id == n) f s.launches := rfl
@[simp] theorem State.updLaunch_mem (s : State) (n : Nat) (f : Launch → Launch) : (s.updLaunch n f).mem = s.mem := rfl
@[simp] theorem State.updLaunch_side (s : State) (n : Nat) (f : Launch → Launch) : (s.updLaunch n f).side = s.side := rfl
@[simp] theorem State.updLaunch_owner (s : State) (n : Nat) (f : Launch → Launch) : (s.updLaunch n f).owner = s.owner := rfl
@[simp] theorem State.updLaunch_saves (s : State) (n : Nat) (f : Launch → Launch) : (s.updLaunch n f).saves = s.saves := rfl
@[simp] theorem State.updLaunch_reqs (s : State) (n : Nat) (f : Launch → Launch) : (s.updLaunch n f).reqs = s.reqs := rfl
@[simp] theorem State.updLaunch_banks (s : State) (n : Nat) (f : Launch → Launch) : (s.updLaunch n f).banks = s.banks := rfl
@[simp] theorem State.updLaunch_aunits (s : State) (n : Nat) (f : Launch → Launch) : (s.updLaunch n f).aunits = s.aunits := rfl
@[simp] theorem State.updLaunch_hbm (s : State) (n : Nat) (f : Launch → Launch) : (s.updLaunch n f).hbm = s.hbm := rfl
@[simp] theorem State.updLaunch_rels (s : State) (n : Nat) (f : Launch → Launch) : (s.updLaunch n f).rels = s.rels := rfl
@[simp] theorem State.updLaunch_rings (s : State) (n : Nat) (f : Launch → Launch) : (s.updLaunch n f).rings = s.rings := rfl
@[simp] theorem State.updLaunch_rep (s : State) (n : Nat) (f : Launch → Launch) : (s.updLaunch n f).rep = s.rep := rfl
@[simp] theorem State.updLaunch_ports (s : State) (n : Nat) (f : Launch → Launch) : (s.updLaunch n f).ports = s.ports := rfl
@[simp] theorem State.updLaunch_flows (s : State) (n : Nat) (f : Launch → Launch) : (s.updLaunch n f).flows = s.flows := rfl
@[simp] theorem State.updLaunch_gws (s : State) (n : Nat) (f : Launch → Launch) : (s.updLaunch n f).gws = s.gws := rfl
@[simp] theorem State.updLaunch_pwr (s : State) (n : Nat) (f : Launch → Launch) : (s.updLaunch n f).pwr = s.pwr := rfl
@[simp] theorem State.updLaunch_mgmt (s : State) (n : Nat) (f : Launch → Launch) : (s.updLaunch n f).mgmt = s.mgmt := rfl
@[simp] theorem State.updLaunch_alder (s : State) (n : Nat) (f : Launch → Launch) : (s.updLaunch n f).alder = s.alder := rfl
@[simp] theorem State.updLaunch_exch (s : State) (n : Nat) (f : Launch → Launch) : (s.updLaunch n f).exch = s.exch := rfl

/-! updReq. -/

@[simp] theorem State.updReq_pending (s : State) (n : Nat) (f : Req → Req) : (s.updReq n f).pending = s.pending := rfl
@[simp] theorem State.updReq_now (s : State) (n : Nat) (f : Req → Req) : (s.updReq n f).now = s.now := rfl
@[simp] theorem State.updReq_fresh (s : State) (n : Nat) (f : Req → Req) : (s.updReq n f).fresh = s.fresh := rfl
@[simp] theorem State.updReq_nextId (s : State) (n : Nat) (f : Req → Req) : (s.updReq n f).nextId = s.nextId := rfl
@[simp] theorem State.updReq_out (s : State) (n : Nat) (f : Req → Req) : (s.updReq n f).out = s.out := rfl
@[simp] theorem State.updReq_dev (s : State) (n : Nat) (f : Req → Req) : (s.updReq n f).dev = s.dev := rfl
@[simp] theorem State.updReq_board (s : State) (n : Nat) (f : Req → Req) : (s.updReq n f).board = s.board := rfl
@[simp] theorem State.updReq_dict (s : State) (n : Nat) (f : Req → Req) : (s.updReq n f).dict = s.dict := rfl
@[simp] theorem State.updReq_ovfl (s : State) (n : Nat) (f : Req → Req) : (s.updReq n f).ovfl = s.ovfl := rfl
@[simp] theorem State.updReq_snap (s : State) (n : Nat) (f : Req → Req) : (s.updReq n f).snap = s.snap := rfl
@[simp] theorem State.updReq_ctxs (s : State) (n : Nat) (f : Req → Req) : (s.updReq n f).ctxs = s.ctxs := rfl
@[simp] theorem State.updReq_parts (s : State) (n : Nat) (f : Req → Req) : (s.updReq n f).parts = s.parts := rfl
@[simp] theorem State.updReq_images (s : State) (n : Nat) (f : Req → Req) : (s.updReq n f).images = s.images := rfl
@[simp] theorem State.updReq_caches (s : State) (n : Nat) (f : Req → Req) : (s.updReq n f).caches = s.caches := rfl
@[simp] theorem State.updReq_tlbs (s : State) (n : Nat) (f : Req → Req) : (s.updReq n f).tlbs = s.tlbs := rfl
@[simp] theorem State.updReq_dtlbs (s : State) (n : Nat) (f : Req → Req) : (s.updReq n f).dtlbs = s.dtlbs := rfl
@[simp] theorem State.updReq_dbg (s : State) (n : Nat) (f : Req → Req) : (s.updReq n f).dbg = s.dbg := rfl
@[simp] theorem State.updReq_launches (s : State) (n : Nat) (f : Req → Req) : (s.updReq n f).launches = s.launches := rfl
@[simp] theorem State.updReq_mem (s : State) (n : Nat) (f : Req → Req) : (s.updReq n f).mem = s.mem := rfl
@[simp] theorem State.updReq_side (s : State) (n : Nat) (f : Req → Req) : (s.updReq n f).side = s.side := rfl
@[simp] theorem State.updReq_owner (s : State) (n : Nat) (f : Req → Req) : (s.updReq n f).owner = s.owner := rfl
@[simp] theorem State.updReq_saves (s : State) (n : Nat) (f : Req → Req) : (s.updReq n f).saves = s.saves := rfl
@[simp] theorem State.updReq_reqs (s : State) (n : Nat) (f : Req → Req) : (s.updReq n f).reqs = modifyWhere (fun r => r.id == n) f s.reqs := rfl
@[simp] theorem State.updReq_banks (s : State) (n : Nat) (f : Req → Req) : (s.updReq n f).banks = s.banks := rfl
@[simp] theorem State.updReq_aunits (s : State) (n : Nat) (f : Req → Req) : (s.updReq n f).aunits = s.aunits := rfl
@[simp] theorem State.updReq_hbm (s : State) (n : Nat) (f : Req → Req) : (s.updReq n f).hbm = s.hbm := rfl
@[simp] theorem State.updReq_rels (s : State) (n : Nat) (f : Req → Req) : (s.updReq n f).rels = s.rels := rfl
@[simp] theorem State.updReq_rings (s : State) (n : Nat) (f : Req → Req) : (s.updReq n f).rings = s.rings := rfl
@[simp] theorem State.updReq_rep (s : State) (n : Nat) (f : Req → Req) : (s.updReq n f).rep = s.rep := rfl
@[simp] theorem State.updReq_ports (s : State) (n : Nat) (f : Req → Req) : (s.updReq n f).ports = s.ports := rfl
@[simp] theorem State.updReq_flows (s : State) (n : Nat) (f : Req → Req) : (s.updReq n f).flows = s.flows := rfl
@[simp] theorem State.updReq_gws (s : State) (n : Nat) (f : Req → Req) : (s.updReq n f).gws = s.gws := rfl
@[simp] theorem State.updReq_pwr (s : State) (n : Nat) (f : Req → Req) : (s.updReq n f).pwr = s.pwr := rfl
@[simp] theorem State.updReq_mgmt (s : State) (n : Nat) (f : Req → Req) : (s.updReq n f).mgmt = s.mgmt := rfl
@[simp] theorem State.updReq_alder (s : State) (n : Nat) (f : Req → Req) : (s.updReq n f).alder = s.alder := rfl
@[simp] theorem State.updReq_exch (s : State) (n : Nat) (f : Req → Req) : (s.updReq n f).exch = s.exch := rfl

/-! updStack. -/

@[simp] theorem State.updStack_pending (s : State) (k : Nat) (f : Stack → Stack) : (s.updStack k f).pending = s.pending := rfl
@[simp] theorem State.updStack_now (s : State) (k : Nat) (f : Stack → Stack) : (s.updStack k f).now = s.now := rfl
@[simp] theorem State.updStack_fresh (s : State) (k : Nat) (f : Stack → Stack) : (s.updStack k f).fresh = s.fresh := rfl
@[simp] theorem State.updStack_nextId (s : State) (k : Nat) (f : Stack → Stack) : (s.updStack k f).nextId = s.nextId := rfl
@[simp] theorem State.updStack_out (s : State) (k : Nat) (f : Stack → Stack) : (s.updStack k f).out = s.out := rfl
@[simp] theorem State.updStack_dev (s : State) (k : Nat) (f : Stack → Stack) : (s.updStack k f).dev = s.dev := rfl
@[simp] theorem State.updStack_board (s : State) (k : Nat) (f : Stack → Stack) : (s.updStack k f).board = s.board := rfl
@[simp] theorem State.updStack_dict (s : State) (k : Nat) (f : Stack → Stack) : (s.updStack k f).dict = s.dict := rfl
@[simp] theorem State.updStack_ovfl (s : State) (k : Nat) (f : Stack → Stack) : (s.updStack k f).ovfl = s.ovfl := rfl
@[simp] theorem State.updStack_snap (s : State) (k : Nat) (f : Stack → Stack) : (s.updStack k f).snap = s.snap := rfl
@[simp] theorem State.updStack_ctxs (s : State) (k : Nat) (f : Stack → Stack) : (s.updStack k f).ctxs = s.ctxs := rfl
@[simp] theorem State.updStack_parts (s : State) (k : Nat) (f : Stack → Stack) : (s.updStack k f).parts = s.parts := rfl
@[simp] theorem State.updStack_images (s : State) (k : Nat) (f : Stack → Stack) : (s.updStack k f).images = s.images := rfl
@[simp] theorem State.updStack_caches (s : State) (k : Nat) (f : Stack → Stack) : (s.updStack k f).caches = s.caches := rfl
@[simp] theorem State.updStack_tlbs (s : State) (k : Nat) (f : Stack → Stack) : (s.updStack k f).tlbs = s.tlbs := rfl
@[simp] theorem State.updStack_dtlbs (s : State) (k : Nat) (f : Stack → Stack) : (s.updStack k f).dtlbs = s.dtlbs := rfl
@[simp] theorem State.updStack_dbg (s : State) (k : Nat) (f : Stack → Stack) : (s.updStack k f).dbg = s.dbg := rfl
@[simp] theorem State.updStack_launches (s : State) (k : Nat) (f : Stack → Stack) : (s.updStack k f).launches = s.launches := rfl
@[simp] theorem State.updStack_mem (s : State) (k : Nat) (f : Stack → Stack) : (s.updStack k f).mem = s.mem := rfl
@[simp] theorem State.updStack_side (s : State) (k : Nat) (f : Stack → Stack) : (s.updStack k f).side = s.side := rfl
@[simp] theorem State.updStack_owner (s : State) (k : Nat) (f : Stack → Stack) : (s.updStack k f).owner = s.owner := rfl
@[simp] theorem State.updStack_saves (s : State) (k : Nat) (f : Stack → Stack) : (s.updStack k f).saves = s.saves := rfl
@[simp] theorem State.updStack_reqs (s : State) (k : Nat) (f : Stack → Stack) : (s.updStack k f).reqs = s.reqs := rfl
@[simp] theorem State.updStack_banks (s : State) (k : Nat) (f : Stack → Stack) : (s.updStack k f).banks = s.banks := rfl
@[simp] theorem State.updStack_aunits (s : State) (k : Nat) (f : Stack → Stack) : (s.updStack k f).aunits = s.aunits := rfl
@[simp] theorem State.updStack_hbm (s : State) (k : Nat) (f : Stack → Stack) : (s.updStack k f).hbm = { s.hbm with stackTab := mapUpd {} s.hbm.stackTab k f } := rfl
@[simp] theorem State.updStack_rels (s : State) (k : Nat) (f : Stack → Stack) : (s.updStack k f).rels = s.rels := rfl
@[simp] theorem State.updStack_rings (s : State) (k : Nat) (f : Stack → Stack) : (s.updStack k f).rings = s.rings := rfl
@[simp] theorem State.updStack_rep (s : State) (k : Nat) (f : Stack → Stack) : (s.updStack k f).rep = s.rep := rfl
@[simp] theorem State.updStack_ports (s : State) (k : Nat) (f : Stack → Stack) : (s.updStack k f).ports = s.ports := rfl
@[simp] theorem State.updStack_flows (s : State) (k : Nat) (f : Stack → Stack) : (s.updStack k f).flows = s.flows := rfl
@[simp] theorem State.updStack_gws (s : State) (k : Nat) (f : Stack → Stack) : (s.updStack k f).gws = s.gws := rfl
@[simp] theorem State.updStack_pwr (s : State) (k : Nat) (f : Stack → Stack) : (s.updStack k f).pwr = s.pwr := rfl
@[simp] theorem State.updStack_mgmt (s : State) (k : Nat) (f : Stack → Stack) : (s.updStack k f).mgmt = s.mgmt := rfl
@[simp] theorem State.updStack_alder (s : State) (k : Nat) (f : Stack → Stack) : (s.updStack k f).alder = s.alder := rfl
@[simp] theorem State.updStack_exch (s : State) (k : Nat) (f : Stack → Stack) : (s.updStack k f).exch = s.exch := rfl

/-! updDie. -/

@[simp] theorem State.updDie_pending (s : State) (d : Nat) (f : DieP → DieP) : (s.updDie d f).pending = s.pending := rfl
@[simp] theorem State.updDie_now (s : State) (d : Nat) (f : DieP → DieP) : (s.updDie d f).now = s.now := rfl
@[simp] theorem State.updDie_fresh (s : State) (d : Nat) (f : DieP → DieP) : (s.updDie d f).fresh = s.fresh := rfl
@[simp] theorem State.updDie_nextId (s : State) (d : Nat) (f : DieP → DieP) : (s.updDie d f).nextId = s.nextId := rfl
@[simp] theorem State.updDie_out (s : State) (d : Nat) (f : DieP → DieP) : (s.updDie d f).out = s.out := rfl
@[simp] theorem State.updDie_dev (s : State) (d : Nat) (f : DieP → DieP) : (s.updDie d f).dev = s.dev := rfl
@[simp] theorem State.updDie_board (s : State) (d : Nat) (f : DieP → DieP) : (s.updDie d f).board = s.board := rfl
@[simp] theorem State.updDie_dict (s : State) (d : Nat) (f : DieP → DieP) : (s.updDie d f).dict = s.dict := rfl
@[simp] theorem State.updDie_ovfl (s : State) (d : Nat) (f : DieP → DieP) : (s.updDie d f).ovfl = s.ovfl := rfl
@[simp] theorem State.updDie_snap (s : State) (d : Nat) (f : DieP → DieP) : (s.updDie d f).snap = s.snap := rfl
@[simp] theorem State.updDie_ctxs (s : State) (d : Nat) (f : DieP → DieP) : (s.updDie d f).ctxs = s.ctxs := rfl
@[simp] theorem State.updDie_parts (s : State) (d : Nat) (f : DieP → DieP) : (s.updDie d f).parts = s.parts := rfl
@[simp] theorem State.updDie_images (s : State) (d : Nat) (f : DieP → DieP) : (s.updDie d f).images = s.images := rfl
@[simp] theorem State.updDie_caches (s : State) (d : Nat) (f : DieP → DieP) : (s.updDie d f).caches = s.caches := rfl
@[simp] theorem State.updDie_tlbs (s : State) (d : Nat) (f : DieP → DieP) : (s.updDie d f).tlbs = s.tlbs := rfl
@[simp] theorem State.updDie_dtlbs (s : State) (d : Nat) (f : DieP → DieP) : (s.updDie d f).dtlbs = s.dtlbs := rfl
@[simp] theorem State.updDie_dbg (s : State) (d : Nat) (f : DieP → DieP) : (s.updDie d f).dbg = s.dbg := rfl
@[simp] theorem State.updDie_launches (s : State) (d : Nat) (f : DieP → DieP) : (s.updDie d f).launches = s.launches := rfl
@[simp] theorem State.updDie_mem (s : State) (d : Nat) (f : DieP → DieP) : (s.updDie d f).mem = s.mem := rfl
@[simp] theorem State.updDie_side (s : State) (d : Nat) (f : DieP → DieP) : (s.updDie d f).side = s.side := rfl
@[simp] theorem State.updDie_owner (s : State) (d : Nat) (f : DieP → DieP) : (s.updDie d f).owner = s.owner := rfl
@[simp] theorem State.updDie_saves (s : State) (d : Nat) (f : DieP → DieP) : (s.updDie d f).saves = s.saves := rfl
@[simp] theorem State.updDie_reqs (s : State) (d : Nat) (f : DieP → DieP) : (s.updDie d f).reqs = s.reqs := rfl
@[simp] theorem State.updDie_banks (s : State) (d : Nat) (f : DieP → DieP) : (s.updDie d f).banks = s.banks := rfl
@[simp] theorem State.updDie_aunits (s : State) (d : Nat) (f : DieP → DieP) : (s.updDie d f).aunits = s.aunits := rfl
@[simp] theorem State.updDie_hbm (s : State) (d : Nat) (f : DieP → DieP) : (s.updDie d f).hbm = s.hbm := rfl
@[simp] theorem State.updDie_rels (s : State) (d : Nat) (f : DieP → DieP) : (s.updDie d f).rels = s.rels := rfl
@[simp] theorem State.updDie_rings (s : State) (d : Nat) (f : DieP → DieP) : (s.updDie d f).rings = s.rings := rfl
@[simp] theorem State.updDie_rep (s : State) (d : Nat) (f : DieP → DieP) : (s.updDie d f).rep = s.rep := rfl
@[simp] theorem State.updDie_ports (s : State) (d : Nat) (f : DieP → DieP) : (s.updDie d f).ports = s.ports := rfl
@[simp] theorem State.updDie_flows (s : State) (d : Nat) (f : DieP → DieP) : (s.updDie d f).flows = s.flows := rfl
@[simp] theorem State.updDie_gws (s : State) (d : Nat) (f : DieP → DieP) : (s.updDie d f).gws = s.gws := rfl
@[simp] theorem State.updDie_pwr (s : State) (d : Nat) (f : DieP → DieP) : (s.updDie d f).pwr = { s.pwr with dies := mapUpd {} s.pwr.dies d f } := rfl
@[simp] theorem State.updDie_mgmt (s : State) (d : Nat) (f : DieP → DieP) : (s.updDie d f).mgmt = s.mgmt := rfl
@[simp] theorem State.updDie_alder (s : State) (d : Nat) (f : DieP → DieP) : (s.updDie d f).alder = s.alder := rfl
@[simp] theorem State.updDie_exch (s : State) (d : Nat) (f : DieP → DieP) : (s.updDie d f).exch = s.exch := rfl

/-! updRail. -/

@[simp] theorem State.updRail_pending (s : State) (k : Nat) (f : RailP → RailP) : (s.updRail k f).pending = s.pending := rfl
@[simp] theorem State.updRail_now (s : State) (k : Nat) (f : RailP → RailP) : (s.updRail k f).now = s.now := rfl
@[simp] theorem State.updRail_fresh (s : State) (k : Nat) (f : RailP → RailP) : (s.updRail k f).fresh = s.fresh := rfl
@[simp] theorem State.updRail_nextId (s : State) (k : Nat) (f : RailP → RailP) : (s.updRail k f).nextId = s.nextId := rfl
@[simp] theorem State.updRail_out (s : State) (k : Nat) (f : RailP → RailP) : (s.updRail k f).out = s.out := rfl
@[simp] theorem State.updRail_dev (s : State) (k : Nat) (f : RailP → RailP) : (s.updRail k f).dev = s.dev := rfl
@[simp] theorem State.updRail_board (s : State) (k : Nat) (f : RailP → RailP) : (s.updRail k f).board = s.board := rfl
@[simp] theorem State.updRail_dict (s : State) (k : Nat) (f : RailP → RailP) : (s.updRail k f).dict = s.dict := rfl
@[simp] theorem State.updRail_ovfl (s : State) (k : Nat) (f : RailP → RailP) : (s.updRail k f).ovfl = s.ovfl := rfl
@[simp] theorem State.updRail_snap (s : State) (k : Nat) (f : RailP → RailP) : (s.updRail k f).snap = s.snap := rfl
@[simp] theorem State.updRail_ctxs (s : State) (k : Nat) (f : RailP → RailP) : (s.updRail k f).ctxs = s.ctxs := rfl
@[simp] theorem State.updRail_parts (s : State) (k : Nat) (f : RailP → RailP) : (s.updRail k f).parts = s.parts := rfl
@[simp] theorem State.updRail_images (s : State) (k : Nat) (f : RailP → RailP) : (s.updRail k f).images = s.images := rfl
@[simp] theorem State.updRail_caches (s : State) (k : Nat) (f : RailP → RailP) : (s.updRail k f).caches = s.caches := rfl
@[simp] theorem State.updRail_tlbs (s : State) (k : Nat) (f : RailP → RailP) : (s.updRail k f).tlbs = s.tlbs := rfl
@[simp] theorem State.updRail_dtlbs (s : State) (k : Nat) (f : RailP → RailP) : (s.updRail k f).dtlbs = s.dtlbs := rfl
@[simp] theorem State.updRail_dbg (s : State) (k : Nat) (f : RailP → RailP) : (s.updRail k f).dbg = s.dbg := rfl
@[simp] theorem State.updRail_launches (s : State) (k : Nat) (f : RailP → RailP) : (s.updRail k f).launches = s.launches := rfl
@[simp] theorem State.updRail_mem (s : State) (k : Nat) (f : RailP → RailP) : (s.updRail k f).mem = s.mem := rfl
@[simp] theorem State.updRail_side (s : State) (k : Nat) (f : RailP → RailP) : (s.updRail k f).side = s.side := rfl
@[simp] theorem State.updRail_owner (s : State) (k : Nat) (f : RailP → RailP) : (s.updRail k f).owner = s.owner := rfl
@[simp] theorem State.updRail_saves (s : State) (k : Nat) (f : RailP → RailP) : (s.updRail k f).saves = s.saves := rfl
@[simp] theorem State.updRail_reqs (s : State) (k : Nat) (f : RailP → RailP) : (s.updRail k f).reqs = s.reqs := rfl
@[simp] theorem State.updRail_banks (s : State) (k : Nat) (f : RailP → RailP) : (s.updRail k f).banks = s.banks := rfl
@[simp] theorem State.updRail_aunits (s : State) (k : Nat) (f : RailP → RailP) : (s.updRail k f).aunits = s.aunits := rfl
@[simp] theorem State.updRail_hbm (s : State) (k : Nat) (f : RailP → RailP) : (s.updRail k f).hbm = s.hbm := rfl
@[simp] theorem State.updRail_rels (s : State) (k : Nat) (f : RailP → RailP) : (s.updRail k f).rels = s.rels := rfl
@[simp] theorem State.updRail_rings (s : State) (k : Nat) (f : RailP → RailP) : (s.updRail k f).rings = s.rings := rfl
@[simp] theorem State.updRail_rep (s : State) (k : Nat) (f : RailP → RailP) : (s.updRail k f).rep = s.rep := rfl
@[simp] theorem State.updRail_ports (s : State) (k : Nat) (f : RailP → RailP) : (s.updRail k f).ports = s.ports := rfl
@[simp] theorem State.updRail_flows (s : State) (k : Nat) (f : RailP → RailP) : (s.updRail k f).flows = s.flows := rfl
@[simp] theorem State.updRail_gws (s : State) (k : Nat) (f : RailP → RailP) : (s.updRail k f).gws = s.gws := rfl
@[simp] theorem State.updRail_pwr (s : State) (k : Nat) (f : RailP → RailP) : (s.updRail k f).pwr = { s.pwr with rails := mapUpd {} s.pwr.rails k f } := rfl
@[simp] theorem State.updRail_mgmt (s : State) (k : Nat) (f : RailP → RailP) : (s.updRail k f).mgmt = s.mgmt := rfl
@[simp] theorem State.updRail_alder (s : State) (k : Nat) (f : RailP → RailP) : (s.updRail k f).alder = s.alder := rfl
@[simp] theorem State.updRail_exch (s : State) (k : Nat) (f : RailP → RailP) : (s.updRail k f).exch = s.exch := rfl

/-! updMgmt. -/

@[simp] theorem State.updMgmt_pending (s : State) (f : Mgmt → Mgmt) : (s.updMgmt f).pending = s.pending := rfl
@[simp] theorem State.updMgmt_now (s : State) (f : Mgmt → Mgmt) : (s.updMgmt f).now = s.now := rfl
@[simp] theorem State.updMgmt_fresh (s : State) (f : Mgmt → Mgmt) : (s.updMgmt f).fresh = s.fresh := rfl
@[simp] theorem State.updMgmt_nextId (s : State) (f : Mgmt → Mgmt) : (s.updMgmt f).nextId = s.nextId := rfl
@[simp] theorem State.updMgmt_out (s : State) (f : Mgmt → Mgmt) : (s.updMgmt f).out = s.out := rfl
@[simp] theorem State.updMgmt_dev (s : State) (f : Mgmt → Mgmt) : (s.updMgmt f).dev = s.dev := rfl
@[simp] theorem State.updMgmt_board (s : State) (f : Mgmt → Mgmt) : (s.updMgmt f).board = s.board := rfl
@[simp] theorem State.updMgmt_dict (s : State) (f : Mgmt → Mgmt) : (s.updMgmt f).dict = s.dict := rfl
@[simp] theorem State.updMgmt_ovfl (s : State) (f : Mgmt → Mgmt) : (s.updMgmt f).ovfl = s.ovfl := rfl
@[simp] theorem State.updMgmt_snap (s : State) (f : Mgmt → Mgmt) : (s.updMgmt f).snap = s.snap := rfl
@[simp] theorem State.updMgmt_ctxs (s : State) (f : Mgmt → Mgmt) : (s.updMgmt f).ctxs = s.ctxs := rfl
@[simp] theorem State.updMgmt_parts (s : State) (f : Mgmt → Mgmt) : (s.updMgmt f).parts = s.parts := rfl
@[simp] theorem State.updMgmt_images (s : State) (f : Mgmt → Mgmt) : (s.updMgmt f).images = s.images := rfl
@[simp] theorem State.updMgmt_caches (s : State) (f : Mgmt → Mgmt) : (s.updMgmt f).caches = s.caches := rfl
@[simp] theorem State.updMgmt_tlbs (s : State) (f : Mgmt → Mgmt) : (s.updMgmt f).tlbs = s.tlbs := rfl
@[simp] theorem State.updMgmt_dtlbs (s : State) (f : Mgmt → Mgmt) : (s.updMgmt f).dtlbs = s.dtlbs := rfl
@[simp] theorem State.updMgmt_dbg (s : State) (f : Mgmt → Mgmt) : (s.updMgmt f).dbg = s.dbg := rfl
@[simp] theorem State.updMgmt_launches (s : State) (f : Mgmt → Mgmt) : (s.updMgmt f).launches = s.launches := rfl
@[simp] theorem State.updMgmt_mem (s : State) (f : Mgmt → Mgmt) : (s.updMgmt f).mem = s.mem := rfl
@[simp] theorem State.updMgmt_side (s : State) (f : Mgmt → Mgmt) : (s.updMgmt f).side = s.side := rfl
@[simp] theorem State.updMgmt_owner (s : State) (f : Mgmt → Mgmt) : (s.updMgmt f).owner = s.owner := rfl
@[simp] theorem State.updMgmt_saves (s : State) (f : Mgmt → Mgmt) : (s.updMgmt f).saves = s.saves := rfl
@[simp] theorem State.updMgmt_reqs (s : State) (f : Mgmt → Mgmt) : (s.updMgmt f).reqs = s.reqs := rfl
@[simp] theorem State.updMgmt_banks (s : State) (f : Mgmt → Mgmt) : (s.updMgmt f).banks = s.banks := rfl
@[simp] theorem State.updMgmt_aunits (s : State) (f : Mgmt → Mgmt) : (s.updMgmt f).aunits = s.aunits := rfl
@[simp] theorem State.updMgmt_hbm (s : State) (f : Mgmt → Mgmt) : (s.updMgmt f).hbm = s.hbm := rfl
@[simp] theorem State.updMgmt_rels (s : State) (f : Mgmt → Mgmt) : (s.updMgmt f).rels = s.rels := rfl
@[simp] theorem State.updMgmt_rings (s : State) (f : Mgmt → Mgmt) : (s.updMgmt f).rings = s.rings := rfl
@[simp] theorem State.updMgmt_rep (s : State) (f : Mgmt → Mgmt) : (s.updMgmt f).rep = s.rep := rfl
@[simp] theorem State.updMgmt_ports (s : State) (f : Mgmt → Mgmt) : (s.updMgmt f).ports = s.ports := rfl
@[simp] theorem State.updMgmt_flows (s : State) (f : Mgmt → Mgmt) : (s.updMgmt f).flows = s.flows := rfl
@[simp] theorem State.updMgmt_gws (s : State) (f : Mgmt → Mgmt) : (s.updMgmt f).gws = s.gws := rfl
@[simp] theorem State.updMgmt_pwr (s : State) (f : Mgmt → Mgmt) : (s.updMgmt f).pwr = s.pwr := rfl
@[simp] theorem State.updMgmt_mgmt (s : State) (f : Mgmt → Mgmt) : (s.updMgmt f).mgmt = f s.mgmt := rfl
@[simp] theorem State.updMgmt_alder (s : State) (f : Mgmt → Mgmt) : (s.updMgmt f).alder = s.alder := rfl
@[simp] theorem State.updMgmt_exch (s : State) (f : Mgmt → Mgmt) : (s.updMgmt f).exch = s.exch := rfl

/-! updRep. -/

@[simp] theorem State.updRep_pending (s : State) (f : Rep → Rep) : (s.updRep f).pending = s.pending := rfl
@[simp] theorem State.updRep_now (s : State) (f : Rep → Rep) : (s.updRep f).now = s.now := rfl
@[simp] theorem State.updRep_fresh (s : State) (f : Rep → Rep) : (s.updRep f).fresh = s.fresh := rfl
@[simp] theorem State.updRep_nextId (s : State) (f : Rep → Rep) : (s.updRep f).nextId = s.nextId := rfl
@[simp] theorem State.updRep_out (s : State) (f : Rep → Rep) : (s.updRep f).out = s.out := rfl
@[simp] theorem State.updRep_dev (s : State) (f : Rep → Rep) : (s.updRep f).dev = s.dev := rfl
@[simp] theorem State.updRep_board (s : State) (f : Rep → Rep) : (s.updRep f).board = s.board := rfl
@[simp] theorem State.updRep_dict (s : State) (f : Rep → Rep) : (s.updRep f).dict = s.dict := rfl
@[simp] theorem State.updRep_ovfl (s : State) (f : Rep → Rep) : (s.updRep f).ovfl = s.ovfl := rfl
@[simp] theorem State.updRep_snap (s : State) (f : Rep → Rep) : (s.updRep f).snap = s.snap := rfl
@[simp] theorem State.updRep_ctxs (s : State) (f : Rep → Rep) : (s.updRep f).ctxs = s.ctxs := rfl
@[simp] theorem State.updRep_parts (s : State) (f : Rep → Rep) : (s.updRep f).parts = s.parts := rfl
@[simp] theorem State.updRep_images (s : State) (f : Rep → Rep) : (s.updRep f).images = s.images := rfl
@[simp] theorem State.updRep_caches (s : State) (f : Rep → Rep) : (s.updRep f).caches = s.caches := rfl
@[simp] theorem State.updRep_tlbs (s : State) (f : Rep → Rep) : (s.updRep f).tlbs = s.tlbs := rfl
@[simp] theorem State.updRep_dtlbs (s : State) (f : Rep → Rep) : (s.updRep f).dtlbs = s.dtlbs := rfl
@[simp] theorem State.updRep_dbg (s : State) (f : Rep → Rep) : (s.updRep f).dbg = s.dbg := rfl
@[simp] theorem State.updRep_launches (s : State) (f : Rep → Rep) : (s.updRep f).launches = s.launches := rfl
@[simp] theorem State.updRep_mem (s : State) (f : Rep → Rep) : (s.updRep f).mem = s.mem := rfl
@[simp] theorem State.updRep_side (s : State) (f : Rep → Rep) : (s.updRep f).side = s.side := rfl
@[simp] theorem State.updRep_owner (s : State) (f : Rep → Rep) : (s.updRep f).owner = s.owner := rfl
@[simp] theorem State.updRep_saves (s : State) (f : Rep → Rep) : (s.updRep f).saves = s.saves := rfl
@[simp] theorem State.updRep_reqs (s : State) (f : Rep → Rep) : (s.updRep f).reqs = s.reqs := rfl
@[simp] theorem State.updRep_banks (s : State) (f : Rep → Rep) : (s.updRep f).banks = s.banks := rfl
@[simp] theorem State.updRep_aunits (s : State) (f : Rep → Rep) : (s.updRep f).aunits = s.aunits := rfl
@[simp] theorem State.updRep_hbm (s : State) (f : Rep → Rep) : (s.updRep f).hbm = s.hbm := rfl
@[simp] theorem State.updRep_rels (s : State) (f : Rep → Rep) : (s.updRep f).rels = s.rels := rfl
@[simp] theorem State.updRep_rings (s : State) (f : Rep → Rep) : (s.updRep f).rings = s.rings := rfl
@[simp] theorem State.updRep_rep (s : State) (f : Rep → Rep) : (s.updRep f).rep = f s.rep := rfl
@[simp] theorem State.updRep_ports (s : State) (f : Rep → Rep) : (s.updRep f).ports = s.ports := rfl
@[simp] theorem State.updRep_flows (s : State) (f : Rep → Rep) : (s.updRep f).flows = s.flows := rfl
@[simp] theorem State.updRep_gws (s : State) (f : Rep → Rep) : (s.updRep f).gws = s.gws := rfl
@[simp] theorem State.updRep_pwr (s : State) (f : Rep → Rep) : (s.updRep f).pwr = s.pwr := rfl
@[simp] theorem State.updRep_mgmt (s : State) (f : Rep → Rep) : (s.updRep f).mgmt = s.mgmt := rfl
@[simp] theorem State.updRep_alder (s : State) (f : Rep → Rep) : (s.updRep f).alder = s.alder := rfl
@[simp] theorem State.updRep_exch (s : State) (f : Rep → Rep) : (s.updRep f).exch = s.exch := rfl

/-! updRings. -/

@[simp] theorem State.updRings_pending (s : State) (c : Nat) (f : Rings → Rings) : (s.updRings c f).pending = s.pending := rfl
@[simp] theorem State.updRings_now (s : State) (c : Nat) (f : Rings → Rings) : (s.updRings c f).now = s.now := rfl
@[simp] theorem State.updRings_fresh (s : State) (c : Nat) (f : Rings → Rings) : (s.updRings c f).fresh = s.fresh := rfl
@[simp] theorem State.updRings_nextId (s : State) (c : Nat) (f : Rings → Rings) : (s.updRings c f).nextId = s.nextId := rfl
@[simp] theorem State.updRings_out (s : State) (c : Nat) (f : Rings → Rings) : (s.updRings c f).out = s.out := rfl
@[simp] theorem State.updRings_dev (s : State) (c : Nat) (f : Rings → Rings) : (s.updRings c f).dev = s.dev := rfl
@[simp] theorem State.updRings_board (s : State) (c : Nat) (f : Rings → Rings) : (s.updRings c f).board = s.board := rfl
@[simp] theorem State.updRings_dict (s : State) (c : Nat) (f : Rings → Rings) : (s.updRings c f).dict = s.dict := rfl
@[simp] theorem State.updRings_ovfl (s : State) (c : Nat) (f : Rings → Rings) : (s.updRings c f).ovfl = s.ovfl := rfl
@[simp] theorem State.updRings_snap (s : State) (c : Nat) (f : Rings → Rings) : (s.updRings c f).snap = s.snap := rfl
@[simp] theorem State.updRings_ctxs (s : State) (c : Nat) (f : Rings → Rings) : (s.updRings c f).ctxs = s.ctxs := rfl
@[simp] theorem State.updRings_parts (s : State) (c : Nat) (f : Rings → Rings) : (s.updRings c f).parts = s.parts := rfl
@[simp] theorem State.updRings_images (s : State) (c : Nat) (f : Rings → Rings) : (s.updRings c f).images = s.images := rfl
@[simp] theorem State.updRings_caches (s : State) (c : Nat) (f : Rings → Rings) : (s.updRings c f).caches = s.caches := rfl
@[simp] theorem State.updRings_tlbs (s : State) (c : Nat) (f : Rings → Rings) : (s.updRings c f).tlbs = s.tlbs := rfl
@[simp] theorem State.updRings_dtlbs (s : State) (c : Nat) (f : Rings → Rings) : (s.updRings c f).dtlbs = s.dtlbs := rfl
@[simp] theorem State.updRings_dbg (s : State) (c : Nat) (f : Rings → Rings) : (s.updRings c f).dbg = s.dbg := rfl
@[simp] theorem State.updRings_launches (s : State) (c : Nat) (f : Rings → Rings) : (s.updRings c f).launches = s.launches := rfl
@[simp] theorem State.updRings_mem (s : State) (c : Nat) (f : Rings → Rings) : (s.updRings c f).mem = s.mem := rfl
@[simp] theorem State.updRings_side (s : State) (c : Nat) (f : Rings → Rings) : (s.updRings c f).side = s.side := rfl
@[simp] theorem State.updRings_owner (s : State) (c : Nat) (f : Rings → Rings) : (s.updRings c f).owner = s.owner := rfl
@[simp] theorem State.updRings_saves (s : State) (c : Nat) (f : Rings → Rings) : (s.updRings c f).saves = s.saves := rfl
@[simp] theorem State.updRings_reqs (s : State) (c : Nat) (f : Rings → Rings) : (s.updRings c f).reqs = s.reqs := rfl
@[simp] theorem State.updRings_banks (s : State) (c : Nat) (f : Rings → Rings) : (s.updRings c f).banks = s.banks := rfl
@[simp] theorem State.updRings_aunits (s : State) (c : Nat) (f : Rings → Rings) : (s.updRings c f).aunits = s.aunits := rfl
@[simp] theorem State.updRings_hbm (s : State) (c : Nat) (f : Rings → Rings) : (s.updRings c f).hbm = s.hbm := rfl
@[simp] theorem State.updRings_rels (s : State) (c : Nat) (f : Rings → Rings) : (s.updRings c f).rels = s.rels := rfl
@[simp] theorem State.updRings_rings (s : State) (c : Nat) (f : Rings → Rings) : (s.updRings c f).rings = mapUpd {} s.rings c f := rfl
@[simp] theorem State.updRings_rep (s : State) (c : Nat) (f : Rings → Rings) : (s.updRings c f).rep = s.rep := rfl
@[simp] theorem State.updRings_ports (s : State) (c : Nat) (f : Rings → Rings) : (s.updRings c f).ports = s.ports := rfl
@[simp] theorem State.updRings_flows (s : State) (c : Nat) (f : Rings → Rings) : (s.updRings c f).flows = s.flows := rfl
@[simp] theorem State.updRings_gws (s : State) (c : Nat) (f : Rings → Rings) : (s.updRings c f).gws = s.gws := rfl
@[simp] theorem State.updRings_pwr (s : State) (c : Nat) (f : Rings → Rings) : (s.updRings c f).pwr = s.pwr := rfl
@[simp] theorem State.updRings_mgmt (s : State) (c : Nat) (f : Rings → Rings) : (s.updRings c f).mgmt = s.mgmt := rfl
@[simp] theorem State.updRings_alder (s : State) (c : Nat) (f : Rings → Rings) : (s.updRings c f).alder = s.alder := rfl
@[simp] theorem State.updRings_exch (s : State) (c : Nat) (f : Rings → Rings) : (s.updRings c f).exch = s.exch := rfl

/-! updRing. -/

@[simp] theorem State.updRing_pending (s : State) (c r : Nat) (f : Ring → Ring) : (s.updRing c r f).pending = s.pending := rfl
@[simp] theorem State.updRing_now (s : State) (c r : Nat) (f : Ring → Ring) : (s.updRing c r f).now = s.now := rfl
@[simp] theorem State.updRing_fresh (s : State) (c r : Nat) (f : Ring → Ring) : (s.updRing c r f).fresh = s.fresh := rfl
@[simp] theorem State.updRing_nextId (s : State) (c r : Nat) (f : Ring → Ring) : (s.updRing c r f).nextId = s.nextId := rfl
@[simp] theorem State.updRing_out (s : State) (c r : Nat) (f : Ring → Ring) : (s.updRing c r f).out = s.out := rfl
@[simp] theorem State.updRing_dev (s : State) (c r : Nat) (f : Ring → Ring) : (s.updRing c r f).dev = s.dev := rfl
@[simp] theorem State.updRing_board (s : State) (c r : Nat) (f : Ring → Ring) : (s.updRing c r f).board = s.board := rfl
@[simp] theorem State.updRing_dict (s : State) (c r : Nat) (f : Ring → Ring) : (s.updRing c r f).dict = s.dict := rfl
@[simp] theorem State.updRing_ovfl (s : State) (c r : Nat) (f : Ring → Ring) : (s.updRing c r f).ovfl = s.ovfl := rfl
@[simp] theorem State.updRing_snap (s : State) (c r : Nat) (f : Ring → Ring) : (s.updRing c r f).snap = s.snap := rfl
@[simp] theorem State.updRing_ctxs (s : State) (c r : Nat) (f : Ring → Ring) : (s.updRing c r f).ctxs = s.ctxs := rfl
@[simp] theorem State.updRing_parts (s : State) (c r : Nat) (f : Ring → Ring) : (s.updRing c r f).parts = s.parts := rfl
@[simp] theorem State.updRing_images (s : State) (c r : Nat) (f : Ring → Ring) : (s.updRing c r f).images = s.images := rfl
@[simp] theorem State.updRing_caches (s : State) (c r : Nat) (f : Ring → Ring) : (s.updRing c r f).caches = s.caches := rfl
@[simp] theorem State.updRing_tlbs (s : State) (c r : Nat) (f : Ring → Ring) : (s.updRing c r f).tlbs = s.tlbs := rfl
@[simp] theorem State.updRing_dtlbs (s : State) (c r : Nat) (f : Ring → Ring) : (s.updRing c r f).dtlbs = s.dtlbs := rfl
@[simp] theorem State.updRing_dbg (s : State) (c r : Nat) (f : Ring → Ring) : (s.updRing c r f).dbg = s.dbg := rfl
@[simp] theorem State.updRing_launches (s : State) (c r : Nat) (f : Ring → Ring) : (s.updRing c r f).launches = s.launches := rfl
@[simp] theorem State.updRing_mem (s : State) (c r : Nat) (f : Ring → Ring) : (s.updRing c r f).mem = s.mem := rfl
@[simp] theorem State.updRing_side (s : State) (c r : Nat) (f : Ring → Ring) : (s.updRing c r f).side = s.side := rfl
@[simp] theorem State.updRing_owner (s : State) (c r : Nat) (f : Ring → Ring) : (s.updRing c r f).owner = s.owner := rfl
@[simp] theorem State.updRing_saves (s : State) (c r : Nat) (f : Ring → Ring) : (s.updRing c r f).saves = s.saves := rfl
@[simp] theorem State.updRing_reqs (s : State) (c r : Nat) (f : Ring → Ring) : (s.updRing c r f).reqs = s.reqs := rfl
@[simp] theorem State.updRing_banks (s : State) (c r : Nat) (f : Ring → Ring) : (s.updRing c r f).banks = s.banks := rfl
@[simp] theorem State.updRing_aunits (s : State) (c r : Nat) (f : Ring → Ring) : (s.updRing c r f).aunits = s.aunits := rfl
@[simp] theorem State.updRing_hbm (s : State) (c r : Nat) (f : Ring → Ring) : (s.updRing c r f).hbm = s.hbm := rfl
@[simp] theorem State.updRing_rels (s : State) (c r : Nat) (f : Ring → Ring) : (s.updRing c r f).rels = s.rels := rfl
@[simp] theorem State.updRing_rings (s : State) (c r : Nat) (f : Ring → Ring) : (s.updRing c r f).rings = mapUpd {} s.rings c (fun x => { x with sq := mapUpd {} x.sq r f }) := rfl
@[simp] theorem State.updRing_rep (s : State) (c r : Nat) (f : Ring → Ring) : (s.updRing c r f).rep = s.rep := rfl
@[simp] theorem State.updRing_ports (s : State) (c r : Nat) (f : Ring → Ring) : (s.updRing c r f).ports = s.ports := rfl
@[simp] theorem State.updRing_flows (s : State) (c r : Nat) (f : Ring → Ring) : (s.updRing c r f).flows = s.flows := rfl
@[simp] theorem State.updRing_gws (s : State) (c r : Nat) (f : Ring → Ring) : (s.updRing c r f).gws = s.gws := rfl
@[simp] theorem State.updRing_pwr (s : State) (c r : Nat) (f : Ring → Ring) : (s.updRing c r f).pwr = s.pwr := rfl
@[simp] theorem State.updRing_mgmt (s : State) (c r : Nat) (f : Ring → Ring) : (s.updRing c r f).mgmt = s.mgmt := rfl
@[simp] theorem State.updRing_alder (s : State) (c r : Nat) (f : Ring → Ring) : (s.updRing c r f).alder = s.alder := rfl
@[simp] theorem State.updRing_exch (s : State) (c r : Nat) (f : Ring → Ring) : (s.updRing c r f).exch = s.exch := rfl

/-! updCq. -/

@[simp] theorem State.updCq_pending (s : State) (c : Nat) (f : Cq → Cq) : (s.updCq c f).pending = s.pending := rfl
@[simp] theorem State.updCq_now (s : State) (c : Nat) (f : Cq → Cq) : (s.updCq c f).now = s.now := rfl
@[simp] theorem State.updCq_fresh (s : State) (c : Nat) (f : Cq → Cq) : (s.updCq c f).fresh = s.fresh := rfl
@[simp] theorem State.updCq_nextId (s : State) (c : Nat) (f : Cq → Cq) : (s.updCq c f).nextId = s.nextId := rfl
@[simp] theorem State.updCq_out (s : State) (c : Nat) (f : Cq → Cq) : (s.updCq c f).out = s.out := rfl
@[simp] theorem State.updCq_dev (s : State) (c : Nat) (f : Cq → Cq) : (s.updCq c f).dev = s.dev := rfl
@[simp] theorem State.updCq_board (s : State) (c : Nat) (f : Cq → Cq) : (s.updCq c f).board = s.board := rfl
@[simp] theorem State.updCq_dict (s : State) (c : Nat) (f : Cq → Cq) : (s.updCq c f).dict = s.dict := rfl
@[simp] theorem State.updCq_ovfl (s : State) (c : Nat) (f : Cq → Cq) : (s.updCq c f).ovfl = s.ovfl := rfl
@[simp] theorem State.updCq_snap (s : State) (c : Nat) (f : Cq → Cq) : (s.updCq c f).snap = s.snap := rfl
@[simp] theorem State.updCq_ctxs (s : State) (c : Nat) (f : Cq → Cq) : (s.updCq c f).ctxs = s.ctxs := rfl
@[simp] theorem State.updCq_parts (s : State) (c : Nat) (f : Cq → Cq) : (s.updCq c f).parts = s.parts := rfl
@[simp] theorem State.updCq_images (s : State) (c : Nat) (f : Cq → Cq) : (s.updCq c f).images = s.images := rfl
@[simp] theorem State.updCq_caches (s : State) (c : Nat) (f : Cq → Cq) : (s.updCq c f).caches = s.caches := rfl
@[simp] theorem State.updCq_tlbs (s : State) (c : Nat) (f : Cq → Cq) : (s.updCq c f).tlbs = s.tlbs := rfl
@[simp] theorem State.updCq_dtlbs (s : State) (c : Nat) (f : Cq → Cq) : (s.updCq c f).dtlbs = s.dtlbs := rfl
@[simp] theorem State.updCq_dbg (s : State) (c : Nat) (f : Cq → Cq) : (s.updCq c f).dbg = s.dbg := rfl
@[simp] theorem State.updCq_launches (s : State) (c : Nat) (f : Cq → Cq) : (s.updCq c f).launches = s.launches := rfl
@[simp] theorem State.updCq_mem (s : State) (c : Nat) (f : Cq → Cq) : (s.updCq c f).mem = s.mem := rfl
@[simp] theorem State.updCq_side (s : State) (c : Nat) (f : Cq → Cq) : (s.updCq c f).side = s.side := rfl
@[simp] theorem State.updCq_owner (s : State) (c : Nat) (f : Cq → Cq) : (s.updCq c f).owner = s.owner := rfl
@[simp] theorem State.updCq_saves (s : State) (c : Nat) (f : Cq → Cq) : (s.updCq c f).saves = s.saves := rfl
@[simp] theorem State.updCq_reqs (s : State) (c : Nat) (f : Cq → Cq) : (s.updCq c f).reqs = s.reqs := rfl
@[simp] theorem State.updCq_banks (s : State) (c : Nat) (f : Cq → Cq) : (s.updCq c f).banks = s.banks := rfl
@[simp] theorem State.updCq_aunits (s : State) (c : Nat) (f : Cq → Cq) : (s.updCq c f).aunits = s.aunits := rfl
@[simp] theorem State.updCq_hbm (s : State) (c : Nat) (f : Cq → Cq) : (s.updCq c f).hbm = s.hbm := rfl
@[simp] theorem State.updCq_rels (s : State) (c : Nat) (f : Cq → Cq) : (s.updCq c f).rels = s.rels := rfl
@[simp] theorem State.updCq_rings (s : State) (c : Nat) (f : Cq → Cq) : (s.updCq c f).rings = mapUpd {} s.rings c (fun x => { x with cq := f x.cq }) := rfl
@[simp] theorem State.updCq_rep (s : State) (c : Nat) (f : Cq → Cq) : (s.updCq c f).rep = s.rep := rfl
@[simp] theorem State.updCq_ports (s : State) (c : Nat) (f : Cq → Cq) : (s.updCq c f).ports = s.ports := rfl
@[simp] theorem State.updCq_flows (s : State) (c : Nat) (f : Cq → Cq) : (s.updCq c f).flows = s.flows := rfl
@[simp] theorem State.updCq_gws (s : State) (c : Nat) (f : Cq → Cq) : (s.updCq c f).gws = s.gws := rfl
@[simp] theorem State.updCq_pwr (s : State) (c : Nat) (f : Cq → Cq) : (s.updCq c f).pwr = s.pwr := rfl
@[simp] theorem State.updCq_mgmt (s : State) (c : Nat) (f : Cq → Cq) : (s.updCq c f).mgmt = s.mgmt := rfl
@[simp] theorem State.updCq_alder (s : State) (c : Nat) (f : Cq → Cq) : (s.updCq c f).alder = s.alder := rfl
@[simp] theorem State.updCq_exch (s : State) (c : Nat) (f : Cq → Cq) : (s.updCq c f).exch = s.exch := rfl

/-! updCmd. -/

@[simp] theorem State.updCmd_pending (s : State) (c r : Nat) (f : Cmd → Cmd) : (s.updCmd c r f).pending = s.pending := rfl
@[simp] theorem State.updCmd_now (s : State) (c r : Nat) (f : Cmd → Cmd) : (s.updCmd c r f).now = s.now := rfl
@[simp] theorem State.updCmd_fresh (s : State) (c r : Nat) (f : Cmd → Cmd) : (s.updCmd c r f).fresh = s.fresh := rfl
@[simp] theorem State.updCmd_nextId (s : State) (c r : Nat) (f : Cmd → Cmd) : (s.updCmd c r f).nextId = s.nextId := rfl
@[simp] theorem State.updCmd_out (s : State) (c r : Nat) (f : Cmd → Cmd) : (s.updCmd c r f).out = s.out := rfl
@[simp] theorem State.updCmd_dev (s : State) (c r : Nat) (f : Cmd → Cmd) : (s.updCmd c r f).dev = s.dev := rfl
@[simp] theorem State.updCmd_board (s : State) (c r : Nat) (f : Cmd → Cmd) : (s.updCmd c r f).board = s.board := rfl
@[simp] theorem State.updCmd_dict (s : State) (c r : Nat) (f : Cmd → Cmd) : (s.updCmd c r f).dict = s.dict := rfl
@[simp] theorem State.updCmd_ovfl (s : State) (c r : Nat) (f : Cmd → Cmd) : (s.updCmd c r f).ovfl = s.ovfl := rfl
@[simp] theorem State.updCmd_snap (s : State) (c r : Nat) (f : Cmd → Cmd) : (s.updCmd c r f).snap = s.snap := rfl
@[simp] theorem State.updCmd_ctxs (s : State) (c r : Nat) (f : Cmd → Cmd) : (s.updCmd c r f).ctxs = s.ctxs := rfl
@[simp] theorem State.updCmd_parts (s : State) (c r : Nat) (f : Cmd → Cmd) : (s.updCmd c r f).parts = s.parts := rfl
@[simp] theorem State.updCmd_images (s : State) (c r : Nat) (f : Cmd → Cmd) : (s.updCmd c r f).images = s.images := rfl
@[simp] theorem State.updCmd_caches (s : State) (c r : Nat) (f : Cmd → Cmd) : (s.updCmd c r f).caches = s.caches := rfl
@[simp] theorem State.updCmd_tlbs (s : State) (c r : Nat) (f : Cmd → Cmd) : (s.updCmd c r f).tlbs = s.tlbs := rfl
@[simp] theorem State.updCmd_dtlbs (s : State) (c r : Nat) (f : Cmd → Cmd) : (s.updCmd c r f).dtlbs = s.dtlbs := rfl
@[simp] theorem State.updCmd_dbg (s : State) (c r : Nat) (f : Cmd → Cmd) : (s.updCmd c r f).dbg = s.dbg := rfl
@[simp] theorem State.updCmd_launches (s : State) (c r : Nat) (f : Cmd → Cmd) : (s.updCmd c r f).launches = s.launches := rfl
@[simp] theorem State.updCmd_mem (s : State) (c r : Nat) (f : Cmd → Cmd) : (s.updCmd c r f).mem = s.mem := rfl
@[simp] theorem State.updCmd_side (s : State) (c r : Nat) (f : Cmd → Cmd) : (s.updCmd c r f).side = s.side := rfl
@[simp] theorem State.updCmd_owner (s : State) (c r : Nat) (f : Cmd → Cmd) : (s.updCmd c r f).owner = s.owner := rfl
@[simp] theorem State.updCmd_saves (s : State) (c r : Nat) (f : Cmd → Cmd) : (s.updCmd c r f).saves = s.saves := rfl
@[simp] theorem State.updCmd_reqs (s : State) (c r : Nat) (f : Cmd → Cmd) : (s.updCmd c r f).reqs = s.reqs := rfl
@[simp] theorem State.updCmd_banks (s : State) (c r : Nat) (f : Cmd → Cmd) : (s.updCmd c r f).banks = s.banks := rfl
@[simp] theorem State.updCmd_aunits (s : State) (c r : Nat) (f : Cmd → Cmd) : (s.updCmd c r f).aunits = s.aunits := rfl
@[simp] theorem State.updCmd_hbm (s : State) (c r : Nat) (f : Cmd → Cmd) : (s.updCmd c r f).hbm = s.hbm := rfl
@[simp] theorem State.updCmd_rels (s : State) (c r : Nat) (f : Cmd → Cmd) : (s.updCmd c r f).rels = s.rels := rfl
@[simp] theorem State.updCmd_rep (s : State) (c r : Nat) (f : Cmd → Cmd) : (s.updCmd c r f).rep = s.rep := rfl
@[simp] theorem State.updCmd_ports (s : State) (c r : Nat) (f : Cmd → Cmd) : (s.updCmd c r f).ports = s.ports := rfl
@[simp] theorem State.updCmd_flows (s : State) (c r : Nat) (f : Cmd → Cmd) : (s.updCmd c r f).flows = s.flows := rfl
@[simp] theorem State.updCmd_gws (s : State) (c r : Nat) (f : Cmd → Cmd) : (s.updCmd c r f).gws = s.gws := rfl
@[simp] theorem State.updCmd_pwr (s : State) (c r : Nat) (f : Cmd → Cmd) : (s.updCmd c r f).pwr = s.pwr := rfl
@[simp] theorem State.updCmd_mgmt (s : State) (c r : Nat) (f : Cmd → Cmd) : (s.updCmd c r f).mgmt = s.mgmt := rfl
@[simp] theorem State.updCmd_alder (s : State) (c r : Nat) (f : Cmd → Cmd) : (s.updCmd c r f).alder = s.alder := rfl
@[simp] theorem State.updCmd_exch (s : State) (c r : Nat) (f : Cmd → Cmd) : (s.updCmd c r f).exch = s.exch := rfl

/-! setPort. -/

@[simp] theorem State.setPort_pending (s : State) (p : Nat) (x : Port) : (s.setPort p x).pending = s.pending := rfl
@[simp] theorem State.setPort_now (s : State) (p : Nat) (x : Port) : (s.setPort p x).now = s.now := rfl
@[simp] theorem State.setPort_fresh (s : State) (p : Nat) (x : Port) : (s.setPort p x).fresh = s.fresh := rfl
@[simp] theorem State.setPort_nextId (s : State) (p : Nat) (x : Port) : (s.setPort p x).nextId = s.nextId := rfl
@[simp] theorem State.setPort_out (s : State) (p : Nat) (x : Port) : (s.setPort p x).out = s.out := rfl
@[simp] theorem State.setPort_dev (s : State) (p : Nat) (x : Port) : (s.setPort p x).dev = s.dev := rfl
@[simp] theorem State.setPort_board (s : State) (p : Nat) (x : Port) : (s.setPort p x).board = s.board := rfl
@[simp] theorem State.setPort_dict (s : State) (p : Nat) (x : Port) : (s.setPort p x).dict = s.dict := rfl
@[simp] theorem State.setPort_ovfl (s : State) (p : Nat) (x : Port) : (s.setPort p x).ovfl = s.ovfl := rfl
@[simp] theorem State.setPort_snap (s : State) (p : Nat) (x : Port) : (s.setPort p x).snap = s.snap := rfl
@[simp] theorem State.setPort_ctxs (s : State) (p : Nat) (x : Port) : (s.setPort p x).ctxs = s.ctxs := rfl
@[simp] theorem State.setPort_parts (s : State) (p : Nat) (x : Port) : (s.setPort p x).parts = s.parts := rfl
@[simp] theorem State.setPort_images (s : State) (p : Nat) (x : Port) : (s.setPort p x).images = s.images := rfl
@[simp] theorem State.setPort_caches (s : State) (p : Nat) (x : Port) : (s.setPort p x).caches = s.caches := rfl
@[simp] theorem State.setPort_tlbs (s : State) (p : Nat) (x : Port) : (s.setPort p x).tlbs = s.tlbs := rfl
@[simp] theorem State.setPort_dtlbs (s : State) (p : Nat) (x : Port) : (s.setPort p x).dtlbs = s.dtlbs := rfl
@[simp] theorem State.setPort_dbg (s : State) (p : Nat) (x : Port) : (s.setPort p x).dbg = s.dbg := rfl
@[simp] theorem State.setPort_launches (s : State) (p : Nat) (x : Port) : (s.setPort p x).launches = s.launches := rfl
@[simp] theorem State.setPort_mem (s : State) (p : Nat) (x : Port) : (s.setPort p x).mem = s.mem := rfl
@[simp] theorem State.setPort_side (s : State) (p : Nat) (x : Port) : (s.setPort p x).side = s.side := rfl
@[simp] theorem State.setPort_owner (s : State) (p : Nat) (x : Port) : (s.setPort p x).owner = s.owner := rfl
@[simp] theorem State.setPort_saves (s : State) (p : Nat) (x : Port) : (s.setPort p x).saves = s.saves := rfl
@[simp] theorem State.setPort_reqs (s : State) (p : Nat) (x : Port) : (s.setPort p x).reqs = s.reqs := rfl
@[simp] theorem State.setPort_banks (s : State) (p : Nat) (x : Port) : (s.setPort p x).banks = s.banks := rfl
@[simp] theorem State.setPort_aunits (s : State) (p : Nat) (x : Port) : (s.setPort p x).aunits = s.aunits := rfl
@[simp] theorem State.setPort_hbm (s : State) (p : Nat) (x : Port) : (s.setPort p x).hbm = s.hbm := rfl
@[simp] theorem State.setPort_rels (s : State) (p : Nat) (x : Port) : (s.setPort p x).rels = s.rels := rfl
@[simp] theorem State.setPort_rings (s : State) (p : Nat) (x : Port) : (s.setPort p x).rings = s.rings := rfl
@[simp] theorem State.setPort_rep (s : State) (p : Nat) (x : Port) : (s.setPort p x).rep = s.rep := rfl
@[simp] theorem State.setPort_ports (s : State) (p : Nat) (x : Port) : (s.setPort p x).ports = mapSet {} s.ports p x := rfl
@[simp] theorem State.setPort_flows (s : State) (p : Nat) (x : Port) : (s.setPort p x).flows = s.flows := rfl
@[simp] theorem State.setPort_gws (s : State) (p : Nat) (x : Port) : (s.setPort p x).gws = s.gws := rfl
@[simp] theorem State.setPort_pwr (s : State) (p : Nat) (x : Port) : (s.setPort p x).pwr = s.pwr := rfl
@[simp] theorem State.setPort_mgmt (s : State) (p : Nat) (x : Port) : (s.setPort p x).mgmt = s.mgmt := rfl
@[simp] theorem State.setPort_alder (s : State) (p : Nat) (x : Port) : (s.setPort p x).alder = s.alder := rfl
@[simp] theorem State.setPort_exch (s : State) (p : Nat) (x : Port) : (s.setPort p x).exch = s.exch := rfl

/-! updPort. -/

@[simp] theorem State.updPort_pending (s : State) (p : Nat) (f : Port → Port) : (s.updPort p f).pending = s.pending := rfl
@[simp] theorem State.updPort_now (s : State) (p : Nat) (f : Port → Port) : (s.updPort p f).now = s.now := rfl
@[simp] theorem State.updPort_fresh (s : State) (p : Nat) (f : Port → Port) : (s.updPort p f).fresh = s.fresh := rfl
@[simp] theorem State.updPort_nextId (s : State) (p : Nat) (f : Port → Port) : (s.updPort p f).nextId = s.nextId := rfl
@[simp] theorem State.updPort_out (s : State) (p : Nat) (f : Port → Port) : (s.updPort p f).out = s.out := rfl
@[simp] theorem State.updPort_dev (s : State) (p : Nat) (f : Port → Port) : (s.updPort p f).dev = s.dev := rfl
@[simp] theorem State.updPort_board (s : State) (p : Nat) (f : Port → Port) : (s.updPort p f).board = s.board := rfl
@[simp] theorem State.updPort_dict (s : State) (p : Nat) (f : Port → Port) : (s.updPort p f).dict = s.dict := rfl
@[simp] theorem State.updPort_ovfl (s : State) (p : Nat) (f : Port → Port) : (s.updPort p f).ovfl = s.ovfl := rfl
@[simp] theorem State.updPort_snap (s : State) (p : Nat) (f : Port → Port) : (s.updPort p f).snap = s.snap := rfl
@[simp] theorem State.updPort_ctxs (s : State) (p : Nat) (f : Port → Port) : (s.updPort p f).ctxs = s.ctxs := rfl
@[simp] theorem State.updPort_parts (s : State) (p : Nat) (f : Port → Port) : (s.updPort p f).parts = s.parts := rfl
@[simp] theorem State.updPort_images (s : State) (p : Nat) (f : Port → Port) : (s.updPort p f).images = s.images := rfl
@[simp] theorem State.updPort_caches (s : State) (p : Nat) (f : Port → Port) : (s.updPort p f).caches = s.caches := rfl
@[simp] theorem State.updPort_tlbs (s : State) (p : Nat) (f : Port → Port) : (s.updPort p f).tlbs = s.tlbs := rfl
@[simp] theorem State.updPort_dtlbs (s : State) (p : Nat) (f : Port → Port) : (s.updPort p f).dtlbs = s.dtlbs := rfl
@[simp] theorem State.updPort_dbg (s : State) (p : Nat) (f : Port → Port) : (s.updPort p f).dbg = s.dbg := rfl
@[simp] theorem State.updPort_launches (s : State) (p : Nat) (f : Port → Port) : (s.updPort p f).launches = s.launches := rfl
@[simp] theorem State.updPort_mem (s : State) (p : Nat) (f : Port → Port) : (s.updPort p f).mem = s.mem := rfl
@[simp] theorem State.updPort_side (s : State) (p : Nat) (f : Port → Port) : (s.updPort p f).side = s.side := rfl
@[simp] theorem State.updPort_owner (s : State) (p : Nat) (f : Port → Port) : (s.updPort p f).owner = s.owner := rfl
@[simp] theorem State.updPort_saves (s : State) (p : Nat) (f : Port → Port) : (s.updPort p f).saves = s.saves := rfl
@[simp] theorem State.updPort_reqs (s : State) (p : Nat) (f : Port → Port) : (s.updPort p f).reqs = s.reqs := rfl
@[simp] theorem State.updPort_banks (s : State) (p : Nat) (f : Port → Port) : (s.updPort p f).banks = s.banks := rfl
@[simp] theorem State.updPort_aunits (s : State) (p : Nat) (f : Port → Port) : (s.updPort p f).aunits = s.aunits := rfl
@[simp] theorem State.updPort_hbm (s : State) (p : Nat) (f : Port → Port) : (s.updPort p f).hbm = s.hbm := rfl
@[simp] theorem State.updPort_rels (s : State) (p : Nat) (f : Port → Port) : (s.updPort p f).rels = s.rels := rfl
@[simp] theorem State.updPort_rings (s : State) (p : Nat) (f : Port → Port) : (s.updPort p f).rings = s.rings := rfl
@[simp] theorem State.updPort_rep (s : State) (p : Nat) (f : Port → Port) : (s.updPort p f).rep = s.rep := rfl
@[simp] theorem State.updPort_ports (s : State) (p : Nat) (f : Port → Port) : (s.updPort p f).ports = mapSet {} s.ports p (f (s.port p)) := rfl
@[simp] theorem State.updPort_flows (s : State) (p : Nat) (f : Port → Port) : (s.updPort p f).flows = s.flows := rfl
@[simp] theorem State.updPort_gws (s : State) (p : Nat) (f : Port → Port) : (s.updPort p f).gws = s.gws := rfl
@[simp] theorem State.updPort_pwr (s : State) (p : Nat) (f : Port → Port) : (s.updPort p f).pwr = s.pwr := rfl
@[simp] theorem State.updPort_mgmt (s : State) (p : Nat) (f : Port → Port) : (s.updPort p f).mgmt = s.mgmt := rfl
@[simp] theorem State.updPort_alder (s : State) (p : Nat) (f : Port → Port) : (s.updPort p f).alder = s.alder := rfl
@[simp] theorem State.updPort_exch (s : State) (p : Nat) (f : Port → Port) : (s.updPort p f).exch = s.exch := rfl

/-! updGw. -/

@[simp] theorem State.updGw_pending (s : State) (g : Nat) (f : Gw → Gw) : (s.updGw g f).pending = s.pending := rfl
@[simp] theorem State.updGw_now (s : State) (g : Nat) (f : Gw → Gw) : (s.updGw g f).now = s.now := rfl
@[simp] theorem State.updGw_fresh (s : State) (g : Nat) (f : Gw → Gw) : (s.updGw g f).fresh = s.fresh := rfl
@[simp] theorem State.updGw_nextId (s : State) (g : Nat) (f : Gw → Gw) : (s.updGw g f).nextId = s.nextId := rfl
@[simp] theorem State.updGw_out (s : State) (g : Nat) (f : Gw → Gw) : (s.updGw g f).out = s.out := rfl
@[simp] theorem State.updGw_dev (s : State) (g : Nat) (f : Gw → Gw) : (s.updGw g f).dev = s.dev := rfl
@[simp] theorem State.updGw_board (s : State) (g : Nat) (f : Gw → Gw) : (s.updGw g f).board = s.board := rfl
@[simp] theorem State.updGw_dict (s : State) (g : Nat) (f : Gw → Gw) : (s.updGw g f).dict = s.dict := rfl
@[simp] theorem State.updGw_ovfl (s : State) (g : Nat) (f : Gw → Gw) : (s.updGw g f).ovfl = s.ovfl := rfl
@[simp] theorem State.updGw_snap (s : State) (g : Nat) (f : Gw → Gw) : (s.updGw g f).snap = s.snap := rfl
@[simp] theorem State.updGw_ctxs (s : State) (g : Nat) (f : Gw → Gw) : (s.updGw g f).ctxs = s.ctxs := rfl
@[simp] theorem State.updGw_parts (s : State) (g : Nat) (f : Gw → Gw) : (s.updGw g f).parts = s.parts := rfl
@[simp] theorem State.updGw_images (s : State) (g : Nat) (f : Gw → Gw) : (s.updGw g f).images = s.images := rfl
@[simp] theorem State.updGw_caches (s : State) (g : Nat) (f : Gw → Gw) : (s.updGw g f).caches = s.caches := rfl
@[simp] theorem State.updGw_tlbs (s : State) (g : Nat) (f : Gw → Gw) : (s.updGw g f).tlbs = s.tlbs := rfl
@[simp] theorem State.updGw_dtlbs (s : State) (g : Nat) (f : Gw → Gw) : (s.updGw g f).dtlbs = s.dtlbs := rfl
@[simp] theorem State.updGw_dbg (s : State) (g : Nat) (f : Gw → Gw) : (s.updGw g f).dbg = s.dbg := rfl
@[simp] theorem State.updGw_launches (s : State) (g : Nat) (f : Gw → Gw) : (s.updGw g f).launches = s.launches := rfl
@[simp] theorem State.updGw_mem (s : State) (g : Nat) (f : Gw → Gw) : (s.updGw g f).mem = s.mem := rfl
@[simp] theorem State.updGw_side (s : State) (g : Nat) (f : Gw → Gw) : (s.updGw g f).side = s.side := rfl
@[simp] theorem State.updGw_owner (s : State) (g : Nat) (f : Gw → Gw) : (s.updGw g f).owner = s.owner := rfl
@[simp] theorem State.updGw_saves (s : State) (g : Nat) (f : Gw → Gw) : (s.updGw g f).saves = s.saves := rfl
@[simp] theorem State.updGw_reqs (s : State) (g : Nat) (f : Gw → Gw) : (s.updGw g f).reqs = s.reqs := rfl
@[simp] theorem State.updGw_banks (s : State) (g : Nat) (f : Gw → Gw) : (s.updGw g f).banks = s.banks := rfl
@[simp] theorem State.updGw_aunits (s : State) (g : Nat) (f : Gw → Gw) : (s.updGw g f).aunits = s.aunits := rfl
@[simp] theorem State.updGw_hbm (s : State) (g : Nat) (f : Gw → Gw) : (s.updGw g f).hbm = s.hbm := rfl
@[simp] theorem State.updGw_rels (s : State) (g : Nat) (f : Gw → Gw) : (s.updGw g f).rels = s.rels := rfl
@[simp] theorem State.updGw_rings (s : State) (g : Nat) (f : Gw → Gw) : (s.updGw g f).rings = s.rings := rfl
@[simp] theorem State.updGw_rep (s : State) (g : Nat) (f : Gw → Gw) : (s.updGw g f).rep = s.rep := rfl
@[simp] theorem State.updGw_ports (s : State) (g : Nat) (f : Gw → Gw) : (s.updGw g f).ports = s.ports := rfl
@[simp] theorem State.updGw_flows (s : State) (g : Nat) (f : Gw → Gw) : (s.updGw g f).flows = s.flows := rfl
@[simp] theorem State.updGw_gws (s : State) (g : Nat) (f : Gw → Gw) : (s.updGw g f).gws = mapUpd {} s.gws g f := rfl
@[simp] theorem State.updGw_pwr (s : State) (g : Nat) (f : Gw → Gw) : (s.updGw g f).pwr = s.pwr := rfl
@[simp] theorem State.updGw_mgmt (s : State) (g : Nat) (f : Gw → Gw) : (s.updGw g f).mgmt = s.mgmt := rfl
@[simp] theorem State.updGw_alder (s : State) (g : Nat) (f : Gw → Gw) : (s.updGw g f).alder = s.alder := rfl
@[simp] theorem State.updGw_exch (s : State) (g : Nat) (f : Gw → Gw) : (s.updGw g f).exch = s.exch := rfl

/-! setOwner. -/

@[simp] theorem State.setOwner_pending (s : State) (g : Nat) (o : Owner) : (s.setOwner g o).pending = s.pending := rfl
@[simp] theorem State.setOwner_now (s : State) (g : Nat) (o : Owner) : (s.setOwner g o).now = s.now := rfl
@[simp] theorem State.setOwner_fresh (s : State) (g : Nat) (o : Owner) : (s.setOwner g o).fresh = s.fresh := rfl
@[simp] theorem State.setOwner_nextId (s : State) (g : Nat) (o : Owner) : (s.setOwner g o).nextId = s.nextId := rfl
@[simp] theorem State.setOwner_out (s : State) (g : Nat) (o : Owner) : (s.setOwner g o).out = s.out := rfl
@[simp] theorem State.setOwner_dev (s : State) (g : Nat) (o : Owner) : (s.setOwner g o).dev = s.dev := rfl
@[simp] theorem State.setOwner_board (s : State) (g : Nat) (o : Owner) : (s.setOwner g o).board = s.board := rfl
@[simp] theorem State.setOwner_dict (s : State) (g : Nat) (o : Owner) : (s.setOwner g o).dict = s.dict := rfl
@[simp] theorem State.setOwner_ovfl (s : State) (g : Nat) (o : Owner) : (s.setOwner g o).ovfl = s.ovfl := rfl
@[simp] theorem State.setOwner_snap (s : State) (g : Nat) (o : Owner) : (s.setOwner g o).snap = s.snap := rfl
@[simp] theorem State.setOwner_ctxs (s : State) (g : Nat) (o : Owner) : (s.setOwner g o).ctxs = s.ctxs := rfl
@[simp] theorem State.setOwner_parts (s : State) (g : Nat) (o : Owner) : (s.setOwner g o).parts = s.parts := rfl
@[simp] theorem State.setOwner_images (s : State) (g : Nat) (o : Owner) : (s.setOwner g o).images = s.images := rfl
@[simp] theorem State.setOwner_caches (s : State) (g : Nat) (o : Owner) : (s.setOwner g o).caches = s.caches := rfl
@[simp] theorem State.setOwner_tlbs (s : State) (g : Nat) (o : Owner) : (s.setOwner g o).tlbs = s.tlbs := rfl
@[simp] theorem State.setOwner_dtlbs (s : State) (g : Nat) (o : Owner) : (s.setOwner g o).dtlbs = s.dtlbs := rfl
@[simp] theorem State.setOwner_dbg (s : State) (g : Nat) (o : Owner) : (s.setOwner g o).dbg = s.dbg := rfl
@[simp] theorem State.setOwner_launches (s : State) (g : Nat) (o : Owner) : (s.setOwner g o).launches = s.launches := rfl
@[simp] theorem State.setOwner_mem (s : State) (g : Nat) (o : Owner) : (s.setOwner g o).mem = s.mem := rfl
@[simp] theorem State.setOwner_side (s : State) (g : Nat) (o : Owner) : (s.setOwner g o).side = s.side := rfl
@[simp] theorem State.setOwner_owner (s : State) (g : Nat) (o : Owner) : (s.setOwner g o).owner = mapSet {} s.owner g o := rfl
@[simp] theorem State.setOwner_saves (s : State) (g : Nat) (o : Owner) : (s.setOwner g o).saves = s.saves := rfl
@[simp] theorem State.setOwner_reqs (s : State) (g : Nat) (o : Owner) : (s.setOwner g o).reqs = s.reqs := rfl
@[simp] theorem State.setOwner_banks (s : State) (g : Nat) (o : Owner) : (s.setOwner g o).banks = s.banks := rfl
@[simp] theorem State.setOwner_aunits (s : State) (g : Nat) (o : Owner) : (s.setOwner g o).aunits = s.aunits := rfl
@[simp] theorem State.setOwner_hbm (s : State) (g : Nat) (o : Owner) : (s.setOwner g o).hbm = s.hbm := rfl
@[simp] theorem State.setOwner_rels (s : State) (g : Nat) (o : Owner) : (s.setOwner g o).rels = s.rels := rfl
@[simp] theorem State.setOwner_rings (s : State) (g : Nat) (o : Owner) : (s.setOwner g o).rings = s.rings := rfl
@[simp] theorem State.setOwner_rep (s : State) (g : Nat) (o : Owner) : (s.setOwner g o).rep = s.rep := rfl
@[simp] theorem State.setOwner_ports (s : State) (g : Nat) (o : Owner) : (s.setOwner g o).ports = s.ports := rfl
@[simp] theorem State.setOwner_flows (s : State) (g : Nat) (o : Owner) : (s.setOwner g o).flows = s.flows := rfl
@[simp] theorem State.setOwner_gws (s : State) (g : Nat) (o : Owner) : (s.setOwner g o).gws = s.gws := rfl
@[simp] theorem State.setOwner_pwr (s : State) (g : Nat) (o : Owner) : (s.setOwner g o).pwr = s.pwr := rfl
@[simp] theorem State.setOwner_mgmt (s : State) (g : Nat) (o : Owner) : (s.setOwner g o).mgmt = s.mgmt := rfl
@[simp] theorem State.setOwner_alder (s : State) (g : Nat) (o : Owner) : (s.setOwner g o).alder = s.alder := rfl
@[simp] theorem State.setOwner_exch (s : State) (g : Nat) (o : Owner) : (s.setOwner g o).exch = s.exch := rfl

/-! updPart. -/

@[simp] theorem State.updPart_pending (s : State) (g : Nat) (f : Part → Part) : (s.updPart g f).pending = s.pending := rfl
@[simp] theorem State.updPart_now (s : State) (g : Nat) (f : Part → Part) : (s.updPart g f).now = s.now := rfl
@[simp] theorem State.updPart_fresh (s : State) (g : Nat) (f : Part → Part) : (s.updPart g f).fresh = s.fresh := rfl
@[simp] theorem State.updPart_nextId (s : State) (g : Nat) (f : Part → Part) : (s.updPart g f).nextId = s.nextId := rfl
@[simp] theorem State.updPart_out (s : State) (g : Nat) (f : Part → Part) : (s.updPart g f).out = s.out := rfl
@[simp] theorem State.updPart_dev (s : State) (g : Nat) (f : Part → Part) : (s.updPart g f).dev = s.dev := rfl
@[simp] theorem State.updPart_board (s : State) (g : Nat) (f : Part → Part) : (s.updPart g f).board = s.board := rfl
@[simp] theorem State.updPart_dict (s : State) (g : Nat) (f : Part → Part) : (s.updPart g f).dict = s.dict := rfl
@[simp] theorem State.updPart_ovfl (s : State) (g : Nat) (f : Part → Part) : (s.updPart g f).ovfl = s.ovfl := rfl
@[simp] theorem State.updPart_snap (s : State) (g : Nat) (f : Part → Part) : (s.updPart g f).snap = s.snap := rfl
@[simp] theorem State.updPart_ctxs (s : State) (g : Nat) (f : Part → Part) : (s.updPart g f).ctxs = s.ctxs := rfl
@[simp] theorem State.updPart_parts (s : State) (g : Nat) (f : Part → Part) : (s.updPart g f).parts = s.parts.map (fun e => if e.1 = g then (e.1, f e.2) else e) := rfl
@[simp] theorem State.updPart_images (s : State) (g : Nat) (f : Part → Part) : (s.updPart g f).images = s.images := rfl
@[simp] theorem State.updPart_caches (s : State) (g : Nat) (f : Part → Part) : (s.updPart g f).caches = s.caches := rfl
@[simp] theorem State.updPart_tlbs (s : State) (g : Nat) (f : Part → Part) : (s.updPart g f).tlbs = s.tlbs := rfl
@[simp] theorem State.updPart_dtlbs (s : State) (g : Nat) (f : Part → Part) : (s.updPart g f).dtlbs = s.dtlbs := rfl
@[simp] theorem State.updPart_dbg (s : State) (g : Nat) (f : Part → Part) : (s.updPart g f).dbg = s.dbg := rfl
@[simp] theorem State.updPart_launches (s : State) (g : Nat) (f : Part → Part) : (s.updPart g f).launches = s.launches := rfl
@[simp] theorem State.updPart_mem (s : State) (g : Nat) (f : Part → Part) : (s.updPart g f).mem = s.mem := rfl
@[simp] theorem State.updPart_side (s : State) (g : Nat) (f : Part → Part) : (s.updPart g f).side = s.side := rfl
@[simp] theorem State.updPart_owner (s : State) (g : Nat) (f : Part → Part) : (s.updPart g f).owner = s.owner := rfl
@[simp] theorem State.updPart_saves (s : State) (g : Nat) (f : Part → Part) : (s.updPart g f).saves = s.saves := rfl
@[simp] theorem State.updPart_reqs (s : State) (g : Nat) (f : Part → Part) : (s.updPart g f).reqs = s.reqs := rfl
@[simp] theorem State.updPart_banks (s : State) (g : Nat) (f : Part → Part) : (s.updPart g f).banks = s.banks := rfl
@[simp] theorem State.updPart_aunits (s : State) (g : Nat) (f : Part → Part) : (s.updPart g f).aunits = s.aunits := rfl
@[simp] theorem State.updPart_hbm (s : State) (g : Nat) (f : Part → Part) : (s.updPart g f).hbm = s.hbm := rfl
@[simp] theorem State.updPart_rels (s : State) (g : Nat) (f : Part → Part) : (s.updPart g f).rels = s.rels := rfl
@[simp] theorem State.updPart_rings (s : State) (g : Nat) (f : Part → Part) : (s.updPart g f).rings = s.rings := rfl
@[simp] theorem State.updPart_rep (s : State) (g : Nat) (f : Part → Part) : (s.updPart g f).rep = s.rep := rfl
@[simp] theorem State.updPart_ports (s : State) (g : Nat) (f : Part → Part) : (s.updPart g f).ports = s.ports := rfl
@[simp] theorem State.updPart_flows (s : State) (g : Nat) (f : Part → Part) : (s.updPart g f).flows = s.flows := rfl
@[simp] theorem State.updPart_gws (s : State) (g : Nat) (f : Part → Part) : (s.updPart g f).gws = s.gws := rfl
@[simp] theorem State.updPart_pwr (s : State) (g : Nat) (f : Part → Part) : (s.updPart g f).pwr = s.pwr := rfl
@[simp] theorem State.updPart_mgmt (s : State) (g : Nat) (f : Part → Part) : (s.updPart g f).mgmt = s.mgmt := rfl
@[simp] theorem State.updPart_alder (s : State) (g : Nat) (f : Part → Part) : (s.updPart g f).alder = s.alder := rfl
@[simp] theorem State.updPart_exch (s : State) (g : Nat) (f : Part → Part) : (s.updPart g f).exch = s.exch := rfl

/-! updExch. -/

@[simp] theorem State.updExch_pending (s : State) (c : Nat) (f : Exch → Exch) : (s.updExch c f).pending = s.pending := rfl
@[simp] theorem State.updExch_now (s : State) (c : Nat) (f : Exch → Exch) : (s.updExch c f).now = s.now := rfl
@[simp] theorem State.updExch_fresh (s : State) (c : Nat) (f : Exch → Exch) : (s.updExch c f).fresh = s.fresh := rfl
@[simp] theorem State.updExch_nextId (s : State) (c : Nat) (f : Exch → Exch) : (s.updExch c f).nextId = s.nextId := rfl
@[simp] theorem State.updExch_out (s : State) (c : Nat) (f : Exch → Exch) : (s.updExch c f).out = s.out := rfl
@[simp] theorem State.updExch_dev (s : State) (c : Nat) (f : Exch → Exch) : (s.updExch c f).dev = s.dev := rfl
@[simp] theorem State.updExch_board (s : State) (c : Nat) (f : Exch → Exch) : (s.updExch c f).board = s.board := rfl
@[simp] theorem State.updExch_dict (s : State) (c : Nat) (f : Exch → Exch) : (s.updExch c f).dict = s.dict := rfl
@[simp] theorem State.updExch_ovfl (s : State) (c : Nat) (f : Exch → Exch) : (s.updExch c f).ovfl = s.ovfl := rfl
@[simp] theorem State.updExch_snap (s : State) (c : Nat) (f : Exch → Exch) : (s.updExch c f).snap = s.snap := rfl
@[simp] theorem State.updExch_ctxs (s : State) (c : Nat) (f : Exch → Exch) : (s.updExch c f).ctxs = s.ctxs := rfl
@[simp] theorem State.updExch_parts (s : State) (c : Nat) (f : Exch → Exch) : (s.updExch c f).parts = s.parts := rfl
@[simp] theorem State.updExch_images (s : State) (c : Nat) (f : Exch → Exch) : (s.updExch c f).images = s.images := rfl
@[simp] theorem State.updExch_caches (s : State) (c : Nat) (f : Exch → Exch) : (s.updExch c f).caches = s.caches := rfl
@[simp] theorem State.updExch_tlbs (s : State) (c : Nat) (f : Exch → Exch) : (s.updExch c f).tlbs = s.tlbs := rfl
@[simp] theorem State.updExch_dtlbs (s : State) (c : Nat) (f : Exch → Exch) : (s.updExch c f).dtlbs = s.dtlbs := rfl
@[simp] theorem State.updExch_dbg (s : State) (c : Nat) (f : Exch → Exch) : (s.updExch c f).dbg = s.dbg := rfl
@[simp] theorem State.updExch_launches (s : State) (c : Nat) (f : Exch → Exch) : (s.updExch c f).launches = s.launches := rfl
@[simp] theorem State.updExch_mem (s : State) (c : Nat) (f : Exch → Exch) : (s.updExch c f).mem = s.mem := rfl
@[simp] theorem State.updExch_side (s : State) (c : Nat) (f : Exch → Exch) : (s.updExch c f).side = s.side := rfl
@[simp] theorem State.updExch_owner (s : State) (c : Nat) (f : Exch → Exch) : (s.updExch c f).owner = s.owner := rfl
@[simp] theorem State.updExch_saves (s : State) (c : Nat) (f : Exch → Exch) : (s.updExch c f).saves = s.saves := rfl
@[simp] theorem State.updExch_reqs (s : State) (c : Nat) (f : Exch → Exch) : (s.updExch c f).reqs = s.reqs := rfl
@[simp] theorem State.updExch_banks (s : State) (c : Nat) (f : Exch → Exch) : (s.updExch c f).banks = s.banks := rfl
@[simp] theorem State.updExch_aunits (s : State) (c : Nat) (f : Exch → Exch) : (s.updExch c f).aunits = s.aunits := rfl
@[simp] theorem State.updExch_hbm (s : State) (c : Nat) (f : Exch → Exch) : (s.updExch c f).hbm = s.hbm := rfl
@[simp] theorem State.updExch_rels (s : State) (c : Nat) (f : Exch → Exch) : (s.updExch c f).rels = s.rels := rfl
@[simp] theorem State.updExch_rings (s : State) (c : Nat) (f : Exch → Exch) : (s.updExch c f).rings = s.rings := rfl
@[simp] theorem State.updExch_rep (s : State) (c : Nat) (f : Exch → Exch) : (s.updExch c f).rep = s.rep := rfl
@[simp] theorem State.updExch_ports (s : State) (c : Nat) (f : Exch → Exch) : (s.updExch c f).ports = s.ports := rfl
@[simp] theorem State.updExch_flows (s : State) (c : Nat) (f : Exch → Exch) : (s.updExch c f).flows = s.flows := rfl
@[simp] theorem State.updExch_gws (s : State) (c : Nat) (f : Exch → Exch) : (s.updExch c f).gws = s.gws := rfl
@[simp] theorem State.updExch_pwr (s : State) (c : Nat) (f : Exch → Exch) : (s.updExch c f).pwr = s.pwr := rfl
@[simp] theorem State.updExch_mgmt (s : State) (c : Nat) (f : Exch → Exch) : (s.updExch c f).mgmt = s.mgmt := rfl
@[simp] theorem State.updExch_alder (s : State) (c : Nat) (f : Exch → Exch) : (s.updExch c f).alder = s.alder := rfl
@[simp] theorem State.updExch_exch (s : State) (c : Nat) (f : Exch → Exch) : (s.updExch c f).exch = s.exch.map (fun e => if e.1 = c then (e.1, f e.2) else e) := rfl

end Sys2Proof.Machine
end

