-- ==== Sys2Proof/Laws/Counts.lean ====
section
/-!
SUPPORT. Laws/Counts.lean: reads of a table after a change of one of its entries, and what counting and reporting can change: dictionary
values, OVERFLOW_LIST and the report state, nothing else.
-/
namespace Sys2Proof.Machine

/-! Reads of tables. -/

@[simp] theorem State.dv_setDv (s : State) (k v : Nat) : (s.setDv k v).dv k = v := by simp [State.dv]
theorem State.dv_setDv_other (s : State) (k j v : Nat) (h : j ≠ k) : (s.setDv k v).dv j = s.dv j := by
  simp only [State.dv, mapGet, State.setDv_dict, mapSet]
  split
  · rw [mapFind_erase_other _ _ _ h]
  · rw [mapFind_insert_other _ _ _ _ h, mapFind_erase_other _ _ _ h]
@[simp] theorem State.die_updDie (s : State) (d : Nat) (f : DieP → DieP) : (s.updDie d f).die d = f (s.die d) := by
  simp [State.die, mapUpd]
theorem State.die_updDie_other (s : State) (d e : Nat) (f : DieP → DieP) (h : e ≠ d) : (s.updDie d f).die e = s.die e := by
  simp [State.die, mapUpd, mapGet_set_other _ _ _ _ _ h]
@[simp] theorem State.rail_updRail (s : State) (k : Nat) (f : RailP → RailP) : (s.updRail k f).rail k = f (s.rail k) := by
  simp [State.rail, mapUpd]
theorem State.rail_updRail_other (s : State) (k j : Nat) (f : RailP → RailP) (h : j ≠ k) : (s.updRail k f).rail j = s.rail j := by
  simp [State.rail, mapUpd, mapGet_set_other _ _ _ _ _ h]
@[simp] theorem State.ctx_updCtx (s : State) (c : Nat) (f : Ctx → Ctx) : (s.updCtx c f).ctx c = f (s.ctx c) := by
  simp [State.ctx]
theorem State.ctx_updCtx_other (s : State) (c j : Nat) (f : Ctx → Ctx) (h : j ≠ c) : (s.updCtx c f).ctx j = s.ctx j := by
  simp [State.ctx, mapGet_set_other _ _ _ _ _ h]
@[simp] theorem State.port_updPort (s : State) (p : Nat) (f : Port → Port) : (s.updPort p f).port p = f (s.port p) := by
  simp [State.port]
theorem State.port_updPort_other (s : State) (p q : Nat) (f : Port → Port) (h : q ≠ p) : (s.updPort p f).port q = s.port q := by
  simp [State.port, mapGet_set_other _ _ _ _ _ h]
@[simp] theorem State.ringsOf_updRings (s : State) (c : Nat) (f : Rings → Rings) : (s.updRings c f).ringsOf c = f (s.ringsOf c) := by
  simp [State.ringsOf, mapUpd]
theorem State.ringsOf_updRings_other (s : State) (c j : Nat) (f : Rings → Rings) (h : j ≠ c) :
    (s.updRings c f).ringsOf j = s.ringsOf j := by
  simp [State.ringsOf, mapUpd, mapGet_set_other _ _ _ _ _ h]
@[simp] theorem State.ring_updRing (s : State) (c r : Nat) (f : Ring → Ring) : (s.updRing c r f).ring c r = f (s.ring c r) := by
  simp [State.ring, State.updRing, mapUpd]
theorem State.ring_updRing_other (s : State) (c r q : Nat) (f : Ring → Ring) (h : q ≠ r) : (s.updRing c r f).ring c q = s.ring c q := by
  simp [State.ring, State.updRing, mapUpd, mapGet_set_other _ _ _ _ _ h]
@[simp] theorem State.die_updRail (s : State) (k d : Nat) (f : RailP → RailP) : (s.updRail k f).die d = s.die d := rfl
@[simp] theorem State.rail_updDie (s : State) (k d : Nat) (f : DieP → DieP) : (s.updDie d f).rail k = s.rail k := rfl

/-! Counting and reporting. -/

/-- States alike but for what counting and reporting change. -/
def Reported (s t : State) : Prop := ∃ d o r, t = { s with dict := d, ovfl := o, rep := r }

theorem Reported.rfl (s : State) : Reported s s := ⟨_, _, _, Eq.refl _⟩
theorem Reported.trans {s t u : State} : Reported s t → Reported t u → Reported s u := by
  rintro ⟨_, _, _, rfl⟩ ⟨_, _, _, rfl⟩; exact ⟨_, _, _, Eq.refl _⟩
theorem reported_setDv (s : State) (k v : Nat) : Reported s (s.setDv k v) := ⟨_, _, _, Eq.refl _⟩
theorem reported_updRep (s : State) (f : Rep → Rep) : Reported s (s.updRep f) := ⟨_, _, _, Eq.refl _⟩
theorem reported_rep (s : State) (r : Rep) : Reported s { s with rep := r } := ⟨_, _, _, Eq.refl _⟩

theorem reported_bump (s : State) (k n : Nat) : Reported s (s.bump k n) := by
  unfold State.bump
  dsimp only
  split
  · exact reported_setDv _ _ _
  · split
    · split
      · exact ⟨_, _, _, Eq.refl _⟩
      · exact (reported_setDv _ _ _).trans (reported_setDv _ _ _)
    · exact reported_setDv _ _ _

theorem reported_stage (s : State) (y : Yew) : Reported s (s.stage y) := by
  unfold State.stage
  dsimp only
  split
  · exact reported_bump _ _ _
  · split
    · exact reported_bump _ _ _
    · split
      · exact (reported_rep _ _).trans (reported_bump _ _ _)
      · split
        · exact (reported_rep _ _).trans (reported_bump _ _ _)
        · exact reported_rep _ _

theorem reported_enqueueAlarm (s : State) (a : Alarm) : Reported s (s.enqueueAlarm a) := by
  unfold State.enqueueAlarm
  dsimp only
  split
  · exact reported_rep _ _
  · split
    · exact (reported_rep _ _).trans ((reported_setDv _ _ _).trans (reported_rep _ _))
    · exact reported_setDv _ _ _

theorem reported_alarm (s : State) (a : Alarm) : Reported s (s.alarm a).1 := by
  unfold State.alarm
  dsimp only
  split
  · dsimp only
    exact (reported_rep _ _).trans (reported_bump _ _ _)
  · have h := (reported_rep s { s.rep with aseq := (s.rep.aseq + 1) % 2 ^ 32 }).trans (reported_bump _ (dkey 0x7030 0x02) 1)
    split
    · dsimp only
      exact h.trans (reported_enqueueAlarm _ _)
    · dsimp only
      exact h.trans (reported_rep _ _)

theorem reported_raiseAs (s : State) (ev cls unit : Nat) (st : Status) (d0 low : Nat) : Reported s (s.raiseAs ev cls unit st d0 low) := by
  unfold State.raiseAs
  dsimp only
  split
  · split
    · exact reported_alarm _ _
    · exact Reported.rfl _
  · split
    · exact reported_alarm _ _
    · exact (reported_alarm _ _).trans (reported_stage _ _)

theorem reported_raise (s : State) (ev unit : Nat) (st : Status) (d0 : Nat) (ds : List Nat) : Reported s (s.raise ev unit st d0 ds) :=
  reported_raiseAs _ _ _ _ _ _ _

theorem reported_count (s : State) (k n : Nat) : Reported s (s.count k n) := by
  unfold State.count
  dsimp only
  split
  · exact (reported_bump _ _ _).trans (reported_raise _ _ _ _ _ _)
  · exact reported_bump _ _ _

theorem reported_sramFixed (s : State) (n : Nat) : Reported s (s.sramFixed n) := by
  unfold State.sramFixed
  split
  · exact .rfl s
  · exact reported_count _ _ _

@[simp] theorem State.bump_pending (s : State) (k n : Nat) : (s.bump k n).pending = s.pending := by
  obtain ⟨_, _, _, e⟩ := reported_bump s k n; rw [e]
@[simp] theorem State.bump_now (s : State) (k n : Nat) : (s.bump k n).now = s.now := by
  obtain ⟨_, _, _, e⟩ := reported_bump s k n; rw [e]
@[simp] theorem State.bump_fresh (s : State) (k n : Nat) : (s.bump k n).fresh = s.fresh := by
  obtain ⟨_, _, _, e⟩ := reported_bump s k n; rw [e]
@[simp] theorem State.bump_nextId (s : State) (k n : Nat) : (s.bump k n).nextId = s.nextId := by
  obtain ⟨_, _, _, e⟩ := reported_bump s k n; rw [e]
@[simp] theorem State.bump_out (s : State) (k n : Nat) : (s.bump k n).out = s.out := by
  obtain ⟨_, _, _, e⟩ := reported_bump s k n; rw [e]
@[simp] theorem State.bump_dev (s : State) (k n : Nat) : (s.bump k n).dev = s.dev := by
  obtain ⟨_, _, _, e⟩ := reported_bump s k n; rw [e]
@[simp] theorem State.bump_board (s : State) (k n : Nat) : (s.bump k n).board = s.board := by
  obtain ⟨_, _, _, e⟩ := reported_bump s k n; rw [e]
@[simp] theorem State.bump_snap (s : State) (k n : Nat) : (s.bump k n).snap = s.snap := by
  obtain ⟨_, _, _, e⟩ := reported_bump s k n; rw [e]
@[simp] theorem State.bump_ctxs (s : State) (k n : Nat) : (s.bump k n).ctxs = s.ctxs := by
  obtain ⟨_, _, _, e⟩ := reported_bump s k n; rw [e]
@[simp] theorem State.bump_parts (s : State) (k n : Nat) : (s.bump k n).parts = s.parts := by
  obtain ⟨_, _, _, e⟩ := reported_bump s k n; rw [e]
@[simp] theorem State.bump_images (s : State) (k n : Nat) : (s.bump k n).images = s.images := by
  obtain ⟨_, _, _, e⟩ := reported_bump s k n; rw [e]
@[simp] theorem State.bump_caches (s : State) (k n : Nat) : (s.bump k n).caches = s.caches := by
  obtain ⟨_, _, _, e⟩ := reported_bump s k n; rw [e]
@[simp] theorem State.bump_tlbs (s : State) (k n : Nat) : (s.bump k n).tlbs = s.tlbs := by
  obtain ⟨_, _, _, e⟩ := reported_bump s k n; rw [e]
@[simp] theorem State.bump_dtlbs (s : State) (k n : Nat) : (s.bump k n).dtlbs = s.dtlbs := by
  obtain ⟨_, _, _, e⟩ := reported_bump s k n; rw [e]
@[simp] theorem State.bump_dbg (s : State) (k n : Nat) : (s.bump k n).dbg = s.dbg := by
  obtain ⟨_, _, _, e⟩ := reported_bump s k n; rw [e]
@[simp] theorem State.bump_launches (s : State) (k n : Nat) : (s.bump k n).launches = s.launches := by
  obtain ⟨_, _, _, e⟩ := reported_bump s k n; rw [e]
@[simp] theorem State.bump_mem (s : State) (k n : Nat) : (s.bump k n).mem = s.mem := by
  obtain ⟨_, _, _, e⟩ := reported_bump s k n; rw [e]
@[simp] theorem State.bump_side (s : State) (k n : Nat) : (s.bump k n).side = s.side := by
  obtain ⟨_, _, _, e⟩ := reported_bump s k n; rw [e]
@[simp] theorem State.bump_owner (s : State) (k n : Nat) : (s.bump k n).owner = s.owner := by
  obtain ⟨_, _, _, e⟩ := reported_bump s k n; rw [e]
@[simp] theorem State.bump_saves (s : State) (k n : Nat) : (s.bump k n).saves = s.saves := by
  obtain ⟨_, _, _, e⟩ := reported_bump s k n; rw [e]
@[simp] theorem State.bump_reqs (s : State) (k n : Nat) : (s.bump k n).reqs = s.reqs := by
  obtain ⟨_, _, _, e⟩ := reported_bump s k n; rw [e]
@[simp] theorem State.bump_banks (s : State) (k n : Nat) : (s.bump k n).banks = s.banks := by
  obtain ⟨_, _, _, e⟩ := reported_bump s k n; rw [e]
@[simp] theorem State.bump_aunits (s : State) (k n : Nat) : (s.bump k n).aunits = s.aunits := by
  obtain ⟨_, _, _, e⟩ := reported_bump s k n; rw [e]
@[simp] theorem State.bump_hbm (s : State) (k n : Nat) : (s.bump k n).hbm = s.hbm := by
  obtain ⟨_, _, _, e⟩ := reported_bump s k n; rw [e]
@[simp] theorem State.bump_rels (s : State) (k n : Nat) : (s.bump k n).rels = s.rels := by
  obtain ⟨_, _, _, e⟩ := reported_bump s k n; rw [e]
@[simp] theorem State.bump_rings (s : State) (k n : Nat) : (s.bump k n).rings = s.rings := by
  obtain ⟨_, _, _, e⟩ := reported_bump s k n; rw [e]
@[simp] theorem State.bump_ports (s : State) (k n : Nat) : (s.bump k n).ports = s.ports := by
  obtain ⟨_, _, _, e⟩ := reported_bump s k n; rw [e]
@[simp] theorem State.bump_flows (s : State) (k n : Nat) : (s.bump k n).flows = s.flows := by
  obtain ⟨_, _, _, e⟩ := reported_bump s k n; rw [e]
@[simp] theorem State.bump_gws (s : State) (k n : Nat) : (s.bump k n).gws = s.gws := by
  obtain ⟨_, _, _, e⟩ := reported_bump s k n; rw [e]
@[simp] theorem State.bump_pwr (s : State) (k n : Nat) : (s.bump k n).pwr = s.pwr := by
  obtain ⟨_, _, _, e⟩ := reported_bump s k n; rw [e]
@[simp] theorem State.bump_mgmt (s : State) (k n : Nat) : (s.bump k n).mgmt = s.mgmt := by
  obtain ⟨_, _, _, e⟩ := reported_bump s k n; rw [e]
@[simp] theorem State.bump_alder (s : State) (k n : Nat) : (s.bump k n).alder = s.alder := by
  obtain ⟨_, _, _, e⟩ := reported_bump s k n; rw [e]
@[simp] theorem State.bump_exch (s : State) (k n : Nat) : (s.bump k n).exch = s.exch := by
  obtain ⟨_, _, _, e⟩ := reported_bump s k n; rw [e]
@[simp] theorem State.count_pending (s : State) (k n : Nat) : (s.count k n).pending = s.pending := by
  obtain ⟨_, _, _, e⟩ := reported_count s k n; rw [e]
@[simp] theorem State.count_now (s : State) (k n : Nat) : (s.count k n).now = s.now := by
  obtain ⟨_, _, _, e⟩ := reported_count s k n; rw [e]
@[simp] theorem State.count_fresh (s : State) (k n : Nat) : (s.count k n).fresh = s.fresh := by
  obtain ⟨_, _, _, e⟩ := reported_count s k n; rw [e]
@[simp] theorem State.count_nextId (s : State) (k n : Nat) : (s.count k n).nextId = s.nextId := by
  obtain ⟨_, _, _, e⟩ := reported_count s k n; rw [e]
@[simp] theorem State.count_out (s : State) (k n : Nat) : (s.count k n).out = s.out := by
  obtain ⟨_, _, _, e⟩ := reported_count s k n; rw [e]
@[simp] theorem State.count_dev (s : State) (k n : Nat) : (s.count k n).dev = s.dev := by
  obtain ⟨_, _, _, e⟩ := reported_count s k n; rw [e]
@[simp] theorem State.count_board (s : State) (k n : Nat) : (s.count k n).board = s.board := by
  obtain ⟨_, _, _, e⟩ := reported_count s k n; rw [e]
@[simp] theorem State.count_snap (s : State) (k n : Nat) : (s.count k n).snap = s.snap := by
  obtain ⟨_, _, _, e⟩ := reported_count s k n; rw [e]
@[simp] theorem State.count_ctxs (s : State) (k n : Nat) : (s.count k n).ctxs = s.ctxs := by
  obtain ⟨_, _, _, e⟩ := reported_count s k n; rw [e]
@[simp] theorem State.count_parts (s : State) (k n : Nat) : (s.count k n).parts = s.parts := by
  obtain ⟨_, _, _, e⟩ := reported_count s k n; rw [e]
@[simp] theorem State.count_images (s : State) (k n : Nat) : (s.count k n).images = s.images := by
  obtain ⟨_, _, _, e⟩ := reported_count s k n; rw [e]
@[simp] theorem State.count_caches (s : State) (k n : Nat) : (s.count k n).caches = s.caches := by
  obtain ⟨_, _, _, e⟩ := reported_count s k n; rw [e]
@[simp] theorem State.count_tlbs (s : State) (k n : Nat) : (s.count k n).tlbs = s.tlbs := by
  obtain ⟨_, _, _, e⟩ := reported_count s k n; rw [e]
@[simp] theorem State.count_dtlbs (s : State) (k n : Nat) : (s.count k n).dtlbs = s.dtlbs := by
  obtain ⟨_, _, _, e⟩ := reported_count s k n; rw [e]
@[simp] theorem State.count_dbg (s : State) (k n : Nat) : (s.count k n).dbg = s.dbg := by
  obtain ⟨_, _, _, e⟩ := reported_count s k n; rw [e]
@[simp] theorem State.count_launches (s : State) (k n : Nat) : (s.count k n).launches = s.launches := by
  obtain ⟨_, _, _, e⟩ := reported_count s k n; rw [e]
@[simp] theorem State.count_mem (s : State) (k n : Nat) : (s.count k n).mem = s.mem := by
  obtain ⟨_, _, _, e⟩ := reported_count s k n; rw [e]
@[simp] theorem State.count_side (s : State) (k n : Nat) : (s.count k n).side = s.side := by
  obtain ⟨_, _, _, e⟩ := reported_count s k n; rw [e]
@[simp] theorem State.count_owner (s : State) (k n : Nat) : (s.count k n).owner = s.owner := by
  obtain ⟨_, _, _, e⟩ := reported_count s k n; rw [e]
@[simp] theorem State.count_saves (s : State) (k n : Nat) : (s.count k n).saves = s.saves := by
  obtain ⟨_, _, _, e⟩ := reported_count s k n; rw [e]
@[simp] theorem State.count_reqs (s : State) (k n : Nat) : (s.count k n).reqs = s.reqs := by
  obtain ⟨_, _, _, e⟩ := reported_count s k n; rw [e]
@[simp] theorem State.count_banks (s : State) (k n : Nat) : (s.count k n).banks = s.banks := by
  obtain ⟨_, _, _, e⟩ := reported_count s k n; rw [e]
@[simp] theorem State.count_aunits (s : State) (k n : Nat) : (s.count k n).aunits = s.aunits := by
  obtain ⟨_, _, _, e⟩ := reported_count s k n; rw [e]
@[simp] theorem State.count_hbm (s : State) (k n : Nat) : (s.count k n).hbm = s.hbm := by
  obtain ⟨_, _, _, e⟩ := reported_count s k n; rw [e]
@[simp] theorem State.count_rels (s : State) (k n : Nat) : (s.count k n).rels = s.rels := by
  obtain ⟨_, _, _, e⟩ := reported_count s k n; rw [e]
@[simp] theorem State.count_rings (s : State) (k n : Nat) : (s.count k n).rings = s.rings := by
  obtain ⟨_, _, _, e⟩ := reported_count s k n; rw [e]
@[simp] theorem State.count_ports (s : State) (k n : Nat) : (s.count k n).ports = s.ports := by
  obtain ⟨_, _, _, e⟩ := reported_count s k n; rw [e]
@[simp] theorem State.count_flows (s : State) (k n : Nat) : (s.count k n).flows = s.flows := by
  obtain ⟨_, _, _, e⟩ := reported_count s k n; rw [e]
@[simp] theorem State.count_gws (s : State) (k n : Nat) : (s.count k n).gws = s.gws := by
  obtain ⟨_, _, _, e⟩ := reported_count s k n; rw [e]
@[simp] theorem State.count_pwr (s : State) (k n : Nat) : (s.count k n).pwr = s.pwr := by
  obtain ⟨_, _, _, e⟩ := reported_count s k n; rw [e]
@[simp] theorem State.count_mgmt (s : State) (k n : Nat) : (s.count k n).mgmt = s.mgmt := by
  obtain ⟨_, _, _, e⟩ := reported_count s k n; rw [e]
@[simp] theorem State.count_alder (s : State) (k n : Nat) : (s.count k n).alder = s.alder := by
  obtain ⟨_, _, _, e⟩ := reported_count s k n; rw [e]
@[simp] theorem State.count_exch (s : State) (k n : Nat) : (s.count k n).exch = s.exch := by
  obtain ⟨_, _, _, e⟩ := reported_count s k n; rw [e]
@[simp] theorem State.stage_pending (s : State) (y : Yew) : (s.stage y).pending = s.pending := by
  obtain ⟨_, _, _, e⟩ := reported_stage s y; rw [e]
@[simp] theorem State.stage_now (s : State) (y : Yew) : (s.stage y).now = s.now := by
  obtain ⟨_, _, _, e⟩ := reported_stage s y; rw [e]
@[simp] theorem State.stage_fresh (s : State) (y : Yew) : (s.stage y).fresh = s.fresh := by
  obtain ⟨_, _, _, e⟩ := reported_stage s y; rw [e]
@[simp] theorem State.stage_nextId (s : State) (y : Yew) : (s.stage y).nextId = s.nextId := by
  obtain ⟨_, _, _, e⟩ := reported_stage s y; rw [e]
@[simp] theorem State.stage_out (s : State) (y : Yew) : (s.stage y).out = s.out := by
  obtain ⟨_, _, _, e⟩ := reported_stage s y; rw [e]
@[simp] theorem State.stage_dev (s : State) (y : Yew) : (s.stage y).dev = s.dev := by
  obtain ⟨_, _, _, e⟩ := reported_stage s y; rw [e]
@[simp] theorem State.stage_board (s : State) (y : Yew) : (s.stage y).board = s.board := by
  obtain ⟨_, _, _, e⟩ := reported_stage s y; rw [e]
@[simp] theorem State.stage_snap (s : State) (y : Yew) : (s.stage y).snap = s.snap := by
  obtain ⟨_, _, _, e⟩ := reported_stage s y; rw [e]
@[simp] theorem State.stage_ctxs (s : State) (y : Yew) : (s.stage y).ctxs = s.ctxs := by
  obtain ⟨_, _, _, e⟩ := reported_stage s y; rw [e]
@[simp] theorem State.stage_parts (s : State) (y : Yew) : (s.stage y).parts = s.parts := by
  obtain ⟨_, _, _, e⟩ := reported_stage s y; rw [e]
@[simp] theorem State.stage_images (s : State) (y : Yew) : (s.stage y).images = s.images := by
  obtain ⟨_, _, _, e⟩ := reported_stage s y; rw [e]
@[simp] theorem State.stage_caches (s : State) (y : Yew) : (s.stage y).caches = s.caches := by
  obtain ⟨_, _, _, e⟩ := reported_stage s y; rw [e]
@[simp] theorem State.stage_tlbs (s : State) (y : Yew) : (s.stage y).tlbs = s.tlbs := by
  obtain ⟨_, _, _, e⟩ := reported_stage s y; rw [e]
@[simp] theorem State.stage_dtlbs (s : State) (y : Yew) : (s.stage y).dtlbs = s.dtlbs := by
  obtain ⟨_, _, _, e⟩ := reported_stage s y; rw [e]
@[simp] theorem State.stage_dbg (s : State) (y : Yew) : (s.stage y).dbg = s.dbg := by
  obtain ⟨_, _, _, e⟩ := reported_stage s y; rw [e]
@[simp] theorem State.stage_launches (s : State) (y : Yew) : (s.stage y).launches = s.launches := by
  obtain ⟨_, _, _, e⟩ := reported_stage s y; rw [e]
@[simp] theorem State.stage_mem (s : State) (y : Yew) : (s.stage y).mem = s.mem := by
  obtain ⟨_, _, _, e⟩ := reported_stage s y; rw [e]
@[simp] theorem State.stage_side (s : State) (y : Yew) : (s.stage y).side = s.side := by
  obtain ⟨_, _, _, e⟩ := reported_stage s y; rw [e]
@[simp] theorem State.stage_owner (s : State) (y : Yew) : (s.stage y).owner = s.owner := by
  obtain ⟨_, _, _, e⟩ := reported_stage s y; rw [e]
@[simp] theorem State.stage_saves (s : State) (y : Yew) : (s.stage y).saves = s.saves := by
  obtain ⟨_, _, _, e⟩ := reported_stage s y; rw [e]
@[simp] theorem State.stage_reqs (s : State) (y : Yew) : (s.stage y).reqs = s.reqs := by
  obtain ⟨_, _, _, e⟩ := reported_stage s y; rw [e]
@[simp] theorem State.stage_banks (s : State) (y : Yew) : (s.stage y).banks = s.banks := by
  obtain ⟨_, _, _, e⟩ := reported_stage s y; rw [e]
@[simp] theorem State.stage_aunits (s : State) (y : Yew) : (s.stage y).aunits = s.aunits := by
  obtain ⟨_, _, _, e⟩ := reported_stage s y; rw [e]
@[simp] theorem State.stage_hbm (s : State) (y : Yew) : (s.stage y).hbm = s.hbm := by
  obtain ⟨_, _, _, e⟩ := reported_stage s y; rw [e]
@[simp] theorem State.stage_rels (s : State) (y : Yew) : (s.stage y).rels = s.rels := by
  obtain ⟨_, _, _, e⟩ := reported_stage s y; rw [e]
@[simp] theorem State.stage_rings (s : State) (y : Yew) : (s.stage y).rings = s.rings := by
  obtain ⟨_, _, _, e⟩ := reported_stage s y; rw [e]
@[simp] theorem State.stage_ports (s : State) (y : Yew) : (s.stage y).ports = s.ports := by
  obtain ⟨_, _, _, e⟩ := reported_stage s y; rw [e]
@[simp] theorem State.stage_flows (s : State) (y : Yew) : (s.stage y).flows = s.flows := by
  obtain ⟨_, _, _, e⟩ := reported_stage s y; rw [e]
@[simp] theorem State.stage_gws (s : State) (y : Yew) : (s.stage y).gws = s.gws := by
  obtain ⟨_, _, _, e⟩ := reported_stage s y; rw [e]
@[simp] theorem State.stage_pwr (s : State) (y : Yew) : (s.stage y).pwr = s.pwr := by
  obtain ⟨_, _, _, e⟩ := reported_stage s y; rw [e]
@[simp] theorem State.stage_mgmt (s : State) (y : Yew) : (s.stage y).mgmt = s.mgmt := by
  obtain ⟨_, _, _, e⟩ := reported_stage s y; rw [e]
@[simp] theorem State.stage_alder (s : State) (y : Yew) : (s.stage y).alder = s.alder := by
  obtain ⟨_, _, _, e⟩ := reported_stage s y; rw [e]
@[simp] theorem State.stage_exch (s : State) (y : Yew) : (s.stage y).exch = s.exch := by
  obtain ⟨_, _, _, e⟩ := reported_stage s y; rw [e]
@[simp] theorem State.raise_pending (s : State) (ev unit : Nat) (st : Status) (d0 : Nat) (ds : List Nat) : (s.raise ev unit st d0 ds).pending = s.pending := by
  obtain ⟨_, _, _, e⟩ := reported_raise s ev unit st d0 ds; rw [e]
@[simp] theorem State.raise_now (s : State) (ev unit : Nat) (st : Status) (d0 : Nat) (ds : List Nat) : (s.raise ev unit st d0 ds).now = s.now := by
  obtain ⟨_, _, _, e⟩ := reported_raise s ev unit st d0 ds; rw [e]
@[simp] theorem State.raise_fresh (s : State) (ev unit : Nat) (st : Status) (d0 : Nat) (ds : List Nat) : (s.raise ev unit st d0 ds).fresh = s.fresh := by
  obtain ⟨_, _, _, e⟩ := reported_raise s ev unit st d0 ds; rw [e]
@[simp] theorem State.raise_nextId (s : State) (ev unit : Nat) (st : Status) (d0 : Nat) (ds : List Nat) : (s.raise ev unit st d0 ds).nextId = s.nextId := by
  obtain ⟨_, _, _, e⟩ := reported_raise s ev unit st d0 ds; rw [e]
@[simp] theorem State.raise_out (s : State) (ev unit : Nat) (st : Status) (d0 : Nat) (ds : List Nat) : (s.raise ev unit st d0 ds).out = s.out := by
  obtain ⟨_, _, _, e⟩ := reported_raise s ev unit st d0 ds; rw [e]
@[simp] theorem State.raise_dev (s : State) (ev unit : Nat) (st : Status) (d0 : Nat) (ds : List Nat) : (s.raise ev unit st d0 ds).dev = s.dev := by
  obtain ⟨_, _, _, e⟩ := reported_raise s ev unit st d0 ds; rw [e]
@[simp] theorem State.raise_board (s : State) (ev unit : Nat) (st : Status) (d0 : Nat) (ds : List Nat) : (s.raise ev unit st d0 ds).board = s.board := by
  obtain ⟨_, _, _, e⟩ := reported_raise s ev unit st d0 ds; rw [e]
@[simp] theorem State.raise_snap (s : State) (ev unit : Nat) (st : Status) (d0 : Nat) (ds : List Nat) : (s.raise ev unit st d0 ds).snap = s.snap := by
  obtain ⟨_, _, _, e⟩ := reported_raise s ev unit st d0 ds; rw [e]
@[simp] theorem State.raise_ctxs (s : State) (ev unit : Nat) (st : Status) (d0 : Nat) (ds : List Nat) : (s.raise ev unit st d0 ds).ctxs = s.ctxs := by
  obtain ⟨_, _, _, e⟩ := reported_raise s ev unit st d0 ds; rw [e]
@[simp] theorem State.raise_parts (s : State) (ev unit : Nat) (st : Status) (d0 : Nat) (ds : List Nat) : (s.raise ev unit st d0 ds).parts = s.parts := by
  obtain ⟨_, _, _, e⟩ := reported_raise s ev unit st d0 ds; rw [e]
@[simp] theorem State.raise_images (s : State) (ev unit : Nat) (st : Status) (d0 : Nat) (ds : List Nat) : (s.raise ev unit st d0 ds).images = s.images := by
  obtain ⟨_, _, _, e⟩ := reported_raise s ev unit st d0 ds; rw [e]
@[simp] theorem State.raise_caches (s : State) (ev unit : Nat) (st : Status) (d0 : Nat) (ds : List Nat) : (s.raise ev unit st d0 ds).caches = s.caches := by
  obtain ⟨_, _, _, e⟩ := reported_raise s ev unit st d0 ds; rw [e]
@[simp] theorem State.raise_tlbs (s : State) (ev unit : Nat) (st : Status) (d0 : Nat) (ds : List Nat) : (s.raise ev unit st d0 ds).tlbs = s.tlbs := by
  obtain ⟨_, _, _, e⟩ := reported_raise s ev unit st d0 ds; rw [e]
@[simp] theorem State.raise_dtlbs (s : State) (ev unit : Nat) (st : Status) (d0 : Nat) (ds : List Nat) : (s.raise ev unit st d0 ds).dtlbs = s.dtlbs := by
  obtain ⟨_, _, _, e⟩ := reported_raise s ev unit st d0 ds; rw [e]
@[simp] theorem State.raise_dbg (s : State) (ev unit : Nat) (st : Status) (d0 : Nat) (ds : List Nat) : (s.raise ev unit st d0 ds).dbg = s.dbg := by
  obtain ⟨_, _, _, e⟩ := reported_raise s ev unit st d0 ds; rw [e]
@[simp] theorem State.raise_launches (s : State) (ev unit : Nat) (st : Status) (d0 : Nat) (ds : List Nat) : (s.raise ev unit st d0 ds).launches = s.launches := by
  obtain ⟨_, _, _, e⟩ := reported_raise s ev unit st d0 ds; rw [e]
@[simp] theorem State.raise_mem (s : State) (ev unit : Nat) (st : Status) (d0 : Nat) (ds : List Nat) : (s.raise ev unit st d0 ds).mem = s.mem := by
  obtain ⟨_, _, _, e⟩ := reported_raise s ev unit st d0 ds; rw [e]
@[simp] theorem State.raise_side (s : State) (ev unit : Nat) (st : Status) (d0 : Nat) (ds : List Nat) : (s.raise ev unit st d0 ds).side = s.side := by
  obtain ⟨_, _, _, e⟩ := reported_raise s ev unit st d0 ds; rw [e]
@[simp] theorem State.raise_owner (s : State) (ev unit : Nat) (st : Status) (d0 : Nat) (ds : List Nat) : (s.raise ev unit st d0 ds).owner = s.owner := by
  obtain ⟨_, _, _, e⟩ := reported_raise s ev unit st d0 ds; rw [e]
@[simp] theorem State.raise_saves (s : State) (ev unit : Nat) (st : Status) (d0 : Nat) (ds : List Nat) : (s.raise ev unit st d0 ds).saves = s.saves := by
  obtain ⟨_, _, _, e⟩ := reported_raise s ev unit st d0 ds; rw [e]
@[simp] theorem State.raise_reqs (s : State) (ev unit : Nat) (st : Status) (d0 : Nat) (ds : List Nat) : (s.raise ev unit st d0 ds).reqs = s.reqs := by
  obtain ⟨_, _, _, e⟩ := reported_raise s ev unit st d0 ds; rw [e]
@[simp] theorem State.raise_banks (s : State) (ev unit : Nat) (st : Status) (d0 : Nat) (ds : List Nat) : (s.raise ev unit st d0 ds).banks = s.banks := by
  obtain ⟨_, _, _, e⟩ := reported_raise s ev unit st d0 ds; rw [e]
@[simp] theorem State.raise_aunits (s : State) (ev unit : Nat) (st : Status) (d0 : Nat) (ds : List Nat) : (s.raise ev unit st d0 ds).aunits = s.aunits := by
  obtain ⟨_, _, _, e⟩ := reported_raise s ev unit st d0 ds; rw [e]
@[simp] theorem State.raise_hbm (s : State) (ev unit : Nat) (st : Status) (d0 : Nat) (ds : List Nat) : (s.raise ev unit st d0 ds).hbm = s.hbm := by
  obtain ⟨_, _, _, e⟩ := reported_raise s ev unit st d0 ds; rw [e]
@[simp] theorem State.raise_rels (s : State) (ev unit : Nat) (st : Status) (d0 : Nat) (ds : List Nat) : (s.raise ev unit st d0 ds).rels = s.rels := by
  obtain ⟨_, _, _, e⟩ := reported_raise s ev unit st d0 ds; rw [e]
@[simp] theorem State.raise_rings (s : State) (ev unit : Nat) (st : Status) (d0 : Nat) (ds : List Nat) : (s.raise ev unit st d0 ds).rings = s.rings := by
  obtain ⟨_, _, _, e⟩ := reported_raise s ev unit st d0 ds; rw [e]
@[simp] theorem State.raise_ports (s : State) (ev unit : Nat) (st : Status) (d0 : Nat) (ds : List Nat) : (s.raise ev unit st d0 ds).ports = s.ports := by
  obtain ⟨_, _, _, e⟩ := reported_raise s ev unit st d0 ds; rw [e]
@[simp] theorem State.raise_flows (s : State) (ev unit : Nat) (st : Status) (d0 : Nat) (ds : List Nat) : (s.raise ev unit st d0 ds).flows = s.flows := by
  obtain ⟨_, _, _, e⟩ := reported_raise s ev unit st d0 ds; rw [e]
@[simp] theorem State.raise_gws (s : State) (ev unit : Nat) (st : Status) (d0 : Nat) (ds : List Nat) : (s.raise ev unit st d0 ds).gws = s.gws := by
  obtain ⟨_, _, _, e⟩ := reported_raise s ev unit st d0 ds; rw [e]
@[simp] theorem State.raise_pwr (s : State) (ev unit : Nat) (st : Status) (d0 : Nat) (ds : List Nat) : (s.raise ev unit st d0 ds).pwr = s.pwr := by
  obtain ⟨_, _, _, e⟩ := reported_raise s ev unit st d0 ds; rw [e]
@[simp] theorem State.raise_mgmt (s : State) (ev unit : Nat) (st : Status) (d0 : Nat) (ds : List Nat) : (s.raise ev unit st d0 ds).mgmt = s.mgmt := by
  obtain ⟨_, _, _, e⟩ := reported_raise s ev unit st d0 ds; rw [e]
@[simp] theorem State.raise_alder (s : State) (ev unit : Nat) (st : Status) (d0 : Nat) (ds : List Nat) : (s.raise ev unit st d0 ds).alder = s.alder := by
  obtain ⟨_, _, _, e⟩ := reported_raise s ev unit st d0 ds; rw [e]
@[simp] theorem State.raise_exch (s : State) (ev unit : Nat) (st : Status) (d0 : Nat) (ds : List Nat) : (s.raise ev unit st d0 ds).exch = s.exch := by
  obtain ⟨_, _, _, e⟩ := reported_raise s ev unit st d0 ds; rw [e]
@[simp] theorem State.raiseAs_pending (s : State) (ev cls unit : Nat) (st : Status) (d0 low : Nat) : (s.raiseAs ev cls unit st d0 low).pending = s.pending := by
  obtain ⟨_, _, _, e⟩ := reported_raiseAs s ev cls unit st d0 low; rw [e]
@[simp] theorem State.raiseAs_now (s : State) (ev cls unit : Nat) (st : Status) (d0 low : Nat) : (s.raiseAs ev cls unit st d0 low).now = s.now := by
  obtain ⟨_, _, _, e⟩ := reported_raiseAs s ev cls unit st d0 low; rw [e]
@[simp] theorem State.raiseAs_fresh (s : State) (ev cls unit : Nat) (st : Status) (d0 low : Nat) : (s.raiseAs ev cls unit st d0 low).fresh = s.fresh := by
  obtain ⟨_, _, _, e⟩ := reported_raiseAs s ev cls unit st d0 low; rw [e]
@[simp] theorem State.raiseAs_nextId (s : State) (ev cls unit : Nat) (st : Status) (d0 low : Nat) : (s.raiseAs ev cls unit st d0 low).nextId = s.nextId := by
  obtain ⟨_, _, _, e⟩ := reported_raiseAs s ev cls unit st d0 low; rw [e]
@[simp] theorem State.raiseAs_out (s : State) (ev cls unit : Nat) (st : Status) (d0 low : Nat) : (s.raiseAs ev cls unit st d0 low).out = s.out := by
  obtain ⟨_, _, _, e⟩ := reported_raiseAs s ev cls unit st d0 low; rw [e]
@[simp] theorem State.raiseAs_dev (s : State) (ev cls unit : Nat) (st : Status) (d0 low : Nat) : (s.raiseAs ev cls unit st d0 low).dev = s.dev := by
  obtain ⟨_, _, _, e⟩ := reported_raiseAs s ev cls unit st d0 low; rw [e]
@[simp] theorem State.raiseAs_board (s : State) (ev cls unit : Nat) (st : Status) (d0 low : Nat) : (s.raiseAs ev cls unit st d0 low).board = s.board := by
  obtain ⟨_, _, _, e⟩ := reported_raiseAs s ev cls unit st d0 low; rw [e]
@[simp] theorem State.raiseAs_snap (s : State) (ev cls unit : Nat) (st : Status) (d0 low : Nat) : (s.raiseAs ev cls unit st d0 low).snap = s.snap := by
  obtain ⟨_, _, _, e⟩ := reported_raiseAs s ev cls unit st d0 low; rw [e]
@[simp] theorem State.raiseAs_ctxs (s : State) (ev cls unit : Nat) (st : Status) (d0 low : Nat) : (s.raiseAs ev cls unit st d0 low).ctxs = s.ctxs := by
  obtain ⟨_, _, _, e⟩ := reported_raiseAs s ev cls unit st d0 low; rw [e]
@[simp] theorem State.raiseAs_parts (s : State) (ev cls unit : Nat) (st : Status) (d0 low : Nat) : (s.raiseAs ev cls unit st d0 low).parts = s.parts := by
  obtain ⟨_, _, _, e⟩ := reported_raiseAs s ev cls unit st d0 low; rw [e]
@[simp] theorem State.raiseAs_images (s : State) (ev cls unit : Nat) (st : Status) (d0 low : Nat) : (s.raiseAs ev cls unit st d0 low).images = s.images := by
  obtain ⟨_, _, _, e⟩ := reported_raiseAs s ev cls unit st d0 low; rw [e]
@[simp] theorem State.raiseAs_caches (s : State) (ev cls unit : Nat) (st : Status) (d0 low : Nat) : (s.raiseAs ev cls unit st d0 low).caches = s.caches := by
  obtain ⟨_, _, _, e⟩ := reported_raiseAs s ev cls unit st d0 low; rw [e]
@[simp] theorem State.raiseAs_tlbs (s : State) (ev cls unit : Nat) (st : Status) (d0 low : Nat) : (s.raiseAs ev cls unit st d0 low).tlbs = s.tlbs := by
  obtain ⟨_, _, _, e⟩ := reported_raiseAs s ev cls unit st d0 low; rw [e]
@[simp] theorem State.raiseAs_dtlbs (s : State) (ev cls unit : Nat) (st : Status) (d0 low : Nat) : (s.raiseAs ev cls unit st d0 low).dtlbs = s.dtlbs := by
  obtain ⟨_, _, _, e⟩ := reported_raiseAs s ev cls unit st d0 low; rw [e]
@[simp] theorem State.raiseAs_dbg (s : State) (ev cls unit : Nat) (st : Status) (d0 low : Nat) : (s.raiseAs ev cls unit st d0 low).dbg = s.dbg := by
  obtain ⟨_, _, _, e⟩ := reported_raiseAs s ev cls unit st d0 low; rw [e]
@[simp] theorem State.raiseAs_launches (s : State) (ev cls unit : Nat) (st : Status) (d0 low : Nat) : (s.raiseAs ev cls unit st d0 low).launches = s.launches := by
  obtain ⟨_, _, _, e⟩ := reported_raiseAs s ev cls unit st d0 low; rw [e]
@[simp] theorem State.raiseAs_mem (s : State) (ev cls unit : Nat) (st : Status) (d0 low : Nat) : (s.raiseAs ev cls unit st d0 low).mem = s.mem := by
  obtain ⟨_, _, _, e⟩ := reported_raiseAs s ev cls unit st d0 low; rw [e]
@[simp] theorem State.raiseAs_side (s : State) (ev cls unit : Nat) (st : Status) (d0 low : Nat) : (s.raiseAs ev cls unit st d0 low).side = s.side := by
  obtain ⟨_, _, _, e⟩ := reported_raiseAs s ev cls unit st d0 low; rw [e]
@[simp] theorem State.raiseAs_owner (s : State) (ev cls unit : Nat) (st : Status) (d0 low : Nat) : (s.raiseAs ev cls unit st d0 low).owner = s.owner := by
  obtain ⟨_, _, _, e⟩ := reported_raiseAs s ev cls unit st d0 low; rw [e]
@[simp] theorem State.raiseAs_saves (s : State) (ev cls unit : Nat) (st : Status) (d0 low : Nat) : (s.raiseAs ev cls unit st d0 low).saves = s.saves := by
  obtain ⟨_, _, _, e⟩ := reported_raiseAs s ev cls unit st d0 low; rw [e]
@[simp] theorem State.raiseAs_reqs (s : State) (ev cls unit : Nat) (st : Status) (d0 low : Nat) : (s.raiseAs ev cls unit st d0 low).reqs = s.reqs := by
  obtain ⟨_, _, _, e⟩ := reported_raiseAs s ev cls unit st d0 low; rw [e]
@[simp] theorem State.raiseAs_banks (s : State) (ev cls unit : Nat) (st : Status) (d0 low : Nat) : (s.raiseAs ev cls unit st d0 low).banks = s.banks := by
  obtain ⟨_, _, _, e⟩ := reported_raiseAs s ev cls unit st d0 low; rw [e]
@[simp] theorem State.raiseAs_aunits (s : State) (ev cls unit : Nat) (st : Status) (d0 low : Nat) : (s.raiseAs ev cls unit st d0 low).aunits = s.aunits := by
  obtain ⟨_, _, _, e⟩ := reported_raiseAs s ev cls unit st d0 low; rw [e]
@[simp] theorem State.raiseAs_hbm (s : State) (ev cls unit : Nat) (st : Status) (d0 low : Nat) : (s.raiseAs ev cls unit st d0 low).hbm = s.hbm := by
  obtain ⟨_, _, _, e⟩ := reported_raiseAs s ev cls unit st d0 low; rw [e]
@[simp] theorem State.raiseAs_rels (s : State) (ev cls unit : Nat) (st : Status) (d0 low : Nat) : (s.raiseAs ev cls unit st d0 low).rels = s.rels := by
  obtain ⟨_, _, _, e⟩ := reported_raiseAs s ev cls unit st d0 low; rw [e]
@[simp] theorem State.raiseAs_rings (s : State) (ev cls unit : Nat) (st : Status) (d0 low : Nat) : (s.raiseAs ev cls unit st d0 low).rings = s.rings := by
  obtain ⟨_, _, _, e⟩ := reported_raiseAs s ev cls unit st d0 low; rw [e]
@[simp] theorem State.raiseAs_ports (s : State) (ev cls unit : Nat) (st : Status) (d0 low : Nat) : (s.raiseAs ev cls unit st d0 low).ports = s.ports := by
  obtain ⟨_, _, _, e⟩ := reported_raiseAs s ev cls unit st d0 low; rw [e]
@[simp] theorem State.raiseAs_flows (s : State) (ev cls unit : Nat) (st : Status) (d0 low : Nat) : (s.raiseAs ev cls unit st d0 low).flows = s.flows := by
  obtain ⟨_, _, _, e⟩ := reported_raiseAs s ev cls unit st d0 low; rw [e]
@[simp] theorem State.raiseAs_gws (s : State) (ev cls unit : Nat) (st : Status) (d0 low : Nat) : (s.raiseAs ev cls unit st d0 low).gws = s.gws := by
  obtain ⟨_, _, _, e⟩ := reported_raiseAs s ev cls unit st d0 low; rw [e]
@[simp] theorem State.raiseAs_pwr (s : State) (ev cls unit : Nat) (st : Status) (d0 low : Nat) : (s.raiseAs ev cls unit st d0 low).pwr = s.pwr := by
  obtain ⟨_, _, _, e⟩ := reported_raiseAs s ev cls unit st d0 low; rw [e]
@[simp] theorem State.raiseAs_mgmt (s : State) (ev cls unit : Nat) (st : Status) (d0 low : Nat) : (s.raiseAs ev cls unit st d0 low).mgmt = s.mgmt := by
  obtain ⟨_, _, _, e⟩ := reported_raiseAs s ev cls unit st d0 low; rw [e]
@[simp] theorem State.raiseAs_alder (s : State) (ev cls unit : Nat) (st : Status) (d0 low : Nat) : (s.raiseAs ev cls unit st d0 low).alder = s.alder := by
  obtain ⟨_, _, _, e⟩ := reported_raiseAs s ev cls unit st d0 low; rw [e]
@[simp] theorem State.raiseAs_exch (s : State) (ev cls unit : Nat) (st : Status) (d0 low : Nat) : (s.raiseAs ev cls unit st d0 low).exch = s.exch := by
  obtain ⟨_, _, _, e⟩ := reported_raiseAs s ev cls unit st d0 low; rw [e]
@[simp] theorem State.enqueueAlarm_pending (s : State) (a : Alarm) : (s.enqueueAlarm a).pending = s.pending := by
  obtain ⟨_, _, _, e⟩ := reported_enqueueAlarm s a; rw [e]
@[simp] theorem State.enqueueAlarm_now (s : State) (a : Alarm) : (s.enqueueAlarm a).now = s.now := by
  obtain ⟨_, _, _, e⟩ := reported_enqueueAlarm s a; rw [e]
@[simp] theorem State.enqueueAlarm_fresh (s : State) (a : Alarm) : (s.enqueueAlarm a).fresh = s.fresh := by
  obtain ⟨_, _, _, e⟩ := reported_enqueueAlarm s a; rw [e]
@[simp] theorem State.enqueueAlarm_nextId (s : State) (a : Alarm) : (s.enqueueAlarm a).nextId = s.nextId := by
  obtain ⟨_, _, _, e⟩ := reported_enqueueAlarm s a; rw [e]
@[simp] theorem State.enqueueAlarm_out (s : State) (a : Alarm) : (s.enqueueAlarm a).out = s.out := by
  obtain ⟨_, _, _, e⟩ := reported_enqueueAlarm s a; rw [e]
@[simp] theorem State.enqueueAlarm_dev (s : State) (a : Alarm) : (s.enqueueAlarm a).dev = s.dev := by
  obtain ⟨_, _, _, e⟩ := reported_enqueueAlarm s a; rw [e]
@[simp] theorem State.enqueueAlarm_board (s : State) (a : Alarm) : (s.enqueueAlarm a).board = s.board := by
  obtain ⟨_, _, _, e⟩ := reported_enqueueAlarm s a; rw [e]
@[simp] theorem State.enqueueAlarm_snap (s : State) (a : Alarm) : (s.enqueueAlarm a).snap = s.snap := by
  obtain ⟨_, _, _, e⟩ := reported_enqueueAlarm s a; rw [e]
@[simp] theorem State.enqueueAlarm_ctxs (s : State) (a : Alarm) : (s.enqueueAlarm a).ctxs = s.ctxs := by
  obtain ⟨_, _, _, e⟩ := reported_enqueueAlarm s a; rw [e]
@[simp] theorem State.enqueueAlarm_parts (s : State) (a : Alarm) : (s.enqueueAlarm a).parts = s.parts := by
  obtain ⟨_, _, _, e⟩ := reported_enqueueAlarm s a; rw [e]
@[simp] theorem State.enqueueAlarm_images (s : State) (a : Alarm) : (s.enqueueAlarm a).images = s.images := by
  obtain ⟨_, _, _, e⟩ := reported_enqueueAlarm s a; rw [e]
@[simp] theorem State.enqueueAlarm_caches (s : State) (a : Alarm) : (s.enqueueAlarm a).caches = s.caches := by
  obtain ⟨_, _, _, e⟩ := reported_enqueueAlarm s a; rw [e]
@[simp] theorem State.enqueueAlarm_tlbs (s : State) (a : Alarm) : (s.enqueueAlarm a).tlbs = s.tlbs := by
  obtain ⟨_, _, _, e⟩ := reported_enqueueAlarm s a; rw [e]
@[simp] theorem State.enqueueAlarm_dtlbs (s : State) (a : Alarm) : (s.enqueueAlarm a).dtlbs = s.dtlbs := by
  obtain ⟨_, _, _, e⟩ := reported_enqueueAlarm s a; rw [e]
@[simp] theorem State.enqueueAlarm_dbg (s : State) (a : Alarm) : (s.enqueueAlarm a).dbg = s.dbg := by
  obtain ⟨_, _, _, e⟩ := reported_enqueueAlarm s a; rw [e]
@[simp] theorem State.enqueueAlarm_launches (s : State) (a : Alarm) : (s.enqueueAlarm a).launches = s.launches := by
  obtain ⟨_, _, _, e⟩ := reported_enqueueAlarm s a; rw [e]
@[simp] theorem State.enqueueAlarm_mem (s : State) (a : Alarm) : (s.enqueueAlarm a).mem = s.mem := by
  obtain ⟨_, _, _, e⟩ := reported_enqueueAlarm s a; rw [e]
@[simp] theorem State.enqueueAlarm_side (s : State) (a : Alarm) : (s.enqueueAlarm a).side = s.side := by
  obtain ⟨_, _, _, e⟩ := reported_enqueueAlarm s a; rw [e]
@[simp] theorem State.enqueueAlarm_owner (s : State) (a : Alarm) : (s.enqueueAlarm a).owner = s.owner := by
  obtain ⟨_, _, _, e⟩ := reported_enqueueAlarm s a; rw [e]
@[simp] theorem State.enqueueAlarm_saves (s : State) (a : Alarm) : (s.enqueueAlarm a).saves = s.saves := by
  obtain ⟨_, _, _, e⟩ := reported_enqueueAlarm s a; rw [e]
@[simp] theorem State.enqueueAlarm_reqs (s : State) (a : Alarm) : (s.enqueueAlarm a).reqs = s.reqs := by
  obtain ⟨_, _, _, e⟩ := reported_enqueueAlarm s a; rw [e]
@[simp] theorem State.enqueueAlarm_banks (s : State) (a : Alarm) : (s.enqueueAlarm a).banks = s.banks := by
  obtain ⟨_, _, _, e⟩ := reported_enqueueAlarm s a; rw [e]
@[simp] theorem State.enqueueAlarm_aunits (s : State) (a : Alarm) : (s.enqueueAlarm a).aunits = s.aunits := by
  obtain ⟨_, _, _, e⟩ := reported_enqueueAlarm s a; rw [e]
@[simp] theorem State.enqueueAlarm_hbm (s : State) (a : Alarm) : (s.enqueueAlarm a).hbm = s.hbm := by
  obtain ⟨_, _, _, e⟩ := reported_enqueueAlarm s a; rw [e]
@[simp] theorem State.enqueueAlarm_rels (s : State) (a : Alarm) : (s.enqueueAlarm a).rels = s.rels := by
  obtain ⟨_, _, _, e⟩ := reported_enqueueAlarm s a; rw [e]
@[simp] theorem State.enqueueAlarm_rings (s : State) (a : Alarm) : (s.enqueueAlarm a).rings = s.rings := by
  obtain ⟨_, _, _, e⟩ := reported_enqueueAlarm s a; rw [e]
@[simp] theorem State.enqueueAlarm_ports (s : State) (a : Alarm) : (s.enqueueAlarm a).ports = s.ports := by
  obtain ⟨_, _, _, e⟩ := reported_enqueueAlarm s a; rw [e]
@[simp] theorem State.enqueueAlarm_flows (s : State) (a : Alarm) : (s.enqueueAlarm a).flows = s.flows := by
  obtain ⟨_, _, _, e⟩ := reported_enqueueAlarm s a; rw [e]
@[simp] theorem State.enqueueAlarm_gws (s : State) (a : Alarm) : (s.enqueueAlarm a).gws = s.gws := by
  obtain ⟨_, _, _, e⟩ := reported_enqueueAlarm s a; rw [e]
@[simp] theorem State.enqueueAlarm_pwr (s : State) (a : Alarm) : (s.enqueueAlarm a).pwr = s.pwr := by
  obtain ⟨_, _, _, e⟩ := reported_enqueueAlarm s a; rw [e]
@[simp] theorem State.enqueueAlarm_mgmt (s : State) (a : Alarm) : (s.enqueueAlarm a).mgmt = s.mgmt := by
  obtain ⟨_, _, _, e⟩ := reported_enqueueAlarm s a; rw [e]
@[simp] theorem State.enqueueAlarm_alder (s : State) (a : Alarm) : (s.enqueueAlarm a).alder = s.alder := by
  obtain ⟨_, _, _, e⟩ := reported_enqueueAlarm s a; rw [e]
@[simp] theorem State.enqueueAlarm_exch (s : State) (a : Alarm) : (s.enqueueAlarm a).exch = s.exch := by
  obtain ⟨_, _, _, e⟩ := reported_enqueueAlarm s a; rw [e]

end Sys2Proof.Machine
end

