-- ==== Sys2Proof/Laws/Dispatch.lean ====
section
/-!
SUPPORT. Laws/Dispatch.lean: each command runs its meaning, one lemma an arm.
-/
namespace Sys2Proof.Machine

@[simp] theorem exec_nop (g : GRef) (w : IWord) (s : State) : exec (.nop g w) s = execNop g w s := rfl
@[simp] theorem exec_bra (g : GRef) (w : IWord) (s : State) : exec (.bra g w) s = execBra g w s := rfl
@[simp] theorem exec_bri (g : GRef) (w : IWord) (s : State) : exec (.bri g w) s = execBri g w s := rfl
@[simp] theorem exec_call (g : GRef) (w : IWord) (s : State) : exec (.call g w) s = execCall g w s := rfl
@[simp] theorem exec_ret (g : GRef) (w : IWord) (s : State) : exec (.ret g w) s = execRet g w s := rfl
@[simp] theorem exec_exit (g : GRef) (w : IWord) (s : State) : exec (.exit g w) s = execExit g w s := rfl
@[simp] theorem exec_yield (g : GRef) (w : IWord) (s : State) : exec (.yield g w) s = execYield g w s := rfl
@[simp] theorem exec_gsync (g : GRef) (w : IWord) (s : State) : exec (.gsync g w) s = execGsync g w s := rfl
@[simp] theorem exec_bkpt (g : GRef) (w : IWord) (s : State) : exec (.bkpt g w) s = execBkpt g w s := rfl
@[simp] theorem exec_srd (g : GRef) (w : IWord) (s : State) : exec (.srd g w) s = execSrd g w s := rfl
@[simp] theorem exec_iadd (g : GRef) (w : IWord) (s : State) : exec (.iadd g w) s = execIadd g w s := rfl
@[simp] theorem exec_isub (g : GRef) (w : IWord) (s : State) : exec (.isub g w) s = execIsub g w s := rfl
@[simp] theorem exec_imul (g : GRef) (w : IWord) (s : State) : exec (.imul g w) s = execImul g w s := rfl
@[simp] theorem exec_imla (g : GRef) (w : IWord) (s : State) : exec (.imla g w) s = execImla g w s := rfl
@[simp] theorem exec_imin (g : GRef) (w : IWord) (s : State) : exec (.imin g w) s = execImin g w s := rfl
@[simp] theorem exec_imax (g : GRef) (w : IWord) (s : State) : exec (.imax g w) s = execImax g w s := rfl
@[simp] theorem exec_and (g : GRef) (w : IWord) (s : State) : exec (.and g w) s = execAnd g w s := rfl
@[simp] theorem exec_or (g : GRef) (w : IWord) (s : State) : exec (.or g w) s = execOr g w s := rfl
@[simp] theorem exec_xor (g : GRef) (w : IWord) (s : State) : exec (.xor g w) s = execXor g w s := rfl
@[simp] theorem exec_shl (g : GRef) (w : IWord) (s : State) : exec (.shl g w) s = execShl g w s := rfl
@[simp] theorem exec_shr (g : GRef) (w : IWord) (s : State) : exec (.shr g w) s = execShr g w s := rfl
@[simp] theorem exec_sar (g : GRef) (w : IWord) (s : State) : exec (.sar g w) s = execSar g w s := rfl
@[simp] theorem exec_bcnt (g : GRef) (w : IWord) (s : State) : exec (.bcnt g w) s = execBcnt g w s := rfl
@[simp] theorem exec_lzc (g : GRef) (w : IWord) (s : State) : exec (.lzc g w) s = execLzc g w s := rfl
@[simp] theorem exec_icmp (g : GRef) (w : IWord) (s : State) : exec (.icmp g w) s = execIcmp g w s := rfl
@[simp] theorem exec_csel (g : GRef) (w : IWord) (s : State) : exec (.csel g w) s = execCsel g w s := rfl
@[simp] theorem exec_fadd (g : GRef) (w : IWord) (s : State) : exec (.fadd g w) s = execFadd g w s := rfl
@[simp] theorem exec_fmul (g : GRef) (w : IWord) (s : State) : exec (.fmul g w) s = execFmul g w s := rfl
@[simp] theorem exec_fma (g : GRef) (w : IWord) (s : State) : exec (.fma g w) s = execFma g w s := rfl
@[simp] theorem exec_fmin (g : GRef) (w : IWord) (s : State) : exec (.fmin g w) s = execFmin g w s := rfl
@[simp] theorem exec_fmax (g : GRef) (w : IWord) (s : State) : exec (.fmax g w) s = execFmax g w s := rfl
@[simp] theorem exec_fcmp (g : GRef) (w : IWord) (s : State) : exec (.fcmp g w) s = execFcmp g w s := rfl
@[simp] theorem exec_rcp (g : GRef) (w : IWord) (s : State) : exec (.rcp g w) s = execRcp g w s := rfl
@[simp] theorem exec_rsqrt (g : GRef) (w : IWord) (s : State) : exec (.rsqrt g w) s = execRsqrt g w s := rfl
@[simp] theorem exec_exp2 (g : GRef) (w : IWord) (s : State) : exec (.exp2 g w) s = execExp2 g w s := rfl
@[simp] theorem exec_log2 (g : GRef) (w : IWord) (s : State) : exec (.log2 g w) s = execLog2 g w s := rfl
@[simp] theorem exec_cvt (g : GRef) (w : IWord) (s : State) : exec (.cvt g w) s = execCvt g w s := rfl
@[simp] theorem exec_pfmaH (g : GRef) (w : IWord) (s : State) : exec (.pfmaH g w) s = execPfmaH g w s := rfl
@[simp] theorem exec_pfmaB (g : GRef) (w : IWord) (s : State) : exec (.pfmaB g w) s = execPfmaB g w s := rfl
@[simp] theorem exec_lxch (g : GRef) (w : IWord) (s : State) : exec (.lxch g w) s = execLxch g w s := rfl
@[simp] theorem exec_lvote (g : GRef) (w : IWord) (s : State) : exec (.lvote g w) s = execLvote g w s := rfl
@[simp] theorem exec_bsel (g : GRef) (w : IWord) (s : State) : exec (.bsel g w) s = execBsel g w s := rfl
@[simp] theorem exec_ld (g : GRef) (w : IWord) (ecc : Ecc) (s : State) : exec (.ld g w ecc) s = execLd g w ecc s := rfl
@[simp] theorem exec_st (g : GRef) (w : IWord) (ecc : Ecc) (s : State) : exec (.st g w ecc) s = execSt g w ecc s := rfl
@[simp] theorem exec_atom (g : GRef) (w : IWord) (s : State) : exec (.atom g w) s = execAtom g w s := rfl
@[simp] theorem exec_red (g : GRef) (w : IWord) (s : State) : exec (.red g w) s = execRed g w s := rfl
@[simp] theorem exec_fence (g : GRef) (w : IWord) (s : State) : exec (.fence g w) s = execFence g w s := rfl
@[simp] theorem exec_ldAcq (g : GRef) (w : IWord) (s : State) : exec (.ldAcq g w) s = execLdAcq g w s := rfl
@[simp] theorem exec_stRel (g : GRef) (w : IWord) (s : State) : exec (.stRel g w) s = execStRel g w s := rfl
@[simp] theorem exec_storeFlag (g : GRef) (w : IWord) (s : State) : exec (.storeFlag g w) s = execStoreFlag g w s := rfl
@[simp] theorem exec_lockAcq (g : GRef) (w : IWord) (s : State) : exec (.lockAcq g w) s = execLockAcq g w s := rfl
@[simp] theorem exec_lockRel (g : GRef) (w : IWord) (s : State) : exec (.lockRel g w) s = execLockRel g w s := rfl
@[simp] theorem exec_tmCopy (g : GRef) (w : IWord) (s : State) : exec (.tmCopy g w) s = execTmCopy g w s := rfl
@[simp] theorem exec_tmGather (g : GRef) (w : IWord) (s : State) : exec (.tmGather g w) s = execTmGather g w s := rfl
@[simp] theorem exec_tmScatter (g : GRef) (w : IWord) (s : State) : exec (.tmScatter g w) s = execTmScatter g w s := rfl
@[simp] theorem exec_tmFill (g : GRef) (w : IWord) (s : State) : exec (.tmFill g w) s = execTmFill g w s := rfl
@[simp] theorem exec_tmWait (g : GRef) (w : IWord) (s : State) : exec (.tmWait g w) s = execTmWait g w s := rfl
@[simp] theorem exec_tmPoll (g : GRef) (w : IWord) (s : State) : exec (.tmPoll g w) s = execTmPoll g w s := rfl
@[simp] theorem exec_mxaAsync (g : GRef) (w : IWord) (s : State) : exec (.mxaAsync g w) s = execMxaAsync g w s := rfl
@[simp] theorem exec_mxaWait (g : GRef) (w : IWord) (s : State) : exec (.mxaWait g w) s = execMxaWait g w s := rfl
@[simp] theorem exec_mxaPoll (g : GRef) (w : IWord) (s : State) : exec (.mxaPoll g w) s = execMxaPoll g w s := rfl
@[simp] theorem exec_mxaCmpr (g : GRef) (w : IWord) (s : State) : exec (.mxaCmpr g w) s = execMxaCmpr g w s := rfl
@[simp] theorem exec_rwnDrain (g : GRef) (w : IWord) (s : State) : exec (.rwnDrain g w) s = execRwnDrain g w s := rfl
@[simp] theorem exec_groupStart (core : Fin 576) (s : State) : exec (.groupStart core) s = execGroupStart core s := rfl
@[simp] theorem exec_accessResponse (req : Nat) (s : State) : exec (.accessResponse req) s = execAccessResponse req s := rfl
@[simp] theorem exec_lockBackoffExpiry (g : GRef) (s : State) : exec (.lockBackoffExpiry g) s = execLockBackoffExpiry g s := rfl
@[simp] theorem exec_groupWatchdogExpiry (g : GRef) (s : State) : exec (.groupWatchdogExpiry g) s = execGroupWatchdogExpiry g s := rfl
@[simp] theorem exec_tmResponse (core : Fin 576) (xfer : Nat) (s : State) : exec (.tmResponse core xfer) s = execTmResponse core xfer s := rfl
@[simp] theorem exec_tmTokenComplete (core : Fin 576) (xfer : Nat) (s : State) : exec (.tmTokenComplete core xfer) s = execTmTokenComplete core xfer s := rfl
@[simp] theorem exec_runaheadPrefetch (core : Fin 576) (xfer block : Nat) (s : State) : exec (.runaheadPrefetch core xfer block) s = execRunaheadPrefetch core xfer block s := rfl
@[simp] theorem exec_streamPrefetch (g : GRef) (line : Nat) (s : State) : exec (.streamPrefetch g line) s = execStreamPrefetch g line s := rfl
@[simp] theorem exec_dbgHalt (c : Cls) (s : State) : exec (.dbgHalt c) s = execDbgHalt c s := rfl
@[simp] theorem exec_dbgResume (c : Cls) (s : State) : exec (.dbgResume c) s = execDbgResume c s := rfl
@[simp] theorem exec_dbgStep (c : Cls) (s : State) : exec (.dbgStep c) s = execDbgStep c s := rfl
@[simp] theorem exec_groupHalt (g : GRef) (s : State) : exec (.groupHalt g) s = execGroupHalt g s := rfl
@[simp] theorem exec_dbgAuth (c : Cls) (tok : Token) (s : State) : exec (.dbgAuth c tok) s = execDbgAuth c tok s := rfl
@[simp] theorem exec_dbgDataRead (c : Cls) (s : State) : exec (.dbgDataRead c) s = execDbgDataRead c s := rfl
@[simp] theorem exec_dbgDataWrite (c : Cls) (data : List Byte) (s : State) : exec (.dbgDataWrite c data) s = execDbgDataWrite c data s := rfl
@[simp] theorem exec_breakpointWrite (c : Cls) (sub : Nat) (value : BitVec 64) (s : State) : exec (.breakpointWrite c sub value) s = execBreakpointWrite c sub value s := rfl
@[simp] theorem exec_mxaQueueAdmit (g : GRef) (s : State) : exec (.mxaQueueAdmit g) s = execMxaQueueAdmit g s := rfl
@[simp] theorem exec_mxaOpStart (core : Fin 576) (s : State) : exec (.mxaOpStart core) s = execMxaOpStart core s := rfl
@[simp] theorem exec_mxaOpComplete (core : Fin 576) (s : State) : exec (.mxaOpComplete core) s = execMxaOpComplete core s := rfl
@[simp] theorem exec_specCheckTile (core : Fin 576) (s : State) : exec (.specCheckTile core) s = execSpecCheckTile core s := rfl
@[simp] theorem exec_srSeed (c : Cls) (ctx : Fin 4097) (seed : Word) (s : State) : exec (.srSeed c ctx seed) s = execSrSeed c ctx seed s := rfl
@[simp] theorem exec_replayEntryStart (ctx : Fin 4097) (ring : Fin 8) (s : State) : exec (.replayEntryStart ctx ring) s = execReplayEntryStart ctx ring s := rfl
@[simp] theorem exec_alderChunk (engine : Fin 16) (s : State) : exec (.alderChunk engine) s = execAlderChunk engine s := rfl
@[simp] theorem exec_hbmBankService (stack : Fin 16) (ch : Fin 32) (pc : Fin 2) (bank : Nat) (s : State) : exec (.hbmBankService stack ch pc bank) s = execHbmBankService stack ch pc bank s := rfl
@[simp] theorem exec_nearBankService (die : Fin 8) (group : Fin 16) (ecc : Ecc) (s : State) : exec (.nearBankService die group ecc) s = execNearBankService die group ecc s := rfl
@[simp] theorem exec_atomicUnitOp (unit : Fin 144) (s : State) : exec (.atomicUnitOp unit) s = execAtomicUnitOp unit s := rfl
@[simp] theorem exec_atomicBlockWriteback (unit : Fin 144) (block : Nat) (s : State) : exec (.atomicBlockWriteback unit block) s = execAtomicBlockWriteback unit block s := rfl
@[simp] theorem exec_scrubRead (stack : Fin 16) (ch : Fin 32) (pc : Fin 2) (s : State) : exec (.scrubRead stack ch pc) s = execScrubRead stack ch pc s := rfl
@[simp] theorem exec_hbmRefresh (stack : Fin 16) (ch : Fin 32) (pc : Fin 2) (bank : Nat) (s : State) : exec (.hbmRefresh stack ch pc bank) s = execHbmRefresh stack ch pc bank s := rfl
@[simp] theorem exec_stackTempRead (stack : Fin 16) (temp : Int) (s : State) : exec (.stackTempRead stack temp) s = execStackTempRead stack temp s := rfl
@[simp] theorem exec_ondieEccPoll (stack : Fin 16) (count : Nat) (s : State) : exec (.ondieEccPoll stack count) s = execOndieEccPoll stack count s := rfl
@[simp] theorem exec_caParityError (stack : Fin 16) (ch : Fin 32) (s : State) : exec (.caParityError stack ch) s = execCaParityError stack ch s := rfl
@[simp] theorem exec_channelMapout (s : State) : exec .channelMapout s = execChannelMapout s := rfl
@[simp] theorem exec_releaseApply (rel : Nat) (s : State) : exec (.releaseApply rel) s = execReleaseApply rel s := rfl
@[simp] theorem exec_dataFlit (port : Fin 18) (flit : BitVec 2048) (fecOk : Bool) (s : State) : exec (.dataFlit port flit fecOk) s = execDataFlit port flit fecOk s := rfl
@[simp] theorem exec_initFlit (port : Fin 18) (flit : BitVec 2048) (fecOk : Bool) (s : State) : exec (.initFlit port flit fecOk) s = execInitFlit port flit fecOk s := rfl
@[simp] theorem exec_keyxFlit (port : Fin 18) (flit : BitVec 2048) (fecOk : Bool) (s : State) : exec (.keyxFlit port flit fecOk) s = execKeyxFlit port flit fecOk s := rfl
@[simp] theorem exec_nullFlit (port : Fin 18) (flit : BitVec 2048) (fecOk : Bool) (s : State) : exec (.nullFlit port flit fecOk) s = execNullFlit port flit fecOk s := rfl
@[simp] theorem exec_flitSend (port : Fin 18) (s : State) : exec (.flitSend port) s = execFlitSend port s := rfl
@[simp] theorem exec_ackTimerExpiry (port : Fin 18) (s : State) : exec (.ackTimerExpiry port) s = execAckTimerExpiry port s := rfl
@[simp] theorem exec_rxSilenceExpiry (port : Fin 18) (s : State) : exec (.rxSilenceExpiry port) s = execRxSilenceExpiry port s := rfl
@[simp] theorem exec_laneSignalLoss (port : Fin 18) (lane : Fin 8) (s : State) : exec (.laneSignalLoss port lane) s = execLaneSignalLoss port lane s := rfl
@[simp] theorem exec_retrainIntervalExpiry (port : Fin 18) (s : State) : exec (.retrainIntervalExpiry port) s = execRetrainIntervalExpiry port s := rfl
@[simp] theorem exec_pmdTrainingDone (port : Fin 18) (s : State) : exec (.pmdTrainingDone port) s = execPmdTrainingDone port s := rfl
@[simp] theorem exec_bringupStepTimeout (port : Fin 18) (s : State) : exec (.bringupStepTimeout port) s = execBringupStepTimeout port s := rfl
@[simp] theorem exec_initResend (port : Fin 18) (s : State) : exec (.initResend port) s = execInitResend port s := rfl
@[simp] theorem exec_hello (port : Fin 18) (s : State) : exec (.hello port) s = execHello port s := rfl
@[simp] theorem exec_cert (port : Fin 18) (s : State) : exec (.cert port) s = execCert port s := rfl
@[simp] theorem exec_finish (port : Fin 18) (s : State) : exec (.finish port) s = execFinish port s := rfl
@[simp] theorem exec_keyxResend (port : Fin 18) (s : State) : exec (.keyxResend port) s = execKeyxResend port s := rfl
@[simp] theorem exec_rekeyStart (port : Fin 18) (s : State) : exec (.rekeyStart port) s = execRekeyStart port s := rfl
@[simp] theorem exec_rekeyNow (c : Cls) (ports : Word) (s : State) : exec (.rekeyNow c ports) s = execRekeyNow c ports s := rfl
@[simp] theorem exec_rekeyTimeout (port : Fin 18) (s : State) : exec (.rekeyTimeout port) s = execRekeyTimeout port s := rfl
@[simp] theorem exec_portCtrl (c : Cls) (port : Fin 18) (value : Word) (s : State) : exec (.portCtrl c port value) s = execPortCtrl c port value s := rfl
@[simp] theorem exec_routeMode (c : Cls) (value : Nat) (s : State) : exec (.routeMode c value) s = execRouteMode c value s := rfl
@[simp] theorem exec_routeD (c : Cls) (dev : Fin 64) (ports : Word) (s : State) : exec (.routeD c dev ports) s = execRouteD c dev ports s := rfl
@[simp] theorem exec_flowMove (sidx : Nat) (dev : Fin 64) (s : State) : exec (.flowMove sidx dev) s = execFlowMove sidx dev s := rfl
@[simp] theorem exec_ctxkeyOffer (port : Fin 18) (ctx : Fin 4096) (check : BitVec 128) (s : State) : exec (.ctxkeyOffer port ctx check) s = execCtxkeyOffer port ctx check s := rfl
@[simp] theorem exec_pktRd (port : Fin 18) (s : State) : exec (.pktRd port) s = execPktRd port s := rfl
@[simp] theorem exec_pktWr (port : Fin 18) (s : State) : exec (.pktWr port) s = execPktWr port s := rfl
@[simp] theorem exec_pktWrm (port : Fin 18) (s : State) : exec (.pktWrm port) s = execPktWrm port s := rfl
@[simp] theorem exec_pktAtom (port : Fin 18) (s : State) : exec (.pktAtom port) s = execPktAtom port s := rfl
@[simp] theorem exec_pktRed (port : Fin 18) (s : State) : exec (.pktRed port) s = execPktRed port s := rfl
@[simp] theorem exec_pktFlag (port : Fin 18) (s : State) : exec (.pktFlag port) s = execPktFlag port s := rfl
@[simp] theorem exec_pktRdr (port : Fin 18) (s : State) : exec (.pktRdr port) s = execPktRdr port s := rfl
@[simp] theorem exec_pktAck (port : Fin 18) (s : State) : exec (.pktAck port) s = execPktAck port s := rfl
@[simp] theorem exec_pktAtr (port : Fin 18) (s : State) : exec (.pktAtr port) s = execPktAtr port s := rfl
@[simp] theorem exec_pktHold (port : Fin 18) (s : State) : exec (.pktHold port) s = execPktHold port s := rfl
@[simp] theorem exec_requestAccept (port : Fin 18) (s : State) : exec (.requestAccept port) s = execRequestAccept port s := rfl
@[simp] theorem exec_remoteDeadlineExpiry (req : Nat) (s : State) : exec (.remoteDeadlineExpiry req) s = execRemoteDeadlineExpiry req s := rfl
@[simp] theorem exec_holdTimer (port : Fin 18) (dev : Fin 64) (s : State) : exec (.holdTimer port dev) s = execHoldTimer port dev s := rfl
@[simp] theorem exec_reqTimeoutExpiry (req : Nat) (s : State) : exec (.reqTimeoutExpiry req) s = execReqTimeoutExpiry req s := rfl
@[simp] theorem exec_gwFlushExpiry (gw : Fin 4) (stream : Nat) (s : State) : exec (.gwFlushExpiry gw stream) s = execGwFlushExpiry gw stream s := rfl
@[simp] theorem exec_larchWrite (gw : Fin 4) (d : LarchDgram) (s : State) : exec (.larchWrite gw d) s = execLarchWrite gw d s := rfl
@[simp] theorem exec_larchRead (gw : Fin 4) (d : LarchDgram) (s : State) : exec (.larchRead gw d) s = execLarchRead gw d s := rfl
@[simp] theorem exec_larchReadData (gw : Fin 4) (d : LarchDgram) (s : State) : exec (.larchReadData gw d) s = execLarchReadData gw d s := rfl
@[simp] theorem exec_larchComplete (gw : Fin 4) (d : LarchDgram) (s : State) : exec (.larchComplete gw d) s = execLarchComplete gw d s := rfl
@[simp] theorem exec_gwRetryExpiry (gw : Fin 4) (stream seq : Nat) (s : State) : exec (.gwRetryExpiry gw stream seq) s = execGwRetryExpiry gw stream seq s := rfl
@[simp] theorem exec_exchangeRendezvous (ctx : Fin 4097) (s : State) : exec (.exchangeRendezvous ctx) s = execExchangeRendezvous ctx s := rfl
@[simp] theorem exec_exchangeBucket (ctx : Fin 4097) (gather : Bool) (s : State) : exec (.exchangeBucket ctx gather) s = execExchangeBucket ctx gather s := rfl
@[simp] theorem exec_exchangeMessage (ctx : Fin 4097) (bucket sender : Nat) (gather : Bool) (s : State) : exec (.exchangeMessage ctx bucket sender gather) s = execExchangeMessage ctx bucket sender gather s := rfl
@[simp] theorem exec_exchangeAbort (ctx : Fin 4097) (member : Fin 64) (s : State) : exec (.exchangeAbort ctx member) s = execExchangeAbort ctx member s := rfl
@[simp] theorem exec_sqCtrl (ctx : Fin 4097) (ring : Fin 8) (value : Word) (s : State) : exec (.sqCtrl ctx ring value) s = execSqCtrl ctx ring value s := rfl
@[simp] theorem exec_cqCtrl (ctx : Fin 4097) (value : CqWrite) (s : State) : exec (.cqCtrl ctx value) s = execCqCtrl ctx value s := rfl
@[simp] theorem exec_sqBase (ctx : Fin 4097) (ring : Fin 8) (value : BitVec 64) (s : State) : exec (.sqBase ctx ring value) s = execSqBase ctx ring value s := rfl
@[simp] theorem exec_cqBase (ctx : Fin 4097) (value : BitVec 64) (s : State) : exec (.cqBase ctx value) s = execCqBase ctx value s := rfl
@[simp] theorem exec_sqTail (ctx : Fin 4097) (ring : Fin 8) (value : Word) (s : State) : exec (.sqTail ctx ring value) s = execSqTail ctx ring value s := rfl
@[simp] theorem exec_cqHead (ctx : Fin 4097) (value : Word) (s : State) : exec (.cqHead ctx value) s = execCqHead ctx value s := rfl
@[simp] theorem exec_commandFetch (ctx : Fin 4097) (ring : Fin 8) (hostEntry : BitVec 512) (s : State) : exec (.commandFetch ctx ring hostEntry) s = execCommandFetch ctx ring hostEntry s := rfl
@[simp] theorem exec_cqIrqTimer (ctx : Fin 4097) (s : State) : exec (.cqIrqTimer ctx) s = execCqIrqTimer ctx s := rfl
@[simp] theorem exec_cmdNop (ctx : Fin 4097) (ring : Fin 8) (s : State) : exec (.cmdNop ctx ring) s = execCmdNop ctx ring s := rfl
@[simp] theorem exec_cmdFence (ctx : Fin 4097) (ring : Fin 8) (s : State) : exec (.cmdFence ctx ring) s = execCmdFence ctx ring s := rfl
@[simp] theorem exec_signal (ctx : Fin 4097) (ring : Fin 8) (s : State) : exec (.signal ctx ring) s = execSignal ctx ring s := rfl
@[simp] theorem exec_wait (ctx : Fin 4097) (ring : Fin 8) (s : State) : exec (.wait ctx ring) s = execWait ctx ring s := rfl
@[simp] theorem exec_waitPoll (ctx : Fin 4097) (ring : Fin 8) (s : State) : exec (.waitPoll ctx ring) s = execWaitPoll ctx ring s := rfl
@[simp] theorem exec_launch (ctx : Fin 4097) (ring : Fin 8) (s : State) : exec (.launch ctx ring) s = execLaunch ctx ring s := rfl
@[simp] theorem exec_launchStart (ctx : Fin 4097) (ring : Fin 8) (s : State) : exec (.launchStart ctx ring) s = execLaunchStart ctx ring s := rfl
@[simp] theorem exec_codeMeasure (ctx : Fin 4097) (ring : Fin 8) (s : State) : exec (.codeMeasure ctx ring) s = execCodeMeasure ctx ring s := rfl
@[simp] theorem exec_launchComplete (ctx : Fin 4097) (ring : Fin 8) (s : State) : exec (.launchComplete ctx ring) s = execLaunchComplete ctx ring s := rfl
@[simp] theorem exec_launchTeardown (ctx : Fin 4097) (ring : Fin 8) (s : State) : exec (.launchTeardown ctx ring) s = execLaunchTeardown ctx ring s := rfl
@[simp] theorem exec_copy (ctx : Fin 4097) (ring : Fin 8) (s : State) : exec (.copy ctx ring) s = execCopy ctx ring s := rfl
@[simp] theorem exec_fill (ctx : Fin 4097) (ring : Fin 8) (s : State) : exec (.fill ctx ring) s = execFill ctx ring s := rfl
@[simp] theorem exec_gather (ctx : Fin 4097) (ring : Fin 8) (s : State) : exec (.gather ctx ring) s = execGather ctx ring s := rfl
@[simp] theorem exec_map (ctx : Fin 4097) (ring : Fin 8) (s : State) : exec (.map ctx ring) s = execMap ctx ring s := rfl
@[simp] theorem exec_unmap (ctx : Fin 4097) (ring : Fin 8) (s : State) : exec (.unmap ctx ring) s = execUnmap ctx ring s := rfl
@[simp] theorem exec_accept (ctx : Fin 4097) (ring : Fin 8) (s : State) : exec (.accept ctx ring) s = execAccept ctx ring s := rfl
@[simp] theorem exec_exchange (ctx : Fin 4097) (ring : Fin 8) (s : State) : exec (.exchange ctx ring) s = execExchange ctx ring s := rfl
@[simp] theorem exec_optStep (ctx : Fin 4097) (ring : Fin 8) (s : State) : exec (.optStep ctx ring) s = execOptStep ctx ring s := rfl
@[simp] theorem exec_hint (ctx : Fin 4097) (ring : Fin 8) (s : State) : exec (.hint ctx ring) s = execHint ctx ring s := rfl
@[simp] theorem exec_snapshot (ctx : Fin 4097) (ring : Fin 8) (s : State) : exec (.snapshot ctx ring) s = execSnapshot ctx ring s := rfl
@[simp] theorem exec_attest (ctx : Fin 4097) (ring : Fin 8) (s : State) : exec (.attest ctx ring) s = execAttest ctx ring s := rfl
@[simp] theorem exec_queryEntry (ctx : Fin 4097) (ring : Fin 8) (s : State) : exec (.queryEntry ctx ring) s = execQueryEntry ctx ring s := rfl
@[simp] theorem exec_queryTranslation (ctx : Fin 4097) (ring : Fin 8) (s : State) : exec (.queryTranslation ctx ring) s = execQueryTranslation ctx ring s := rfl
@[simp] theorem exec_queryOwnership (ctx : Fin 4097) (ring : Fin 8) (s : State) : exec (.queryOwnership ctx ring) s = execQueryOwnership ctx ring s := rfl
@[simp] theorem exec_ctxCreate (ctx : Fin 4097) (ring : Fin 8) (s : State) : exec (.ctxCreate ctx ring) s = execCtxCreate ctx ring s := rfl
@[simp] theorem exec_ctxDestroy (ctx : Fin 4097) (ring : Fin 8) (s : State) : exec (.ctxDestroy ctx ring) s = execCtxDestroy ctx ring s := rfl
@[simp] theorem exec_ctxSuspend (ctx : Fin 4097) (ring : Fin 8) (s : State) : exec (.ctxSuspend ctx ring) s = execCtxSuspend ctx ring s := rfl
@[simp] theorem exec_ctxResume (ctx : Fin 4097) (ring : Fin 8) (s : State) : exec (.ctxResume ctx ring) s = execCtxResume ctx ring s := rfl
@[simp] theorem exec_coreFence (ctx : Fin 4097) (ring : Fin 8) (s : State) : exec (.coreFence ctx ring) s = execCoreFence ctx ring s := rfl
@[simp] theorem exec_kernelDeadlineExpiry (ctx : Fin 4097) (ring : Fin 8) (s : State) : exec (.kernelDeadlineExpiry ctx ring) s = execKernelDeadlineExpiry ctx ring s := rfl
@[simp] theorem exec_commandTimeoutExpiry (ctx : Fin 4097) (ring : Fin 8) (s : State) : exec (.commandTimeoutExpiry ctx ring) s = execCommandTimeoutExpiry ctx ring s := rfl
@[simp] theorem exec_quiesceTimeoutExpiry (ctx : Fin 4097) (s : State) : exec (.quiesceTimeoutExpiry ctx) s = execQuiesceTimeoutExpiry ctx s := rfl
@[simp] theorem exec_groveReset (grove : Fin 72) (failed : List (Fin 576)) (s : State) : exec (.groveReset grove failed) s = execGroveReset grove failed s := rfl
@[simp] theorem exec_flr (vf : Fin 4096) (s : State) : exec (.flr vf) s = execFlr vf s := rfl
@[simp] theorem exec_sliceEnd (grove0 : Fin 72) (s : State) : exec (.sliceEnd grove0) s = execSliceEnd grove0 s := rfl
@[simp] theorem exec_switchJobComplete (grove0 : Fin 72) (die : Fin 8) (s : State) : exec (.switchJobComplete grove0 die) s = execSwitchJobComplete grove0 die s := rfl
@[simp] theorem exec_granuleScrub (granule : Nat) (s : State) : exec (.granuleScrub granule) s = execGranuleScrub granule s := rfl
@[simp] theorem exec_ctxSecret (c : Cls) (ctx : Fin 4096) (value : List Byte) (s : State) : exec (.ctxSecret c ctx value) s = execCtxSecret c ctx value s := rfl
@[simp] theorem exec_ctxPrivate (c : Cls) (ctx : Fin 4096) (value : Nat) (s : State) : exec (.ctxPrivate c ctx value) s = execCtxPrivate c ctx value s := rfl
@[simp] theorem exec_gwBind (c : Cls) (ctx : Fin 4096) (n : Fin 4) (value : BitVec 64) (s : State) : exec (.gwBind c ctx n value) s = execGwBind c ctx n value s := rfl
@[simp] theorem exec_spdmRequest (offersSuite : Bool) (request : List Byte) (s : State) : exec (.spdmRequest offersSuite request) s = execSpdmRequest offersSuite request s := rfl
@[simp] theorem exec_lockInterface (vf : Fin 4096) (stream : Nat) (s : State) : exec (.lockInterface vf stream) s = execLockInterface vf stream s := rfl
@[simp] theorem exec_startInterface (vf : Fin 4096) (s : State) : exec (.startInterface vf) s = execStartInterface vf s := rfl
@[simp] theorem exec_stopInterface (vf : Fin 4096) (s : State) : exec (.stopInterface vf) s = execStopInterface vf s := rfl
@[simp] theorem exec_tdiError (vf : Fin 4096) (s : State) : exec (.tdiError vf) s = execTdiError vf s := rfl
@[simp] theorem exec_tokenChallengeRead (c : Cls) (s : State) : exec (.tokenChallengeRead c) s = execTokenChallengeRead c s := rfl
@[simp] theorem exec_authKey (c : Cls) (key : BitVec 776) (tok : Option Token) (s : State) : exec (.authKey c key tok) s = execAuthKey c key tok s := rfl
@[simp] theorem exec_mapoutClear (c : Cls) (tok : Token) (s : State) : exec (.mapoutClear c tok) s = execMapoutClear c tok s := rfl
@[simp] theorem exec_fenceMapWrite (c : Cls) (value : BitVec 640) (tok : Option Token) (s : State) : exec (.fenceMapWrite c value tok) s = execFenceMapWrite c value tok s := rfl
@[simp] theorem exec_neighborSolicitation (target : BitVec 128) (s : State) : exec (.neighborSolicitation target) s = execNeighborSolicitation target s := rfl
@[simp] theorem exec_duplicateAddressDetection (inUse : Bool) (s : State) : exec (.duplicateAddressDetection inUse) s = execDuplicateAddressDetection inUse s := rfl
@[simp] theorem exec_openSession (d : Dgram) (s : State) : exec (.openSession d) s = execOpenSession d s := rfl
@[simp] theorem exec_confirm (d : Dgram) (s : State) : exec (.confirm d) s = execConfirm d s := rfl
@[simp] theorem exec_confirmTimeout (session : Nat) (s : State) : exec (.confirmTimeout session) s = execConfirmTimeout session s := rfl
@[simp] theorem exec_read (d : Dgram) (s : State) : exec (.read d) s = execRead d s := rfl
@[simp] theorem exec_write (d : Dgram) (s : State) : exec (.write d) s = execWrite d s := rfl
@[simp] theorem exec_keepalive (d : Dgram) (s : State) : exec (.keepalive d) s = execKeepalive d s := rfl
@[simp] theorem exec_close (d : Dgram) (s : State) : exec (.close d) s = execClose d s := rfl
@[simp] theorem exec_segmentTimeout (session seq : Nat) (s : State) : exec (.segmentTimeout session seq) s = execSegmentTimeout session seq s := rfl
@[simp] theorem exec_sessionIdleExpiry (session : Nat) (s : State) : exec (.sessionIdleExpiry session) s = execSessionIdleExpiry session s := rfl
@[simp] theorem exec_mailboxRead (ctx : Fin 4097) (entry : Word) (s : State) : exec (.mailboxRead ctx entry) s = execMailboxRead ctx entry s := rfl
@[simp] theorem exec_mailboxWrite (ctx : Fin 4097) (entry : Word) (data : List Byte) (tok : Option Token) (s : State) : exec (.mailboxWrite ctx entry data tok) s = execMailboxWrite ctx entry data tok s := rfl
@[simp] theorem exec_entryWrite (c : Cls) (key : Nat) (data : List Byte) (tok : Option Token) (s : State) : exec (.entryWrite c key data tok) s = execEntryWrite c key data tok s := rfl
@[simp] theorem exec_counterClear (c : Cls) (key : Nat) (data : List Byte) (s : State) : exec (.counterClear c key data) s = execCounterClear c key data s := rfl
@[simp] theorem exec_snapIndex (c : Cls) (index : Nat) (s : State) : exec (.snapIndex c index) s = execSnapIndex c index s := rfl
@[simp] theorem exec_journalCommit (s : State) : exec .journalCommit s = execJournalCommit s := rfl
@[simp] theorem exec_journalWriteTimeout (s : State) : exec .journalWriteTimeout s = execJournalWriteTimeout s := rfl
@[simp] theorem exec_compactNow (c : Cls) (value : Nat) (s : State) : exec (.compactNow c value) s = execCompactNow c value s := rfl
@[simp] theorem exec_compaction (s : State) : exec .compaction s = execCompaction s := rfl
@[simp] theorem exec_journalAreaErase (s : State) : exec .journalAreaErase s = execJournalAreaErase s := rfl
@[simp] theorem exec_opTimeJournal (s : State) : exec .opTimeJournal s = execOpTimeJournal s := rfl
@[simp] theorem exec_pkgOffset (c : Cls) (value : Nat) (s : State) : exec (.pkgOffset c value) s = execPkgOffset c value s := rfl
@[simp] theorem exec_pkgData (c : Cls) (data : List Byte) (s : State) : exec (.pkgData c data) s = execPkgData c data s := rfl
@[simp] theorem exec_packageActivate (c : Cls) (tok : Token) (s : State) : exec (.packageActivate c tok) s = execPackageActivate c tok s := rfl
@[simp] theorem exec_gradeRestore (c : Cls) (tok : Token) (s : State) : exec (.gradeRestore c tok) s = execGradeRestore c tok s := rfl
@[simp] theorem exec_rootStep (die : Fin 8) (s : State) : exec (.rootStep die) s = execRootStep die s := rfl
@[simp] theorem exec_avsAck (die : Fin 8) (s : State) : exec (.avsAck die) s = execAvsAck die s := rfl
@[simp] theorem exec_avsTimeout (die : Fin 8) (s : State) : exec (.avsTimeout die) s = execAvsTimeout die s := rfl
@[simp] theorem exec_avsTelemetryRead (die : Fin 8) (milliWatt milliVolt : Nat) (valid : Bool) (s : State) : exec (.avsTelemetryRead die milliWatt milliVolt valid) s = execAvsTelemetryRead die milliWatt milliVolt valid s := rfl
@[simp] theorem exec_pmbusTelemetryRead (rail : Fin 40) (milliWatt milliVolt : Nat) (valid : Bool) (s : State) : exec (.pmbusTelemetryRead rail milliWatt milliVolt valid) s = execPmbusTelemetryRead rail milliWatt milliVolt valid s := rfl
@[simp] theorem exec_telemetryStale (rail : Fin 40) (s : State) : exec (.telemetryStale rail) s = execTelemetryStale rail s := rfl
@[simp] theorem exec_capLoop (s : State) : exec .capLoop s = execCapLoop s := rfl
@[simp] theorem exec_capEn (c : Cls) (value : Nat) (s : State) : exec (.capEn c value) s = execCapEn c value s := rfl
@[simp] theorem exec_powerCap (c : Cls) (value : Nat) (s : State) : exec (.powerCap c value) s = execPowerCap c value s := rfl
@[simp] theorem exec_capGuard (c : Cls) (value : Nat) (s : State) : exec (.capGuard c value) s = execCapGuard c value s := rfl
@[simp] theorem exec_hintExpiry (die : Fin 8) (s : State) : exec (.hintExpiry die) s = execHintExpiry die s := rfl
@[simp] theorem exec_fillerHoldExpiry (die : Fin 8) (s : State) : exec (.fillerHoldExpiry die) s = execFillerHoldExpiry die s := rfl
@[simp] theorem exec_droopCrossing (die : Fin 8) (detector : Fin 16) (s : State) : exec (.droopCrossing die detector) s = execDroopCrossing die detector s := rfl
@[simp] theorem exec_droopRelease (die : Fin 8) (s : State) : exec (.droopRelease die) s = execDroopRelease die s := rfl
@[simp] theorem exec_stepFreezeEnd (die : Fin 8) (s : State) : exec (.stepFreezeEnd die) s = execStepFreezeEnd die s := rfl
@[simp] theorem exec_pewterSample (die : Fin 8) (sixteenths : Nat) (s : State) : exec (.pewterSample die sixteenths) s = execPewterSample die sixteenths s := rfl
@[simp] theorem exec_governorWindow (die : Fin 8) (s : State) : exec (.governorWindow die) s = execGovernorWindow die s := rfl
@[simp] theorem exec_supplyWarning (rail : Fin 40) (milliVolt : Nat) (s : State) : exec (.supplyWarning rail milliVolt) s = execSupplyWarning rail milliVolt s := rfl
@[simp] theorem exec_warningCleared (s : State) : exec .warningCleared s = execWarningCleared s := rfl
@[simp] theorem exec_powerFailure (rail : Fin 40) (s : State) : exec (.powerFailure rail) s = execPowerFailure rail s := rfl
@[simp] theorem exec_railResetLevel (rail : Fin 40) (s : State) : exec (.railResetLevel rail) s = execRailResetLevel rail s := rfl
@[simp] theorem exec_dieRejoin (die : Fin 8) (heart : Nat) (s : State) : exec (.dieRejoin die heart) s = execDieRejoin die heart s := rfl
@[simp] theorem exec_junctionSensorRead (sensor : Sensor) (temp : Int) (s : State) : exec (.junctionSensorRead sensor temp) s = execJunctionSensorRead sensor temp s := rfl
@[simp] theorem exec_heartwoodReplan (heart : List Nat) (s : State) : exec (.heartwoodReplan heart) s = execHeartwoodReplan heart s := rfl
@[simp] theorem exec_replanNow (c : Cls) (value : Nat) (heart : List Nat) (s : State) : exec (.replanNow c value heart) s = execReplanNow c value heart s := rfl
@[simp] theorem exec_domainWake (dom : Fin 911) (s : State) : exec (.domainWake dom) s = execDomainWake dom s := rfl
@[simp] theorem exec_domainIdleOff (dom : Fin 911) (s : State) : exec (.domainIdleOff dom) s = execDomainIdleOff dom s := rfl
@[simp] theorem exec_selftestRun (core : Fin 640) (vector : Fin 8) (failing : BitVec 16) (s : State) : exec (.selftestRun core vector failing) s = execSelftestRun core vector failing s := rfl
@[simp] theorem exec_selftestForced (core : Fin 640) (vector : Fin 8) (failing : BitVec 16) (s : State) : exec (.selftestForced core vector failing) s = execSelftestForced core vector failing s := rfl
@[simp] theorem exec_alarmHoldRelease (key : Nat) (s : State) : exec (.alarmHoldRelease key) s = execAlarmHoldRelease key s := rfl
@[simp] theorem exec_alarmDispatch (s : State) : exec .alarmDispatch s = execAlarmDispatch s := rfl
@[simp] theorem exec_yewProgram (s : State) : exec .yewProgram s = execYewProgram s := rfl
@[simp] theorem exec_yewClear (c : Cls) (tok : Token) (s : State) : exec (.yewClear c tok) s = execYewClear c tok s := rfl
@[simp] theorem exec_yewSectorErase (s : State) : exec .yewSectorErase s = execYewSectorErase s := rfl
@[simp] theorem exec_perstAssert (s : State) : exec .perstAssert s = execPerstAssert s := rfl
@[simp] theorem exec_perstRelease (r : StartReport) (s : State) : exec (.perstRelease r) s = execPerstRelease r s := rfl
@[simp] theorem exec_railCrossing (rail : Fin 40) (what : Crossing) (s : State) : exec (.railCrossing rail what) s = execRailCrossing rail what s := rfl
@[simp] theorem exec_refclkLoss (s : State) : exec .refclkLoss s = execRefclkLoss s := rfl
@[simp] theorem exec_pcieHotReset (s : State) : exec .pcieHotReset s = execPcieHotReset s := rfl
@[simp] theorem exec_configRequest (function : Fin 4097) (busMaster : Option Bool) (s : State) : exec (.configRequest function busMaster) s = execConfigRequest function busMaster s := rfl
@[simp] theorem exec_tapInstruction (op : TapOp) (s : State) : exec (.tapInstruction op) s = execTapInstruction op s := rfl
@[simp] theorem exec_powerFailureRecovery (s : State) : exec .powerFailureRecovery s = execPowerFailureRecovery s := rfl
@[simp] theorem exec_portDisableWaitExpiry (port : Fin 18) (s : State) : exec (.portDisableWaitExpiry port) s = execPortDisableWaitExpiry port s := rfl

end Sys2Proof.Machine
end

