-- ==== Sys2Proof/Laws/Issue.lean ====
section
/-!
SUPPORT. Laws/Issue.lean: what the issue of an instruction can do, and what a retiring instruction leaves (R22, R24, R35).
-/
namespace Sys2Proof.Machine

/-- What an issuing group is. -/
theorem issuer_spec {s : State} {g : GRef} {h : Here} {p : Path} (hi : s.issuer g = some (h, p)) :
    s.running = true ∧ s.groupAt g.core.val g.slot.val = some h ∧ h.grp.run = some p ∧ h.grp.ready = true ∧ h.grp.halt.step = false ∧
    (s.ibreak h.ctx g.core.val g.slot.val p.pc && !h.grp.halt.skip) = false ∧ p.pc % 16 = 0 ∧
    (s.xlate h.ctx p.pc .fetch).1 = 0 := by
  unfold State.issuer at hi
  split at hi
  · cases hi
  · next hr =>
    split at hi
    · cases hi
    · next h' hg =>
      split at hi
      · cases hi
      · next p' hp =>
        split at hi
        · next hc =>
          simp only [Option.some.injEq, Prod.mk.injEq] at hi
          obtain ⟨rfl, rfl⟩ := hi
          simp only [Bool.and_eq_true, decide_eq_true_eq, Bool.not_eq_true'] at hc
          refine ⟨by simpa using hr, hg, hp, hc.1.1.1.1, hc.1.1.1.2, ?_, hc.1.2, hc.2⟩
          exact hc.1.1.2
        · cases hi

/-- A legal instruction of an issuing group runs its meaning on what it sees. -/
theorem issue_runs {s : State} {g : GRef} {h : Here} {p : Path} (hi : s.issuer g = some (h, p)) (w : IWord)
    (legal : Group → Bool) (body : Iss → State) (hl : legal h.seen = true) :
    issue s g w legal body = .next (body (s.sees g h p w)) := by
  obtain ⟨h1, h2, h3, h4, h8, h5, h6, h7⟩ := issuer_spec hi
  simp only [issue, h1, h2, h4, Bool.not_true, Bool.false_eq_true, if_false]
  split
  · next hn => rw [h3] at hn; cases hn
  next q hq =>
  obtain rfl : p = q := by rw [h3] at hq; exact Option.some.inj hq
  simp only [h5, h6, Bool.false_eq_true, if_false]
  rcases hx : s.xlate h.ctx p.pc .fetch with ⟨st, d⟩
  rw [hx] at h7
  simp only at h7
  subst h7
  simp only [ne_eq, not_true_eq_false, if_false]
  rw [show legal { h.grp with halt := { h.grp.halt with skip := false } } = true from hl]
  rw [if_neg (by simp), if_neg (by simp [h8])]
  rfl

/-- An illegal instruction faults its group before any lane takes effect (R37). -/
theorem issue_illegal {s : State} {g : GRef} {h : Here} {p : Path} (hi : s.issuer g = some (h, p)) (w : IWord)
    (legal : Group → Bool) (body : Iss → State) (hl : legal h.seen = false) :
    issue s g w legal body = .next (s.faulted g h p Code.illegal) := by
  obtain ⟨h1, h2, h3, h4, h8, h5, h6, h7⟩ := issuer_spec hi
  simp only [issue, h1, h2, h4, Bool.not_true, Bool.false_eq_true, if_false]
  split
  · next hn => rw [h3] at hn; cases hn
  next q hq =>
  obtain rfl : p = q := by rw [h3] at hq; exact Option.some.inj hq
  simp only [h5, h6, Bool.false_eq_true, if_false]
  rcases hx : s.xlate h.ctx p.pc .fetch with ⟨st, d⟩
  rw [hx] at h7
  simp only at h7
  subst h7
  simp only [ne_eq, not_true_eq_false, if_false]
  rw [show legal { h.grp with halt := { h.grp.halt with skip := false } } = false from hl]
  rfl

/-- The parts of an issuing group that decide where it goes on. -/
theorem ready_spec {g : Group} (h : g.ready = true) : g.wait = .none ∧ g.halt.halted = false ∧ g.halt.req = false := by
  simpa [Group.ready, and_assoc] using h

/-- A group whose path may run on settles as it is. -/
theorem settle_clear {n : Nat} {g : Group} {p : Path} (hr : g.run = some p) (hc : g.clearAt p p.pc = true) :
    g.settle n = g := by
  cases n with
  | zero => rfl
  | succ n =>
    simp only [Group.settle, hr]
    simp only [Group.clearAt] at hc
    cases hf : g.frame? p.fid with
    | none => rfl
    | some f =>
      rw [hf] at hc
      simp only [bne_iff_ne, ne_eq] at hc
      simp [hc]

/-- A path's lanes and address may change without changing the divergence it belongs to. -/
theorem clearAt_congr {g g' : Group} {p p' : Path} (hf : g'.frames = g.frames) (hp : p'.fid = p.fid) (pc : Nat) :
    g'.clearAt p' pc = g.clearAt p pc := by
  simp [Group.clearAt, Group.frame?, hf, hp]

/-- A group that settles as it is and is not being stepped is put back as it is. -/
theorem putGroup_clear {s : State} {c k l : Nat} {g : Group} {p : Path} (hr : g.run = some p) (hc : g.clearAt p p.pc = true)
    (hh : g.halt.req = false) : s.putGroup c k l g = s.setGroup c k l g := by
  simp [State.putGroup, Group.resolve, settle_clear hr hc, hr, hh]

/-- An instruction that changes its group alone retires: the group as it left it, its path at the next instruction. -/
theorem retire_eq (s : State) (g : GRef) (h : Here) (p : Path) (w : IWord) {gr : Group} (hr : gr.run = some p) :
    (s.sees g h p w).retire gr = s.retired g h p gr := by
  have hn : gr.step16 = { gr with run := some { p with pc := p.next, retry := false } } := by
    simp only [Group.step16, hr, Path.next]
  simp only [Iss.retire, Iss.put, hn, Option.map_some, State.sees, or_true, if_true]
  rfl

/-- The same for an instruction that also changes the state around the group. -/
theorem retire_eq_at (s t : State) (g : GRef) (h : Here) (p : Path) (w : IWord) {gr : Group} (hr : gr.run = some p) :
    ({ s.sees g h p w with s := t }).retire gr =
      t.putGroup h.ctx g.core.val g.slot.val { gr with run := some { p with pc := p.next, retry := false } } := by
  have hn : gr.step16 = { gr with run := some { p with pc := p.next, retry := false } } := by
    simp only [Group.step16, hr, Path.next]
  simp only [Iss.retire, Iss.put, hn, Option.map_some, State.sees, or_true, if_true]

/-- Where no reconvergence point is met the group is put back as it is. -/
theorem retired_clear {s : State} {g : GRef} {h : Here} {p : Path} {gr : Group} (hc : h.grp.clearAt p p.next = true)
    (hf : gr.frames = h.grp.frames) (hh : gr.halt.req = false) :
    s.retired g h p gr = (s.issued g h).setGroup h.ctx g.core.val g.slot.val
      { gr with run := some { p with pc := p.next, retry := false } } :=
  putGroup_clear (p := { p with pc := p.next, retry := false }) rfl ((clearAt_congr hf rfl _).trans hc) hh

/-! What register and predicate writes leave of a group. -/

@[simp] theorem setReg_frame (g : Group) (r l : Nat) (v : Word) :
    (g.setReg r l v).run = g.run ∧ (g.setReg r l v).frames = g.frames ∧ (g.setReg r l v).halt = g.halt := by
  unfold Group.setReg; split <;> exact ⟨rfl, rfl, rfl⟩
@[simp] theorem setReg_run (g : Group) (r l : Nat) (v : Word) : (g.setReg r l v).run = g.run := (setReg_frame g r l v).1
@[simp] theorem setReg_frames (g : Group) (r l : Nat) (v : Word) : (g.setReg r l v).frames = g.frames := (setReg_frame g r l v).2.1
@[simp] theorem setReg_halt (g : Group) (r l : Nat) (v : Word) : (g.setReg r l v).halt = g.halt := (setReg_frame g r l v).2.2
@[simp] theorem setPred_run (g : Group) (p : Nat) (m v : Lanes) : (g.setPred p m v).run = g.run := by
  unfold Group.setPred; split <;> rfl
@[simp] theorem setPred_frames (g : Group) (p : Nat) (m v : Lanes) : (g.setPred p m v).frames = g.frames := by
  unfold Group.setPred; split <;> rfl
@[simp] theorem setPred_halt (g : Group) (p : Nat) (m v : Lanes) : (g.setPred p m v).halt = g.halt := by
  unfold Group.setPred; split <;> rfl

/-- A property that every step of a fold keeps. -/
theorem foldl_keeps {σ β : Type} {P : σ → Prop} (f : σ → β → σ) (l : List β) (s : σ) (h0 : P s) (hs : ∀ t b, P t → P (f t b)) :
    P (l.foldl f s) := by
  induction l generalizing s with
  | nil => exact h0
  | cons b r ih => exact ih _ (hs _ _ h0)

/-- A fold of writes that keep a part of a group keeps it. -/
theorem foldl_part {β γ : Type} (part : Group → γ) (f : Group → β → Group) (hf : ∀ g b, part (f g b) = part g) (l : List β)
    (g : Group) : part (l.foldl f g) = part g :=
  foldl_keeps (P := fun t => part t = part g) f l g rfl (fun t b h => (hf t b).trans h)

@[simp] theorem setRun_run (g : Group) (r n l v : Nat) : (g.setRun r n l v).run = g.run := foldl_part _ _ (by simp) _ _
@[simp] theorem setRun_frames (g : Group) (r n l v : Nat) : (g.setRun r n l v).frames = g.frames := foldl_part _ _ (by simp) _ _
@[simp] theorem setRun_halt (g : Group) (r n l v : Nat) : (g.setRun r n l v).halt = g.halt := foldl_part _ _ (by simp) _ _
@[simp] theorem setLanes_run (g : Group) (r : Nat) (m : Lanes) (f : Nat → Word) : (g.setLanes r m f).run = g.run :=
  foldl_part _ _ (by simp) _ _
@[simp] theorem setLanes_frames (g : Group) (r : Nat) (m : Lanes) (f : Nat → Word) : (g.setLanes r m f).frames = g.frames :=
  foldl_part _ _ (by simp) _ _
@[simp] theorem setLanes_halt (g : Group) (r : Nat) (m : Lanes) (f : Nat → Word) : (g.setLanes r m f).halt = g.halt :=
  foldl_part _ _ (by simp) _ _
@[simp] theorem setRuns_run (g : Group) (r n : Nat) (m : Lanes) (f : Nat → Nat) : (g.setRuns r n m f).run = g.run :=
  foldl_part _ _ (by simp) _ _
@[simp] theorem setRuns_frames (g : Group) (r n : Nat) (m : Lanes) (f : Nat → Nat) : (g.setRuns r n m f).frames = g.frames :=
  foldl_part _ _ (by simp) _ _
@[simp] theorem setRuns_halt (g : Group) (r n : Nat) (m : Lanes) (f : Nat → Nat) : (g.setRuns r n m f).halt = g.halt :=
  foldl_part _ _ (by simp) _ _

/-- A vector instruction: the lanes' results, and nothing else but the path's address. -/
theorem laneOp_runs {s : State} {g : GRef} {h : Here} {p : Path} (hI : s.Issues g h p) (w : IWord) (legal : Bool)
    (srcs : List (Nat × Nat)) (f : Group → Nat → Word) (hl : legal = true)
    (hr : regsOk ((w.rd.toNat, 1) :: srcs) h.grp = true) :
    laneOp g w s legal srcs f = .next (s.retired g h p (h.lanes p w (f h.seen))) := by
  obtain ⟨-, -, h3, -⟩ := issuer_spec hI
  unfold laneOp
  rw [issue_runs hI w _ _ (by simp only [hl, Bool.true_and]; exact hr)]
  rw [show (s.sees g h p w).act = h.active p w from rfl, show (s.sees g h p w).grp = h.seen from rfl]
  rw [retire_eq s g h p w (by simpa [Here.seen] using h3)]
  rfl

end Sys2Proof.Machine
end

