-- ==== Sys2Proof/Laws/Memory.lean ====
section
/-!
SUPPORT. Laws/Memory.lean: bytes of memory: a write is read back, leaves every other byte, and keeps the canonical form.
-/
namespace Sys2Proof.Machine

@[simp] theorem cellsWrite_wf (bs : List Byte) (m : List Host.Cell) (a : Nat) :
    Memory.wf m = true → Memory.wf (cellsWrite m a bs) = true := by
  induction bs generalizing m a with
  | nil => exact id
  | cons b r ih => exact fun h => ih _ _ (mapSet_wf _ m a b h)

@[simp] theorem cellsPut_wf (cs : List (Nat × Byte)) (m : List Host.Cell) :
    Memory.wf m = true → Memory.wf (cellsPut m cs) = true := by
  induction cs generalizing m with
  | nil => exact id
  | cons c r ih => exact fun h => ih _ (mapSet_wf _ m c.1 c.2 h)

/-- A byte outside the bytes written reads as before. -/
theorem cellsWrite_other (bs : List Byte) (m : List Host.Cell) (a x : Nat) (h : x < a ∨ a + bs.length ≤ x) :
    mapGet (0 : Byte) (cellsWrite m a bs) x = mapGet (0 : Byte) m x := by
  induction bs generalizing m a with
  | nil => rfl
  | cons b r ih =>
    simp only [List.length_cons] at h
    rw [cellsWrite, ih _ _ (by omega), mapGet_set_other _ _ _ _ _ (by omega)]

/-- A byte written reads as the value written. -/
theorem cellsWrite_same (bs : List Byte) (m : List Host.Cell) (a i : Nat) (h : i < bs.length) :
    mapGet (0 : Byte) (cellsWrite m a bs) (a + i) = bs[i] := by
  induction bs generalizing m a i with
  | nil => exact absurd h (by simp)
  | cons b r ih =>
    cases i with
    | zero => rw [cellsWrite, cellsWrite_other _ _ _ _ (by omega)]; simp
    | succ i =>
      have := ih (mapSet 0 m a b) (a + 1) i (by simpa using h)
      rw [cellsWrite, show a + (i + 1) = a + 1 + i by omega, this]; simp

/-- Bytes written are read back. -/
theorem cellsRead_write (bs : List Byte) (m : List Host.Cell) (a : Nat) : cellsRead (cellsWrite m a bs) a bs.length = bs := by
  apply List.ext_getElem
  · simp [cellsRead]
  · intro i h1 h2
    simp only [cellsRead, List.getElem_map, List.getElem_range]
    exact cellsWrite_same bs m a i h2

end Sys2Proof.Machine
end

