-- ==== Sys2Proof/Laws/PerInstr.lean ====
section
/-!
SUPPORT. Laws/PerInstr.lean: family GroupWord, one lemma per constructor of Instr: the opcode a group instruction encodes to is the one
Table 02.5 gives its command.
-/
namespace Sys2Proof.Laws.GroupWord

/-- The opcode of a group instruction and its fields name that instruction in Table 02.5. -/
def Statement (i : Instr) : Prop := ∀ d : GInstr, i.group = some d → ∃ f, (d.opc, f) ∈ opTable ∧ (f d.g d.w).withEcc d.ecc = i

theorem ofNone {i : Instr} (h : i.group = none) : Statement i := fun d e => by rw [h] at e; exact absurd e (by simp)
theorem ofSome {i : Instr} {d : GInstr} (f : GRef → IWord → Instr) (h : i.group = some d) (m : (d.opc, f) ∈ opTable) (e : (f d.g d.w).withEcc d.ecc = i) :
    Statement i := fun d' h' => by rw [h] at h'; cases h'; exact ⟨f, m, e⟩

theorem nop (g : GRef) (w : IWord) : Statement (.nop g w) := ofSome (.nop) rfl (by simp [opTable, opsControl, opsInteger, opsFp, opsConvert, opsMemory, opsMover, opsArray]) rfl
theorem bra (g : GRef) (w : IWord) : Statement (.bra g w) := ofSome (.bra) rfl (by simp [opTable, opsControl, opsInteger, opsFp, opsConvert, opsMemory, opsMover, opsArray]) rfl
theorem bri (g : GRef) (w : IWord) : Statement (.bri g w) := ofSome (.bri) rfl (by simp [opTable, opsControl, opsInteger, opsFp, opsConvert, opsMemory, opsMover, opsArray]) rfl
theorem call (g : GRef) (w : IWord) : Statement (.call g w) := ofSome (.call) rfl (by simp [opTable, opsControl, opsInteger, opsFp, opsConvert, opsMemory, opsMover, opsArray]) rfl
theorem ret (g : GRef) (w : IWord) : Statement (.ret g w) := ofSome (.ret) rfl (by simp [opTable, opsControl, opsInteger, opsFp, opsConvert, opsMemory, opsMover, opsArray]) rfl
theorem exit (g : GRef) (w : IWord) : Statement (.exit g w) := ofSome (.exit) rfl (by simp [opTable, opsControl, opsInteger, opsFp, opsConvert, opsMemory, opsMover, opsArray]) rfl
theorem yield (g : GRef) (w : IWord) : Statement (.yield g w) := ofSome (.yield) rfl (by simp [opTable, opsControl, opsInteger, opsFp, opsConvert, opsMemory, opsMover, opsArray]) rfl
theorem gsync (g : GRef) (w : IWord) : Statement (.gsync g w) := ofSome (.gsync) rfl (by simp [opTable, opsControl, opsInteger, opsFp, opsConvert, opsMemory, opsMover, opsArray]) rfl
theorem bkpt (g : GRef) (w : IWord) : Statement (.bkpt g w) := ofSome (.bkpt) rfl (by simp [opTable, opsControl, opsInteger, opsFp, opsConvert, opsMemory, opsMover, opsArray]) rfl
theorem srd (g : GRef) (w : IWord) : Statement (.srd g w) := ofSome (.srd) rfl (by simp [opTable, opsControl, opsInteger, opsFp, opsConvert, opsMemory, opsMover, opsArray]) rfl
theorem iadd (g : GRef) (w : IWord) : Statement (.iadd g w) := ofSome (.iadd) rfl (by simp [opTable, opsControl, opsInteger, opsFp, opsConvert, opsMemory, opsMover, opsArray]) rfl
theorem isub (g : GRef) (w : IWord) : Statement (.isub g w) := ofSome (.isub) rfl (by simp [opTable, opsControl, opsInteger, opsFp, opsConvert, opsMemory, opsMover, opsArray]) rfl
theorem imul (g : GRef) (w : IWord) : Statement (.imul g w) := ofSome (.imul) rfl (by simp [opTable, opsControl, opsInteger, opsFp, opsConvert, opsMemory, opsMover, opsArray]) rfl
theorem imla (g : GRef) (w : IWord) : Statement (.imla g w) := ofSome (.imla) rfl (by simp [opTable, opsControl, opsInteger, opsFp, opsConvert, opsMemory, opsMover, opsArray]) rfl
theorem imin (g : GRef) (w : IWord) : Statement (.imin g w) := ofSome (.imin) rfl (by simp [opTable, opsControl, opsInteger, opsFp, opsConvert, opsMemory, opsMover, opsArray]) rfl
theorem imax (g : GRef) (w : IWord) : Statement (.imax g w) := ofSome (.imax) rfl (by simp [opTable, opsControl, opsInteger, opsFp, opsConvert, opsMemory, opsMover, opsArray]) rfl
theorem and (g : GRef) (w : IWord) : Statement (.and g w) := ofSome (.and) rfl (by simp [opTable, opsControl, opsInteger, opsFp, opsConvert, opsMemory, opsMover, opsArray]) rfl
theorem or (g : GRef) (w : IWord) : Statement (.or g w) := ofSome (.or) rfl (by simp [opTable, opsControl, opsInteger, opsFp, opsConvert, opsMemory, opsMover, opsArray]) rfl
theorem xor (g : GRef) (w : IWord) : Statement (.xor g w) := ofSome (.xor) rfl (by simp [opTable, opsControl, opsInteger, opsFp, opsConvert, opsMemory, opsMover, opsArray]) rfl
theorem shl (g : GRef) (w : IWord) : Statement (.shl g w) := ofSome (.shl) rfl (by simp [opTable, opsControl, opsInteger, opsFp, opsConvert, opsMemory, opsMover, opsArray]) rfl
theorem shr (g : GRef) (w : IWord) : Statement (.shr g w) := ofSome (.shr) rfl (by simp [opTable, opsControl, opsInteger, opsFp, opsConvert, opsMemory, opsMover, opsArray]) rfl
theorem sar (g : GRef) (w : IWord) : Statement (.sar g w) := ofSome (.sar) rfl (by simp [opTable, opsControl, opsInteger, opsFp, opsConvert, opsMemory, opsMover, opsArray]) rfl
theorem bcnt (g : GRef) (w : IWord) : Statement (.bcnt g w) := ofSome (.bcnt) rfl (by simp [opTable, opsControl, opsInteger, opsFp, opsConvert, opsMemory, opsMover, opsArray]) rfl
theorem lzc (g : GRef) (w : IWord) : Statement (.lzc g w) := ofSome (.lzc) rfl (by simp [opTable, opsControl, opsInteger, opsFp, opsConvert, opsMemory, opsMover, opsArray]) rfl
theorem icmp (g : GRef) (w : IWord) : Statement (.icmp g w) := ofSome (.icmp) rfl (by simp [opTable, opsControl, opsInteger, opsFp, opsConvert, opsMemory, opsMover, opsArray]) rfl
theorem csel (g : GRef) (w : IWord) : Statement (.csel g w) := ofSome (.csel) rfl (by simp [opTable, opsControl, opsInteger, opsFp, opsConvert, opsMemory, opsMover, opsArray]) rfl
theorem fadd (g : GRef) (w : IWord) : Statement (.fadd g w) := ofSome (.fadd) rfl (by simp [opTable, opsControl, opsInteger, opsFp, opsConvert, opsMemory, opsMover, opsArray]) rfl
theorem fmul (g : GRef) (w : IWord) : Statement (.fmul g w) := ofSome (.fmul) rfl (by simp [opTable, opsControl, opsInteger, opsFp, opsConvert, opsMemory, opsMover, opsArray]) rfl
theorem fma (g : GRef) (w : IWord) : Statement (.fma g w) := ofSome (.fma) rfl (by simp [opTable, opsControl, opsInteger, opsFp, opsConvert, opsMemory, opsMover, opsArray]) rfl
theorem fmin (g : GRef) (w : IWord) : Statement (.fmin g w) := ofSome (.fmin) rfl (by simp [opTable, opsControl, opsInteger, opsFp, opsConvert, opsMemory, opsMover, opsArray]) rfl
theorem fmax (g : GRef) (w : IWord) : Statement (.fmax g w) := ofSome (.fmax) rfl (by simp [opTable, opsControl, opsInteger, opsFp, opsConvert, opsMemory, opsMover, opsArray]) rfl
theorem fcmp (g : GRef) (w : IWord) : Statement (.fcmp g w) := ofSome (.fcmp) rfl (by simp [opTable, opsControl, opsInteger, opsFp, opsConvert, opsMemory, opsMover, opsArray]) rfl
theorem rcp (g : GRef) (w : IWord) : Statement (.rcp g w) := ofSome (.rcp) rfl (by simp [opTable, opsControl, opsInteger, opsFp, opsConvert, opsMemory, opsMover, opsArray]) rfl
theorem rsqrt (g : GRef) (w : IWord) : Statement (.rsqrt g w) := ofSome (.rsqrt) rfl (by simp [opTable, opsControl, opsInteger, opsFp, opsConvert, opsMemory, opsMover, opsArray]) rfl
theorem exp2 (g : GRef) (w : IWord) : Statement (.exp2 g w) := ofSome (.exp2) rfl (by simp [opTable, opsControl, opsInteger, opsFp, opsConvert, opsMemory, opsMover, opsArray]) rfl
theorem log2 (g : GRef) (w : IWord) : Statement (.log2 g w) := ofSome (.log2) rfl (by simp [opTable, opsControl, opsInteger, opsFp, opsConvert, opsMemory, opsMover, opsArray]) rfl
theorem cvt (g : GRef) (w : IWord) : Statement (.cvt g w) := ofSome (.cvt) rfl (by simp [opTable, opsControl, opsInteger, opsFp, opsConvert, opsMemory, opsMover, opsArray]) rfl
theorem pfmaH (g : GRef) (w : IWord) : Statement (.pfmaH g w) := ofSome (.pfmaH) rfl (by simp [opTable, opsControl, opsInteger, opsFp, opsConvert, opsMemory, opsMover, opsArray]) rfl
theorem pfmaB (g : GRef) (w : IWord) : Statement (.pfmaB g w) := ofSome (.pfmaB) rfl (by simp [opTable, opsControl, opsInteger, opsFp, opsConvert, opsMemory, opsMover, opsArray]) rfl
theorem lxch (g : GRef) (w : IWord) : Statement (.lxch g w) := ofSome (.lxch) rfl (by simp [opTable, opsControl, opsInteger, opsFp, opsConvert, opsMemory, opsMover, opsArray]) rfl
theorem lvote (g : GRef) (w : IWord) : Statement (.lvote g w) := ofSome (.lvote) rfl (by simp [opTable, opsControl, opsInteger, opsFp, opsConvert, opsMemory, opsMover, opsArray]) rfl
theorem bsel (g : GRef) (w : IWord) : Statement (.bsel g w) := ofSome (.bsel) rfl (by simp [opTable, opsControl, opsInteger, opsFp, opsConvert, opsMemory, opsMover, opsArray]) rfl
theorem ld (g : GRef) (w : IWord) (ecc : Ecc) : Statement (.ld g w ecc) := ofSome (fun g w => .ld g w {}) rfl (by simp [opTable, opsControl, opsInteger, opsFp, opsConvert, opsMemory, opsMover, opsArray]) rfl
theorem st (g : GRef) (w : IWord) (ecc : Ecc) : Statement (.st g w ecc) := ofSome (fun g w => .st g w {}) rfl (by simp [opTable, opsControl, opsInteger, opsFp, opsConvert, opsMemory, opsMover, opsArray]) rfl
theorem atom (g : GRef) (w : IWord) : Statement (.atom g w) := ofSome (.atom) rfl (by simp [opTable, opsControl, opsInteger, opsFp, opsConvert, opsMemory, opsMover, opsArray]) rfl
theorem red (g : GRef) (w : IWord) : Statement (.red g w) := ofSome (.red) rfl (by simp [opTable, opsControl, opsInteger, opsFp, opsConvert, opsMemory, opsMover, opsArray]) rfl
theorem fence (g : GRef) (w : IWord) : Statement (.fence g w) := ofSome (.fence) rfl (by simp [opTable, opsControl, opsInteger, opsFp, opsConvert, opsMemory, opsMover, opsArray]) rfl
theorem ldAcq (g : GRef) (w : IWord) : Statement (.ldAcq g w) := ofSome (.ldAcq) rfl (by simp [opTable, opsControl, opsInteger, opsFp, opsConvert, opsMemory, opsMover, opsArray]) rfl
theorem stRel (g : GRef) (w : IWord) : Statement (.stRel g w) := ofSome (.stRel) rfl (by simp [opTable, opsControl, opsInteger, opsFp, opsConvert, opsMemory, opsMover, opsArray]) rfl
theorem storeFlag (g : GRef) (w : IWord) : Statement (.storeFlag g w) := ofSome (.storeFlag) rfl (by simp [opTable, opsControl, opsInteger, opsFp, opsConvert, opsMemory, opsMover, opsArray]) rfl
theorem lockAcq (g : GRef) (w : IWord) : Statement (.lockAcq g w) := ofSome (.lockAcq) rfl (by simp [opTable, opsControl, opsInteger, opsFp, opsConvert, opsMemory, opsMover, opsArray]) rfl
theorem lockRel (g : GRef) (w : IWord) : Statement (.lockRel g w) := ofSome (.lockRel) rfl (by simp [opTable, opsControl, opsInteger, opsFp, opsConvert, opsMemory, opsMover, opsArray]) rfl
theorem tmCopy (g : GRef) (w : IWord) : Statement (.tmCopy g w) := ofSome (.tmCopy) rfl (by simp [opTable, opsControl, opsInteger, opsFp, opsConvert, opsMemory, opsMover, opsArray]) rfl
theorem tmGather (g : GRef) (w : IWord) : Statement (.tmGather g w) := ofSome (.tmGather) rfl (by simp [opTable, opsControl, opsInteger, opsFp, opsConvert, opsMemory, opsMover, opsArray]) rfl
theorem tmScatter (g : GRef) (w : IWord) : Statement (.tmScatter g w) := ofSome (.tmScatter) rfl (by simp [opTable, opsControl, opsInteger, opsFp, opsConvert, opsMemory, opsMover, opsArray]) rfl
theorem tmFill (g : GRef) (w : IWord) : Statement (.tmFill g w) := ofSome (.tmFill) rfl (by simp [opTable, opsControl, opsInteger, opsFp, opsConvert, opsMemory, opsMover, opsArray]) rfl
theorem tmWait (g : GRef) (w : IWord) : Statement (.tmWait g w) := ofSome (.tmWait) rfl (by simp [opTable, opsControl, opsInteger, opsFp, opsConvert, opsMemory, opsMover, opsArray]) rfl
theorem tmPoll (g : GRef) (w : IWord) : Statement (.tmPoll g w) := ofSome (.tmPoll) rfl (by simp [opTable, opsControl, opsInteger, opsFp, opsConvert, opsMemory, opsMover, opsArray]) rfl
theorem mxaAsync (g : GRef) (w : IWord) : Statement (.mxaAsync g w) := ofSome (.mxaAsync) rfl (by simp [opTable, opsControl, opsInteger, opsFp, opsConvert, opsMemory, opsMover, opsArray]) rfl
theorem mxaWait (g : GRef) (w : IWord) : Statement (.mxaWait g w) := ofSome (.mxaWait) rfl (by simp [opTable, opsControl, opsInteger, opsFp, opsConvert, opsMemory, opsMover, opsArray]) rfl
theorem mxaPoll (g : GRef) (w : IWord) : Statement (.mxaPoll g w) := ofSome (.mxaPoll) rfl (by simp [opTable, opsControl, opsInteger, opsFp, opsConvert, opsMemory, opsMover, opsArray]) rfl
theorem mxaCmpr (g : GRef) (w : IWord) : Statement (.mxaCmpr g w) := ofSome (.mxaCmpr) rfl (by simp [opTable, opsControl, opsInteger, opsFp, opsConvert, opsMemory, opsMover, opsArray]) rfl
theorem rwnDrain (g : GRef) (w : IWord) : Statement (.rwnDrain g w) := ofSome (.rwnDrain) rfl (by simp [opTable, opsControl, opsInteger, opsFp, opsConvert, opsMemory, opsMover, opsArray]) rfl
theorem groupStart (core : Fin 576) : Statement (.groupStart core) := ofNone rfl
theorem accessResponse (req : Nat) : Statement (.accessResponse req) := ofNone rfl
theorem lockBackoffExpiry (g : GRef) : Statement (.lockBackoffExpiry g) := ofNone rfl
theorem groupWatchdogExpiry (g : GRef) : Statement (.groupWatchdogExpiry g) := ofNone rfl
theorem tmResponse (core : Fin 576) (xfer : Nat) : Statement (.tmResponse core xfer) := ofNone rfl
theorem tmTokenComplete (core : Fin 576) (xfer : Nat) : Statement (.tmTokenComplete core xfer) := ofNone rfl
theorem runaheadPrefetch (core : Fin 576) (xfer block : Nat) : Statement (.runaheadPrefetch core xfer block) := ofNone rfl
theorem streamPrefetch (g : GRef) (line : Nat) : Statement (.streamPrefetch g line) := ofNone rfl
theorem dbgHalt (c : Cls) : Statement (.dbgHalt c) := ofNone rfl
theorem dbgResume (c : Cls) : Statement (.dbgResume c) := ofNone rfl
theorem dbgStep (c : Cls) : Statement (.dbgStep c) := ofNone rfl
theorem groupHalt (g : GRef) : Statement (.groupHalt g) := ofNone rfl
theorem dbgAuth (c : Cls) (tok : Token) : Statement (.dbgAuth c tok) := ofNone rfl
theorem dbgDataRead (c : Cls) : Statement (.dbgDataRead c) := ofNone rfl
theorem dbgDataWrite (c : Cls) (data : List Byte) : Statement (.dbgDataWrite c data) := ofNone rfl
theorem breakpointWrite (c : Cls) (sub : Nat) (value : BitVec 64) : Statement (.breakpointWrite c sub value) := ofNone rfl
theorem mxaQueueAdmit (g : GRef) : Statement (.mxaQueueAdmit g) := ofNone rfl
theorem mxaOpStart (core : Fin 576) : Statement (.mxaOpStart core) := ofNone rfl
theorem mxaOpComplete (core : Fin 576) : Statement (.mxaOpComplete core) := ofNone rfl
theorem specCheckTile (core : Fin 576) : Statement (.specCheckTile core) := ofNone rfl
theorem srSeed (c : Cls) (ctx : Fin 4097) (seed : Word) : Statement (.srSeed c ctx seed) := ofNone rfl
theorem replayEntryStart (ctx : Fin 4097) (ring : Fin 8) : Statement (.replayEntryStart ctx ring) := ofNone rfl
theorem alderChunk (engine : Fin 16) : Statement (.alderChunk engine) := ofNone rfl
theorem hbmBankService (stack : Fin 16) (ch : Fin 32) (pc : Fin 2) (bank : Nat) : Statement (.hbmBankService stack ch pc bank) := ofNone rfl
theorem nearBankService (die : Fin 8) (group : Fin 16) (ecc : Ecc) : Statement (.nearBankService die group ecc) := ofNone rfl
theorem atomicUnitOp (unit : Fin 144) : Statement (.atomicUnitOp unit) := ofNone rfl
theorem atomicBlockWriteback (unit : Fin 144) (block : Nat) : Statement (.atomicBlockWriteback unit block) := ofNone rfl
theorem scrubRead (stack : Fin 16) (ch : Fin 32) (pc : Fin 2) : Statement (.scrubRead stack ch pc) := ofNone rfl
theorem hbmRefresh (stack : Fin 16) (ch : Fin 32) (pc : Fin 2) (bank : Nat) : Statement (.hbmRefresh stack ch pc bank) := ofNone rfl
theorem stackTempRead (stack : Fin 16) (temp : Int) : Statement (.stackTempRead stack temp) := ofNone rfl
theorem ondieEccPoll (stack : Fin 16) (count : Nat) : Statement (.ondieEccPoll stack count) := ofNone rfl
theorem caParityError (stack : Fin 16) (ch : Fin 32) : Statement (.caParityError stack ch) := ofNone rfl
theorem channelMapout : Statement (.channelMapout) := ofNone rfl
theorem releaseApply (rel : Nat) : Statement (.releaseApply rel) := ofNone rfl
theorem dataFlit (port : Fin 18) (flit : BitVec 2048) (fecOk : Bool) : Statement (.dataFlit port flit fecOk) := ofNone rfl
theorem initFlit (port : Fin 18) (flit : BitVec 2048) (fecOk : Bool) : Statement (.initFlit port flit fecOk) := ofNone rfl
theorem keyxFlit (port : Fin 18) (flit : BitVec 2048) (fecOk : Bool) : Statement (.keyxFlit port flit fecOk) := ofNone rfl
theorem nullFlit (port : Fin 18) (flit : BitVec 2048) (fecOk : Bool) : Statement (.nullFlit port flit fecOk) := ofNone rfl
theorem flitSend (port : Fin 18) : Statement (.flitSend port) := ofNone rfl
theorem ackTimerExpiry (port : Fin 18) : Statement (.ackTimerExpiry port) := ofNone rfl
theorem rxSilenceExpiry (port : Fin 18) : Statement (.rxSilenceExpiry port) := ofNone rfl
theorem laneSignalLoss (port : Fin 18) (lane : Fin 8) : Statement (.laneSignalLoss port lane) := ofNone rfl
theorem retrainIntervalExpiry (port : Fin 18) : Statement (.retrainIntervalExpiry port) := ofNone rfl
theorem pmdTrainingDone (port : Fin 18) : Statement (.pmdTrainingDone port) := ofNone rfl
theorem bringupStepTimeout (port : Fin 18) : Statement (.bringupStepTimeout port) := ofNone rfl
theorem initResend (port : Fin 18) : Statement (.initResend port) := ofNone rfl
theorem hello (port : Fin 18) : Statement (.hello port) := ofNone rfl
theorem cert (port : Fin 18) : Statement (.cert port) := ofNone rfl
theorem finish (port : Fin 18) : Statement (.finish port) := ofNone rfl
theorem keyxResend (port : Fin 18) : Statement (.keyxResend port) := ofNone rfl
theorem rekeyStart (port : Fin 18) : Statement (.rekeyStart port) := ofNone rfl
theorem rekeyNow (c : Cls) (ports : Word) : Statement (.rekeyNow c ports) := ofNone rfl
theorem rekeyTimeout (port : Fin 18) : Statement (.rekeyTimeout port) := ofNone rfl
theorem portCtrl (c : Cls) (port : Fin 18) (value : Word) : Statement (.portCtrl c port value) := ofNone rfl
theorem routeMode (c : Cls) (value : Nat) : Statement (.routeMode c value) := ofNone rfl
theorem routeD (c : Cls) (dev : Fin 64) (ports : Word) : Statement (.routeD c dev ports) := ofNone rfl
theorem flowMove (sidx : Nat) (dev : Fin 64) : Statement (.flowMove sidx dev) := ofNone rfl
theorem ctxkeyOffer (port : Fin 18) (ctx : Fin 4096) (check : BitVec 128) : Statement (.ctxkeyOffer port ctx check) := ofNone rfl
theorem pktRd (port : Fin 18) : Statement (.pktRd port) := ofNone rfl
theorem pktWr (port : Fin 18) : Statement (.pktWr port) := ofNone rfl
theorem pktWrm (port : Fin 18) : Statement (.pktWrm port) := ofNone rfl
theorem pktAtom (port : Fin 18) : Statement (.pktAtom port) := ofNone rfl
theorem pktRed (port : Fin 18) : Statement (.pktRed port) := ofNone rfl
theorem pktFlag (port : Fin 18) : Statement (.pktFlag port) := ofNone rfl
theorem pktRdr (port : Fin 18) : Statement (.pktRdr port) := ofNone rfl
theorem pktAck (port : Fin 18) : Statement (.pktAck port) := ofNone rfl
theorem pktAtr (port : Fin 18) : Statement (.pktAtr port) := ofNone rfl
theorem pktHold (port : Fin 18) : Statement (.pktHold port) := ofNone rfl
theorem requestAccept (port : Fin 18) : Statement (.requestAccept port) := ofNone rfl
theorem remoteDeadlineExpiry (req : Nat) : Statement (.remoteDeadlineExpiry req) := ofNone rfl
theorem holdTimer (port : Fin 18) (dev : Fin 64) : Statement (.holdTimer port dev) := ofNone rfl
theorem reqTimeoutExpiry (req : Nat) : Statement (.reqTimeoutExpiry req) := ofNone rfl
theorem gwFlushExpiry (gw : Fin 4) (stream : Nat) : Statement (.gwFlushExpiry gw stream) := ofNone rfl
theorem larchWrite (gw : Fin 4) (d : LarchDgram) : Statement (.larchWrite gw d) := ofNone rfl
theorem larchRead (gw : Fin 4) (d : LarchDgram) : Statement (.larchRead gw d) := ofNone rfl
theorem larchReadData (gw : Fin 4) (d : LarchDgram) : Statement (.larchReadData gw d) := ofNone rfl
theorem larchComplete (gw : Fin 4) (d : LarchDgram) : Statement (.larchComplete gw d) := ofNone rfl
theorem gwRetryExpiry (gw : Fin 4) (stream seq : Nat) : Statement (.gwRetryExpiry gw stream seq) := ofNone rfl
theorem exchangeRendezvous (ctx : Fin 4097) : Statement (.exchangeRendezvous ctx) := ofNone rfl
theorem exchangeBucket (ctx : Fin 4097) (gather : Bool) : Statement (.exchangeBucket ctx gather) := ofNone rfl
theorem exchangeMessage (ctx : Fin 4097) (bucket sender : Nat) (gather : Bool) : Statement (.exchangeMessage ctx bucket sender gather) := ofNone rfl
theorem exchangeAbort (ctx : Fin 4097) (member : Fin 64) : Statement (.exchangeAbort ctx member) := ofNone rfl
theorem sqCtrl (ctx : Fin 4097) (ring : Fin 8) (value : Word) : Statement (.sqCtrl ctx ring value) := ofNone rfl
theorem cqCtrl (ctx : Fin 4097) (value : CqWrite) : Statement (.cqCtrl ctx value) := ofNone rfl
theorem sqBase (ctx : Fin 4097) (ring : Fin 8) (value : BitVec 64) : Statement (.sqBase ctx ring value) := ofNone rfl
theorem cqBase (ctx : Fin 4097) (value : BitVec 64) : Statement (.cqBase ctx value) := ofNone rfl
theorem sqTail (ctx : Fin 4097) (ring : Fin 8) (value : Word) : Statement (.sqTail ctx ring value) := ofNone rfl
theorem cqHead (ctx : Fin 4097) (value : Word) : Statement (.cqHead ctx value) := ofNone rfl
theorem commandFetch (ctx : Fin 4097) (ring : Fin 8) (hostEntry : BitVec 512) : Statement (.commandFetch ctx ring hostEntry) := ofNone rfl
theorem cqIrqTimer (ctx : Fin 4097) : Statement (.cqIrqTimer ctx) := ofNone rfl
theorem cmdNop (ctx : Fin 4097) (ring : Fin 8) : Statement (.cmdNop ctx ring) := ofNone rfl
theorem cmdFence (ctx : Fin 4097) (ring : Fin 8) : Statement (.cmdFence ctx ring) := ofNone rfl
theorem signal (ctx : Fin 4097) (ring : Fin 8) : Statement (.signal ctx ring) := ofNone rfl
theorem wait (ctx : Fin 4097) (ring : Fin 8) : Statement (.wait ctx ring) := ofNone rfl
theorem waitPoll (ctx : Fin 4097) (ring : Fin 8) : Statement (.waitPoll ctx ring) := ofNone rfl
theorem launch (ctx : Fin 4097) (ring : Fin 8) : Statement (.launch ctx ring) := ofNone rfl
theorem launchStart (ctx : Fin 4097) (ring : Fin 8) : Statement (.launchStart ctx ring) := ofNone rfl
theorem codeMeasure (ctx : Fin 4097) (ring : Fin 8) : Statement (.codeMeasure ctx ring) := ofNone rfl
theorem launchComplete (ctx : Fin 4097) (ring : Fin 8) : Statement (.launchComplete ctx ring) := ofNone rfl
theorem launchTeardown (ctx : Fin 4097) (ring : Fin 8) : Statement (.launchTeardown ctx ring) := ofNone rfl
theorem copy (ctx : Fin 4097) (ring : Fin 8) : Statement (.copy ctx ring) := ofNone rfl
theorem fill (ctx : Fin 4097) (ring : Fin 8) : Statement (.fill ctx ring) := ofNone rfl
theorem gather (ctx : Fin 4097) (ring : Fin 8) : Statement (.gather ctx ring) := ofNone rfl
theorem map (ctx : Fin 4097) (ring : Fin 8) : Statement (.map ctx ring) := ofNone rfl
theorem unmap (ctx : Fin 4097) (ring : Fin 8) : Statement (.unmap ctx ring) := ofNone rfl
theorem accept (ctx : Fin 4097) (ring : Fin 8) : Statement (.accept ctx ring) := ofNone rfl
theorem exchange (ctx : Fin 4097) (ring : Fin 8) : Statement (.exchange ctx ring) := ofNone rfl
theorem optStep (ctx : Fin 4097) (ring : Fin 8) : Statement (.optStep ctx ring) := ofNone rfl
theorem hint (ctx : Fin 4097) (ring : Fin 8) : Statement (.hint ctx ring) := ofNone rfl
theorem snapshot (ctx : Fin 4097) (ring : Fin 8) : Statement (.snapshot ctx ring) := ofNone rfl
theorem attest (ctx : Fin 4097) (ring : Fin 8) : Statement (.attest ctx ring) := ofNone rfl
theorem queryEntry (ctx : Fin 4097) (ring : Fin 8) : Statement (.queryEntry ctx ring) := ofNone rfl
theorem queryTranslation (ctx : Fin 4097) (ring : Fin 8) : Statement (.queryTranslation ctx ring) := ofNone rfl
theorem queryOwnership (ctx : Fin 4097) (ring : Fin 8) : Statement (.queryOwnership ctx ring) := ofNone rfl
theorem ctxCreate (ctx : Fin 4097) (ring : Fin 8) : Statement (.ctxCreate ctx ring) := ofNone rfl
theorem ctxDestroy (ctx : Fin 4097) (ring : Fin 8) : Statement (.ctxDestroy ctx ring) := ofNone rfl
theorem ctxSuspend (ctx : Fin 4097) (ring : Fin 8) : Statement (.ctxSuspend ctx ring) := ofNone rfl
theorem ctxResume (ctx : Fin 4097) (ring : Fin 8) : Statement (.ctxResume ctx ring) := ofNone rfl
theorem coreFence (ctx : Fin 4097) (ring : Fin 8) : Statement (.coreFence ctx ring) := ofNone rfl
theorem kernelDeadlineExpiry (ctx : Fin 4097) (ring : Fin 8) : Statement (.kernelDeadlineExpiry ctx ring) := ofNone rfl
theorem commandTimeoutExpiry (ctx : Fin 4097) (ring : Fin 8) : Statement (.commandTimeoutExpiry ctx ring) := ofNone rfl
theorem quiesceTimeoutExpiry (ctx : Fin 4097) : Statement (.quiesceTimeoutExpiry ctx) := ofNone rfl
theorem groveReset (grove : Fin 72) (failed : List (Fin 576)) : Statement (.groveReset grove failed) := ofNone rfl
theorem flr (vf : Fin 4096) : Statement (.flr vf) := ofNone rfl
theorem sliceEnd (grove0 : Fin 72) : Statement (.sliceEnd grove0) := ofNone rfl
theorem switchJobComplete (grove0 : Fin 72) (die : Fin 8) : Statement (.switchJobComplete grove0 die) := ofNone rfl
theorem granuleScrub (granule : Nat) : Statement (.granuleScrub granule) := ofNone rfl
theorem ctxSecret (c : Cls) (ctx : Fin 4096) (value : List Byte) : Statement (.ctxSecret c ctx value) := ofNone rfl
theorem ctxPrivate (c : Cls) (ctx : Fin 4096) (value : Nat) : Statement (.ctxPrivate c ctx value) := ofNone rfl
theorem gwBind (c : Cls) (ctx : Fin 4096) (n : Fin 4) (value : BitVec 64) : Statement (.gwBind c ctx n value) := ofNone rfl
theorem spdmRequest (offersSuite : Bool) (request : List Byte) : Statement (.spdmRequest offersSuite request) := ofNone rfl
theorem lockInterface (vf : Fin 4096) (stream : Nat) : Statement (.lockInterface vf stream) := ofNone rfl
theorem startInterface (vf : Fin 4096) : Statement (.startInterface vf) := ofNone rfl
theorem stopInterface (vf : Fin 4096) : Statement (.stopInterface vf) := ofNone rfl
theorem tdiError (vf : Fin 4096) : Statement (.tdiError vf) := ofNone rfl
theorem tokenChallengeRead (c : Cls) : Statement (.tokenChallengeRead c) := ofNone rfl
theorem authKey (c : Cls) (key : BitVec 776) (tok : Option Token) : Statement (.authKey c key tok) := ofNone rfl
theorem mapoutClear (c : Cls) (tok : Token) : Statement (.mapoutClear c tok) := ofNone rfl
theorem fenceMapWrite (c : Cls) (value : BitVec 640) (tok : Option Token) : Statement (.fenceMapWrite c value tok) := ofNone rfl
theorem neighborSolicitation (target : BitVec 128) : Statement (.neighborSolicitation target) := ofNone rfl
theorem duplicateAddressDetection (inUse : Bool) : Statement (.duplicateAddressDetection inUse) := ofNone rfl
theorem openSession (d : Dgram) : Statement (.openSession d) := ofNone rfl
theorem confirm (d : Dgram) : Statement (.confirm d) := ofNone rfl
theorem confirmTimeout (session : Nat) : Statement (.confirmTimeout session) := ofNone rfl
theorem read (d : Dgram) : Statement (.read d) := ofNone rfl
theorem write (d : Dgram) : Statement (.write d) := ofNone rfl
theorem keepalive (d : Dgram) : Statement (.keepalive d) := ofNone rfl
theorem close (d : Dgram) : Statement (.close d) := ofNone rfl
theorem segmentTimeout (session seq : Nat) : Statement (.segmentTimeout session seq) := ofNone rfl
theorem sessionIdleExpiry (session : Nat) : Statement (.sessionIdleExpiry session) := ofNone rfl
theorem mailboxRead (ctx : Fin 4097) (entry : Word) : Statement (.mailboxRead ctx entry) := ofNone rfl
theorem mailboxWrite (ctx : Fin 4097) (entry : Word) (data : List Byte) (tok : Option Token) : Statement (.mailboxWrite ctx entry data tok) := ofNone rfl
theorem entryWrite (c : Cls) (key : Nat) (data : List Byte) (tok : Option Token) : Statement (.entryWrite c key data tok) := ofNone rfl
theorem counterClear (c : Cls) (key : Nat) (data : List Byte) : Statement (.counterClear c key data) := ofNone rfl
theorem snapIndex (c : Cls) (index : Nat) : Statement (.snapIndex c index) := ofNone rfl
theorem journalCommit : Statement (.journalCommit) := ofNone rfl
theorem journalWriteTimeout : Statement (.journalWriteTimeout) := ofNone rfl
theorem compactNow (c : Cls) (value : Nat) : Statement (.compactNow c value) := ofNone rfl
theorem compaction : Statement (.compaction) := ofNone rfl
theorem journalAreaErase : Statement (.journalAreaErase) := ofNone rfl
theorem opTimeJournal : Statement (.opTimeJournal) := ofNone rfl
theorem pkgOffset (c : Cls) (value : Nat) : Statement (.pkgOffset c value) := ofNone rfl
theorem pkgData (c : Cls) (data : List Byte) : Statement (.pkgData c data) := ofNone rfl
theorem packageActivate (c : Cls) (tok : Token) : Statement (.packageActivate c tok) := ofNone rfl
theorem gradeRestore (c : Cls) (tok : Token) : Statement (.gradeRestore c tok) := ofNone rfl
theorem rootStep (die : Fin 8) : Statement (.rootStep die) := ofNone rfl
theorem avsAck (die : Fin 8) : Statement (.avsAck die) := ofNone rfl
theorem avsTimeout (die : Fin 8) : Statement (.avsTimeout die) := ofNone rfl
theorem avsTelemetryRead (die : Fin 8) (milliWatt milliVolt : Nat) (valid : Bool) : Statement (.avsTelemetryRead die milliWatt milliVolt valid) := ofNone rfl
theorem pmbusTelemetryRead (rail : Fin 40) (milliWatt milliVolt : Nat) (valid : Bool) : Statement (.pmbusTelemetryRead rail milliWatt milliVolt valid) := ofNone rfl
theorem telemetryStale (rail : Fin 40) : Statement (.telemetryStale rail) := ofNone rfl
theorem capLoop : Statement (.capLoop) := ofNone rfl
theorem capEn (c : Cls) (value : Nat) : Statement (.capEn c value) := ofNone rfl
theorem powerCap (c : Cls) (value : Nat) : Statement (.powerCap c value) := ofNone rfl
theorem capGuard (c : Cls) (value : Nat) : Statement (.capGuard c value) := ofNone rfl
theorem hintExpiry (die : Fin 8) : Statement (.hintExpiry die) := ofNone rfl
theorem fillerHoldExpiry (die : Fin 8) : Statement (.fillerHoldExpiry die) := ofNone rfl
theorem droopCrossing (die : Fin 8) (detector : Fin 16) : Statement (.droopCrossing die detector) := ofNone rfl
theorem droopRelease (die : Fin 8) : Statement (.droopRelease die) := ofNone rfl
theorem stepFreezeEnd (die : Fin 8) : Statement (.stepFreezeEnd die) := ofNone rfl
theorem pewterSample (die : Fin 8) (sixteenths : Nat) : Statement (.pewterSample die sixteenths) := ofNone rfl
theorem governorWindow (die : Fin 8) : Statement (.governorWindow die) := ofNone rfl
theorem supplyWarning (rail : Fin 40) (milliVolt : Nat) : Statement (.supplyWarning rail milliVolt) := ofNone rfl
theorem warningCleared : Statement (.warningCleared) := ofNone rfl
theorem powerFailure (rail : Fin 40) : Statement (.powerFailure rail) := ofNone rfl
theorem railResetLevel (rail : Fin 40) : Statement (.railResetLevel rail) := ofNone rfl
theorem dieRejoin (die : Fin 8) (heart : Nat) : Statement (.dieRejoin die heart) := ofNone rfl
theorem junctionSensorRead (sensor : Sensor) (temp : Int) : Statement (.junctionSensorRead sensor temp) := ofNone rfl
theorem heartwoodReplan (heart : List Nat) : Statement (.heartwoodReplan heart) := ofNone rfl
theorem replanNow (c : Cls) (value : Nat) (heart : List Nat) : Statement (.replanNow c value heart) := ofNone rfl
theorem domainWake (dom : Fin 911) : Statement (.domainWake dom) := ofNone rfl
theorem domainIdleOff (dom : Fin 911) : Statement (.domainIdleOff dom) := ofNone rfl
theorem selftestRun (core : Fin 640) (vector : Fin 8) (failing : BitVec 16) : Statement (.selftestRun core vector failing) := ofNone rfl
theorem selftestForced (core : Fin 640) (vector : Fin 8) (failing : BitVec 16) : Statement (.selftestForced core vector failing) := ofNone rfl
theorem alarmHoldRelease (key : Nat) : Statement (.alarmHoldRelease key) := ofNone rfl
theorem alarmDispatch : Statement (.alarmDispatch) := ofNone rfl
theorem yewProgram : Statement (.yewProgram) := ofNone rfl
theorem yewClear (c : Cls) (tok : Token) : Statement (.yewClear c tok) := ofNone rfl
theorem yewSectorErase : Statement (.yewSectorErase) := ofNone rfl
theorem perstAssert : Statement (.perstAssert) := ofNone rfl
theorem perstRelease (r : StartReport) : Statement (.perstRelease r) := ofNone rfl
theorem railCrossing (rail : Fin 40) (what : Crossing) : Statement (.railCrossing rail what) := ofNone rfl
theorem refclkLoss : Statement (.refclkLoss) := ofNone rfl
theorem pcieHotReset : Statement (.pcieHotReset) := ofNone rfl
theorem configRequest (function : Fin 4097) (busMaster : Option Bool) : Statement (.configRequest function busMaster) := ofNone rfl
theorem tapInstruction (op : TapOp) : Statement (.tapInstruction op) := ofNone rfl
theorem powerFailureRecovery : Statement (.powerFailureRecovery) := ofNone rfl
theorem portDisableWaitExpiry (port : Fin 18) : Statement (.portDisableWaitExpiry port) := ofNone rfl

end Sys2Proof.Laws.GroupWord
end

