-- ==== Sys2Proof/WellFormed.lean ====
section
/-!
DEFINITION. WellFormed.lean: the shape a command must have for its arguments to be ones the DT9 could receive. The meanings do not
rely on it: an ill-formed command has the meaning its definition gives.
-/
namespace Sys2Proof

/-- A tenant requester names one of the 4,096 tenant contexts (R355). -/
def Cls.wf : Cls → Bool
  | .t c => decide (c < 4096)
  | _ => true

/-- Sensor values and temperatures are signed bytes. -/
def tempOk (t : Int) : Bool := decide (-128 ≤ t ∧ t ≤ 127)

/-- A received datagram's fields fit their widths (Table 15.1). -/
def Dgram.wf (d : Dgram) : Bool :=
  decide (d.ver < 256) && decide (d.typ < 256) && decide (d.seg < 256) && decide (d.segs < 256) && decide (d.len < 65536) &&
  decide (d.session < 2 ^ 32) && decide (d.seq < 2 ^ 32) && decide (d.payload.length ≤ 1400)

/-- Checks of the table's commands. -/
def Instr.wf : Instr → Bool
  | .dbgHalt c => c.wf
  | .dbgResume c => c.wf
  | .dbgStep c => c.wf
  | .dbgAuth c _ => c.wf
  | .dbgDataRead c => c.wf
  | .dbgDataWrite c d => c.wf && decide (d.length = 128)
  | .breakpointWrite c sub _ => c.wf && decide (1 ≤ sub ∧ sub ≤ 0x18)
  | .srSeed c _ _ => c.wf
  | .stackTempRead _ t => tempOk t
  | .hbmBankService _ _ _ b => decide (b < 64)
  | .hbmRefresh _ _ _ b => decide (b < 64)
  | .ctxSecret c _ v => c.wf && decide (v.length = 160)
  | .mailboxWrite _ _ d _ => decide (d.length ≤ 4096)
  | .entryWrite c k d _ => c.wf && decide (k < 2 ^ 24) && decide (d.length ≤ 4096)
  | .counterClear c k _ => c.wf && decide (k < 2 ^ 24)
  | .pkgData c d => c.wf && decide (d.length = 1024)
  | .junctionSensorRead _ t => tempOk t
  | .pewterSample _ n => decide (n ≤ 1152)
  | .perstRelease r => r.training.banksLog2.all (fun b => decide (2 ≤ b ∧ b ≤ 6)) && decide (r.training.banksLog2.length ≤ 16) &&
      r.training.faults.all (fun f => decide (f.1 < 512)) && r.training.caFaults.all (fun k => decide (k < 512)) &&
      r.training.badStacks.all (fun k => decide (k < 16)) && decide (r.identity ≤ 3)
  | .openSession d => d.wf
  | .confirm d => d.wf
  | .read d => d.wf
  | .write d => d.wf
  | .keepalive d => d.wf
  | .close d => d.wf
  | .larchWrite _ d => decide (d.body.length ≤ 9120)
  | .larchRead _ d => decide (d.body.length ≤ 9120)
  | .larchReadData _ d => decide (d.body.length ≤ 9120)
  | .larchComplete _ d => decide (d.body.length ≤ 9120)
  | _ => true

end Sys2Proof
end

