-- ==== Sys2Proof/Tests/Slice0.lean ====
section
/-!
SUPPORT. Tests/Slice0.lean: our own tests: ill-formed commands refused by each check, instruction words written out from Tables 02.3 and
02.5, and for every statement with hypotheses, states and operands that meet them, clause by clause.
-/
namespace Sys2Proof.Tests
open Sys2Proof Sys2Proof.Machine
set_option Elab.async false

/-! Fixtures: a running device, context 5 active on grove 0, a launch with one group on core 0, code at 0x10000, data at 0x20000. -/

def iw (md rd ra rb rc : Nat) (imm : BitVec 64 := 0) (pg : Nat := 0) : IWord :=
  { md := BitVec.ofNat 8 md, rd := BitVec.ofNat 8 rd, ra := BitVec.ofNat 8 ra, rb := BitVec.ofNat 8 rb, rc := BitVec.ofNat 8 rc,
    imm := imm, pg := BitVec.ofNat 3 pg }
def g0 : GRef := ⟨0, 0⟩
def p0 : Path := { pc := 0x10000, mask := 0xFFFFFFFF }
def gr0 : Group := { idx := 0, launch := 1, run := some p0 }
def im0 : Image := { launch := 1, nslots := 4, groups := [(0, gr0)], grpBytes := 4096 }
def la0 : Launch := { id := 1, ctx := 5, ring := 0, cmd := 0, code := 0x10000, size := 4096, entry := 0x10000, wagn := true, groups := 4,
                      cores := [0] }
def cx0 : Ctx := { st := 1, groves := 1, leaves := [(1, { size := 0, target := 0x100000, acc := true, x := true, r := true }),
                                                     (2, { size := 0, target := 0x110000, acc := true, w := true, r := true })] }
def on0 : State := { State.reset with dev := { phase := .running, grade := some .dt9_576 }, board := { State.reset.board with pcie := some (640, 16) } }
/-- The running device with a group and an image. -/
def stg (i : Image) (gr : Group) : State :=
  { on0 with ctxs := [(5, cx0), (4096, { st := 1 })], launches := [la0]
             parts := [(0, { groves := 1, slice := 100, members := [5], resident := 5 })]
             images := [(5120, { i with groups := [(0, gr)] })] }
def hr (i : Image) (gr : Group) : Here := ⟨5, { i with groups := [(0, gr)] }, gr⟩
def st0 : State := stg im0 gr0
def h0 : Here := hr im0 gr0

/-! Cores. -/

theorem wit_issues : st0.Issues g0 h0 p0 := by decide +kernel
theorem wit_integerArithmetic : regsOk [(1, 1), (2, 1), (3, 1)] gr0 = true ∧ modNat (iw 0 1 2 3 4) < 2 ∧ modNat (iw 2 1 2 3 4) = 2 ∧
    modNat (iw 3 1 2 3 4) = 3 ∧ runOk gr0.nregs 32 1 = true := by decide +kernel
theorem wit_logicAndBits : modNat (iw 1 1 2 3 4) < 2 ∧ regsOk ((1, 1) :: raUse1 (iw 1 1 2 3 4) :: rbUse (iw 1 1 2 3 4)) gr0 = true ∧
    modNat (iw 0 1 2 0 0) = 0 ∧ regsOk [(32, 1), raUse1 (iw 0 32 2 0 0)] gr0 = true ∧
    opA (iw 0 1 2 0 0) gr0 0 = 0 ∧ opA (iw 0 1 2 0 0) { gr0 with regs := [(64, 1)] } 0 ≠ 0 := by decide +kernel
theorem wit_compareAndSelect : (∀ k < 6, immBits (iw 3 0 2 3 0 (BitVec.ofNat 64 (k * 2 ^ 32))) 32 4 = k) ∧ modNat (iw 3 0 2 3 0) < 4 ∧
    regsOk ((1, 1) :: (2, 1) :: (3, 1) :: rbUse (iw 1 1 2 33 0)) gr0 = true ∧ modNat (iw 7 1 2 3 0) < 8 ∧
    (∀ m ∈ [0, 2, 4], modNat (iw m 0 0 0 0) ∈ [0, 2, 4]) ∧ modNat (iw 6 1 0 0 0) = 6 := by decide +kernel
theorem wit_floatingPoint : modNat (iw 1 1 2 3 4) < 2 ∧ regsOk [(1, 1), (2, 1), (3, 1), (4, 1)] gr0 = true ∧
    immBits (iw 0 0 2 3 0 0x700000000) 32 4 ≤ 7 ∧ modNat (iw 0 1 2 0 0) = 0 := by decide +kernel
theorem wit_packedMultiplyAdd : decodeFp fp16 0x7E00 = .nan ∧ decodeFp fp16 0x7C00 = .inf false ∧ decodeFp fp16 0xFC00 = .inf true ∧
    decodeFp fp16 0 = .fin false 0 (-24) ∧ decodeFp fp16 0x8000 = .fin true 0 (-24) ∧ decodeFp bf16 0x3F80 = .fin false 128 (-7) ∧
    decodeFp bf16 0x0001 = .fin false 1 (-133) := by decide +kernel
theorem wit_convert : cvtLegal (iw 0 1 2 0 4) = true ∧ (cvtCtl (iw 0 1 2 0 4)).rmode ≠ 1 ∧
    cvtLegal (iw 0 1 2 0 4 0x0204000000000000) = true ∧ (cvtCtl (iw 0 1 2 0 4 0x0204000000000000)).rmode = 1 ∧
    regsOk [(1, 1), (2, 1), (4, 1)] gr0 = true ∧ st0.launch? gr0.launch = some la0 := by decide +kernel
theorem wit_convertForms : (∀ d ∈ [6, 7], ∀ r ∈ [0, 2], cvtLegal (iw 0 1 2 0 4 (BitVec.ofNat 64 (d * 2 ^ 56 + r * 2 ^ 50))) = true) ∧
    (∀ k ∈ [5, 6, 7], cvtLegal (iw 0 1 2 0 4 (BitVec.ofNat 64 (k * 2 ^ 60))) = true) ∧
    (∀ d ∈ [1, 2, 3, 4, 5], cvtLegal (iw 0 1 2 0 4 (BitVec.ofNat 64 (d * 2 ^ 56))) = true) := by decide +kernel
def stb : State := { st0 with dict := [(dkey 0x4022 1, 0x10000), (dkey 0x4022 9, 2 ^ 31)], dbg := { bpCtx := [(0, 5)] } }
theorem wit_fetchRules : (stb.ibreak 5 0 0 0x10000 && !gr0.halt.skip) = true ∧ stb.groupAt 0 0 = some h0 ∧
    (let gr := { gr0 with run := some { p0 with pc := 0x10008 } }
     (stg im0 gr).groupAt 0 0 = some (hr im0 gr) ∧ gr.ready = true ∧ (stg im0 gr).ibreak 5 0 0 0x10008 = false) ∧
    (st0.xlate 5 0x50000 .fetch).1 ≠ 0 ∧ st0.ibreak 5 0 0 0x50000 = false := by decide +kernel
theorem wit_groupFaults : modNat (iw 1 0 0 0 0) ≠ 0 ∧ 2 ≤ modNat (iw 2 0 0 0 0) ∧ 4 ≤ modNat (iw 4 0 0 0 0) ∧ 8 ≤ modNat (iw 8 0 0 0 0) ∧
    gr0.nregs < (iw 0 33 0 0 0).rd.toNat ∧ gr0.nregs < (iw 0 0 32 0 0).ra.toNat + 1 ∧ st0.launch? gr0.launch = some la0 ∧
    la0.fallen = false := by decide +kernel
def grf (st : List Path) : Group :=
  { gr0 with run := some { p0 with fid := 1, mask := 0xFFFF }, frames := [{ fid := 1, rpc := 0x10010, parent := 0, arrived := 0xFF0000 }]
             nextFid := 2, stack := st }
theorem wit_pathsGoOn : gr0.clearAt p0 p0.next = true ∧
    (let q : Path := { pc := 0x10040, mask := 0xFFFF0000, fid := 1 }
     (stg im0 (grf [q])).Issues g0 (hr im0 (grf [q])) { p0 with fid := 1, mask := 0xFFFF } ∧ q.pc ≠ 0x10010) ∧
    (stg im0 (grf [])).Issues g0 (hr im0 (grf [])) { p0 with fid := 1, mask := 0xFFFF } ∧
    ({ grf [] with frames := [] } : Group).clearAt { p0 with fid := 0 } 0x10010 = true := by decide +kernel
theorem wit_plainControl : h0.active p0 (iw 0 0 0 0 0 0 1) = 0 ∧ h0.active p0 (iw 0 0 0 0 0) ≠ 0 ∧ st0.debugged 5 = false ∧
    ({ st0 with dict := [(dkey 0x4020 1, 5 * 2 ^ 36)], dbg := { auth := [5] } } : State).debugged 5 = true ∧
    (let gr := { gr0 with stack := [{ p0 with mask := 0xF }] }
     (stg im0 gr).Issues g0 (hr im0 gr) p0) ∧
    (∀ k < 9, k ≠ 7 → ([0, 0, 0, 0, 0, 5, st0.width 0, 0, st0.dev.deviceId][k]?).isSome = true) ∧
    immBits (iw 0 1 0 0 0 7) 0 8 = 7 ∧ immBits (iw 0 1 0 0 0 8) 0 8 ≠ 7 ∧ regsOk [(31, 2)] gr0 = true := by decide +kernel
def grp1 (m : Lanes) (n : Nat) : Group := { gr0 with preds := [(1, m)], stack := List.replicate n { p0 with mask := 1 } }
theorem wit_directBranches :
    (let a := hr im0 (grp1 0xFFFF 31)
     (stg im0 (grp1 0xFFFF 31)).Issues g0 a p0 ∧ a.active p0 (iw 0 0 0 0 0 0 1) ≠ 0 ∧ p0.mask &&& ~~~(a.active p0 (iw 0 0 0 0 0 0 1)) ≠ 0 ∧
       a.grp.stack.length < 32 ∧ lowestLane (a.active p0 (iw 0 0 0 0 0 0 1)) < lowestLane (p0.mask &&& ~~~(a.active p0 (iw 0 0 0 0 0 0 1)))) ∧
    (let a := hr im0 (grp1 0xFFFF0000 32)
     (stg im0 (grp1 0xFFFF0000 32)).Issues g0 a p0 ∧ a.active p0 (iw 0 0 0 0 0 0 1) ≠ 0 ∧
       lowestLane (p0.mask &&& ~~~(a.active p0 (iw 0 0 0 0 0 0 1))) < lowestLane (a.active p0 (iw 0 0 0 0 0 0 1)) ∧ 32 ≤ a.grp.stack.length) ∧
    h0.active p0 (iw 0 0 0 0 0 0 1) = 0 ∧ p0.mask &&& ~~~(h0.active p0 (iw 0 0 0 0 0)) = 0 ∧ regsOk [(31, 2)] gr0 = true := by decide +kernel
theorem wit_indirectBranches : regsOk [(1, 2)] gr0 = true ∧
    (∃ l ∈ lanesOf (h0.active p0 (iw 0 0 1 0 0)), 2 ^ 48 ≤ ({ gr0 with regs := [(64, 0x10000)] } : Group).run64 1 2 l) ∧
    (∀ l ∈ lanesOf p0.mask, gr0.run64 1 2 l = 0) ∧
    groupTargets ((lanesOf p0.mask).map (fun l => (l, ({ gr0 with regs := [(33, 64)] } : Group).run64 1 2 l))) =
      [(0, 0xFFFFFFFD), (64, 2)] ∧
    32 < (List.replicate 32 p0).length + [(64, (2 : Lanes))].length := by decide +kernel
theorem wit_exitAndGsync : h0.active p0 (iw 0 0 0 0 0 0 1) = 0 ∧
    (hr im0 (grp1 0xFF 0)).active p0 (iw 0 0 0 0 0 0 1) ≠ 0 ∧ p0.mask &&& ~~~((hr im0 (grp1 0xFF 0)).active p0 (iw 0 0 0 0 0 0 1)) ≠ 0 ∧
    p0.mask &&& ~~~(h0.active p0 (iw 0 0 0 0 0)) = 0 ∧ gr0.stack = [] ∧ gr0.frames = [] ∧ gr0.parked = [] ∧
    mapGet (0 : Lanes) gr0.gsyncs 15 = 0 ∧ mapGet (0 : Lanes) [(15, 0xF0)] 15 &&& 0xFF ≠ 0 ∧ mapGet (0 : Lanes) [(15, 0xF0)] 15 &&& 0xF = 0 := by
  decide +kernel
def p1 : Path := { p0 with mask := 1 }
def gr1 : Group := { gr0 with run := some p1 }
/-- The address forms: LD and ST MOD of a space and a size; IMM an offset. -/
def lw (sp sz : Nat) (imm : BitVec 64) : IWord := iw (sp * 32 + sz * 4) 1 0 2 0 imm
theorem wit_localLoadStore : ∀ sz ≤ 4, ∀ sp ∈ [1, 2],
    let n := 2 ^ sz
    let w := lw sp sz (BitVec.ofNat 64 (4096 - n))
    bits (modNat w) 2 3 = sz ∧ bits (modNat w) 0 2 = 0 ∧ (spaceOf (bits (modNat w) 5 3)).isSome = true ∧
    regsOk [(w.rd.toNat, 4), (w.rb.toNat, 4), raUse1 w] gr0 = true ∧
    ∀ l ∈ lanesOf (h0.active p0 w), laddr w gr0 l % n = 0 ∧ laddr w gr0 l + n ≤ (spaceRange h0.img 0 .group).2 := by decide +kernel
def stOff : State := { st0 with ctxs := [(5, { cx0 with leaves := cx0.leaves ++ [(3, { size := 0, target := 2 ^ 63, acc := true, r := true, w := true })] })] }
theorem wit_accessFaults : laddr (lw 1 2 4094) gr0 0 % 4 ≠ 0 ∧ vaddr (lw 0 2 0x20001) gr0 31 % 4 ≠ 0 ∧
    (spaceRange h0.img 0 .group).2 < laddr (lw 1 2 4096) gr0 0 + 4 ∧ laddr (lw 1 2 4096) gr0 0 % 4 = 0 ∧
    ((st0.issued g0 h0).xlateAll 5 .read (linesOf [vaddr (lw 0 2 0x50000) gr0 0])).1 ≠ 0 ∧
    ((stOff.issued g0 h0).xlateAll 5 .read (linesOf [vaddr (lw 0 2 0x30000) gr0 0])).1 = 0 ∧
    ((stOff.issued g0 h0).xlateAll 5 .read (linesOf [vaddr (lw 0 2 0x30000) gr0 0])).2.any (fun d => destOff d.2) = true ∧
    h0.active p0 (iw 0 0 0 0 0 0 1) = 0 := by decide +kernel
def once : State := { st0 with rep := { st0.rep with kats := [(0, { sram := some st0.now })] } }
theorem wit_sramOutcome : ldLegal (lw 1 2 0) gr0 = true ∧ stLegal (lw 1 2 0) gr0 = true ∧ (mapGet ({} : Kat) st0.rep.kats 0).sram = none ∧
    once.now < st0.now + once.dv (dkey 0x7000 0x05) * hour := by decide +kernel
/-- R450: the first lost word of a core is counted; a second one within KAT_WINDOW fences it. -/
theorem test_sramLost : (st0.sramLost 0).dv (dkey 0x7000 0x08) = 1 ∧ (st0.sramLost 0).dev.fenced = [] ∧ (once.sramLost 0).dev.fenced = [0] := by
  decide +kernel
/-- R450: a lost word fails the load that reads it. -/
theorem test_ldLost : (match exec (.ld g0 (lw 1 2 0) { lost := true }) st0 with
    | .next t => t.launches.map Launch.st
    | _ => []) = [Code.uncorrectable] := by decide +kernel
def cached : State := { stg { im0 with cacheKiB := 256 } gr0 with
  caches := [(0, [{ addr := 0x110000, ctx := 5, data := List.replicate 64 0 }])], tlbs := [(0, [⟨5, 4, 2⟩])] }
theorem wit_virtualLoadStore :
    (st0.issued g0 h0).xlateAll 5 .read (linesOf [vaddr (lw 0 4 0x20000) gr0 0]) = (0, [(0x20000, .glob 0x110000 false)]) ∧
    (∀ l ∈ lanesOf p0.mask, vaddr (lw 0 4 0x20000) gr0 l = 0x20000) ∧ h0.img.cacheKiB = 0 ∧
    ([(0x20000, Dest.glob 0x110000 false)].mapM (fun d =>
      (lineHit (cached.cache 0) 5 (cached.lineKey d.2)).map (fun x => (d.1, x.data)))).isSome = true ∧ cached.cached 0 5 0x20000 = true ∧
    (stg im0 gr1).Issues g0 (hr im0 gr1) p1 ∧ overlaps 16 ((lanesOf p1.mask).map (vaddr (lw 0 4 0x2FFF0) gr1)) = false ∧
    ((stg im0 gr1).issued g0 (hr im0 gr1)).xlateAll 5 .write [0x2FFF0] = (0, [(0x2FFF0, .glob 0x11FFF0 false)]) := by decide +kernel
theorem wit_atomicsCombine : (2 ^ 64 - 1 < 2 ^ (8 * typBytes 3)) ∧ (∀ op ∈ [0, 1, 2, 3, 4, 5, 6, 7], ∀ t < 4, atomOk op t true = true) ∧
    atomOk 7 0 false = false ∧ spaceOf (bits (modNat (iw 229 1 0 2 3)) 0 2) = some .group ∧ aopOf (bits (modNat (iw 229 1 0 2 3)) 5 3) = .cas ∧
    spaceOf (bits (modNat (iw 5 1 0 2 3)) 0 2) = some .group ∧ aopOf (bits (modNat (iw 5 1 0 2 3)) 5 3) = .add ∧
    (∀ e ∈ h0.addrs p0 (iw 5 1 0 2 3 4088) (laddr (iw 5 1 0 2 3 4088) gr0), e.2 % 8 = 0 ∧ e.2 + 8 ≤ (spaceRange h0.img 0 .group).2) := by
  decide +kernel
theorem wit_virtualAtomics : ((st0.issued g0 h0).xlateAll 5 .both
      ((combiningSets (h0.addrs p0 (iw 4 1 0 2 3 0x20000) (vaddr (iw 4 1 0 2 3 0x20000) gr0))).map Prod.fst)) =
      (0, [(0x20000, .glob 0x110000 false)]) ∧
    (h0.addrs p0 (iw 4 1 0 2 3 0x20000) (vaddr (iw 4 1 0 2 3 0x20000) gr0)).head? = some (0, 0x20000) ∧
    bits (modNat (iw 228 1 0 2 3)) 0 2 = 0 ∧ aopOf (bits (modNat (iw 228 1 0 2 3)) 5 3) = .cas ∧ aopOf (bits (modNat (iw 4 1 0 2 3)) 5 3) ≠ .cas := by
  decide +kernel
def rq0 : Req := { id := 1, src := .core 0, ctx := 5, slot := 0, op := .wr [(0, 1)], addr := 0x110000, thread := true, owner := 1 }
theorem wit_ordering : (st0.sees g0 h0 p0 (iw 4 0 0 0 0)).writesOut 4 = [] ∧
    (({ st0 with reqs := [rq0] } : State).sees g0 h0 p0 (iw 4 0 0 0 0)).writesOut 4 ≠ [] ∧
    ({ st0 with reqs := [rq0] } : State).Issues g0 h0 p0 ∧ (st0.sees g0 h0 p0 (iw 1 0 0 2 0)).plainOut = [] ∧
    (st0.sees g0 h0 p0 (iw 1 0 0 2 0)).transfersOut = [] ∧
    ((st0.issued g0 h0).xlateAll 5 .write ((h0.addrs p0 (iw 1 0 0 2 0 0x2FFFC) (vaddr (iw 1 0 0 2 0 0x2FFFC) gr0)).map Prod.snd)).1 = 0 := by
  decide +kernel
/-- A write of the group that is not applied, to this device and to another: within scope 4 both, within scope 3 only the first. -/
theorem wit_unapplied : ∀ a ∈ [mkGlobal 0 0x110000, mkGlobal 1 0x110000],
    let r := { rq0 with addr := a }
    r.src = .core 0 ∧ r.ctx = h0.ctx ∧ r.slot = 0 ∧ r.owner = gr0.launch ∧ r.gidx = gr0.idx ∧ r.thread = true ∧ r.ph ≠ .done ∧
    gOff r.addr = false ∧ (st0.isLocal r.addr = true ↔ a = mkGlobal 0 0x110000) := by decide +kernel
def imL (v : Nat) : Image := { im0 with ls := cellsWrite [] 4092 (leBytes 4 v) }
theorem wit_locks : lanesOf ((hr im0 gr1).active p1 (iw 0x44 0 0 0 0 4092)) = [0] ∧ bits (modNat (iw 0x44 0 0 0 0 4092)) 0 3 = 4 ∧
    bits (modNat (iw 0x44 0 0 0 0 4092)) 3 3 = 0 ∧ spaceOf (bits (modNat (iw 0x44 0 0 0 0 4092)) 6 2) = some .group ∧
    laddr (iw 0x44 0 0 0 0 4092) gr1 0 + 4 ≤ (spaceRange (imL 0) 0 .group).2 ∧
    leNat (cellsRead (imL 0).ls 4092 4) = 0 ∧ leNat (cellsRead (imL (lockTag 0 0 0 0)).ls 4092 4) = lockTag 0 0 0 0 ∧
    leNat (cellsRead (imL 7).ls 4092 4) = 7 ∧ lockTag 0 0 0 0 ≠ 7 ∧ p1.mask &&& ~~~((hr im0 gr1).active p1 (iw 0x44 0 0 0 0)) = 0 ∧
    (let gr := grp1 1 0
     (stg (imL 7) gr).Issues g0 (hr (imL 7) gr) p0 ∧ lanesOf ((hr (imL 7) gr).active p0 (iw 0x41 0 0 0 0 4092 1)) = [0] ∧
       p0.mask &&& ~~~((hr (imL 7) gr).active p0 (iw 0x41 0 0 0 0 4092 1)) ≠ 0) ∧
    (∀ v ∈ [0, 7, lockTag 0 0 0 0], (stg (imL v) gr1).Issues g0 (hr (imL v) gr1) p1) ∧
    ((st0.issued g0 h0).xlateAll 5 .both ((h0.addrs p0 (iw 1 0 0 0 0 0x20000) (vaddr (iw 1 0 0 0 0 0x20000) gr0)).map Prod.snd)).1 = 0 := by
  decide +kernel
def grR (v : Word) : Group := { gr0 with regs := [(64, v)] }
theorem wit_tensorIssue : ((grR 8).reg 2 0).toNat % 64 ≠ 0 ∧ ((grR 1572800).reg 2 0).toNat % 64 = 0 ∧
    ((grR 1572800).reg 2 0).toNat + 64 ≤ im0.lsBytes ∧ freeTok gr0.tmTok = some 0 ∧
    freeTok ((List.range 7).map (fun k => (k, ({ order := k, unit := k } : Tok)))) = some 7 ∧
    regsOk [(32, 1), (1, 1), (2, 1), (3, 1)] gr0 = true := by decide +kernel
theorem wit_tokens : mapFind (gr0.toks true) 0 = none ∧
    mapFind (({ gr0 with tmTok := [(0, { order := 0, unit := 1 })] } : Group).toks false) 0 = some { order := 0, unit := 1 } ∧
    (mapFind (({ gr0 with arTok := [(7, { order := 0, unit := 1, st := some Code.uncorrectable })] } : Group).toks true) 7).bind Tok.st =
      some Code.uncorrectable ∧ waitFaults true Code.uncorrectable = true ∧ waitFaults false 0 = false := by decide +kernel
def op0 : MxOp := { id := 1, kind := .mxa, slot := 0, launch := 1, token := 0, ctx := 5 }
def wArr : IWord := iw 0 1 2 2 2 0x0000FFFF00000000
theorem wit_arrayIssue : mxRec wArr.imm.toNat = none ∧ mxRec 0 = some 0 ∧ (0 + 32 ≤ im0.lsBytes) ∧ freeTok gr0.arTok = some 0 ∧
    (gr0.reg 2 0).toNat % 64 = 0 ∧ (gr0.reg 2 0).toNat + 64 ≤ im0.lsBytes ∧ bitAt 0x8000FFFF00000000 63 = true ∧ im0.mxq.length < 16 ∧
    (let i := { im0 with mxq := List.replicate 16 op0 }
     (stg i gr0).Issues g0 (hr i gr0) p0 ∧ 16 ≤ i.mxq.length) ∧
    (let gr := { gr0 with wait := .queue op0 1 1 }
     (stg im0 gr).groupAt 0 0 = some (hr im0 gr)) := by decide +kernel
/-- The fixture with array operations on core 0. -/
def onQ (q : List MxOp) (gr : Group := gr0) : State := stg { im0 with mxq := q } gr
/-- A speculation block with FENCE = 1, SAMPLE = 0, and a set with column 0 to check. -/
def set0 : SpecSet := { set := 0, op := op0, block := 0, img := 2 ^ 886, left := [0] }
theorem wit_arrayEvents : st0.running = true ∧ (onQ [op0]).liveCtx 0 = some 5 ∧ ((onQ [op0]).img 5 0).mxq = [op0] ∧
    (onQ [op0]).katDue ((onQ [op0]).physAny 0) = false ∧ ((onQ [op0]).die ((onQ [op0]).dieOf 0)).window = false ∧ op0.gov = 0 ∧
    ({ op0 with gov := 2 } : MxOp).gov = 2 ∧
    (let s := { onQ [op0] with pwr := { st0.pwr with dies := [(0, { window := true })] } }
     s.liveCtx 0 = some 5 ∧ (s.img 5 0).mxq = [op0] ∧ (s.die (s.dieOf 0)).window = true) ∧
    (let s := { onQ [{ op0 with started := true }] with launches := [{ la0 with fallen := true, st := Code.pageFault }] }
     s.liveCtx 0 = some 5 ∧ s.launchFallen op0.launch = true) ∧
    (let op := { op0 with started := true, st := Code.descriptorInvalid }
     (onQ [op]).launchFallen op.launch = false ∧ ((onQ [op]).mxRun op 0 ((onQ [op]).width 0)).wait = false ∧ (onQ [op]).reqs = [] ∧
     ((onQ [op]).mxRun op 0 ((onQ [op]).width 0)).s.reqs = []) ∧
    drainTurn im0 { op0 with kind := .drain } = true := by decide +kernel
theorem wit_specCheckTile : let s := stg { im0 with sets := [set0] } gr0
    s.liveCtx 0 = some 5 ∧ (s.img 5 0).mxq = [] ∧ (s.img 5 0).sets.find? (fun x => !x.left.isEmpty) = some set0 ∧ sbFence set0.img = true ∧
    (({ s := s } : Prog).checkTile set0.op 0 (s.width 0) set0).1.wait = false ∧ (({ s := s } : Prog).checkTile set0.op 0 (s.width 0) set0).1.stop = 0 := by
  decide +kernel
theorem wit_arrayEnds : (0 : Status) ≠ Code.indexFault ∧
    (let gr := { gr0 with arTok := [(0, { order := 0, unit := 1 })] }
     let i := (onQ [{ op0 with started := true, recOff := some 64 }] gr).img op0.ctx 0
     mapFind i.groups op0.slot = some gr ∧ gr.launch = op0.launch ∧ gr.idx = op0.group ∧
     mapFind gr.arTok op0.token = some { order := 0, unit := op0.id } ∧ gr.wait = .none) := by decide +kernel
/-- FP32 operands of 1 by 1 by 1 in the group's own space. -/
def dsc (fmt space base : Nat) (e0 e1 : Nat := 1) : Nat :=
  base * 2 ^ 272 + 2 ^ 116 + 2 ^ 92 + e1 * 2 ^ 68 + e0 * 2 ^ 44 + 2 ^ 40 + space * 2 ^ 38 + fmt * 2 ^ 32
def op1 : MxOp := { op0 with a := dsc 0 1 0, b := dsc 0 1 64, c := dsc 0 1 128, ctl := 0 }
theorem wit_arrayWaits : let op := { op1 with a := dsc 0 0 0x20000, started := true }
    (onQ [op]).launchFallen op.launch = false ∧ op.outcome = none ∧ ((onQ [op]).mxRun op 0 ((onQ [op]).width 0)).wait = true := by decide +kernel
theorem wit_arrayBegins : op0.kind = .mxa ∧ mxDescBad im0 576 op0 = true ∧ mxDescBad im0 576 op1 = false ∧ mxModeBad im0 op1 = false ∧
    (let op := { op1 with ctl := 7 * 2 ^ 60 }
     mxDescBad im0 576 op = false ∧ mxModeBad im0 op = true ∧ bits op.ctl 60 4 > 6) := by decide +kernel
def xf0 : Xfer := { id := 9, slot := 0, launch := 1, token := 0, kind := .copy, ctx := 5, total := 1 }
def onT (x : Xfer) : State := stg { im0 with xfers := [x] } gr0
theorem wit_tensorResponse :
    (onT xf0).xfer? 5 0 9 = some xf0 ∧ (onT xf0).liveCtx 0 = some 5 ∧ (onT xf0).reqs = [] ∧ (onT xf0).frameHolds 9 = false ∧
    (onT xf0).gws = [] ∧
    (let x := { xf0 with done := 1 }
     (onT x).xfer? 5 0 9 = some x ∧ x.fin = false ∧ x.st = 0 ∧ x.done ≥ x.total ∧ x.bad = 0 ∧ x.flying = []) ∧
    (∀ n ∈ [1, 64],
      let x := { xf0 with kind := .fill, dst := dsc 0 2 4 n, total := n, rc := 7 }
      let d := descOf x.dst
      (onT x).xfer? 5 0 9 = some x ∧ d.fmt = 0 ∧ d.space = 2 ∧ d.trans = false ∧ d.exts = [n, 1, 1, 1] ∧ d.base % 4 = 0 ∧
        d.base + 4 * n ≤ (spaceRange ((onT x).img 5 0) x.slot .core).2) ∧
    (let x := { xf0 with fin := true, recOff := some 32 }
     let gr := { gr0 with tmTok := [(0, { order := 0, unit := 9 })] }
     let s := stg { im0 with xfers := [x] } gr
     s.xfer? 5 0 9 = some x ∧ x.cnt = [0, 0, 0, 0, 0] ∧ isConv (descOf x.src).fmt (descOf x.dst).fmt x.rc = false ∧
     mapFind (s.img 5 0).groups x.slot = some gr ∧ gr.launch = x.launch ∧ gr.idx = x.gidx ∧
     mapFind gr.tmTok x.token = some { order := 0, unit := 9 } ∧ gr.wait = .none) := by decide +kernel
/-- The last block of an M8 tensor of 260 elements holds 4 (R103). -/
theorem test_m8ShortBlock : let x : Xfer := { xf0 with dst := dsc 0x0B 0 0 260, total := 260 }
    atomCount x (descOf x.dst) = 2 ∧ atomAt x (descOf x.dst) 1 = [256, 257, 258, 259] ∧ (descOf x.dst).fmt = 0x0B := by decide +kernel
/-- Run-ahead of a copy of 16 KiB from page 2 into the local store; its first block, the last, one outside the source, one that does not
translate. -/
def xfC (base : Nat) : Xfer := { xf0 with src := dsc 3 0 base 256, dst := dsc 3 1 0 256, total := 256 }
theorem wit_runahead :
    (let x := xfC 0x20000
     let s := onT x
     let d := descOf x.src
     let y := descOf x.dst
     s.xfer? 5 0 9 = some x ∧ d.space = 0 ∧ x.done < x.total ∧ (s.img 5 0).ls = [] ∧
     (atomOrder x d y (fun _ => 0) = List.range (atomCount x y)) ∧ s.dv (dkey 0x3002 0x01) ≠ 0 ∧ 0x20000 % 256 = 0 ∧
     ((d.partsOf (d.unlin (((List.range (atomCount x y)).map (atomAt x y)).flatten.headD 0))).map Prod.fst).headD d.base = 0x20000 ∧
     d.extent.1 ≤ 0x20000 ∧ 0x20000 + 256 ≤ d.extent.2 ∧ d.extent.2 < 0x20100 + 256 ∧ s.prefetchable x.ctx 0x20000 = some (0x110000, false) ∧
     moverUsed s.reqs 0 + 9 ≤ 64 ∧ s.reqs = [] ∧
     s.capFree { id := s.nextId, src := .core 0, ctx := x.ctx, slot := x.slot, op := .rd 256, addr := 0x110000, va := 0x20000, ph := .slot,
                 xfer := x.id, owner := x.launch, dev := s.dev.deviceId, pref := true, alloc := true } = true) ∧
    (onT (xfC 0x50000)).prefetchable 5 0x50000 = none := by decide +kernel
theorem wit_streamPrefetch :
    let gr := { gr0 with streak := 3, lastMiss := 0x20000 }
    let i := { im0 with cacheKiB := 256 }
    let s := stg i gr
    s.groupAt 0 0 = some (hr i gr) ∧ s.dv (dkey 0x3002 0x02) ≠ 0 ∧ slotsUsed s.reqs 0 + 5 ≤ 32 ∧ 0x20100 ≤ gr.lastMiss + 256 ∧
    s.prefetchable 5 0x20040 = some (0x110040, false) ∧ s.prefetchable 5 0x20100 = some (0x110100, false) ∧
    lineHit (s.cache 0) 5 0x110040 = none ∧
    s.slotFree { id := s.nextId, src := .core 0, ctx := 5, slot := 0, op := .rd 64, addr := 0x110040, va := 0x20040, ph := .slot, alloc := true,
                 pref := true, owner := 1, gidx := 0, dev := s.dev.deviceId } 0 = true ∧
    (let none' := { gr0 with streak := 3, lastMiss := 0x50000 }
     (stg i none').prefetchable 5 0x50040 = none) ∧
    (let t := { s with ctxs := [(5, { cx0 with leaves := [(2, { size := 0, target := 0x110000, acc := true, r := true, nc := true })] })] }
     t.prefetchable 5 0x20040 = some (0x110040, true)) := by decide +kernel
def rqD : Req := { rq0 with op := .rd 64, thread := false, ph := .done, va := 0x20000, res := List.replicate 64 1 }
theorem wit_groupEvents : st0.launch? (st0.img 5 0).launch = some la0 ∧ (st0.img 5 0).nextIdx < la0.groups ∧
    lowest (st0.img 5 0).nslots (fun k => (mapFind (st0.img 5 0).groups k).isNone) = some 1 ∧
    (∀ e ∈ (st0.img 5 0).groups, e.2.target = false ∧ e.2.halt.frozen = false) ∧
    (let gr := { gr0 with wait := .access [1] (.load 1 4 [(0, 0x20000), (31, 0x2003C)] []) }
     let s := { stg im0 gr with reqs := [rqD] }
     s.req? 1 = some rqD ∧ mapFind (s.img 5 0).groups 0 = some gr ∧ gr.launch = rqD.owner ∧ gr.idx = rqD.gidx ∧
     (∀ e ∈ [(0, 0x20000), (31, 0x2003C)], ∃ x ∈ [(rqD.va, rqD.res)], x.1 = e.2 / 64 * 64)) ∧
    (let gr := { gr0 with wait := .access [1, 2] (.load 1 4 [(0, 0x20000)] []) }
     let s := { stg im0 gr with reqs := [rqD] }
     s.req? 1 = some rqD ∧ mapFind (s.img 5 0).groups 0 = some gr ∧ (∃ k ∈ [1, 2], k ≠ 1)) ∧
    (let gr := { gr0 with wait := .backoff }
     (stg im0 gr).groupAt 0 0 = some (hr im0 gr)) ∧
    st0.groupAt 0 0 = some h0 ∧ gr0.wait = .none ∧ gr0.halt.halted = false ∧
    (let t := 1000000 * st0.dv (dkey 0x4010 0x01)
     gr0.wdog + t ≤ ({ st0 with now := t } : State).now ∧ ({ st0 with now := t - 1 } : State).now < gr0.wdog + t) ∧
    (let gr := { gr0 with halt := { req := true } }
     (stg im0 gr).groupAt 0 0 = some (hr im0 gr)) := by decide +kernel
def rel0 : Rel := { id := 3, core := 0, slot := 0, launch := 1, scope := 4, waits := [7, 8], xwaits := [9], ids := [1] }
theorem wit_releases :
    (∀ x ∈ [{ xf0 with fin := true }, { xf0 with fin := true, st := Code.pageFault }],
      let s := { onT x with reqs := [{ rq0 with held := true }, { rq0 with id := 7, ph := .done }], rels := [rel0] }
      s.rels.find? (fun x => x.id == 3) = some rel0 ∧ (rel0.ids.head?).bind s.req? = some { rq0 with held := true } ∧
      rel0.xwaits.filterMap (fun y => s.xfer? 5 0 y) = [x] ∧ s.req? 7 = some { rq0 with id := 7, ph := .done } ∧ s.req? 8 = none) ∧
    (let s := { onT { xf0 with fin := true } with reqs := [rq0, { rq0 with id := 8, ph := .queued }], rels := [rel0] }
     s.req? 8 = some { rq0 with id := 8, ph := .queued }) := by decide +kernel

/-! The object dictionary. -/

def onD (d : List (Nat × Nat)) : State := { on0 with dict := d }
theorem wit_persistentRows : on0.Serves ∧ mayWrite .h (dkey 0x5002 1) = true ∧ mayWrite .h (dkey 0x5002 18) = true ∧
    on0.portBad 0 0 = false ∧ mayWrite .h (dkey 0x5000 0x03) = true ∧ mayWrite .h (dkey 0x5001 1) = true ∧
    mayWrite .h (dkey 0x5001 64) = true ∧ mayWrite .h (dkey 0x2000 0x02) = true ∧
    on0.capRefused (on0.dv (dkey 0x2000 0x01)) (on0.dv (dkey 0x2000 0x03)) = false ∧ mayWrite .h (dkey 0x2000 0x01) = true ∧
    on0.dv (dkey 0x2000 0x02) = 1 ∧ on0.capRefused 600 (on0.dv (dkey 0x2000 0x03)) = false ∧
    on0.capRefused (on0.dv (dkey 0x2000 0x01)) 400 = false ∧ (onD [(dkey 0x2000 0x02, 0)]).Serves ∧
    (onD [(dkey 0x2000 0x02, 0)]).dv (dkey 0x2000 0x02) = 0 ∧ mayWrite (.m 1) (dkey 0x2000 0x03) = true ∧
    ((entryAt (dkey 0x4010 0x01)).map (fun e => (e.acc, bitAt e.classes 3, e.fits (leBytes 4 50), e.fits (leBytes 4 1000)))) =
      some (.rws, false, true, true) ∧ mayWrite .h (dkey 0x4010 0x01) = true ∧ on0.rwsBad (dkey 0x4010 0x01) 50 = 0 := by decide +kernel
theorem wit_refusedWrites : on0.Serves ∧ entryAt (dkey 0x4010 0xFE) = none ∧ mayWrite (.t 5) (dkey 0x4010 0x01) = false ∧
    mayWrite .h (dkey 0x4010 0x01) = true ∧ ((entryAt (dkey 0x4010 0x01)).map (fun e => (e.acc, e.fits (leBytes 4 4), e.fits (leBytes 4 1001),
      e.fits (leBytes 3 50)))) = some (.rws, false, false, false) ∧
    (let s := { on0 with pwr := { on0.pwr with rails := [(0, { stale := true })] } }
     s.Serves ∧ s.rwsBad (dkey 0x2000 0x01) 600 ≠ 0 ∧ (entryAt (dkey 0x2000 0x01)).map (fun e => (e.acc, bitAt e.classes 3,
       e.fits (leBytes 2 600))) = some (.rws, false, true)) := by decide +kernel
theorem wit_refusedReads : (entryAt (dkey 0x4020 0x03)).map (fun e => (e.acc, e.counter)) = some (.ro, 0) ∧ keySub (dkey 0x4020 0x03) ≠ 0 ∧
    (entryAt (dkey 0x4030 0x02)).map (fun e => (e.acc, e.counter, e.bytes)) = some (.ro, 1, 8) ∧ leNat (leBytes 8 1) ≠ 0 ∧
    (leBytes 4 0).length ≠ 8 := by decide +kernel
theorem wit_counterRows : on0.Serves ∧ mayWrite .h (dkey 0x4030 0x02) = true ∧ mayWrite .h (dkey 0x7010 0x03) = true ∧ clsT .h = false ∧
    (entryAt (dkey 0x4030 0x02)).map (fun e => (e.acc, e.counter, e.bytes)) = some (.ro, 1, 8) := by decide +kernel
theorem wit_actingRows : on0.Serves ∧ mayWrite .h (dkey 0x5010 0x05) = true ∧ mayWrite .h (dkey 0xA000 0x04) = true ∧
    mayWrite .h (dkey 0xA010 0x01) = true ∧ mayWrite .h (dkey 0xA010 0x02) = true ∧ on0.dv (dkey 0xA010 0x01) < slotSize ∧
    slotSize % 1024 = 0 ∧ 1024 < slotSize ∧ mayWrite (.m 1) (dkey 0x2060 0x05) = true := by decide +kernel
theorem wit_rekeyNow : (let s := { on0 with ports := [(3, { st := 4 })] }
     s.Serves ∧ (s.port 3).active = true ∧ (s.port 3).rk = none ∧ (s.port 3).newEp = none) ∧ (on0.port 3).active = false ∧
    on0.mgmt.compact = none ∧ ({ on0 with mgmt := { on0.mgmt with compact := some 3 } } : State).Serves := by decide +kernel
/-- A private context 5 with the binding of slot 0 given and a far domain 3, its epoch 9 used. -/
def onB (b : Nat) (gws : Map Gw := []) : State := { on0 with
  ctxs := [(5, { cx0 with secret := some 1, binds := [(0, { value := BitVec.ofNat 64 b })], epochs := [(epochKey 1 (2 ^ 63 + 3), 10)] })], gws := gws }
theorem wit_gwBind : (onB 0).Serves ∧ ((onB 0).ctx 5).secret ≠ none ∧ ((onB 0).ctx 4).secret = none ∧
    (let v := 2 ^ 63 + 9 * 2 ^ 32 + 3
     bindValid v = true ∧ bindDomain v ≠ (onB 0).dev.domainId ∧ bindEpoch v + 1 ≤ mapGet 0 ((onB 0).ctx 5).epochs (epochKey 1 v) ∧
     ¬ bindEpoch (v + 2 ^ 32) + 1 ≤ mapGet 0 ((onB 0).ctx 5).epochs (epochKey 1 (v + 2 ^ 32)) ∧
     bindValid (((onB v).ctx 5).bindVal 0) = true ∧ bindDomain (((onB v).ctx 5).bindVal 0) = bindDomain v) ∧
    bindDomain (2 ^ 63) = on0.dev.domainId ∧
    (let st : Stream := { id := 4, ctx := 5, bind := 1, addr := 0, src := 0, frames := [{ seq := 1 }] }
     let s := onB 0 [(0, { streams := [st] })]
     s.Serves ∧ ∃ e ∈ s.gws, ∃ x ∈ e.2.streams, x.ctx = 5 ∧ x.bind = 1 ∧ x.frames ≠ []) := by decide +kernel
/-- A provisioning key is outstanding, no secret installed. -/
theorem wit_ctxSecret : let s := { on0 with ctxs := [(5, { cx0 with provKey := some (1, 2) })] }
    s.Serves ∧ (s.ctx 5).provKey = some (1, 2) ∧ (s.ctx 5).secret = none ∧ (∀ p < 18, (s.port p).active = false) := by decide +kernel
theorem wit_contextRows : on0.Serves ∧ mayWrite .h (ctxKey 4096 0x20) = true ∧ mayWrite (.t 5) (ctxKey 5 0x20) = true ∧
    mayWrite (.t 0) (ctxKey 0 0x61) = true ∧ mayWrite (.t 4095) (ctxKey 4095 0x60) = true ∧ mayWrite .h (ctxKey 5 0x70) = true ∧
    mayWrite .h (ctxKey 5 0x73) = true ∧ (st0.ctx 5).priv = false ∧ (st0.ctx 5).provKey = none ∧
    (let s := { on0 with ctxs := [(5, { cx0 with priv := true, secret := some 1 })] }
     s.Serves ∧ (s.ctx 5).priv = true ∧ (s.ctx 5).secret ≠ none ∧ bindValid 0 = false ∧ s.gws = []) := by decide +kernel
theorem wit_tokenRows : on0.Serves ∧ mayRead .h (dkey 0x6001 0x03) = true ∧ mayWrite .h (dkey 0x4020 0x04) = true ∧
    mayWrite .h (dkey 0x3010 0x04) = true ∧ mayWrite .h (dkey 0x7020 0x05) = true ∧ on0.rep.erasing = 0 ∧
    ({ on0 with rep := { on0.rep with erasing := 1 } } : State).Serves ∧ mayWrite (.m 1) (dkey 0x6001 0x01) = true ∧ clsBit (.m 1) = 0 ∧
    on0.dv (dkey 0x6001 0x01) = 0 ∧ mayWrite .h (dkey 0x7001 0x01) = true ∧ mayWrite .h (dkey 0xA010 0x03) = true ∧
    (tokFields (BitVec.ofNat 1024 (6 * 2 ^ 16))).op = 6 ∧ (tokFields (BitVec.ofNat 1024 (7 * 2 ^ 16))).op = 7 := by decide +kernel
/-- A map-clear token that names the outstanding challenge; what its signature proves is uninterpreted (log 7). -/
def tk : Token := BitVec.ofNat 1024 (7 * 2 ^ 64 + 3 * 2 ^ 16 + 1)
def onK (at' : Nat := 0) : State := { on0 with dict := [(dkey 0x6001 0x01, 1)], mgmt := { on0.mgmt with challenge := some (7, at') } }
theorem wit_signed (h : Config.ecdsaVerify (BitVec.ofNat 776 ((onK).dv (dkey 0x6001 0x01)))
    (Config.sha384 (leBytes 32 (tk.toNat % 2 ^ 256) ++ leBytes 48 ((onK).idKeyHash).toNat)) (tokFields tk).sig = true) :
    (onK).Signed tk 3 none none none :=
  { version := by decide +kernel, oper := by decide +kernel, onTarget := by simp, onSub := by simp, onBound := by decide +kernel,
    hasKey := by decide +kernel, verifies := h, recent := ⟨0, by decide +kernel⟩ }
theorem wit_tokenCheck : (onK).Serves ∧ on0.mgmt.challenge = none ∧ (tokFields tk).op ≠ 4 ∧ (tokFields tk).binding = bindingOf none ∧
    (tokFields 0).ver ≠ 1 ∧ on0.dv (dkey 0x6001 0x01) = 0 ∧ (tokFields tk).target ≠ 0x7001 ∧
    (let s : State := { onK with now := 301000000000 }
     0 + 300 < s.opTime) ∧
    (let s : State := { onK with now := 300000000000 }
     ¬ 0 + 300 < s.opTime) := by decide +kernel
/-- Context 5 debugged by its token, its group 0 on core 0 the target. -/
def onDbg (gr : Group) (q : Nat := 0) : State := { stg im0 gr with dict := [(dkey 0x4020 1, 5 * 2 ^ 36), (dkey 0x4021 1, q)], dbg := { auth := [5] } }
theorem wit_debugRows : (onDbg gr0).Serves ∧ mayWrite .h (dkey 0x4020 0x02) = true ∧ mayRead .h (dkey 0x4021 0x02) = true ∧
    mayWrite .h (dkey 0x4021 0x02) = true ∧ (∀ sub ∈ [1, 8, 9, 0x10, 0x11, 0x14, 0x15, 0x18], mayWrite .h (dkey 0x4022 sub) = true) ∧
    dbgScope (onDbg gr0).dbgTarget = 0 ∧ bitAt (onDbg gr0).dbgTarget 61 = false ∧ (onDbg gr0).dbgAllowed = true ∧ (onDbg gr0).dbgGroup = some gr0 ∧
    gr0.halt.halted = false ∧
    (∀ q ∈ [0, 32, 2 ^ 30, 2 * 2 ^ 30, 2 * 2 ^ 30 + 31],
      let gr := { gr0 with halt := { halted := true } }
      let s := onDbg gr q
      s.Serves ∧ s.dbgGroup = some gr ∧ s.dv (dkey 0x4021 1) = q ∧
        (bits q 30 2 = 0 → bits q 0 14 ≤ gr.nregs) ∧ (bits q 30 2 = 2 → (s.dbgLocal (bits q 0 14)).isSome = true)) ∧
    (onDbg gr0).bpBad 8 5 = false ∧ (onDbg gr0).bpBad 9 0 = false ∧ (onDbg gr0).bpBad 9 (2 ^ 30) = true ∧
    (onDbg gr0).bpBad 0x14 (2 ^ 30) = false ∧ (onDbg gr0).bpBad 0x14 0 = true ∧ (onDbg gr0).bpBad 0x18 0 = false := by decide +kernel
/-- A step of a halted group over a NOP in the near tier. -/
theorem wit_debugStep : let gr := { gr0 with halt := { halted := true } }
    let s := { onDbg gr with
      ctxs := [(5, { cx0 with leaves := [(1, { size := 0, target := nearBase, acc := true, x := true, r := true })] })] }
    s.Serves ∧ s.dbgGroup = some gr ∧ gr.run = some p0 ∧ gr.wait = .none ∧ gr.clearAt p0 p0.next = true ∧ s.liveCtx 0 = some 5 ∧ p0.pc % 16 = 0 ∧
    s.fetchAt 5 p0.pc = some nearBase ∧ s.region nearBase = .near ∧ cellsRead s.mem nearBase 16 = List.replicate 16 0 ∧ s.reqs = [] := by decide +kernel
theorem wit_debugAuthority :
    let s := { st0 with dict := [(dkey 0x4020 1, 5 * 2 ^ 36)] }
    s.Serves ∧ dbgScope s.dbgTarget ≠ 3 ∧ s.dbgAllowed = false ∧ mayWrite .h (dkey 0x4022 8) = true := by decide +kernel

/-! Memory devices. -/

/-- A request to this device's memory that has reached its queue. -/
def rqAt (o : Nat) (op : MemOp) : Req := { rq0 with addr := mkGlobal 0 o, op := op, ph := .queued }
def onR (r : Req) (k : Nat) (mem : List Host.Cell := []) (side : List (Nat × Nat) := []) : State :=
  { on0 with reqs := [r], banks := [(k, { q := [{ id := 1, part := gOffset r.addr }] })], mem := mem, side := side }
def served (s : State) (k : Nat) (r : Req) : Bool := s.nextServed k == some ({ id := 1, part := gOffset r.addr }, r)
theorem wit_queueService :
    (∀ op ∈ [MemOp.rd 64, .wr [(0, 7), (63, 8)]],
      let k := qBank { stack := 0, ch := 0, pc := 0, bank := 0, block := 0 }
      let r := rqAt 64 op
      let s := onR r k
      s.running = true ∧ (stackOf s 0).tripped = false ∧ served s k r = true ∧ r.src = .core 0 ∧ r.walk = [] ∧ r.win = false ∧ r.got = [] ∧
        r.st = 0 ∧ blocksOf r = [64] ∧ s.region 64 = .hbm ∧ s.side = [] ∧ s.req? 1 = some r) ∧
    (∀ op ∈ [MemOp.rd 32, .wr [(0, 7)]],
      let r := rqAt nearBase op
      let s := onR r (qNear 7 15)
      s.running = true ∧ s.pwr.domRet.contains (720 + 16 * 7 + 15) = false ∧ served s (qNear 7 15) r = true ∧ blocksOf r = [nearBase] ∧
        s.region nearBase = .near) ∧
    (let r := rqAt nearBase (.at .add 0 1 0 true)
     let s := onR r (qUnit 143)
     s.running = true ∧ served s (qUnit 143) r = true ∧ s.region (gOffset r.addr) = .near) ∧
    (let s : State := { on0 with aunits := [(143, { held := [(7, 0), (8, 0)] })], now := 1000 }
     (7, 0) ∈ (mapGet {} s.aunits 143).held ∧ 0 + 1000 ≤ s.now) := by decide +kernel
/-- Two sources in one near-tier queue: the other one has its turn after the one served last; and a bank's first entry that 31 services
have gone by. -/
theorem wit_queueTurns :
    (let r := rqAt nearBase (.rd 32)
     let s : State := { on0 with reqs := [r, { r with id := 2, src := .core 1 }]
                                 banks := [(qNear 0 0, { q := [{ id := 1, part := 0 }, { id := 2, part := 0 }], lastSrv := on0.srcAt (qNear 0 0) (.core 0) })] }
     (s.nextServed (qNear 0 0)).map (fun e => e.2.id) = some 2) ∧
    (let r := rqAt 64 (.rd 32)
     let k := qBank { stack := 0, ch := 0, pc := 0, bank := 0, block := 0 }
     let s : State := { on0 with reqs := [r, { r with id := 2, src := .core 1 }]
                                 banks := [(k, { q := [{ id := 1, part := 0 }, { id := 2, part := 0 }], lastSrv := on0.srcAt k (.core 0), served := 31 })] }
     (s.nextServed k).map (fun e => e.2.id) = some 1 ∧ (s.entries k).map (fun x => x.1.came) = [0, 0]) := by decide +kernel
theorem wit_appliedRequests :
    (let r := rqAt nearBase (.rd 32)
     let s := onR r 0
     s.req? r.id = some r ∧ r.win = false ∧ blocksOf r = [nearBase] ∧ s.region nearBase = .near) ∧
    (let r := rqAt 64 (.rd 32)
     let s := onR r 0 [(67, 5)] [(1, 0)]
     (onR r 0).req? r.id = some r ∧ blocksOf r = [64] ∧ (onR r 0).region 64 = .hbm ∧ (onR r 0).side = [] ∧
     -- one wrong symbol: a byte of an all-zero codeword reads 5
     decodeBlock (cellsRead s.mem 64 64) 0 = .fixed (List.replicate 64 0) 0 ∧
     s.side.filter (fun e => e.1 == 64 / 64) = [(1, 0)] ∧ mapFind s.side 1 = some 0 ∧
     -- a good codeword whose tag says poison, and two wrong symbols
     decodeBlock (cellsRead [] 64 64) (freshSide (List.replicate 64 0) 128) = .poison ∧
     decodeBlock (cellsRead [(67, 5), (70, 9)] 64 64) 0 = .lost) ∧
    (let r := rqAt 64 (.wr [(0, 7)])
     let s := onR r 0 [] [(1, freshSide (List.replicate 64 0) 128)]
     blocksOf r = [64] ∧ s.region 64 = .hbm ∧ [(0, (7 : Byte))].length < 64 ∧
     mapFind s.side 1 = some (freshSide (List.replicate 64 0) 128) ∧ mapFind (onR r 0).side 1 = none) ∧
    (let r := rqAt 60 (.rd 8)
     blocksOf r = [0, 64] ∧ mapFind r.got 0 = none) := by decide +kernel
theorem wit_stackUpkeep : on0.running = true ∧ (stackOf on0 15).tripped = false ∧
    (let l := [(31, on0.now)]
     (l.filter (fun e => e.1 == 31)).length < (on0.count (dkey 0x3011 0x05)).dv (dkey 0x3014 0x01)) ∧
    (let s := on0.updStack 15 (fun k => { k with parity := List.replicate 7 (31, 0) })
     let l := ((stackOf (s.count (dkey 0x3011 0x05)) 15).parity.filter (fun e => decide (s.now < e.2 + 1000000000))) ++ [(31, s.now)]
     s.running = true ∧ (s.count (dkey 0x3011 0x05)).dv (dkey 0x3014 0x01) ≤ (l.filter (fun e => e.1 == 31)).length) ∧
    bitAt on0.outSet 0 = false ∧ on0.stopped.2.contains 0 = false ∧ on0.hbm.mapout.queue = [] ∧ on0.reqs = [] ∧
    (on0.offsetAt 15 31 1 0).isSome = true ∧ (on0.offsetAt 15 31 1 0).map (fun o => on0.poisoned (o / 64)) = some false ∧
    (let o := (on0.offsetAt 15 31 1 0).getD 0
     ({ on0 with side := [(o / 64, freshSide (List.replicate 64 0) 128)] } : State).poisoned (o / 64) = true) := by decide +kernel
/-- A pseudo-channel that has asked for its last block: the period goes on, or, with no other in service, is over. -/
theorem wit_scrubOver : ∀ fin' ∈ [false, true],
    let s : State := { on0 with hbm := { on0.hbm with scrub := [(0, 33554432), (1, 33554432)] }
                                dict := if fin' then [(dkey 0x3010 0x03, 2 ^ 512 - 2)] else [] }
    mapGet 0 s.hbm.scrub 0 = 2 ^ 25 ∧ s.scrubOver = fin' ∧ bitAt s.outSet 0 = false := by decide +kernel
theorem wit_stackTemperature : on0.running = true ∧ (stackOf on0 3).tripped = false ∧ (stackOf on0 3).step = 0 ∧ on0.reqs = [] := by
  decide +kernel
def onM (queue : List Nat) (n : Nat) : State := { st0 with hbm := { on0.hbm with mapout := { queue := queue, step := n } } }
theorem wit_channelMapout :
    (let s := onM [511, 0] 1
     s.running = true ∧ s.fencedFlash = false ∧ s.stopped.2.contains (511 % 16) = false ∧ s.hbm.mapout.queue = [511, 0] ∧ s.reqs = [] ∧
     (let r := rqAt 0 (.rd 32)
      let t : State := { onM [0] 1 with reqs := [{ r with adm := [0] }] }
      t.admittedTo { r with adm := [0] } (fun o => decide (o ≥ t.hbmBacked - 4 * 2 ^ 30) || t.chanAt o == 32 * (0 % 16) + 0 / 16) = true)) ∧
    (let s := onM [511] 2
     s.mgmt.own = [] ∧
     (∃ w ∈ ({ s with mgmt := { s.mgmt with own := [{ key := dkey 0x3010 0x03, val := 1, began := 0 }] } } : State).mgmt.own, w.key = dkey 0x3010 0x03)) ∧
    (let s := onM [511, 0] 3
     let lim := (s.hbmBacked - 4 * 2 ^ 30) / granuleBytes
     s.tablesIn lim = [] ∧ s.dev.fw = [] ∧ s.pagesIn lim = [] ∧
     (∀ room ∈ [false, true],
      let lf : Leaf := { size := 2, target := s.hbmBacked - 2 ^ 30, acc := true, r := true, w := true }
      let t : State := { s with ctxs := [(5, { cx0 with leaves := [(16384, lf)] })], dev := { s.dev with scrubbed := room } }
      t.pagesIn lim = [(5, 16384, lf)] ∧ t.pinned (5, 16384, lf) = false ∧ t.side = [] ∧
        (t.lowFree (leafBytes lf.size / granuleBytes) lim (33554432 / (leafBytes lf.size / granuleBytes)) 0).isSome = room)) ∧
    (let s := onM [511, 0] 4
     s.reqs = [] ∧ s.side = [] ∧ s.outCount < 511) := by decide +kernel

/-! Links, remote operations, gateways, exchange. -/

/-- The running device with port 3 as given, in Askik mode. -/
def onP (x : Port) : State := { on0 with ports := [(3, x)] }
def flit (typ rest payload : Nat) : BitVec 2048 := sealFlit (flitHeader typ 0 0 false false 0 rest) payload 0
theorem wit_badFlit : flitCrcOk (BitVec.ofNat 2048 (2 ^ 2016 + 5)) = false := by decide +kernel
theorem wit_dataFlit : let f := flit 0 0 0
    flitType f = 0 ∧ flitCrcOk f = true := by decide +kernel
theorem wit_initFlit : let f := flit 1 0 0
    flitType f = 1 ∧ flitCrcOk f = true := by decide +kernel
theorem wit_initFlitGood : let f := flit 1 0 (2 ^ 32 + 9 * 2 ^ 46)
    flitType f = 1 ∧ flitCrcOk f = true ∧ f.getLsbD 99 = false := by decide +kernel
theorem wit_nullFlit : let f := flit 3 0 0
    flitType f = 3 ∧ flitCrcOk f = true ∧ f.getLsbD 98 = false := by decide +kernel
theorem wit_keyxFlit : let f := flit 2 0 (200 * 2 ^ 24 + 2 * 2 ^ 16 + 1 * 2 ^ 8 + 3)
    flitType f = 2 ∧ flitCrcOk f = true ∧ fieldOf f 152 16 = 200 ∧ fieldOf f 128 8 = 3 ∧ fieldOf f 136 8 < fieldOf f 144 8 := by
  decide +kernel
theorem wit_receivedFlits : (on0.port 3).ether = false ∧
    (let s := onP { st := 4, pmd := true, lock := true, replay := [0, 0] }
     s.running = true ∧ (s.port 3).ether = false ∧ (s.port 3).pmd = true ∧ s.portLow 3 = false ∧
     (s.port 3).ackKind 1 true = .new 2 ∧ (s.port 3).ackKind 4095 true = .never) ∧
    (let s := onP { st := 2, pmd := true, lock := true }
     s.initBad 3 (fieldOf (flit 1 0 0) 128 1792) = true ∧ s.initBad 3 (fieldOf (flit 1 0 (2 ^ 32 + 9 * 2 ^ 46)) 128 1792) = false ∧
     (s.port 3).ackvSeen = false) := by decide +kernel
theorem wit_sentFlits :
    (let s := onP { st := 3, pmd := true }
     s.running = true ∧ (s.port 3).ether = false ∧ (s.port 3).pmd = true ∧ (s.port 3).st ≠ 4) ∧
    (let s := onP { st := 4, pmd := true, txKeys := [(0, 7)], replay := [5], cursor := some 0 }
     s.portLow 3 = false ∧ (s.port 3).replay[0]? = some 5 ∧ 1 < s.dv (dkey 0x5010 0x03) ∧ (s.port 3).repRun = 0) ∧
    (let s := onP { st := 4, pmd := true, txKeys := [(0, 7)] }
     (s.port 3).cursor = none ∧ (s.port 3).replay.length < 2048 ∧ (s.port 3).txq = [] ∧ (s.port 3).newEp = none ∧
     mapFind (s.port 3).txKeys (s.port 3).txEp = some 7) ∧
    2048 ≤ ((onP { st := 4, replay := List.replicate 2048 0 }).port 3).replay.length := by decide +kernel
theorem wit_ackTimer : let n := 1000 * on0.dv (dkey 0x5010 0x01)
    let s : Nat → State := fun t => { onP { st := 4, replay := [5] } with now := t }
    ((s n).port 3).st = 4 ∧ ((s n).port 3).replay ≠ [] ∧ max ((s n).port 3).ackAt 0 + n ≤ (s n).now ∧
    (s (n - 1)).now < max ((s (n - 1)).port 3).ackAt 0 + n ∧ ((s n).port 3).repRun + 1 < on0.dv (dkey 0x5010 0x03) := by decide +kernel
theorem wit_replayLimit : (on0.port 3).repRun + 1 < on0.dv (dkey 0x5010 0x03) ∧
    on0.dv (dkey 0x5010 0x03) ≤ ((onP { repRun := 1023 }).port 3).repRun + 1 := by decide +kernel
theorem wit_portEvents : on0.portMode 3 ≠ 0 ∧
    (let s : State := { onP { st := 5 } with now := 1000000 * on0.dv (dkey 0x5010 0x06) }
     (s.port 3).st = 5 ∧ (s.port 3).began + 1000000 * s.dv (dkey 0x5010 0x06) ≤ s.now) ∧
    (∀ e ∈ [false, true], ((onP { st := 1, ether := e }).port 3).st = 1 ∧ ((onP { st := 1, ether := e }).port 3).pmd = false) ∧
    (∀ e ∈ [(1, false, 1000), (1, true, 1001), (2, true, 1002), (3, true, 1012)], ∀ d ∈ [0, 1],
      let s : State := { onP { st := e.1, pmd := e.2.1 } with now := 1000000 * e.2.2 - d }
      (s.port 3).st = e.1 ∧ (s.port 3).pmd = e.2.1 ∧ (d = 0 ↔ (s.port 3).began + 1000000 * e.2.2 ≤ s.now)) ∧
    (let s : State := { onP { st := 2 } with now := 1000 }
     (s.port 3).sentAt + 1000 ≤ s.now) ∧
    ((onP { st := 4 }).port 3).st = 4 ∧
    (let n := 1000 * on0.dv (dkey 0x5010 0x02)
     let s : Port → Nat → State := fun x t => { onP x with now := t }
     (((s { st := 4, lastRx := n } n).port 3).lock = false ∧ ((s { st := 4, lastRx := n } n).port 3).lostAt + n ≤ (s {} n).now) ∧
     ((s { st := 4, lock := true } n).port 3).lastRx + n ≤ (s {} n).now ∧
     (((s { st := 4, lock := true } (n - 1)).port 3).lock = true ∧ (s {} (n - 1)).now < 0 + n)) ∧
    (∀ d ∈ [0, 1], let s : State := { onP { st := 4, closing := some 0 } with now := 20000 - d }
      (s.port 3).closing = some 0 ∧ (d = 0 ↔ 0 + 20000 ≤ s.now)) := by decide +kernel
theorem wit_keyExchange :
    (let s := onP { st := 3, frags := [(1, 0, 1, List.replicate 129 4)] }
     s.running = true ∧ (s.port 3).ether = false ∧ (s.port 3).message 1 = some (List.replicate 129 4) ∧ (s.port 3).peerHello = []) ∧
    (((onP { st := 3, frags := [(1, 0, 1, [4])] }).port 3).message 1 = some [4] ∧ [(4 : Byte)].length ≠ 129) ∧
    ((onP { st := 3, peerHello := [4], frags := [(2, 1, 2, [9]), (2, 0, 2, [8])] }).port 3).message 2 = some [8, 9] ∧
    ((onP { st := 3, chain := [1], frags := [(3, 0, 1, List.replicate 96 1)] }).port 3).message 3 = some (List.replicate 96 1) ∧
    (∀ x ∈ [({ st := 3 } : Port), { st := 3, peerHello := [4] }, { st := 3, peerHello := [4], chain := [1] }, { st := 4 }],
      let s : State := { onP x with now := 10000 }
      (s.port 3).sentAt + 10000 ≤ s.now ∧ (s.port 3).rxX = 0) := by decide +kernel
theorem wit_rekeys :
    (∀ x ∈ [({ st := 4, flits := 2 ^ 40 } : Port), { st := 4, flitsRx := 2 ^ 40 }, { st := 4, rkDue := true }, { st := 4 }],
      let s : State := { onP x with now := 86400000000000 }
      (s.port 3).rk = none ∧ (s.port 3).newEp = none ∧
        (2 ^ s.dv (dkey 0x5010 0x04) ≤ x.flits ∨ 2 ^ s.dv (dkey 0x5010 0x04) ≤ x.flitsRx ∨ x.rekeyed + 86400000000000 ≤ s.now ∨ x.rkDue = true)) ∧
    (∀ d ∈ [0, 1], let k : Rekey := { began := 0, hello := [], eph := 0 }
      let s : State := { onP { st := 4, rk := some k } with now := 10000000 - d }
      (s.port 3).rk = some k ∧ (d = 0 ↔ k.began + 10000000 ≤ s.now)) ∧
    ((onP { st := 4 }).port 3).rx = [] ∧ (onP { st := 4 }).ctxCheck 3 5 = none ∧
    (let s := { onP { st := 4, salts := [(0, 1)] } with ctxs := [(5, { cx0 with secret := some 1 })] }
     (s.ctxCheck 3 5).isSome = true) ∧
    (∀ t ∈ [(0, 0), (1, 20000)],
      let s := { on0 with ports := [(3, { st := 4, peerInit := some (2 ^ 32 + 9) }), (4, { st := 5, downAt := t.1 })], now := t.2
                          dict := [(dkey 0x5000 3, 1), (dkey 0x5001 (9 + 1), 8)], flows := [(flowKey 2 9, { port := 4 })] }
      mapFind s.flows (flowKey 2 9) = some { port := 4 } ∧ s.flowPort 2 9 = some 3 ∧ s.flowBusy 2 9 = false ∧
        ((s.port 4).downAt = 0 ∨ (s.port 4).downAt + 20000 ≤ s.now + 1) ∧ s.reqs = []) := by decide +kernel
/-- Header slot of a packet of device 9 (Table 10.5 to 10.7). -/
def hdr (typ off size : Nat) : Nat := typ * 2 ^ 124 + 9 * 2 ^ 107 + 5 * 2 ^ 68 + 77 * 2 ^ 80 + (size - 1) * 2 ^ 45 + off
def pk (slots : List Nat) : RxPkt := { vc := 0, slots := slots }
theorem wit_requestPackets :
    (∀ ty ∈ [0, 1, 2, 3, 4, 5], ((onP { st := 4, rx := [pk [hdr ty 0 4]] }).takePkt 3 ty).map Prod.snd = some (pk [hdr ty 0 4])) ∧
    pktMalformed (pk [hdr 0 4095 2]) = true ∧ pktMalformed (pk [hdr 0 4092 4]) = false ∧
    (let o := { on0 with owner := [(0, { ctx := 5, state := 2, perm := 2 })] }
     o.pktCheck { rq0 with op := .rd 4, addr := mkGlobal 0 0 } false = 0) ∧ on0.region 0 = .hbm ∧
    on0.region (2 ^ 45 - 8) = .control ∧ ((onP { st := 4 }).port 3).active = true := by decide +kernel
def rqP : Req := { rq0 with src := .port 3, dev := 9, op := .rd 4, addr := mkGlobal 0 0 }
def rqS : Req := { rq0 with op := .rd 16, ph := .sent, port := 3, dev := 9, addr := mkGlobal 9 0, tag := 77, limit := 100 }
theorem wit_requestTimers :
    (let s := { onP { st := 4 } with reqs := [rqP] }
     let may := fun (x : Req) => s.entryOf s.stopped.1 s.stopped.2 x
     let c := (s.reqs.filter (fun x => x.src == .port 3 && x.ph == .waiting)).filter (fun x => (may x).isSome)
     (roundRobin 64 ((s.port 3).lastDev + 1) (fun d => c.any (fun x => x.dev == d))).bind (fun d => c.find? (fun x => x.dev == d)) = some rqP ∧
     (may rqP).map (fun y => y.map (fun z => (z.1, z.2.2, decide (z.2.1 < 2 ^ 44)))) = some (some (rqP, 0, true)) ∧ s.req? rqP.id = some rqP ∧
     blocksOf rqP = [0] ∧ rqP.adm = [] ∧ rqP.walk = []) ∧
    (∀ d ∈ [0, 1],
      let s : State := { onP { st := 4 } with reqs := [{ rqP with ph := .queued }], now := 4000 - d }
      s.req? 1 = some { rqP with ph := .queued } ∧ (s.port 3).active = true ∧ (d = 0 ↔ 0 + 4000 ≤ s.now)) ∧
    (let s : State := { onP { st := 4 } with reqs := [rqP], now := 4000 }
     (∃ r ∈ s.reqs, r.src = .port 3 ∧ r.ph = .waiting ∧ r.dev = 9 ∧ r.since + 4000 ≤ s.now) ∧ mapFind (s.port 3).holds 9 = none) ∧
    (let s : State := { onP { st := 4, rx := [pk [hdr 0 0 4]], holds := [(9, 1)] } with now := 4000 }
     (∃ k ∈ (s.port 3).rx, k.isReq = true ∧ k.sdev = 9 ∧ k.came + 4000 ≤ s.now) ∧ mapFind (s.port 3).holds 9 = some (0 + 1) ∧ 0 + 4000 ≤ s.now) ∧
    ((onP { st := 4, rx := [pk [hdr 11 0 1]] }).takePkt 3 0xB).isSome = true ∧
    (∀ d ∈ [0, 1],
      let s : State := { onP { st := 4 } with reqs := [rqS], now := 1000 * rqS.limit - d }
      s.req? 1 = some rqS ∧ s.placed rqS = true ∧ s.served 0 = true ∧ (d = 0 ↔ rqS.since + 1000 * rqS.limit ≤ s.now)) := by decide +kernel
theorem wit_responses :
    ∀ e ∈ [(0x8, MemOp.rd 16, 16), (0x9, .wr [(0, 1)], 0), (0xA, .at .add 2 1 0 true, 4)], ∀ st ∈ [0, Code.accessDenied.toNat], ∀ n ∈ [1, 2],
      let h := e.1 * 2 ^ 124 + 9 * 2 ^ 107 + 77 * 2 ^ 80 + srcIdx (.core 0) * 2 ^ 96 + st * 2 ^ 48
      let r := { rqS with op := e.2.1 }
      let s := { onP { st := 4, rx := [{ vc := 1, slots := List.replicate n h }] } with reqs := [r] }
      s.served 0 = true ∧ s.req? r.id = some r ∧ bits h 48 16 = st ∧
      (s.takePkt 3 e.1).map (fun t => t.1.reqs.find? (fun r => r.ph == .sent && !(gOff r.addr) && r.port == 3 && srcIdx r.src == bits h 96 11 &&
        r.tag == bits h 80 16 && r.dev == bits h 107 6 && answers e.1 r.op)) = some (some r) := by decide +kernel
def frm0 : GFrame := { seq := 1 }
def frmR : GFrame := { seq := 1, isRead := true, closed := true, reqs := [1] }
def stm0 (f : GFrame) : Stream := { id := 4, ctx := 5, bind := 0, addr := 0, src := 0, frames := [f] }
def onG (f : GFrame) (t : Nat := 0) : State := { on0 with gws := [(0, { streams := [stm0 f] })], ports := [(14, { st := 4, ether := true })], now := t }
/-- A datagram addressed to gateway 0 with the header given. -/
def dgram (h : Nat) (dst : Nat := on0.dv (dkey 0x5040 1)) (ext : Bool := false) : LarchDgram :=
  { extHead := ext, src := 0, dst := BitVec.ofNat 128 dst, port := BitVec.ofNat 16 (on0.dv (dkey 0x5060 1)), header := BitVec.ofNat 256 h, body := [], tag := 0 }
theorem wit_gatewayRows : (onG frm0).running = true ∧ ((onG frm0).gw 0).streams.find? (fun x => x.id == 4) = some (stm0 frm0) ∧
    (stm0 frm0).frames.find? (fun f => !f.closed) = some frm0 ∧
    (let n := 1000 * on0.dv (dkey 0x5060 0x02)
     frm0.begun + n ≤ (onG frm0 n).now) ∧
    (stm0 frmR).frames.find? (fun f => f.seq == 1 && f.closed) = some frmR ∧ 0 < on0.dv (dkey 0x5060 0x04) ∧
    (∀ d ∈ [0, 1], let n := 1000 * on0.dv (dkey 0x5060 0x03)
      d = 0 ↔ frmR.sentAt + n ≤ (onG frmR (n - d)).now) ∧
    on0.dv (dkey 0x5060 0x04) ≤ ({ frmR with retries := 255 } : GFrame).retries ∧ (onG frm0).gwActive 0 = true ∧
    (onG frm0).gwTakes 0 (dgram 0) = true ∧ (onG frm0).gwTakes 0 (dgram 0 0 true) = false ∧
    (dgram 0 1).dst.toNat ≠ on0.dv (dkey 0x5040 1) ∧ (lHead (dgram 0).header).ver ≠ 1 ∧
    (let h := 2 ^ 248 + 3 * 2 ^ 230 + 5 * 2 ^ 212 + 2 ^ 160
     let d := dgram h
     let s : State := { onG frm0 with ctxs := [(5, { cx0 with binds := [(0, { value := BitVec.ofNat 64 (2 ^ 63 + 3), used := true })] })] }
     (lHead d.header).ver = 1 ∧ (lHead d.header).domain = 3 ∧ (lHead d.header).ctx = 5 ∧ (s.ctx 5).bindFor 3 = some 0 ∧ (s.ctx 5).bindFor 4 = none ∧
     d.dst.toNat = s.dv (dkey 0x5040 1) ∧ d.port.toNat = s.dv (dkey 0x5060 1)) ∧
    (onG frmR).frameOf { lHead 0 with ctx := 5, seq := 1 } 0 true = some (0, stm0 frmR, frmR) ∧
    (onG { frmR with isRead := false }).frameOf { lHead 0 with ctx := 5, seq := 1 } 0 false = some (0, stm0 { frmR with isRead := false }, { frmR with isRead := false }) ∧
    (onG frmR).frameOf { lHead 0 with ctx := 5, seq := 2 } 0 false = none ∧ (onG frmR).reqs = [] := by decide +kernel
/-- A record of a frame (Table 11.8): type, offset, tag, length, and data. -/
def recBytes (typ off tag len : Nat) (data : List Byte) : List Byte :=
  leBytes 16 (typ * 2 ^ 124 + tag * 2 ^ 64 + len * 2 ^ 101 + off) ++ data ++ List.replicate (16 * ((data.length + 15) / 16) - data.length) 0
theorem wit_farFrames :
    parseRecs 1 2 (List.replicate 16 0) = none ∧
    (parseRecs 1 3 (recBytes 1 64 0 2 [7, 8])).map (fun l => l.map (fun x => (x.offset, x.len, x.data, x.device))) = some [(64, 2, [7, 8], on0.dev.deviceId)] ∧
    (parseRecs 3 3 (recBytes 3 64 1 2 [7, 8])).map (fun l => l.map (fun x => (x.rtag, x.offset, x.data))) = some [(1, 64, [7, 8])] ∧
    (let o := { on0 with owner := [(0, { ctx := 5, state := 2, perm := 3 })] }
     o.region 64 = .hbm ∧ o.ownedBy 5 64 false true = true ∧ o.reqs = [] ∧ 64 % 256 + 2 ≤ 256 ∧
     (o.rstream 0 (rkey 5 3 0 0)).frames = [] ∧ (o.rstream 0 (rkey 5 3 0 0)).done = [] ∧ (o.rstream 0 (rkey 5 3 0 0)).low ≤ 1 ∧
     1 ≤ (o.rstream 0 (rkey 5 3 0 0)).low + 16 ∧ 17 + (o.rstream 0 (rkey 5 3 0 0)).low > (o.rstream 0 (rkey 5 3 0 0)).low + 16) := by decide +kernel
theorem wit_farReads :
    (let r := { rqS with op := .rd 2, addr := mkGlobal 9 64 }
     let s := { onG frmR with reqs := [r] }
     s.frameOf { lHead 0 with ctx := 5, seq := 1 } 0 true = some (0, stm0 frmR, frmR) ∧ s.req? 1 = some r ∧ r.ph = .sent ∧ gOffset r.addr = 64 ∧
     opBytes r.op = 2 ∧ ((s.updReq 1 (fun y => { y with ph := .done, st := 0, res := [7, 8] })).requestDone r).req? 1 =
       some { r with ph := .done, st := 0, res := [7, 8] }) ∧
    (let s := { on0 with gws := [(0, { rstreams := [{ key := rkey 5 3 0 0, done := [(1, [])] }] })] }
     (s.rstream 0 (rkey 5 3 0 0)).done.find? (fun x => x.1 == 1) = some (1, [])) := by decide +kernel
/-- A step block: work area at 0x20000, 100 elements, devices 0 and 1, STEP 1, window 1. -/
def blk (members : Nat) (gather : Bool) : Nat := 0x20000 * 2 ^ 880 + 0x20000 * 2 ^ 976 + 100 * 2 ^ 840 + members * 2 ^ 776 + 2 ^ 744 + 2 ^ 694 + (if gather then 2 ^ 688 else 0)
def ex0 (members : Nat) (gather : Bool) : Exch := { ring := 0, blk := blk members gather, id := 9, work := 0x110000 }
def onX (e : Exch) (mem : List Host.Cell := []) : State := { st0 with exch := [(5, e)], mem := mem }
theorem wit_exchangeRendezvous : (onX (ex0 3 false)).running = true ∧ (onX (ex0 3 false)).onCores 5 = true ∧
    mapFind (onX (ex0 3 false)).exch 5 = some (ex0 3 false) ∧ (ex0 3 false).fail = none ∧ ((onX (ex0 3 false)).exRead 5 (ex0 3 false) 0 2048).2.1 = 0 ∧
    xExchanges (blk 3 false) = true ∧ (onX (ex0 3 false)).reqs = [] ∧ (0 : Nat) ≠ xBuckets (blk 3 false) ∧
    (let rv := fun (m : List Host.Cell) => leNat ((((onX (ex0 3 false) m).exRead 5 (ex0 3 false) 0 2048).2.2.drop (hdrRv 1)).take 32)
     othersOf (onX (ex0 3 false)) (blk 3 false) = [1] ∧ bits (rv []) 160 8 ≠ 1 ∧
     (let m := cellsWrite [] (0x110000 + hdrRv 1) (leBytes 32 (2 ^ 160 + 2 ^ 128 + xAgree (blk 3 false) * 2 ^ 64))
      bits (rv m) 160 8 = 1 ∧ bits (rv m) 128 32 = xStep (blk 3 false) ∧ bits (rv m) 64 64 = xAgree (blk 3 false)) ∧
     (let m := cellsWrite [] (0x110000 + hdrRv 1) (leBytes 32 (2 ^ 160 + 2 ^ 128))
      bits (rv m) 160 8 = 1 ∧ bits (rv m) 64 64 ≠ xAgree (blk 3 false)) ∧
     (let m := cellsWrite [] (0x110000 + hdrRv 1) (leBytes 32 (2 ^ 160 + 2 ^ 129))
      bits (rv m) 160 8 = 1 ∧ bits (rv m) 128 32 ≠ xStep (blk 3 false) ∧ mapFind (ex0 3 false).olds 1 ≠ some (bits (rv m) 128 32))) := by decide +kernel
theorem wit_exchangeBuckets :
    (∀ n ∈ [1, 3],
      let e := { ex0 n true with met := true }
      e.rsBegun = e.rsDone ∧ e.rsBegun < xBuckets e.blk ∧ e.rsBegun ≤ e.agDone + 1 ∧ ((onX e).exRoom 5 e 0).2 = (0, true) ∧
        ((onX e).exScatter 5 e 0).2 = 0 ∧ (xD e.blk = 1 ↔ n = 1)) ∧
    ((onX { ex0 1 true with met := true }).reduceShard 5 { ex0 1 true with met := true } 0).2 = 0 ∧
    (let e := { ex0 3 true with met := true, rsBegun := 1, rsDone := 1 }
     xGather e.blk = true ∧ e.agBegun < e.rsDone ∧ e.agBegun = e.agDone ∧ xD e.blk ≠ 1 ∧
     ((onX e).engRead (exAg 5 e) (xAccum e.blk + 4 * (xShard e.blk 0 (xRank e.blk 0)).1) (4 * (xShard e.blk 0 (xRank e.blk 0)).2)).2.1 = 0) ∧
    (let e := { ex0 3 false with met := true, rsBegun := 1 }
     let m := cellsWrite [] (0x110000 + hdrFlag 1 false) (leBytes 4 (xTick e.blk 1))
     1 ∈ othersOf (onX e) e.blk ∧ e.rsDone < e.rsBegun ∧ e.rsGot.contains (0, xRank e.blk 1) = false ∧
     xReached e.blk 1 (leNat ((onX e).exRead 5 e (hdrFlag 1 false) 4).2.2) = false ∧
     xReached e.blk 1 (leNat ((onX e m).exRead 5 e (hdrFlag 1 false) 4).2.2) = true ∧
     ((onX e m).exRead 5 e (xSlotAt e.blk 0 (xRank e.blk 1) (xRank e.blk 0) false) (4 * (xShard e.blk 0 (xRank e.blk 0)).2)).2.1 = 0) ∧
    (∀ ok ∈ [false, true],
      let m := cellsWrite [] (0x110000 + hdrAbort 1) (leBytes 16 ((if ok then 2 ^ 64 else 0) + 2 ^ 32 + 9))
      let hs := leNat ((onX (ex0 3 false) m).exRead 5 (ex0 3 false) (hdrAbort 1) 16).2.2
      (bits hs 64 8 = 1 ↔ ok = true) ∧ bits hs 32 32 = xStep (blk 3 false)) ∧
    (ex0 3 false).flags = [] ∧ ({ ex0 3 false with met := true, rsDone := xBuckets (blk 3 false) } : Exch).rsDone = xBuckets (blk 3 false) := by decide +kernel

/-! Commands of a ring. -/

/-- A command image (Table 13.6). -/
def ci (opc : Nat) (a0 a1 a2 arg0 arg1 : Nat := 0) (low : Nat := 0) : Nat :=
  a0 * 2 ^ 464 + a1 * 2 ^ 416 + a2 * 2 ^ 368 + arg0 * 2 ^ 256 + arg1 * 2 ^ 192 + opc * 2 ^ 56 + low
/-- The fixture with ring 0 of a context holding a command. -/
def onCx (ctx : Nat) (k : Cmd) : State :=
  { st0 with rings := [(ctx, { sq := [(0, { base := 0x20000, ctrl := 0x80000006, cur := some k })], cq := { base := 0x21000, ctrl := 0x80000006 } })] }
def cm (img : Nat) : Cmd := { img := img, seq := 0, t0 := 0, id := 77 }
def onC (img : Nat) : State := onCx 5 (cm img)
def offersB (s : State) (ctx opc : Nat) (c : Cmd) : Bool :=
  s.running && (s.ring ctx 0).cur == some c && cOpc c.img == opc && c.stage == 0 && !c.tearing
/-- What a witness of `offers` is decided by. -/
theorem offers_of (s : State) (ctx opc : Nat) (c : Cmd) (h : offersB s ctx opc c = true) : s.offers ctx 0 opc c := by
  simp only [offersB, Bool.and_eq_true, beq_iff_eq, Bool.not_eq_true'] at h
  exact ⟨h.1.1.1.1, h.1.1.1.2, h.1.1.2, h.1.2, h.2⟩

/-- `fine` of the statement about ring registers, as a Bool. -/
def ringFine (s : State) (base : Nat) (v : Word) (bytes : Nat) (need : Need) : Bool :=
  decide (base % 4096 = 0 ∧ 6 ≤ ctlLog v ∧ ctlLog v ≤ 16) && (if ctlLoc v then s.rangeOk 5 base (bytes * ctlSize v) need else (s.ctx 5).busMaster)
theorem wit_ringRegisters : on0.board.pcie ≠ none ∧ st0.running = true ∧ (st0.ctx 5).st = 1 ∧ (st0.ctx 5).tdi ≠ 1 ∧ (st0.ctx 5).priv = false ∧
    (let s := onC 0
     let x := s.ring 5 0
     let q := (s.ringsOf 5).cq
     ringFine s 0x20000 0xC0000006 64 .read = true ∧ ctlEn 0xC0000006 = true ∧ ringFine s 0x20000 0xC000000B 32 .write = true ∧
     ctlEn (s.ring 5 1).ctrl = false ∧ ctlEn q.ctrl = true ∧ ctlEn x.ctrl = true ∧ x.head = x.tail ∧ x.cur ≠ none ∧ (0xC0000006 : Word) ≠ x.ctrl ∧
     (0, x) ∈ (s.ringsOf 5).sq ∧ x.base ≠ 0 ∧ q.base ≠ 0 ∧ (63 : Word).toNat < ctlSize x.ctrl ∧ ctlSize x.ctrl ≤ (64 : Word).toNat ∧ q.spill = []) ∧
    (let s := { st0 with ctxs := [(5, { cx0 with busMaster := true })]
                         rings := [(5, { sq := [(0, { ctrl := 0x80000010, head := 3 }), (1, { ctrl := 0x80000010 })], cq := { spill := [7] } })] }
     ctlEn ((s.ringsOf 5).cq).ctrl = false ∧ (s.ring 5 0).head ≠ (s.ring 5 0).tail ∧ (s.ring 5 1).head = (s.ring 5 1).tail ∧ (s.ring 5 1).cur = none ∧
     ringFine s 0 0x80000010 64 .read = true ∧ ctlEn (s.ring 5 1).ctrl = true) ∧
    (let s := { st0 with rings := [(5, { cq := { base := 0x20000, ctrl := 0xC0000006, spill := [7] } })] }
     (∀ e ∈ (s.ringsOf 5).sq, ctlEn e.2.ctrl = false) ∧ ctlEn ((s.ringsOf 5).cq).ctrl = true ∧ ringFine s 0x20000 0xC0000006 32 .write = true ∧
     (((s.updCq 5 (fun y => { y with head := 2 })).ringsOf 5).cq).full = false) ∧
    (let s := { st0 with rings := [(5, { sq := [(0, { base := 0x20000, ctrl := 0xC0000006 })], cq := { ctrl := 0x80000006 } })] }
     (s.ring 5 0).base = 0x20000 ∧ ctlEn (s.ring 5 0).ctrl = true ∧ ctlEn ((s.ringsOf 5).cq).ctrl = true ∧ ringFine s 0x20000 0xC0000006 64 .read = true) := by
  decide +kernel
theorem wit_ringPrivate : (∀ t ∈ [0, 2], let s := { st0 with ctxs := [(5, { cx0 with priv := true, tdi := t })] }
      (s.ctx 5).priv = true ∧ (s.ctx 5).tdi = t ∧ (s.ctx 5).tdi ≠ 1) ∧ ctlEn 0x80000006 = true ∧ ctlLoc 0x80000006 = false ∧
    (∀ d ∈ [0, 1], let s : State := { st0 with rings := [(5, { cq := { irq := 0x10, unsig := 2 } })], now := 1000 * 0x10 - d }
      let q := (s.ringsOf 5).cq
      fieldOf q.irq 0 16 ≠ 0 ∧ q.unsig ≠ 0 ∧ (d = 0 ↔ q.since + 1000 * fieldOf q.irq 0 16 ≤ s.now)) := by decide +kernel
theorem wit_ringRefusals : (st0.ctx 5).st ≠ 0 ∧ st0.dv (dkey 0x7080 0x02) < counterMax (dkey 0x7080 0x02) := by decide +kernel
theorem wit_fetchAndCompletion :
    (∀ n ∈ [1, 4], let s := { st0 with rings := [(5, { sq := [(0, { ctrl := 0x80000006, tail := 1 })], cq := { ctrl := 0x80000006 } })]
                                       ctxs := [(5, { cx0 with st := n })] }
     s.running = true ∧ (s.ctx 5).st = n ∧ s.ioWarned = false ∧ ctlEn (s.ring 5 0).ctrl = true ∧ ctlLoc (s.ring 5 0).ctrl = false ∧
     (s.ring 5 0).head ≠ (s.ring 5 0).tail ∧ (s.ring 5 0).cur = none ∧ ((s.ringsOf 5).cq).spill.length < 64) ∧
    opcodes.contains (cOpc (ci 0x64)) = true ∧ opcodes.contains (cOpc (ci 0x65)) = false ∧ hasRecord (cOpc (ci 0x10)) = true ∧
    (let q := ((onC 0).ringsOf 5).cq
     ctlEn q.ctrl = true ∧ q.full = false ∧ q.spill = [] ∧ ctlLoc q.ctrl = false ∧ hasRecord (cOpc (ci 0x20)) = false ∧ cIrq (ci 0x20) = false ∧
     fieldOf q.irq 16 16 = 0) := by decide +kernel
def windowedB (s : State) (ctx va n : Nat) (need : Need) (core off : Nat) : Bool :=
  decide (off + n ≤ (s.img ctx core).lsBytes) && (List.range n).all (fun k => s.xlate ctx (va + k) need == (0, .win core (off + k)))
/-- What a witness of `windowed` is decided by. -/
theorem windowed_of (s : State) (ctx va n : Nat) (need : Need) (core off : Nat) (h : windowedB s ctx va n need core off = true) :
    s.windowed ctx va n need core off := by
  simp only [windowedB, Bool.and_eq_true, decide_eq_true_eq, List.all_eq_true, List.mem_range, beq_iff_eq] at h
  exact h
theorem wit_orderCommands :
    (∀ o ∈ [0x00, 0x01, 0x02, 0x03], offersB (onC (ci o 0x20000 0 0 9)) 5 o (cm (ci o 0x20000 0 0 9)) = true ∧ cRec (ci o 0x20000 0 0 9) = 0 ∧
      cDep (ci o 0x20000 0 0 9) = false) ∧
    (let k := cm (ci 0x01 0 0 0 0 0 (2 ^ 31))
     let s := { onC 0 with rings := [(5, { sq := [(0, { cur := some k, failed := true })] })] }
     offersB s 5 0x01 k = true ∧ cDep k.img = true ∧ (s.ring 5 0).failed = true) ∧
    (onC (ci 0x01)).fenceDone 5 0 (cm (ci 0x01)) = true ∧
    (onC 0).fenceDone 5 0 { cm (ci 0x01 0 0 0 0 0 (2 ^ 48)) with bells := [(1, 4)] } = false ∧
    (onC 0).badAddr 5 0x20000 4 4 .write = false ∧ (onC 0).badAddr 5 0x10000 4 4 .write = true ∧ (onC 0).offVa 5 0x20000 = false ∧
    ((onC 0).flagWrite (cmdAg 5 (cm 0)) 0x20000 9).2 = 0 ∧
    ((onC 0).agRead (cmdAg 5 (cm 0)) .read 0x20000 4).2 = .ok [0, 0, 0, 0] ∧
    (∀ q ∈ ((onC 0).flagWrite (cmdAg 5 (cm 0)) 0x20000 9).1.reqs, q.xfer ≠ 77) := by decide +kernel
theorem wit_inWindows : (∀ o ∈ [0x02, 0x03], let i := ci o (winVa + 64) 0 0 9
      offersB (onC i) 5 o (cm i) = true ∧ (onC i).badAddr 5 (cA0 i) 4 4 .write = false ∧ (onC i).offVa 5 (cA0 i) = false ∧
      windowedB (onC i) 5 (cA0 i) 4 .write 0 64 = true ∧ windowedB (onC i) 5 (cA0 i) 4 .read 0 64 = true ∧ cA0 i % 4 = 0 ∧ (onC i).reqs = []) ∧
    (let i := ci 0x03 (winVa + 64) 0 0 0
     cArg0 i % 2 ^ 32 ≤ leNat ((onC i).winRead 5 0 64 4)) ∧ ctlLoc (((onC 0).ringsOf 5).cq).ctrl = false ∧
    (∀ i ∈ [ci 0x21 0 (winVa + 64) 0 16 7, ci 0x20 (winVa + 256) (winVa + 64) 0 16, ci 0x22 (winVa + 256) (winVa + 64) (winVa + 128) (1 + 16 * 2 ^ 32)],
      offersB (onC i) 5 (cOpc i) (cm i) = true ∧ cRec i = 0 ∧ cDep i = false ∧ (onC i).frameHolds 77 = false ∧ (onC i).perDie ≠ 0 ∧
      ((onC i).ctx 5).groves ≠ 0 ∧ (onC i).reqs = [] ∧ (cm i).aux = 0 ∧ (cm i).done = none ∧
      (onC i).badAddr 5 (cA1 i) 16 1 .write = false ∧ windowedB (onC i) 5 (cA1 i) 16 .write 0 64 = true ∧
      (onC i).badAddr 5 (winVa + 256) 16 1 .read = false ∧ windowedB (onC i) 5 (winVa + 256) 16 .read 0 256 = true ∧
      (onC i).badAddr 5 (winVa + 128) 4 4 .read = false ∧ windowedB (onC i) 5 (winVa + 128) 4 .read 0 128 = true ∧
      leNat ((onC i).winRead 5 0 128 4) = 0) ∧
    gRows (ci 0x22 0 0 0 (1 + 16 * 2 ^ 32)) = 1 ∧ gRowBytes (ci 0x22 0 0 0 (1 + 16 * 2 ^ 32)) = 16 := by decide +kernel
theorem wit_bulkCommands : st0.perDie ≠ 0 ∧
    (∀ i ∈ [ci 0x20 0x20000 0x20100 0 16, ci 0x21 0 0x20000 0 16 0x1122334455667788, ci 0x22 0x20000 0x21000 0x22000 (4 + 4096 * 2 ^ 32), ci 0x51 0x20000],
      offersB (onC i) 5 (cOpc i) (cm i) = true ∧ cRec i = 0 ∧ cDep i = false) ∧
    st0.badAddr 5 0x20000 16 1 .read = false ∧ st0.badAddr 5 0x20000 16 1 .write = false ∧ st0.badAddr 5 0x21000 (4 * 4096) 1 .write = false ∧
    st0.badAddr 5 0x22000 16 4 .read = false ∧ st0.badAddr 5 0x50000 16 1 .read = true ∧ st0.badAddr 5 0x50000 32 32 .read = true ∧
    gRowBytes (ci 0x22 0 0 0 (4 + 4096 * 2 ^ 32)) = 4096 ∧ gRows (ci 0x22 0 0 0 (4 + 4096 * 2 ^ 32)) = 4 ∧
    ((onC 0).agRead (cmdAg 5 (cm 0)) .read 0x20000 16).2 = .ok (List.replicate 16 0) ∧
    ((onC 0).agWrite (cmdAg 5 (cm 0)) 0x20100 (List.replicate 16 0)).2 = 0 ∧ (st0.ctx 5).groves ≠ 0 ∧ mapFind st0.exch 5 = none := by decide +kernel
/-- A snapshot entry: 64 bytes from 0x20000 to 0x20100, digests at 0x20200. -/
def sn0 (verify : Bool := false) : Nat := 0x20000 * 2 ^ 208 + 0x20100 * 2 ^ 160 + 0x20200 * 2 ^ 112 + 64 * 2 ^ 72 + (if verify then 2 ^ 71 else 0) + 2 ^ 70
theorem wit_snapshot :
    (let i := ci 0x51 0x20000
     let s := { onC i with mem := cellsWrite [] 0x110000 (leBytes 32 (sn0)) }
     let q := readSnap (cmdAg 5 (cm i)) 65536 (cA0 i) [] s
     s.badAddr 5 (cA0 i) 32 32 .read = false ∧ q.2 = .ok [sn0] ∧ (q.1.agDrop (cmdAg 5 (cm i))).perDie = s.perDie ∧
       (q.1.agDrop (cmdAg 5 (cm i))).entryRefused 5 sn0 = false ∧ snDigs sn0 % 32 = 0 ∧ mapFind s.exch 5 = none ∧
       (q.1.agDrop (cmdAg 5 (cm i))).exch = s.exch ∧ (q.1.agDrop (cmdAg 5 (cm i))).ctxs = s.ctxs) ∧
    (∀ v ∈ [false, true],
      let k := { cm (ci 0x51 0x20000) with stage := 1, ents := [sn0 v] }
      let s := onCx 5 k
      (s.ring 5 0).cur = some k ∧ snapAt k.ents k.aux 0 = some (sn0 v, 0, 0) ∧ snVerify (sn0 v) = v ∧ s.reqs = [] ∧
      (v = false → (s.snapCopy (cmdAg 5 k) (sn0 v) 0 0).2 = .ok) ∧
      (v = true → (s.snapVerify (cmdAg 5 k) (sn0 v) 0).2.1 = .ok)) := by decide +kernel
theorem wit_bulkUnits : (∀ p ∈ [(16, 16), (8, 16)],
    let k := cm (ci 0x21 0 (winVa + 64) 0 16 7)
    let s := onCx 5 k
    let v := s.updCmd 5 0 (fun k => { k with stage := 1 })
    (s.ring 5 0).cur = some k ∧ s.reqs.any (s.bulkAg 5 k).owns = false ∧ (v.fillUnit (s.bulkAg 5 k) k.img 0 (min p.1 p.2)).2 = .ok) := by decide +kernel
theorem wit_pageCommands :
    (let i := ci 0x30 0x40000 0x120000 0 (2 ^ 32 + 4) 0
     let s := { onC i with dev := { on0.dev with scrubbed := true } }
     offersB s 5 0x30 (cm i) = true ∧ targetOf 5 i = 5 ∧ mCount (cArg0 i) = 1 ∧ mSize (cArg0 i) = 0 ∧ cA0 i % 65536 = 0 ∧
     firstReason (s.mapReasons 5 (cA0 i) (mTarget i) (cArg0 i) ++ s.baseReasons 5 0 (cm i)) = none ∧
     (s.proposePages 5 (cA0 i) (mTarget i) (cArg0 i)).isSome = true ∧
     firstReason (s.mapReasons 5 0x40001 (mTarget i) (cArg0 i)) ≠ none) ∧
    (let i := ci 0x32 0x40000 0 0 (2 ^ 32) 0
     let s := { onC i with ctxs := [(5, { cx0 with leaves := cx0.leaves ++ [(4, { size := 0, target := 0x120000, r := true })] })]
                           owner := [(18, { ctx := 5, state := 1, perm := 2 })] }
     offersB s 5 0x32 (cm i) = true ∧ mapFind (s.ctx 5).leaves 4 = some { size := 0, target := 0x120000, r := true } ∧
     65536 * 4 < 0x40000 + leafBytes (mSize (cArg0 i)) * mCount (cArg0 i)) ∧
    (let i := ci 0x31 0x20000 0 0 65536 0
     let s := { onC i with owner := [(17, { ctx := 5, state := 2, perm := 3 })] }
     offersB s 5 0x31 (cm i) = true ∧ firstReason (s.unmapReasons 5 0x20000 65536 ++ s.baseReasons 5 0 (cm i)) = none ∧
     (s.removeLeaves 5 0x20000 0x30000).reqs = [] ∧
     ({ rq0 with va := 0x20000 } : Req).inRange 5 0x20000 0x30000 = true) ∧
    (let s := { on0 with owner := [(17, { ctx := 5, state := 3 })] }
     s.running = true ∧ (s.own 17).state = 3 ∧ s.granuleBusy 17 = false ∧ (∀ e ∈ s.ctxs, e.2.scrub = [])) := by decide +kernel

/-! Launches, steps, contexts. -/

/-- A code object of 128 bytes whose entry is at 64, as it lies at 0x100000. -/
def codeMem : List Host.Cell := cellsWrite [] 0x100000 (leBytes 64 (128 * 2 ^ 480 + 64 * 2 ^ 448 + 2 ^ 447))
def lci (opcLow : Nat := 0) : Nat := 0x10000 * 2 ^ 464 + 4 * 2 ^ 288 + 1 * 2 ^ 272 + 0x10 * 2 ^ 56 + opcLow
def onL (k : Cmd) (l : Launch) : State := { onCx 5 k with launches := [l], mem := codeMem, images := [] }
def cmL (stage : Nat) : Cmd := { cm (lci) with stage := stage, launch := 1 }
def laL : Launch := { la0 with cmd := lci, cores := [], size := 128 }
theorem wit_launches :
    (let s := onL (cm lci) la0
     offersB s 5 0x10 (cm lci) = true ∧ lReplay lci = false ∧ cRec lci = 0 ∧ cDep lci = false ∧
     (s.codeHeader 5 (lCode lci)).2 = some { size := 128, entry := 64, wagn := true } ∧
     firstReason (((s.codeHeader 5 (lCode lci)).1.agDrop (cmdAg 5 (cm lci))).launchReasons 5 lci (some { size := 128, entry := 64, wagn := true })) = none ∧
     firstReason (s.launchReasons 5 lci none) = some (Code.launchCode, 1)) ∧
    (∀ k ∈ [1, 2, 3], let s := onL (cmL k) laL
      s.running = true ∧ (s.ring 5 0).cur = some (cmL k) ∧ cOpc (cmL k).img = 0x10 ∧ s.launch? (cmL k).launch = some laL ∧ laL.fallen = false) ∧
    (st0.ctx 5).measuredCode 0x10000 128 = false ∧
    (let s := onL (cmL 2) laL
     (s.ctx 5).groves ≠ 0 ∧ s.exchanging 5 = false ∧ (s.ctx 5).quiesceBy = 0 ∧ s.launchFit 5 (lCores laL.cmd) laL.wagn = 0 ∧
     lPlen laL.cmd = 0 ∧ lCores laL.cmd = 1 ∧ (∀ k ∈ s.launchCores 5 laL.wagn, s.liveCtx k = some 5)) ∧
    (let s := { onL (cmL 2) laL with images := ((List.range 7).map (fun n => (imgKey 5 (n + 1), ({ launch := 9 } : Image)))) }
     (s.launchCores 5 laL.wagn).filter (fun n => (s.img 5 n).launch == 0) = [0]) ∧
    (let l := { laL with replay := [(lci, 7)] }
     let s := onL { cmL 2 with aux := 1 } l
     ((s.updLaunch 1 (fun k => { k with replay := [] })).codeHeader 5 (lCode lci)).2 = some { size := 128, entry := 64, wagn := true }) ∧
    (let l := { laL with ended := 4, begun := some 0, cores := [0] }
     let s := onL (cmL 3) l
     l.groups ≤ l.ended ∧ s.launchWork l = false ∧ s.launchReqs l = false ∧ l.begun ≠ none ∧
     (∀ n ∈ l.cores, ∀ e ∈ (s.img 5 n).groups, e.2.launch = l.id → e.2.halt.halted = false)) ∧
    (onL (cmL 3) { laL with fallen := true }).launch? 1 = some { laL with fallen := true } ∧
    (let s := onC (ci 0x20)
     cOpc (cm (ci 0x20)).img ≠ 0x10 ∧ (cm (ci 0x20)).tearing = false ∧ s.stalled 5 (cm (ci 0x20)) = false) ∧
    (let s := { onL (cmL 3) laL with images := [(imgKey 5 0, { launch := 1 })] }
     (s.img 5 0).launch = laL.id ∧ (s.img 5 0).xfers = [] ∧ ctlLoc ((s.ringsOf 5).cq).ctrl = false ∧ s.reqs = [] ∧ s.frameHolds 77 = false) ∧
    (let k := { cmL 3 with aux := 2, launch := 3 }
     let l := { laL with id := 3, isEntry := true, ended := 4, cores := [0] }
     let s := { onL k l with launches := [{ laL with id := 2 }, l] }
     (s.ring 5 0).cur = some k ∧ s.launch? k.launch = some l ∧ l.groups ≤ l.ended ∧ s.launchWork l = false ∧ s.launchReqs l = false ∧ l.id ≠ k.aux ∧
       (∀ n ∈ l.cores, (s.img l.ctx n).xfers = [])) := by decide +kernel
/-- The deadline of a launch and the timeout of a command, due and one nanosecond before. -/
theorem wit_deadlines : ∀ d ∈ [0, 1],
    (let l := { laL with begun := some 0 }
     let s : State := { onL (cmL 3) l with now := 1000000000 * l.deadline - d }
     s.launch? (cmL 3).launch = some l ∧ (d = 0 ↔ 0 + 1000000000 * l.deadline ≤ s.now)) ∧
    (let k := { cm (ci 0x20) with limit := 500 }
     let s : State := { onCx 5 k with now := 1000000 * 500 - d }
     (s.ring 5 0).cur = some k ∧ cOpc k.img ≠ 0x10 ∧ k.tearing = false ∧ s.stalled 5 k = false ∧ cOpc k.img ∉ [0x40, 0x41, 0x51] ∧ s.reqs = [] ∧
       s.frameHolds k.id = false ∧ (d = 0 ↔ k.prog + 1000000 * 500 ≤ s.now)) ∧
    (let k := { cm (ci 0x03 0x20000 0 0 (7 * 2 ^ 32)) with limit := 500, stage := 1 }
     cOpc k.img = 0x03 ∧ bits (cArg0 k.img) 32 32 = 7) := by decide +kernel
/-- An OPT_STEP block: one row of 4 elements of rule 0. -/
def oblk : Nat := 0x20000 * 2 ^ 976 + 0x20800 * 2 ^ 928 + 0x20400 * 2 ^ 784 + 2 ^ 704 + 4 * 2 ^ 672
/-- A block for EXCHANGE: device 0 alone, 64 elements, window 1. -/
def xblk : Nat := 0x20000 * 2 ^ 976 + 0x22000 * 2 ^ 880 + 64 * 2 ^ 840 + 2 ^ 776 + 2 ^ 694
def blkMem (b : Nat) : List Host.Cell := cellsWrite [] 0x118000 (leBytes 128 b)
def onBlk (opc b : Nat) : State := { onC (ci opc 0x28000) with mem := blkMem b }
theorem wit_stepCommands :
    (∀ e ∈ [(0x41, oblk), (0x40, xblk)], offersB (onBlk e.1 e.2) 5 e.1 (cm (ci e.1 0x28000)) = true ∧ (onBlk e.1 e.2).badAddr 5 0x28000 128 128 .read = false ∧
      ((onBlk e.1 e.2).agRead (cmdAg 5 (cm (ci e.1 0x28000))) .read 0x28000 128).2 = .ok (leBytes 128 e.2)) ∧
    leNat (leBytes 128 oblk) = oblk ∧ leNat (leBytes 128 xblk) = xblk ∧ oMask oblk = 0 ∧ clipSkips oblk = false ∧
    firstReason ([(false, Code.commandInvalid, 1), ((onBlk 0x41 oblk).optBad 5 oblk (some 0), Code.optParams, 1)] ++
      (onBlk 0x41 oblk).baseReasons 5 0 (cm (ci 0x41 0x28000))) = none ∧ (onBlk 0x41 0).optBad 5 0 (some 0) = true ∧
    xParts xblk = 0 ∧ (onBlk 0x40 xblk).perDie ≠ 0 ∧ (onBlk 0x40 xblk).exchBad 5 xblk (some []) = false ∧
    (onBlk 0x40 0).exchBad 5 0 (some []) = true ∧ (onBlk 0x40 xblk).onCores 5 = true ∧ mapFind (onBlk 0x40 xblk).exch 5 = none := by decide +kernel
/-- An OPT_STEP whose clip factor is NaN under CLIP; an EXCHANGE while no launch of the context holds a core, alone without exchange step, and
with another under way. -/
theorem wit_stepOthers : (onBlk 0x41 oblk).alder.steps = [] ∧ cRec (ci 0x41 0x28000) = 0 ∧ cDep (ci 0x41 0x28000) = false ∧
    (let s := { onBlk 0x40 xblk with launches := [] }
     s.launches = [] ∧ (s.agRead (cmdAg 5 (cm (ci 0x40 0x28000))) .read 0x28000 128).1.reqs = [] ∧ xExchanges (xblk + 2 ^ 694) = false ∧ s.exchBad 5 (xblk + 2 ^ 694) (some []) = false) ∧
    mapFind ({ onBlk 0x40 xblk with exch := [(5, ex0 3 false)] } : State).exch 5 ≠ none := by decide +kernel
def ost : OptStep := { ctx := 5, ring := 0, blk := oblk, left := [0] }
def onO : State := { onBlk 0x41 oblk with alder := { steps := [ost] } }
theorem wit_alderChunk : let e := ((List.range 16).find? (fun e => onO.engineNext e == some (ost, 0))).getD 0
    onO.engineOk e = true ∧ onO.enginePaused e = false ∧ onO.pwr.domOff.contains (864 + e) = false ∧ onO.engineNext e = some (ost, 0) ∧
    (onO.ring 5 0).cur = some (cm (ci 0x41 0x28000)) ∧ onO.agBusy (cmdAg 5 (cm (ci 0x41 0x28000))) = false ∧
    (onO.chunkRun (engAg 5 e 0 (cm (ci 0x41 0x28000))) ost 0).2.st = Code.running := by decide +kernel
/-- The chunk tried again with its reads answered, round by round, until it comes to its result. -/
def rounds : Nat → State → State
  | 0, s => s
  | n + 1, s =>
    let u := (s.chunkRun (engAg 5 0 0 (cm (ci 0x41 0x28000))) ost 0).1
    rounds n { u with reqs := u.reqs.map (fun r => { r with ph := .done, res := match r.op with | .rd k => List.replicate k 0 | _ => [] }) }
theorem wit_alderChunkDone : let s := rounds 4 onO
    s.engineNext 0 = some (ost, 0) ∧ s.agBusy (cmdAg 5 (cm (ci 0x41 0x28000))) = false ∧ s.alder.steps = [ost] ∧
    (s.chunkRun (engAg 5 0 0 (cm (ci 0x41 0x28000))) ost 0).2.st = 0 := by decide +kernel
theorem wit_chunkLands : ∀ left ∈ [[], [1]],
    let o := { ost with left := left, flying := [(0, 0, { n := 4 })] }
    let s := { onO with alder := { steps := [o] } }
    let o' : OptStep := { o with flying := [], updated := 4 }
    s.reqs = [] ∧ (oRule o.blk ≠ 3 ∧ oRule o.blk ≠ 4) ∧
      (left = [] ∨ (((s.count (dkey 0x3080 0x02) 4).updStep o.key (fun _ => o')).progress 5 0).engineNext 15 = none) := by decide +kernel
theorem wit_queryCommands :
    (∀ o ∈ [0x52, 0x53, 0x50], offersB (onC (ci o 0x20000 0x21000)) 5 o (cm (ci o 0x20000 0x21000)) = true) ∧
    (let s := { onC (ci 0x52 0x20000 0x21000) with dict := [(dkey 0x6000 0x01, 1)] }
     s.dv (dkey 0x6000 0x01) ≠ 0 ∧ attestTarget 5 (ci 0x52 0x20000 0x21000) = 5 ∧ (s.ctx 5).st ≠ 0 ∧ s.badAddr 5 0x20000 640 1 .write = false ∧
     s.badAddr 5 0x21000 48 1 .read = false) ∧
    (let s := onC (ci 0x52 0x20000 0x21000)
     s.dv (dkey 0x6000 0x01) = 0 ∧ s.hashing 5 = false ∧ (s.agRead (cmdAg 5 (cm 0)) .read 0x21000 48).2 = .ok (List.replicate 48 0)) ∧
    (∀ m < 4, qMode (ci 0x53 0 0 0 (m * 2 ^ 24)) = m) ∧ on0.mgmt.hand = none ∧ on0.mgmt.queue = [] ∧
    (st0.dictRead (qCls 5) (qKey (ci 0x53 0 0 0 0x400001))).2.1 = 0 ∧ (st0.dictRead (qCls 5) (qKey (ci 0x53 0 0 0 0x400001))).2.2.length ≤ 8 ∧
    (st0.dictRead (qCls 5) (qKey (ci 0x53 0 0 0 0x4010FE))).2.1 ≠ 0 ∧
    (let i := ci 0x50 0 0 0 (2 ^ 16 + 0x0301)
     let s := { onC i with dict := [(dkey 0x2001 0x01, 1)] }
     s.dv (dkey 0x2001 0x01) ≠ 0 ∧ hDies i = 2 ^ 0 ∧ (s.ctxDies 5).contains 0 = true ∧ 1 ≤ hClass i ∧ hClass i ≤ 3 ∧ (s.die 0).held = false ∧
     (s.die 0).down = false) ∧ ({ onC 0 with dict := [(dkey 0x2001 0x01, 0)] } : State).dv (dkey 0x2001 0x01) = 0 := by decide +kernel
theorem wit_attestWindow : let i := ci 0x52 (winVa + 1024) winVa
    offersB (onC i) 5 0x52 (cm i) = true ∧ (onC i).badAddr 5 (winVa + 1024) 640 1 .write = false ∧ (onC i).badAddr 5 winVa 48 1 .read = false ∧
    (onC i).hashing 5 = false ∧ attestTarget 5 i = 5 ∧ (onC i).reqs = [] ∧ (onC i).frameHolds 77 = false ∧ (cm i).done = none ∧
    windowedB (onC i) 5 (winVa + 1024) 640 .write 0 1024 = true ∧ windowedB (onC i) 5 winVa 48 .read 0 0 = true := by decide +kernel
theorem wit_hintHold : let i := ci 0x50 0 0 0 (2 ^ 16 + 0x0300)
    let s := { onC i with dict := [(dkey 0x2001 0x01, 1)], pwr := { on0.pwr with dies := [(0, { held := true })] } }
    offersB s 5 0x50 (cm i) = true ∧ hDies i = 2 ^ 0 ∧ (s.ctxDies 5).contains 0 = true ∧ hClass i = 0 ∧ (s.die 0).held = true ∧
    (s.die 0).guards = [] ∧ (s.die 0).hold = none := by decide +kernel
def onA (img : Nat) : State := onCx 4096 (cm img)
/-- Context 5 as CTX_DESTROY leaves it, with nothing under way and with a launch whose write is still to be answered. -/
def destroyed (s : State) : State :=
  ((s.updCmd 4096 0 (fun k => { k with stage := 1 })).updCtx 5 (fun x => { x with st := 4 })).forcedStop 5 Code.tornDown
def gone : State := destroyed { onA (ci 0x61 0 0 0 0 0 5) with launches := [], images := [] }
def going : State := destroyed { onA (ci 0x61 0 0 0 0 0 5) with reqs := [{ rq0 with ph := .queued }] }
theorem wit_contextCommands :
    (let i := ci 0x60 0 0 0 9
     offersB (onC i) 5 0x60 (cm i) = true ∧ offersB (onA i) 4096 0x60 (cm i) = true ∧ (onA i).perDie ≠ 0 ∧ bitAt i 12 = false ∧
     bits (cArg0 i) 0 12 = 9 ∧ ((onA i).ctx 9).st = 0 ∧ plGroves (cArg1 i) = 0 ∧ ctlLoc (((onA i).ringsOf 4096).cq).ctrl = false) ∧
    (let i := ci 0x60 0 0 0 5
     offersB (onA i) 4096 0x60 (cm i) = true ∧ ((onA i).ctx 5).st ≠ 0) ∧
    (let i := ci 0x63 0 0 0 0 0 5
     let s := { onA i with ctxs := [(5, { cx0 with st := 2 })] }
     offersB s 4096 0x63 (cm i) = true ∧ targetOf 4096 i = 5 ∧ (s.ctx 5).st = 2 ∧ (s.ctx 5).groves ≠ 0 ∧
     (∀ e ∈ s.parts, 5 ∈ e.2.members → e.2.resident ≠ nobody)) ∧
    (let i := ci 0x62 0 0 0 0 0 5
     offersB (onA i) 4096 0x62 (cm i) = true ∧ targetOf 4096 i = 5 ∧ ((onA i).ctx 5).st = 1) ∧
    (let i := ci 0x62 0 0 0 0 0 (2 ^ 12 + 2 ^ 48)
     offersB (onA i) 4096 0x62 (cm i) = true ∧ targetOf 4096 i = 4096 ∧ bitAt (cFlags i) 0 = true) ∧
    (let i := ci 0x61 0 0 0 0 0 5
     let s := onA i
     offersB s 4096 0x61 (cm i) = true ∧ targetOf 4096 i = 5 ∧ (s.ctx 5).st = 1 ∧ s.switching 5 = false) ∧
    gone.quiet 5 = true ∧ (∀ e ∈ (gone.ringsOf 5).sq, ctlEn e.2.ctrl = false) ∧ gone.accessing 5 = false ∧ going.quiet 5 = false := by
  decide +kernel
theorem wit_contextMoves :
    (let i := ci 0x63 0 0 0 0 (100 * 2 ^ 16 + 1 * 2 ^ 8 + 7) 5
     let s := { onA i with ctxs := [(5, { cx0 with st := 2, groves := 0 })], parts := [], images := [], dev := { on0.dev with scrubbed := true } }
     offersB s 4096 0x63 (cm i) = true ∧ (s.ctx 5).st = 2 ∧ (s.ctx 5).groves = 0 ∧ plGroves (cArg1 i) ≠ 0 ∧
     firstReason (s.placeReasons 5 (cArg1 i)) = none ∧ ((s.updCtx 5 (fun x => { x with st := 1 })).placeCtx 5 (cArg1 i)).isSome = true) ∧
    (let i := ci 0x62 0 0 0 0 0 (2 ^ 12 + 2 ^ 48)
     let s := onA i
     s.adminRuns = false ∧ s.switching 4096 = false ∧ (s.ctx 4096).groves = 0) ∧
    (let i := ci 0x62 0 0 0 0 0 5
     let s := { onA i with ctxs := [(5, { cx0 with st := 2 })] }
     offersB s 4096 0x62 (cm i) = true ∧ (s.ctx 5).st = 2 ∧ bitAt (cFlags i) 0 = false) ∧
    (let i := ci 0x62 0 0 0 0 0 5
     let s := { onA i with launches := [], images := [] }
     (s.ctx 5).st = 1 ∧ s.quiet 5 = true ∧ s.switching 5 = false) := by decide +kernel
theorem wit_tenantTimes :
    (∀ q ∈ [1, 3], let s := { st0 with ctxs := [(5, { cx0 with st := 3, quiesceBy := q })], now := 1 }
      (s.ctx 5).st = 3 ∧ (s.ctx 5).quiesceBy ≠ 0 ∧ (q = 1 ↔ (s.ctx 5).quiesceBy ≤ s.now + 1)) ∧
    (let s := { st0 with ctxs := [(5, { cx0 with st := 3, quiesceBy := 1 })], launches := [], images := [] }
     s.quiet 5 = true ∧ s.switching 5 = false) ∧
    (∀ l ∈ st0.launches, l.ctx = 5 → l.fallen = false) ∧ st0.board.pcie ≠ none ∧ st0.dv (dkey 0x6000 0x01) = 0 ∧
    (let s := { st0 with dict := [(dkey 0x6000 0x01, 1)] }
     s.dv (dkey 0x6000 0x01) ≠ 0) ∧
    (∀ d ∈ [0, 1], let p : Part := { groves := 1, slice := 100, members := [5, 6], resident := 5 }
      let s : State := { st0 with ctxs := [(5, cx0), (6, cx0)], parts := [(0, p)], launches := [{ la0 with ctx := 6 }], now := 100000 - d }
      mapFind s.parts 0 = some p ∧ p.toCtx = none ∧ (d = 0 ↔ p.begun + 1000 * p.slice ≤ s.now) ∧ s.nextMember p = some 6) ∧
    (let busy : Part := { groves := 1, slice := 100, members := [5], resident := 5, toCtx := some 5, jobs := [0] }
     let s := { st0 with parts := [(0, { groves := 1, slice := 100, members := [5, 6], resident := 5 }), (1, busy), (2, busy), (3, busy), (4, busy)] }
     ∃ d ∈ s.partDies 0 1, 4 ≤ s.jobsOn d) ∧
    (let s := { st0 with launches := [{ la0 with fallen := true, forced := some 0 }], now := 1000000 }
     (∃ l ∈ s.launches, l.fallen = true ∧ l.forced = some 0 ∧ 0 + 1000000 ≤ s.now ∧ ∃ k < 8, 8 * 0 + k ∈ l.cores)) := by decide +kernel
theorem wit_tenantEvents : st0.running = true ∧
    (let s := { st0 with ctxs := [(5, { cx0 with st := 3 })] }
     (s.ctx 5).st = 3 ∧ s.quiet 5 = false) ∧
    (st0.ctx 5).st = 1 ∧ (st0.ctx 5).tdi = 0 ∧ (st0.ctx 6).st = 0 ∧
    ({ st0 with mgmt := { st0.mgmt with spdm := true } } : State).mgmt.spdm = true ∧
    (∀ t ∈ [1, 2], (({ st0 with ctxs := [(5, { cx0 with tdi := t })] } : State).ctx 5).tdi = t) ∧
    (let p : Part := { groves := 1, slice := 100, members := [5, 6], resident := 5 }
     let s := { st0 with ctxs := [(5, cx0), (6, cx0)], parts := [(0, p)] }
     s.nextMember p = some 5 ∧ (∀ d ∈ s.partDies 0 1, s.jobsOn d < 4) ∧
     ({ s with launches := [{ la0 with ctx := 6 }] } : State).nextMember p = some 6) ∧
    (∃ k < 8, 8 * (0 : Fin 72).val + k ∈ la0.cores) := by decide +kernel
theorem wit_coreFence :
    (let i := ci 0x64 0 0 0 3
     let s := onA i
     offersB s 4096 0x64 (cm i) = true ∧ (s.physOf (cArg0 i % 1024)).isSome = true) ∧
    (onA 0).served 600 = false ∧
    (let s := { onA (ci 0x64 0 0 0 3) with launches := [] }
     s.launches = [] ∧ (∀ e ∈ s.images, e.2.xfers = []) ∧ ctlLoc ((s.ringsOf 4096).cq).ctrl = false) ∧
    (let s := { on0 with dev := { on0.dev with fenced := [5] } }
     s.dev.fenced.contains (s.physAny 5) = true) := by decide +kernel

/-! Management, power, reports, the board. -/

def dg (typ : Nat) (payload : List Byte) (session seq : Nat) : Dgram :=
  { ver := 1, typ := typ, reserved := false, token := false, alarms := true, seg := 0, segs := 1, len := payload.length
    session := session, seq := seq, payload := payload, tag := 0 }
def onSess (sess : Map Sess) : State := { on0 with mgmt := { on0.mgmt with port := 1, sess := sess } }
theorem wit_sessions : (onSess []).running = true ∧ (onSess []).mgmt.port = 1 ∧ (∀ t ∈ [1, 3, 4, 5, 8, 9], dgramBad { dg t [] 7 1 with ver := 2 } = true) ∧
    (let d := dg 1 (List.replicate 129 4) 0 0
     dgramBad d = false ∧ d.segs = 1 ∧ d.session = 0 ∧ d.payload.length = 129 ∧ (onSess []).dv (dkey 0x6000 0x01) = 0 ∧ (onSess []).mgmt.sess.length < 4) ∧
    (∀ t ∈ [3, 4, 5, 8, 9], dgramBad (dg t [1, 2, 3, 4] 7 1) = false ∧ (dg t [1, 2, 3, 4] 7 1).segs = 1) ∧
    (∀ t ∈ [1, 3, 4, 5, 8, 9], (dg t [] 7 1).framed = true) ∧ ({ dg 4 [] 7 1 with framed := false } : Dgram).framed = false ∧
    (onSess [(7, {})]).sess? 7 = some {} ∧ (onSess [(7, {})]).now < ({} : Sess).began + 1000000000 ∧
    (let s := { onSess [(7, { began := 5 })] with now := 1000000005 }
     s.sess? 7 = some { began := 5 } ∧ ({ began := 5 } : Sess).began + 1000000000 ≤ s.now) ∧
    (let s := { onSess [(7, { isOpen := true, idle := 5 })] with now := 10 ^ 15 }
     (s.dv (dkey 0x1100 0x08) * 1000000000 + 5 ≤ s.now) ∧ ¬ (onSess []).now ≥ 5 + (onSess []).dv (dkey 0x1100 0x08) * 1000000000) ∧
    on0.now < ({ seq := 2, began := 0, typ := 5, token := false, segs := 2 } : Asm).began + 100000000 ∧
    ({ seq := 2, began := 0, typ := 5, token := false, segs := 2 } : Asm).began + 100000000 ≤ ({ on0 with now := 10 ^ 9 } : State).now ∧ (onSess [(7, { isOpen := true })]).sess? 7 = some { isOpen := true } ∧
    (dg 4 [] 7 1).seq = ({} : Sess).reqSeq + 1 ∧ (dg 4 [] 7 3).seq = ({ reqSeq := 3 } : Sess).reqSeq ∧ (dg 4 [] 7 3).seq ≠ ({ reqSeq := 5 } : Sess).reqSeq + 1 ∧
    ({ asm := [{ seq := 2, began := 0, typ := 5, token := false, segs := 2 }] } : Sess).asm.find? (fun a => a.seq == 2) =
      some { seq := 2, began := 0, typ := 5, token := false, segs := 2 } ∧
    (BitVec.ofNat 128 on0.mgmtAddress).toNat = on0.mgmtAddress ∧ (BitVec.ofNat 128 (on0.mgmtAddress + 1)).toNat ≠ on0.mgmtAddress := by decide +kernel
def wj : JWrite := { key := dkey 0x2000 0x01, val := 700, began := 0 }
def onJ (f : Mgmt → Mgmt) : State := { on0 with mgmt := f on0.mgmt }
theorem wit_mailboxAndJournal : on0.running = true ∧ on0.board.pcie ≠ none ∧ on0.Serves ∧
    (∃ e, entryAt (dkey 0x2000 0x01) = some e ∧ e.acc = .rws ∧ bitAt e.classes 3 = false ∧ e.fits [0xBC, 0x02] = true) ∧
    mayWrite .h (dkey 0x2000 0x01) = true ∧ on0.rwsBad (dkey 0x2000 0x01) 700 = 0 ∧ entryAt (dkey 0x2000 0xEE) = none ∧
    on0.now < wj.began + 50000000 ∧ ({ wj with began := 5 } : JWrite).began + 50000000 ≤ ({ on0 with now := 10 ^ 9 } : State).now ∧ (mapGet ({} : Mbox) on0.mgmt.mbox 5).go = false ∧
    (mapGet ({} : Mbox) (onJ (fun m => { m with mbox := [(5, { go := true })] })).mgmt.mbox 5).go = true ∧ on0.mgmt.hand = none ∧
    on0.mgmt.queue = [] ∧ mayRead .h (dkey 0x2000 0x01) = true ∧ keySub (dkey 0x2000 0x01) ≠ 0 ∧ fieldOf (0x200001 : Word) 0 24 = dkey 0x2000 0x01 ∧
    (entryAt (dkey 0x2000 0x01)).map Entry.bytes = some 2 ∧ mayRead (.t 5) (dkey 0x4021 0x01) = false ∧ on0.jRoom wj = true ∧
    (onJ (fun m => { m with own := [wj] })).mgmt.jNext = .own wj ∧ (onJ (fun m => { m with hand := some wj })).mgmt.jNext = .hand wj ∧
    (onJ (fun m => { m with late := [wj], hand := some wj })).mgmt.jNext = .late wj ∧ wj.signed = none ∧ on0.mgmt.compactNext = false ∧ wj.eff = 0 ∧
    ({ wj with eff := 1, keep := true } : JWrite).keep = true ∧ on0.fencedFlash = false ∧
    ((onJ (fun m => { m with compact := some 3 })).mgmt.area true).erased = true ∧
    ((onJ (fun m => { m with b := { erased := false } })).mgmt.area true).erased = false := by decide +kernel
def onDie (p : DieP) : State := { on0 with pwr := { on0.pwr with dies := [(2, p)], ft := 5760 } }
theorem wit_rootsAndKeeper :
    (let s := onDie { root := 3600, volt := 5760, target := 5760 }
     s.running = true ∧ s.railLow 2 = false ∧ (s.die 2).down = false ∧ (s.die 2).frozen = false ∧ (s.die 2).supp = 0 ∧
     (s.die 2).root < s.rootGoal 2 ∧ rootUp (s.die 2).root ≤ (s.die 2).volt) ∧
    (let s := onDie { root := 3600, volt := 3600, target := 5760 }
     (s.die 2).root < s.rootGoal 2 ∧ (s.die 2).volt < rootUp (s.die 2).root) ∧
    (let s := onDie { root := 5760, volt := 5760, target := 3600 }
     s.rootGoal 2 < (s.die 2).root) ∧
    (let s := onDie { root := 4800, volt := 4800, target := 4800 }
     s.rootGoal 2 = (s.die 2).root) ∧
    (let s := onDie { root := 4800, volt := 5000, target := 4800, want := some 4800 }
     s.rootGoal 2 = (s.die 2).root ∧ (s.die 2).volt ≠ (s.die 2).root ∧ (s.die 2).want = some 4800) ∧
    (let s := onDie { guards := [{ mv16 := 3, ready := true }], hold := some 9, frozen := true }
     (∃ g ∈ (s.die 2).guards, g.ready = true ∧ g.cmd = 0) ∧ (s.die 2).hold = some 9 ∧ (s.die 2).supp = 0 ∧ s.railLow 2 = false) ∧
    (let s := onDie { guards := [{ mv16 := 3, ready := true, ends := 50 }] }
     s.now < 50 ∧ ∀ g ∈ (s.die 2).guards, g.ready = true → g.cmd = 0 → s.now < g.ends) ∧
    (∀ e < 8, ((onDie { want := some 4800 }).die e).guards = []) ∧ ((onDie { want := some 4800 }).die 2).want = some 4800 ∧
    (let s := { onDie { supp := 3, want := some 4800, hold := some 9, holdTo := 100000, askAt := 10, clearAt := 10 } with now := 100000 }
     (s.die 2).askAt + 20000 ≤ s.now ∧ (s.die 2).holdTo ≤ s.now ∧ s.hinting 2 = false ∧ (s.die 2).supp ≠ 0 ∧ (s.die 2).clearAt + 20 ≤ s.now) ∧
    (let s := onDie { holdTo := 9, clearAt := 1 }
     s.now < (s.die 2).holdTo ∧ s.now < (s.die 2).askAt + 20000 ∧ s.now < (s.die 2).clearAt + 20) ∧
    (let s := { onDie { supp := 0, frozen := true, clearAt := 10 } with now := 5010 }
     (s.die 2).supp = 0 ∧ s.railLow 2 = false ∧ (s.die 2).clearAt + 5000 ≤ s.now) ∧
    (onDie { clearAt := 10 }).now < ((onDie { clearAt := 10 }).die 2).clearAt + 5000 ∧
    on0.now < (on0.rail 3).lastOk + 2000000 ∧
    (({ on0 with now := 3000000 } : State).rail 9).lastOk + 2000000 ≤ ({ on0 with now := 3000000 } : State).now ∧
    (({ on0 with now := 3000000 } : State).rail 7).lastOk + 2000000 ≤ ({ on0 with now := 3000000 } : State).now ∧
    ((onDie { supp := 3 }).die 2).supp ≠ 0 ∧ on0.dv (dkey 0x2020 0x01) ≠ 0 ∧
    ({ on0 with dict := [(dkey 0x2020 0x01, 0)] } : State).dv (dkey 0x2020 0x01) = 0 ∧
    loadFell 2 ([1] ++ List.replicate 11 32) = true ∧ loadFell 2 (List.replicate 11 32) = false ∧
    (∀ n ∈ on0.dieCores 2, on0.govWaits n = false) ∧
    (let s := { st0 with images := [(imgKey 5 0, { im0 with mxq := [{ op0 with gov := 1 }] })] }
     ∃ n ∈ s.dieCores (s.dieOf 0), s.govWaits n = true) := by decide +kernel
def onRail (k : Nat) (r : RailP) : State := { on0 with pwr := { on0.pwr with rails := [(k, r)] } }
theorem wit_supplyAndDomains : on0.running = true ∧ (on0.rail 39).st = 0 ∧ ((onRail 3 { st := 1 }).rail 3).st ≠ 0 ∧
    (∃ e ∈ (onRail 3 { st := 1 }).pwr.rails, e.2.st ≠ 0) ∧ (∀ e ∈ (onRail 3 { st := 1 }).pwr.rails, e.2.st ≠ 2) ∧
    ((onRail 3 { st := 1 }).rail 3).st = 1 ∧
    (∀ e ∈ (onRail 3 { st := 1 }).pwr.rails, e.2.st ≠ 0 → (onRail 3 { st := 1 }).now ≤ e.2.since + 1000000) ∧
    (onRail 3 { st := 1 }).now ≤ ((onRail 3 { st := 1 }).rail 3).since + 1000000 ∧
    (let s := { onRail 3 { st := 1, since := 4 } with now := 1000005 }
     s.running = true ∧ (s.rail 3).st = 1 ∧ (s.rail 3).since + 1000000 < s.now) ∧
    (let s := { on0 with dev := { on0.dev with phase := .safe }, pwr := { on0.pwr with failed := true } }
     s.dev.phase = .safe ∧ s.pwr.failed = true) ∧
    (on0.die 7).down = false ∧ ((onDie { down := true }).die 2).down = true ∧ on0.domainNaps 720 = true ∧ on0.domainNaps 847 = true ∧
    on0.domainNaps 864 = true ∧ on0.domainNaps 879 = true ∧ on0.domainBusy 720 = false ∧ on0.domainBusy 879 = false ∧
    (onR (rqAt nearBase (.rd 32)) (qNear 0 0)).domainBusy 720 = true := by decide +kernel
theorem wit_thermalAndHealth : on0.running = true ∧ (mapGet ({} : SensorP) on0.pwr.sensors (sensorKey (.ioDie true 7))).failed = false ∧
    (let s := { on0 with pwr := { on0.pwr with sensors := [(sensorKey (.core 5), { read := true, temp := 99 })] } }
     s.tj (sensorDie (.core 5)) = some 99) ∧
    (on0.die 2).down = false ∧ ((onDie { down := true }).die 2).down = true ∧ on0.arrayIdle 639 = true ∧ on0.katDue 5 = false ∧
    ({ on0 with rep := { on0.rep with kats := [(5, { rerun := some 2 })] } } : State).katDue 5 = true ∧ (1 : BitVec 16) ≠ 0 ∧
    on0.dev.fenced.contains 639 = false := by decide +kernel
def al (n : Nat) : Alarm := { aseq := n, cls := 7, unit := 0, event := n, st := 0, prio := 2 }
def yw : Yew := { kind := 0, cls := 7, unit := 0, event := 1 }
def onY (f : Rep → Rep) : State := { on0 with rep := f on0.rep }
theorem wit_reportsAndBoard : (((List.range 20).map al).map Alarm.aseq).Nodup ∧
    (let s := onY (fun r => { r with held := [al 1, al 2], queue := [al 3] })
     s.running = true ∧ s.rep.held = [al 1] ++ al 2 :: [] ∧ (∀ b ∈ [al 1], b.cls * 65536 + b.event ≠ (al 2).cls * 65536 + (al 2).event) ∧
     s.rep.queue ≠ [] ∧ s.now + 1 < mapGet 0 s.rep.lastQueued ((al 2).cls * 65536 + (al 2).event) + 100000000) ∧
    (let s := { onY (fun r => { r with held := [al 1, al 2] }) with now := 100000000 }
     mapGet 0 s.rep.lastQueued ((al 2).cls * 65536 + (al 2).event) + 100000000 ≤ s.now + 1) ∧ on0.rep.queue = [] ∧
    (let s := onY (fun r => { r with staging := [yw], started := true, nextSlot := 262142 })
     s.rep.staging = yw :: [] ∧ s.rep.started = true ∧ s.rep.full = false ∧ s.rep.nextSlot ≤ 262142 ∧ s.fencedFlash = false ∧ s.rep.erasing = 0) ∧
    (let s := onY (fun r => { r with staging := [yw], started := true, erasing := 1 })
     s.rep.erasing = 0 + 1 ∧ decide (s.rep.erasing ≤ s.rep.nextSlot / 1024 + 1) = true) ∧
    State.reset.dev.phase = .held ∧ State.reset.board.outOfOrder = none ∧ on0.dev.phase ≠ .held ∧ on0.dev.phase ≠ .noRefclk ∧
    on0.board.pcie ≠ none ∧ ({ on0 with board := State.reset.board } : State).board.pcie = none ∧ State.reset.running = false ∧
    on0.board.rrs = true ∧ ({ on0 with board := { on0.board with rrs := false } } : State).board.rrs = false := by decide +kernel
/-- A rail history out of order: the second group is valid before the first. -/
theorem wit_railsOutOfOrder : ({ rails := (List.range 40).map (fun k => (k, ({ ten := some 0, ninety := some 0, valid := some (40 - k, 0) } : RailLatch))) }
    : Board).outOfOrder.isSome = true := by decide +kernel
theorem wit_fencedCore : on0.dev.fenced.contains 639 = false ∧ on0.launches = [] ∧ on0.images = [] ∧ on0.logOf 5 ≠ 0x3FF ∧ on0.logOf 5 < 1024 := by decide +kernel
theorem wit_stepRunsFront : on0.pending = [] ∧ on0.images = [] ∧ on0.launches = [] ∧ on0.rings = [] := by decide +kernel
theorem wit_memoryStaysCanonical : Memory.wf on0.mem = true ∧ Memory.wf codeMem = true := by decide +kernel
theorem wit_decodeInverts : (Instr.iadd g0 (iw 0 1 2 3 4)).group = some { opc := 0x10, g := g0, w := iw 0 1 2 3 4 } ∧
    (decodeWord 0x00000000000000000000000201030010).isSome = true ∧ (decodeWord 0xFF).isNone = true := by decide +kernel

/-! Single steps and checks of arithmetic, from hand calculation; the CRC check values are those of the named polynomials. -/

/-- Register rd of lane 0 of the group in slot 0 of core 0 after a command. -/
def regAfter (c : Instr) (s : State) (rd : Nat) : Option Word :=
  match exec c s with
  | .next t => (mapFind (t.img 5 0).groups 0).map (fun g => g.reg rd 0)
  | _ => none
/-- The fixture with registers 1 and 2 of lane 0 set. -/
def st2 (a b : Word) : State := stg im0 { gr0 with regs := [(32, a), (64, b)] }
theorem test_iadd_wraps : regAfter (.iadd g0 (iw 0 3 1 2 0)) (st2 0xFFFFFFFF 2) 3 = some 1 := by decide +kernel
theorem test_isub_order : regAfter (.isub g0 (iw 0 3 1 2 0)) (st2 5 7) 3 = some 0xFFFFFFFE := by decide +kernel
theorem test_sar_sign : regAfter (.sar g0 (iw 0 3 1 2 0)) (st2 0x80000000 4) 3 = some 0xF8000000 := by decide +kernel
theorem test_imin_unsigned : regAfter (.imin g0 (iw 2 3 1 2 0)) (st2 0xFFFFFFFF 2) 3 = some 2 := by decide +kernel
theorem test_imin_signed : regAfter (.imin g0 (iw 0 3 1 2 0)) (st2 0xFFFFFFFF 2) 3 = some 0xFFFFFFFF := by decide +kernel
theorem test_fadd : regAfter (.fadd g0 (iw 0 3 1 2 0)) (st2 0x3F800000 0x40000000) 3 = some 0x40400000 := by decide +kernel
theorem test_fmul_round : regAfter (.fmul g0 (iw 0 3 1 2 0)) (st2 0x3F800001 0x3F800001) 3 = some 0x3F800002 := by decide +kernel
theorem test_zr_discards : regAfter (.iadd g0 (iw 0 0 1 2 0)) (st2 1 2) 0 = some 0 := by decide +kernel
theorem test_step_takes_front : (match step { st2 1 2 with pending := [.iadd g0 (iw 0 3 1 2 0), .nop g0 (iw 0 0 0 0 0)] } with
    | .next t => (t.pending.length, (mapFind (t.img 5 0).groups 0).map (fun g => g.reg 3 0)) | _ => (9, none)) = (1, some 3) := by decide +kernel
theorem test_crcs : crc32 [49, 50, 51, 52, 53, 54, 55, 56, 57] = 0xCBF43926 ∧ crc32c [49, 50, 51, 52, 53, 54, 55, 56, 57] = 0xE3069283 ∧
    crc64 [49, 50, 51, 52, 53, 54, 55, 56, 57] = 0x6C40DF5F0B497347 := by decide +kernel
theorem test_block_code : decodeBlock (List.replicate 63 0 ++ [0]) (freshSide (List.replicate 64 0) 0) = .good (List.replicate 64 0) := by decide +kernel

/-! Ill-formed commands: each check refuses one, and takes its nearest well-formed neighbour. -/

theorem test_wf_class : (Instr.dbgHalt (.t 4096)).wf = false ∧ (Instr.dbgHalt (.t 4095)).wf = true ∧ (Instr.dbgResume (.t 4096)).wf = false ∧
    (Instr.dbgStep (.t 4096)).wf = false ∧ (Instr.dbgAuth (.t 4096) 0).wf = false ∧ (Instr.dbgDataRead (.t 4096)).wf = false ∧
    (Instr.srSeed (.t 4096) 0 0).wf = false ∧ (Instr.counterClear (.t 4096) 0 []).wf = false := by decide
theorem test_wf_debugData : (Instr.dbgDataWrite .h (List.replicate 127 0)).wf = false ∧ (Instr.dbgDataWrite .h (List.replicate 128 0)).wf = true ∧
    (Instr.dbgDataWrite (.t 4096) (List.replicate 128 0)).wf = false := by decide +kernel
theorem test_wf_breakpoint : (Instr.breakpointWrite .h 0 0).wf = false ∧ (Instr.breakpointWrite .h 0x19 0).wf = false ∧
    (Instr.breakpointWrite .h 0x18 0).wf = true := by decide
theorem test_wf_temperature : (Instr.stackTempRead 0 128).wf = false ∧ (Instr.stackTempRead 0 (-128)).wf = true ∧
    (Instr.junctionSensorRead (.core 0) (-129)).wf = false ∧ (Instr.junctionSensorRead (.core 0) 127).wf = true := by decide
theorem test_wf_bank : (Instr.hbmBankService 0 0 0 64).wf = false ∧ (Instr.hbmRefresh 0 0 0 64).wf = false ∧
    (Instr.hbmRefresh 0 0 0 63).wf = true := by decide
theorem test_wf_secret : (Instr.ctxSecret .h 0 (List.replicate 161 0)).wf = false ∧ (Instr.ctxSecret .h 0 (List.replicate 160 0)).wf = true := by
  decide +kernel
theorem test_wf_mailbox : (Instr.mailboxWrite 0 0 (List.replicate 4097 0) none).wf = false ∧ (Instr.mailboxWrite 0 0 [] none).wf = true := by
  decide +kernel
theorem test_wf_entry : (Instr.entryWrite .h (2 ^ 24) [] none).wf = false ∧ (Instr.entryWrite .h 0 (List.replicate 4097 0) none).wf = false ∧
    (Instr.entryWrite (.m 9) (2 ^ 24 - 1) [] none).wf = true ∧ (Instr.counterClear .h (2 ^ 24) []).wf = false := by decide +kernel
theorem test_wf_package : (Instr.pkgData .h (List.replicate 1023 0)).wf = false ∧ (Instr.pkgData .h (List.replicate 1024 0)).wf = true := by
  decide +kernel
theorem test_wf_pewter : (Instr.pewterSample 0 1153).wf = false ∧ (Instr.pewterSample 0 1152).wf = true := by decide
theorem test_wf_start : (∀ t ∈ [({ banksLog2 := [4, 1] } : Training), { banksLog2 := [7] }, { banksLog2 := List.replicate 17 4 }, { faults := [(512, 0)] },
      { caFaults := [512] }, { badStacks := [16] }], (Instr.perstRelease { training := t }).wf = false) ∧
    (Instr.perstRelease { identity := 4 }).wf = false ∧ (Instr.perstRelease {}).wf = true ∧
    (Instr.perstRelease { training := { banksLog2 := [2, 6], faults := [(511, 0)], caFaults := [511], badStacks := [15] } }).wf = true := by decide
theorem test_wf_datagram : ∀ d ∈ [{ dg 4 [] 7 1 with ver := 256 }, { dg 4 [] 7 1 with typ := 256 }, { dg 4 [] 7 1 with seg := 256 },
      { dg 4 [] 7 1 with segs := 256 }, { dg 4 [] 7 1 with len := 65536 }, { dg 4 [] 7 1 with session := 2 ^ 32 }, { dg 4 [] 7 1 with seq := 2 ^ 32 },
      { dg 4 [] 7 1 with payload := List.replicate 1401 0 }], (Instr.openSession d).wf = false ∧ (Instr.confirm d).wf = false ∧
    (Instr.read d).wf = false ∧ (Instr.write d).wf = false ∧ (Instr.keepalive d).wf = false ∧ (Instr.close d).wf = false ∧
    (Instr.close (dg 4 [] 7 1)).wf = true := by decide +kernel
theorem test_wf_larch : let d : LarchDgram := { src := 0, dst := 0, port := 0, header := 0, body := List.replicate 9121 0, tag := 0 }
    (Instr.larchWrite 0 d).wf = false ∧ (Instr.larchRead 0 d).wf = false ∧ (Instr.larchReadData 0 d).wf = false ∧ (Instr.larchComplete 0 d).wf = false ∧
    (Instr.larchWrite 0 { d with body := [] }).wf = true := by decide +kernel

/-! Instruction words, written out from Table 02.3 and Table 02.5: IMM; then reserved, DEFER, GNEG, PG; reserved, PD; RC; RB; RA; RD; MOD; OPC. -/

theorem test_word_control : (decodeWord 0b0000000000000000000000000000000000000000000000000000000000000101_0000000_1_0_000_0_000_00000000_00000000_00000000_00000111_00000000_00001001).map (fun f => f g0) =
    some (.srd g0 { imm := 5, defer := true, rd := 7 }) := by decide +kernel
theorem test_word_integer : (decodeWord 0b0000000000000000000000000000000011111111111111111111111111111111_0000000_0_1_101_0_011_00000000_00000000_00001001_00000000_00000011_00011110).map (fun f => f g0) =
    some (.icmp g0 { imm := 0xFFFFFFFF, gneg := true, pg := 5, pd := 3, ra := 9, md := 3 }) := by decide +kernel
theorem test_word_fp32 : (decodeWord 0b0000000000000000000000000000000000000000000000000000000000000000_0000000_0_0_000_0_000_00000100_00000011_00000010_00000001_00000000_00100010).map (fun f => f g0) =
    some (.fma g0 { rc := 4, rb := 3, ra := 2, rd := 1 }) := by decide +kernel
theorem test_word_convert : (decodeWord 0b0000000000000000000000000000000000000000000000000000000000000000_0000000_0_0_111_0_001_00000000_00000000_11111111_11111110_00000110_00110100).map (fun f => f g0) =
    some (.lvote g0 { pg := 7, pd := 1, ra := 255, rd := 254, md := 6 }) := by decide +kernel
theorem test_word_memory : (decodeWord 0b0000000000000000000000000000000000000000000000000000000000001000_0000000_0_0_000_0_000_00000101_00001000_00000110_00000111_11100101_01010000).map (fun f => f g0) =
    some (.atom g0 { imm := 8, rc := 5, rb := 8, ra := 6, rd := 7, md := 0xE5 }) := by decide +kernel
theorem test_word_ordering : (decodeWord 0b0000000000000000000000000000000000000000000000000000000000000000_0000000_0_0_000_0_010_00000000_00000000_00000110_00000000_01000100_01100100).map (fun f => f g0) =
    some (.lockAcq g0 { pd := 2, ra := 6, md := 0x44 }) := by decide +kernel
theorem test_word_mover : (decodeWord 0b0000000000000000000000000000000000000000000000000000000000000000_0000000_0_0_000_0_000_00000001_00000010_00000011_00000100_00000000_01110001).map (fun f => f g0) =
    some (.tmGather g0 { rc := 1, rb := 2, ra := 3, rd := 4 }) := by decide +kernel
theorem test_word_array : (decodeWord 0b1000000000000000111111111111111100000000000000000000000000000000_0000000_0_0_000_0_000_00000010_00000010_00000010_00000001_00000000_10000000).map (fun f => f g0) =
    some (.mxaAsync g0 { imm := 0x8000FFFF00000000, rc := 2, rb := 2, ra := 2, rd := 1 }) := by decide +kernel
theorem test_word_unassigned : (decodeWord 0x0A).isNone = true ∧ (decodeWord 0x2A).isNone = true ∧ (decodeWord 0x36).isNone = true ∧
    (decodeWord 0x42).isNone = true ∧ (decodeWord 0x52).isNone = true ∧ (decodeWord 0x66).isNone = true ∧ (decodeWord 0x76).isNone = true ∧
    (decodeWord 0x85).isNone = true ∧ (decodeWord 0x90).isNone = true := by decide +kernel

end Sys2Proof.Tests
end

/-! Decoding and encoding of instruction words (R35, R37, Tables 02.3 and 02.5). -/

namespace Sys2Proof.Laws.GroupWord

/-- Every command that is a group instruction has its row in Table 02.5. -/
theorem ofInstr (i : Instr) : Statement i := by
  cases i with
  | nop g w => exact nop g w
  | bra g w => exact bra g w
  | bri g w => exact bri g w
  | call g w => exact call g w
  | ret g w => exact ret g w
  | exit g w => exact exit g w
  | yield g w => exact yield g w
  | gsync g w => exact gsync g w
  | bkpt g w => exact bkpt g w
  | srd g w => exact srd g w
  | iadd g w => exact iadd g w
  | isub g w => exact isub g w
  | imul g w => exact imul g w
  | imla g w => exact imla g w
  | imin g w => exact imin g w
  | imax g w => exact imax g w
  | and g w => exact and g w
  | or g w => exact or g w
  | xor g w => exact xor g w
  | shl g w => exact shl g w
  | shr g w => exact shr g w
  | sar g w => exact sar g w
  | bcnt g w => exact bcnt g w
  | lzc g w => exact lzc g w
  | icmp g w => exact icmp g w
  | csel g w => exact csel g w
  | fadd g w => exact fadd g w
  | fmul g w => exact fmul g w
  | fma g w => exact fma g w
  | fmin g w => exact fmin g w
  | fmax g w => exact fmax g w
  | fcmp g w => exact fcmp g w
  | rcp g w => exact rcp g w
  | rsqrt g w => exact rsqrt g w
  | exp2 g w => exact exp2 g w
  | log2 g w => exact log2 g w
  | cvt g w => exact cvt g w
  | pfmaH g w => exact pfmaH g w
  | pfmaB g w => exact pfmaB g w
  | lxch g w => exact lxch g w
  | lvote g w => exact lvote g w
  | bsel g w => exact bsel g w
  | ld g w ecc => exact ld g w ecc
  | st g w ecc => exact st g w ecc
  | atom g w => exact atom g w
  | red g w => exact red g w
  | fence g w => exact fence g w
  | ldAcq g w => exact ldAcq g w
  | stRel g w => exact stRel g w
  | storeFlag g w => exact storeFlag g w
  | lockAcq g w => exact lockAcq g w
  | lockRel g w => exact lockRel g w
  | tmCopy g w => exact tmCopy g w
  | tmGather g w => exact tmGather g w
  | tmScatter g w => exact tmScatter g w
  | tmFill g w => exact tmFill g w
  | tmWait g w => exact tmWait g w
  | tmPoll g w => exact tmPoll g w
  | mxaAsync g w => exact mxaAsync g w
  | mxaWait g w => exact mxaWait g w
  | mxaPoll g w => exact mxaPoll g w
  | mxaCmpr g w => exact mxaCmpr g w
  | rwnDrain g w => exact rwnDrain g w
  | _ => exact ofNone rfl

end Sys2Proof.Laws.GroupWord

namespace Sys2Proof.Machine

/-- A lookup by key in a list whose keys are distinct finds the entry that the list holds. -/
theorem find?_key_of_mem {α β : Type} [BEq α] [LawfulBEq α] {l : List (α × β)} (hn : (l.map Prod.fst).Nodup) {a : α} {b : β}
    (h : (a, b) ∈ l) : l.find? (fun e => e.1 == a) = some (a, b) := by
  induction l with
  | nil => cases h
  | cons x r ih =>
    obtain ⟨hx, hr⟩ := List.nodup_cons.mp hn
    rcases List.mem_cons.mp h with rfl | hm
    · simp
    · have hne : x.1 ≠ a := fun q => hx (q ▸ List.mem_map_of_mem (f := Prod.fst) hm)
      simp [hne, ih hr hm]

theorem opTable_nodup : (opTable.map Prod.fst).Nodup := by decide

/-- A row of Table 02.5 makes the group instruction of its own opcode. -/
theorem opTable_group : ∀ e ∈ opTable, ∀ (g : GRef) (w : IWord), (e.2 g w).group = some { opc := e.1, g := g, w := w } := by
  simp only [opTable, opsControl, opsInteger, opsFp, opsConvert, opsMemory, opsMover, opsArray, List.cons_append, List.nil_append,
    List.forall_mem_cons, List.not_mem_nil, false_imp_iff, implies_true, and_true]
  and_intros <;> exact fun _ _ => rfl

/-- A field above the lowest bits of a joined word is a field of the part above. Stated for rewriting with the widths as numbers. -/
theorem extract_above {a b s n : ℕ} (x : BitVec a) (y : BitVec b) (h : b ≤ s) :
    (x ++ y).extractLsb' s n = x.extractLsb' (s - b) n := BitVec.extractLsb'_append_eq_of_le h

@[simp] theorem encodeWord_opcode (opc : BitVec 8) (w : IWord) : (encodeWord opc w).extractLsb' 0 8 = opc :=
  BitVec.extractLsb'_append_eq_right

/-- Each field of Table 02.3 is read from where it was put: the parts below it are cut off one by one. -/
@[simp] theorem wordFields_encodeWord (opc : BitVec 8) (w : IWord) : wordFields (encodeWord opc w) = w := by
  obtain ⟨imm, defer, gneg, pg, pd, rc, rb, ra, rd, md⟩ := w
  simp (disch := decide) only [wordFields, encodeWord, IWord.mk.injEq, BitVec.getLsbD_eq_extractLsb', extract_above (a := 120) (b := 8),
    extract_above (a := 112) (b := 8), extract_above (a := 104) (b := 8), extract_above (a := 96) (b := 8),
    extract_above (a := 88) (b := 8), extract_above (a := 80) (b := 8), extract_above (a := 77) (b := 3),
    extract_above (a := 76) (b := 1), extract_above (a := 73) (b := 3), extract_above (a := 72) (b := 1),
    extract_above (a := 71) (b := 1), extract_above (a := 64) (b := 7), Nat.reduceSub, BitVec.extractLsb'_eq_self, true_and]
  have bit : ∀ b : Bool, (BitVec.ofBool b == 1#1) = b := by decide
  exact ⟨(congrArg (· == 1#1) BitVec.extractLsb'_append_eq_right).trans (bit defer),
    (congrArg (· == 1#1) BitVec.extractLsb'_append_eq_right).trans (bit gneg), BitVec.extractLsb'_append_eq_right,
    BitVec.extractLsb'_append_eq_right, BitVec.extractLsb'_append_eq_right, BitVec.extractLsb'_append_eq_right,
    BitVec.extractLsb'_append_eq_right, BitVec.extractLsb'_append_eq_right, BitVec.extractLsb'_append_eq_right⟩

/-- A word decodes to the row of its opcode, applied to its fields. -/
theorem decodeWord_eq_some {v : BitVec 128} {f : GRef → Instr} (h : decodeWord v = some f) :
    ∃ e ∈ opTable, e.1 = v.extractLsb' 0 8 ∧ f = fun g => e.2 g (wordFields v) := by
  obtain ⟨e, he, rfl⟩ := Option.map_eq_some_iff.mp h
  exact ⟨e, List.mem_of_find?_eq_some he, by simpa using List.find?_some he, rfl⟩

/-- The word of an opcode of the table decodes to the opcode's row. -/
theorem decodeWord_encodeWord {opc : BitVec 8} {f : GRef → IWord → Instr} (h : (opc, f) ∈ opTable) (w : IWord) :
    decodeWord (encodeWord opc w) = some (fun g => f g w) := by
  simp [decodeWord, find?_key_of_mem opTable_nodup h]

/-- Settles O5: encoding then decoding goes through the row of Table 02.5 that the instruction's opcode names (GroupWord), decoding then
encoding through the row that was found. -/
theorem decodeInverts : Obligations.DecodeInverts := by
  refine ⟨fun i d hd => ?_, fun v f g hf => ?_, wordFields_encodeWord, fun v hv => ?_⟩
  · obtain ⟨f, hm, hi⟩ := Laws.GroupWord.ofInstr i d hd
    exact ⟨_, decodeWord_encodeWord hm d.w, hi⟩
  · obtain ⟨e, he, ho, rfl⟩ := decodeWord_eq_some hf
    simp only [opTable_group e he, ho]
  · cases hf : decodeWord v with
    | none => rfl
    | some f =>
      obtain ⟨e, he, ho, -⟩ := decodeWord_eq_some hf
      exact absurd ho (hv _ _ (opTable_group e he ⟨0, 0⟩ {}))

/-- Settles O6, by evaluating the decoder on each of the four words. -/
theorem decodeWords : Obligations.DecodeWords := fun _ => ⟨rfl, rfl, rfl, rfl⟩

end Sys2Proof.Machine

/-! The integer instructions, comparison, selection and exchange between lanes (R36, R37). -/

namespace Sys2Proof.Machine

/-- A vector instruction retires with the values its lanes compute. -/
theorem laneOp_next {s : State} {g : GRef} {h : Here} {p : Path} (hI : s.Issues g h p) {w : IWord} {legal : Bool}
    {srcs : List (Nat × Nat)} {f : Group → Nat → Word} (v : Nat → Word) (hl : legal = true)
    (hr : regsOk ((w.rd.toNat, 1) :: srcs) h.grp = true) (hv : ∀ l, f h.seen l = v l) :
    laneOp g w s legal srcs f = .next (s.retired g h p (h.lanes p w v)) := by
  rw [laneOp_runs hI w legal srcs f hl hr, funext hv]

/-- The same of an instruction of RA and RB, or IMM[31:0]. -/
theorem laneOp2_next {s : State} {g : GRef} {h : Here} {p : Path} (hI : s.Issues g h p) {w : IWord} {f : Word → Word → Word}
    (v : Word → Word → Word) (hm : modNat w < 2) (hr : regsOk ((w.rd.toNat, 1) :: raUse1 w :: rbUse w) h.grp = true)
    (hv : ∀ a b, f a b = v a b) :
    laneOp2 g w s f = .next (s.retired g h p (h.lanes p w (fun l => v (opA w h.grp l) (opB w h.grp l)))) :=
  laneOp_next hI _ (by simpa [modImm] using hm) hr (fun _ => hv _ _)

/-- Register checks are checks of each register, in any order. -/
theorem regsOk_rc {w : IWord} {g : Group} (hr : regsOk ((w.rd.toNat, 1) :: raUse1 w :: rbUse w) g = true)
    (hc : runOk g.nregs w.rc.toNat 1 = true) : regsOk ((w.rd.toNat, 1) :: raUse1 w :: rcUse w :: rbUse w) g = true := by
  simp only [regsOk, List.all_cons, Bool.and_eq_true] at hr ⊢
  exact ⟨hr.1, hr.2.1, hc, hr.2.2⟩

/-! Integer arithmetic. -/

theorem mul_add_word (a b c : Word) : a * b + c = BitVec.ofNat 32 (a.toNat * b.toNat + c.toNat) := by
  apply BitVec.eq_of_toNat_eq; simp

theorem bitAt_one_of_lt {n : Nat} (h : n < 2) : bitAt n 1 = false := by interval_cases n <;> rfl
theorem bitAt_one_of_two {n : Nat} (h : n = 2 ∨ n = 3) : bitAt n 1 = true := by rcases h with rfl | rfl <;> rfl

theorem lessWord_signed {w : IWord} (h : modNat w < 2) (a b : Word) : lessWord w a b = decide (a.toInt < b.toInt) := by
  simp [lessWord, bitAt_one_of_lt h, BitVec.slt]
theorem lessWord_unsigned {w : IWord} (h : modNat w = 2 ∨ modNat w = 3) (a b : Word) : lessWord w a b = decide (a.toNat < b.toNat) := by
  simp [lessWord, bitAt_one_of_two h, BitVec.ult]

/-- The lesser and the greater of two signed words, by one comparison. -/
theorem min_signed (a b : Word) : (if b.toInt < a.toInt then b else a) = BitVec.ofInt 32 (min a.toInt b.toInt) := by
  rcases lt_or_ge b.toInt a.toInt with h | h
  · simp [h, min_eq_right h.le]
  · simp [not_lt.mpr h, min_eq_left h]
theorem max_signed (a b : Word) : (if a.toInt < b.toInt then b else a) = BitVec.ofInt 32 (max a.toInt b.toInt) := by
  rcases lt_or_ge a.toInt b.toInt with h | h
  · simp [h, max_eq_right h.le]
  · simp [not_lt.mpr h, max_eq_left h]
/-- The same of unsigned words. -/
theorem min_unsigned (a b : Word) : (if b.toNat < a.toNat then b else a) = BitVec.ofNat 32 (min a.toNat b.toNat) := by
  rcases lt_or_ge b.toNat a.toNat with h | h
  · simp [h, min_eq_right h.le]
  · simp [not_lt.mpr h, min_eq_left h]
theorem max_unsigned (a b : Word) : (if a.toNat < b.toNat then b else a) = BitVec.ofNat 32 (max a.toNat b.toNat) := by
  rcases lt_or_ge a.toNat b.toNat with h | h
  · simp [h, max_eq_right h.le]
  · simp [not_lt.mpr h, max_eq_left h]

/-- Settles O7: each instruction is a vector instruction (laneOp), so what is left is the word of each lane. -/
theorem integerArithmetic : Obligations.IntegerArithmetic := by
  intro s g h p w hI hr
  simp only [exec_iadd, exec_isub, exec_imul, exec_imla, exec_imin, exec_imax]
  refine ⟨fun hm => ⟨laneOp2_next hI (· + ·) hm hr fun _ _ => rfl, laneOp2_next hI (· - ·) hm hr fun _ _ => rfl,
      laneOp2_next hI (· * ·) hm hr fun _ _ => rfl, fun hc => ?_⟩, fun hm => ?_, fun hm => ?_⟩
  · exact laneOp_next hI _ (by simpa [modImm] using hm) (regsOk_rc hr hc) fun l => mul_add_word _ _ _
  · have hl : decide (modNat w < 4) = true := decide_eq_true (by omega)
    refine ⟨laneOp_next hI _ hl hr fun l => ?_, laneOp_next hI _ hl hr fun l => ?_⟩ <;>
      simp only [lessWord_signed hm, decide_eq_true_eq]
    · exact min_signed _ _
    · exact max_signed _ _
  · have hl : decide (modNat w < 4) = true := decide_eq_true (by omega)
    refine ⟨laneOp_next hI _ hl hr fun l => ?_, laneOp_next hI _ hl hr fun l => ?_⟩ <;>
      simp only [lessWord_unsigned hm, decide_eq_true_eq]
    · exact min_unsigned _ _
    · exact max_unsigned _ _

/-! Logic, shifts and bit counts. -/

theorem shlWord_eq (a c : Word) : shlWord a c = BitVec.ofNat 32 (a.toNat * 2 ^ c.toNat) := by
  apply BitVec.eq_of_toNat_eq
  unfold shlWord
  split
  · next h =>
    obtain ⟨k, hk⟩ := Nat.exists_eq_add_of_le h
    simp [hk, pow_add, ← mul_assoc, Nat.mul_right_comm]
  · simp [Nat.shiftLeft_eq]

theorem shrWord_eq (a c : Word) : shrWord a c = BitVec.ofNat 32 (a.toNat / 2 ^ c.toNat) := by
  apply BitVec.eq_of_toNat_eq
  unfold shrWord
  split
  · next h =>
    have : a.toNat < 2 ^ c.toNat := lt_of_lt_of_le a.isLt (Nat.pow_le_pow_right (by decide) h)
    simp [Nat.div_eq_of_lt this]
  · have := a.isLt
    simp only [BitVec.toNat_ushiftRight, Nat.shiftRight_eq_div_pow, BitVec.toNat_ofNat]
    exact (Nat.mod_eq_of_lt (lt_of_le_of_lt (Nat.div_le_self _ _) this)).symm

/-- Past 31 places a shifted signed word is its sign. -/
theorem toInt_div_pow_large (a : Word) {n : Nat} (h : 31 ≤ n) : a.toInt / 2 ^ n = if a.toInt < 0 then -1 else 0 := by
  have h1 := a.le_toInt
  have h2 := a.toInt_lt
  have hp : (2 : Int) ^ 31 ≤ 2 ^ n := pow_le_pow_right₀ (by decide) h
  norm_num at h1 h2 hp
  split
  · next hn => exact Int.ediv_eq_neg_one_of_neg_of_le hn (by omega)
  · exact Int.ediv_eq_zero_of_lt (by omega) (by omega)

theorem sarWord_eq (a c : Word) : sarWord a c = BitVec.ofInt 32 (a.toInt / 2 ^ c.toNat) := by
  have hs : ∀ n, a.sshiftRight n = BitVec.ofInt 32 (a.toInt / 2 ^ n) := fun n => by
    rw [← BitVec.ofInt_toInt (x := a.sshiftRight n), BitVec.toInt_sshiftRight, Int.shiftRight_eq_div_pow]; norm_cast
  rw [sarWord, hs]
  rcases le_total c.toNat 31 with h | h
  · rw [min_eq_left h]
  · rw [min_eq_right h, toInt_div_pow_large a le_rfl, toInt_div_pow_large a h]

theorem bcntWord_eq (a : Word) : bcntWord a = BitVec.ofNat 32 ((List.range 32).countP (fun k => a.getLsbD k)) := by
  rw [bcntWord, List.countP_eq_length_filter]

/-- LZC counts down from bit 31 to the highest bit that is set. -/
theorem lzcWord_spec (a : Word) : (a = 0 → lzcWord a = 32) ∧
    (a ≠ 0 → (lzcWord a).toNat < 32 ∧ a.getLsbD (31 - (lzcWord a).toNat) = true ∧
      ∀ k, 31 - (lzcWord a).toNat < k → a.getLsbD k = false) := by
  refine ⟨fun h => by simp [lzcWord, h], fun h => ?_⟩
  have hn : a.toNat ≠ 0 := fun q => h (BitVec.eq_of_toNat_eq (by simpa using q))
  have hlog : a.toNat.log2 < 32 := (Nat.log2_lt hn).mpr a.isLt
  have hv : (lzcWord a).toNat = 31 - a.toNat.log2 := by
    simp only [lzcWord, h, if_false, BitVec.toNat_ofNat]; exact Nat.mod_eq_of_lt (by omega)
  rw [hv, show 31 - (31 - a.toNat.log2) = a.toNat.log2 by omega]
  refine ⟨by omega, Nat.testBit_log2 hn, fun k hk => Nat.testBit_lt_two_pow ((Nat.log2_lt hn).mp hk)⟩

/-- Settles O8. -/
theorem logicAndBits : Obligations.LogicAndBits := by
  refine ⟨fun s g h p w hI hm hr => ?_, fun s g h p w hI hm hr => ?_⟩
  · simp only [exec_and, exec_or, exec_xor, exec_shl, exec_shr, exec_sar]
    exact ⟨laneOp2_next hI (· &&& ·) hm hr fun _ _ => rfl, laneOp2_next hI (· ||| ·) hm hr fun _ _ => rfl,
      laneOp2_next hI (· ^^^ ·) hm hr fun _ _ => rfl,
      laneOp2_next hI (fun a c => BitVec.ofNat 32 (a.toNat * 2 ^ c.toNat)) hm hr shlWord_eq,
      laneOp2_next hI (fun a c => BitVec.ofNat 32 (a.toNat / 2 ^ c.toNat)) hm hr shrWord_eq,
      laneOp2_next hI (fun a c => BitVec.ofInt 32 (a.toInt / 2 ^ c.toNat)) hm hr sarWord_eq⟩
  · have hz : modZero w = true := by simp [modZero, hm]
    simp only [exec_bcnt, exec_lzc]
    exact ⟨laneOp_next hI _ hz hr fun _ => bcntWord_eq _, _, laneOp_next hI _ hz hr fun _ => rfl, fun l => lzcWord_spec _⟩

/-! Comparison, selection and exchange. -/

/-- A mask built lane by lane has the bits of its test. -/
theorem testBit_laneSum (f : Nat → Bool) (n : Nat) :
    (List.range n).foldl (fun a l => if f l then a + 2 ^ l else a) 0 < 2 ^ n ∧
    ∀ l, ((List.range n).foldl (fun a l => if f l then a + 2 ^ l else a) 0).testBit l = (decide (l < n) && f l) := by
  induction n with
  | zero => simp
  | succ n ih =>
    obtain ⟨hlt, hbit⟩ := ih
    simp only [List.range_succ, List.foldl_append, List.foldl_cons, List.foldl_nil]
    generalize (List.range n).foldl (fun a l => if f l then a + 2 ^ l else a) 0 = m at hlt hbit
    rw [pow_succ]
    cases hf : f n with
    | false =>
      refine ⟨by simp; omega, fun l => ?_⟩
      by_cases hl : l = n
      · subst hl; simp [hbit, hf]
      · simp [hbit, show l < n + 1 ↔ l < n by omega]
    | true =>
      refine ⟨by simp; omega, fun l => ?_⟩
      simp only [if_true]
      rw [Nat.add_comm m]
      rcases lt_trichotomy l n with hl | rfl | hl
      · rw [Nat.testBit_two_pow_add_gt hl, hbit]; simp [hl, Nat.lt_succ_of_lt hl]
      · rw [Nat.testBit_two_pow_add_eq, hbit]; simp [hf]
      · have hbig : 2 ^ n + m < 2 ^ l := by
          have : 2 ^ (n + 1) ≤ 2 ^ l := Nat.pow_le_pow_right (by decide) hl
          rw [pow_succ] at this; omega
        rw [Nat.testBit_lt_two_pow hbig]; simp; omega

@[simp] theorem getLsbD_laneMask (f : Nat → Bool) (l : Nat) : (laneMask f).getLsbD l = (decide (l < 32) && f l) := by
  rw [laneMask, BitVec.getLsbD_ofNat, (testBit_laneSum f 32).2]; simp

/-- The values ICMP compares: signed or unsigned (R37). -/
def icmpVal (w : IWord) (x : Word) : Int := if modNat w < 2 then x.toInt else x.toNat

theorem icmpVal_inj {w : IWord} {a b : Word} : icmpVal w a = icmpVal w b ↔ a = b := by
  unfold icmpVal
  split
  · exact BitVec.toInt_inj
  · exact Int.ofNat_inj.trans BitVec.toNat_inj

/-- ICMP's order is the order of those values. -/
theorem icmp_lt {w : IWord} (h : modNat w < 4) (a b : Word) :
    (if bitAt (modNat w) 1 then a.ult b else a.slt b) = decide (icmpVal w a < icmpVal w b) := by
  unfold icmpVal
  by_cases h2 : modNat w < 2
  · simp [bitAt_one_of_lt h2, h2, BitVec.slt]
  · simp [bitAt_one_of_two (show modNat w = 2 ∨ modNat w = 3 by omega), h2, BitVec.ult]

/-- The comparison each selector of ICMP names. -/
theorem icmpSel_spec {w : IWord} (h : modNat w < 4) (sel : Nat) (hs : sel ≤ 5) (a b : Word) :
    let v := icmpSel sel (bitAt (modNat w) 1) a b
    (sel = 0 → v = decide (icmpVal w a = icmpVal w b)) ∧ (sel = 1 → v = decide (icmpVal w a ≠ icmpVal w b)) ∧
    (sel = 2 → v = decide (icmpVal w a < icmpVal w b)) ∧ (sel = 3 → v = decide (icmpVal w a ≤ icmpVal w b)) ∧
    (sel = 4 → v = decide (icmpVal w a > icmpVal w b)) ∧ (sel = 5 → v = decide (icmpVal w a ≥ icmpVal w b)) := by
  have he : decide (icmpVal w a = icmpVal w b) = (a == b) := by
    rw [Bool.eq_iff_iff]; simp [icmpVal_inj]
  interval_cases sel <;> simp [icmpSel, icmp_lt h, he, bne] <;> simp [← decide_not]

@[simp] theorem Here.seen_run (h : Here) : h.seen.run = h.grp.run := rfl
@[simp] theorem State.sees_grp (s : State) (g : GRef) (h : Here) (p : Path) (w : IWord) : (s.sees g h p w).grp = h.seen := rfl
@[simp] theorem State.sees_act (s : State) (g : GRef) (h : Here) (p : Path) (w : IWord) : (s.sees g h p w).act = h.active p w := rfl
@[simp] theorem State.sees_path (s : State) (g : GRef) (h : Here) (p : Path) (w : IWord) : (s.sees g h p w).path = p := rfl
@[simp] theorem State.sees_s (s : State) (g : GRef) (h : Here) (p : Path) (w : IWord) : (s.sees g h p w).s = s.issued g h := rfl
@[simp] theorem State.sees_img (s : State) (g : GRef) (h : Here) (p : Path) (w : IWord) : (s.sees g h p w).img = h.img := rfl

/-- A legal instruction whose meaning is to retire with a group retires with it. -/
theorem issue_retires {s : State} {g : GRef} {h : Here} {p : Path} (hI : s.Issues g h p) {w : IWord} {legal : Group → Bool}
    {body : Iss → State} (gr : Group) (hl : legal h.seen = true) (hrun : gr.run = h.grp.run)
    (hb : body (s.sees g h p w) = (s.sees g h p w).retire gr) : issue s g w legal body = .next (s.retired g h p gr) := by
  obtain ⟨-, -, hp, -⟩ := issuer_spec hI
  rw [issue_runs hI w legal body hl, hb, retire_eq s g h p w (hrun.trans hp)]

theorem icmp_next {s : State} {g : GRef} {h : Here} {p : Path} (hI : s.Issues g h p) {w : IWord}
    (hr : regsOk (raUse1 w :: rbUse w) h.grp = true) (hm : modNat w < 4) (hs : immBits w 32 4 ≤ 5) :
    execIcmp g w s = .next (s.retired g h p (h.seen.setPred w.pd.toNat (h.active p w)
      (lanesWhere (h.active p w) (fun l => icmpSel (immBits w 32 4) (bitAt (modNat w) 1) (opA w h.grp l) (opB w h.grp l))))) := by
  unfold execIcmp
  exact issue_retires hI _ (by simp only [hm, hs, decide_true, Bool.true_and]; exact hr) (by simp) rfl

theorem foldl_add_range_four (f : Nat → Nat) : (List.range 4).foldl (fun acc k => acc + f k) 0 = f 0 + f 1 + f 2 + f 3 := by
  simp [List.range_succ]
/-- Byte k of a word put together from four bytes. -/
theorem bits_fourBytes (v : Nat → Nat) (hv : ∀ k, v k < 256) (k : Nat) (hk : k < 4) :
    bits (BitVec.ofNat 32 ((List.range 4).foldl (fun acc k => acc + v k * 2 ^ (8 * k)) 0)).toNat (8 * k) 8 = v k := by
  have h0 := hv 0; have h1 := hv 1; have h2 := hv 2; have h3 := hv 3
  rw [foldl_add_range_four (fun k => v k * 2 ^ (8 * k)), BitVec.toNat_ofNat, bits, Nat.shiftRight_eq_div_pow]
  interval_cases k <;> simp only [Nat.reduceMul, Nat.reducePow] <;> omega

/-- The byte a selector nibble of BSEL names (R37). -/
def bselByte (a b c : Word) (k : Nat) : Nat :=
  let n := bits c.toNat (4 * k) 4
  if n < 4 then bits a.toNat (8 * n) 8 else if n < 8 then bits b.toNat (8 * (n - 4)) 8 else 0

theorem bits_lt (v lo n : Nat) : bits v lo n < 2 ^ n := Nat.mod_lt _ (Nat.two_pow_pos n)

theorem bselWord_byte (a b c : Word) (k : Nat) (hk : k < 4) : bits (bselWord a b c).toNat (8 * k) 8 = bselByte a b c k :=
  bits_fourBytes (bselByte a b c) (fun k => by
    simp only [bselByte]; split
    · exact bits_lt _ _ 8
    · split
      · exact bits_lt _ _ 8
      · decide) k hk

/-- The lane LXCH's mode and value name, as an integer (R37). -/
def lxchLane (m l v : Nat) : Int := if m = 0 then v else if m = 1 then l - v else if m = 2 then l + v else (l ^^^ v : Nat)

/-- A source lane that is no lane, or is inactive, supplies the lane's own RA. -/
theorem lxch_value (m l v : Nat) (hm : m < 4) (act : Lanes) (f : Nat → Word) :
    (match lxchSource m l v with
      | some j => if act.getLsbD j then f j else f l
      | none => f l) =
    (if 0 ≤ lxchLane m l v ∧ lxchLane m l v < 32 ∧ act.getLsbD (lxchLane m l v).toNat = true then f (lxchLane m l v).toNat
     else f l) := by
  have guard : ∀ (c : Prop) [Decidable c] (j : Nat), (match (if c then some j else none) with
      | some j => if act.getLsbD j then f j else f l
      | none => f l) = if c then (if act.getLsbD j then f j else f l) else f l := fun c _ j => by
    by_cases h : c <;> simp only [h, if_true, if_false]
  have pick : ∀ j : Nat, (j : Int) = lxchLane m l v → (if j < 32 then (if act.getLsbD j then f j else f l) else f l) =
      (if 0 ≤ lxchLane m l v ∧ lxchLane m l v < 32 ∧ act.getLsbD (lxchLane m l v).toNat = true then f (lxchLane m l v).toNat
       else f l) := fun j hj => by
    rw [← hj]
    by_cases h : j < 32 <;> simp [h]
  interval_cases m
  · rw [← pick v rfl]; exact guard _ _
  · refine (guard (v ≤ l) (l - v)).trans ?_
    by_cases h : v ≤ l
    · have : act.getLsbD (l - v) = true → l - v < 32 := fun q => BitVec.lt_of_getLsbD q
      rw [← pick (l - v) (by simp [lxchLane]; omega)]
      simp only [h, if_true]
      split
      · next q => simp [this q]
      · simp
    · simp only [h, if_false]; rw [if_neg]; simp [lxchLane]; omega
  · rw [← pick (l + v) (by simp [lxchLane])]; exact guard _ _
  · rw [← pick (l ^^^ v) rfl]; exact guard _ _

theorem and_not_eq_zero (m g : Lanes) : m &&& ~~~g = 0 ↔ m &&& g = m := by
  simp only [BitVec.eq_of_getLsbD_eq_iff, BitVec.getLsbD_and, BitVec.getLsbD_not, BitVec.ofNat_eq_ofNat, BitVec.getLsbD_zero]
  refine forall₂_congr fun i hi => ?_
  cases m.getLsbD i <;> cases g.getLsbD i <;> simp [hi]

/-- All lanes of a path, some of them, or all or none: LVOTE's modes 0 to 2 (R37). -/
theorem voteBit_eq (mode : Nat) (hm : mode < 3) (m gm : Lanes) : voteBit mode m gm =
    (if mode = 0 then decide (m &&& gm = m) else if mode = 1 then decide (m &&& gm ≠ 0)
     else decide (m &&& gm = m) || !decide (m &&& gm ≠ 0)) := by
  interval_cases mode <;> rw [Bool.eq_iff_iff] <;> simp [voteBit, ← and_not_eq_zero]

theorem lvote_next {s : State} {g : GRef} {h : Here} {p : Path} (hI : s.Issues g h p) {w : IWord} (hm : modNat w ∈ [0, 2, 4]) :
    execLvote g w s = .next (s.retired g h p (h.seen.setPred w.pd.toNat p.mask
      (if voteBit (modNat w / 2) p.mask (guardMask h.grp w) then p.mask else 0))) := by
  have hv : modNat w < 8 ∧ bitAt (modNat w) 0 = false ∧ bits (modNat w) 1 2 = modNat w / 2 ∧ modNat w / 2 ≠ 3 := by
    simp only [List.mem_cons, List.not_mem_nil, or_false] at hm
    rcases hm with h | h | h <;> rw [h] <;> decide
  obtain ⟨h8, h0, hb, h3⟩ := hv
  unfold execLvote
  refine issue_retires hI _ (by simp [h8, h0, hb, h3]) (by simp) ?_
  simp only [hb, h3, if_false]; rfl

theorem lvote_mask_next {s : State} {g : GRef} {h : Here} {p : Path} (hI : s.Issues g h p) {w : IWord} (hm : modNat w = 6)
    (hr : regsOk [(w.rd.toNat, 1)] h.grp = true) :
    execLvote g w s = .next (s.retired g h p (h.seen.setLanes w.rd.toNat p.mask (fun _ => p.mask &&& guardMask h.grp w))) := by
  have hb : bits (modNat w) 1 2 = 3 ∧ bitAt (modNat w) 0 = false := by rw [hm]; decide
  obtain ⟨hb, h0⟩ := hb
  unfold execLvote
  refine issue_retires hI _ (by simp only [hm]; exact hr) (by simp) ?_
  simp only [hb, if_true]; rfl

theorem lxch_next {s : State} {g : GRef} {h : Here} {p : Path} (hI : s.Issues g h p) {w : IWord} (hm : modNat w < 8)
    (hr : regsOk ((w.rd.toNat, 1) :: raUse1 w :: rbUse w) h.grp = true) :
    execLxch g w s = .next (s.retired g h p (h.lanes p w (fun l =>
      let j := lxchLane (modNat w / 2) l (opB w h.grp l).toNat
      if 0 ≤ j ∧ j < 32 ∧ (h.active p w).getLsbD j.toNat = true then opA w h.grp j.toNat else opA w h.grp l))) := by
  have hb : bits (modNat w) 1 2 = modNat w / 2 := by
    rw [bits, Nat.shiftRight_eq_div_pow]; exact Nat.mod_eq_of_lt (by omega)
  unfold execLxch
  refine issue_retires hI _ (by simp only [hm, decide_true, Bool.true_and]; exact hr) (by simp [Here.lanes]) ?_
  simp only [hb]
  exact congrArg _ (congrArg _ (funext fun l => lxch_value _ _ _ (by omega) _ _))

/-- Settles O9. -/
theorem compareAndSelect : Obligations.CompareAndSelect := by
  refine ⟨fun s g h p w hI hr hm hs => ?_, fun s g h p w hI => ⟨fun hm hr => ?_, fun hm hr => ?_, fun hm hr => ?_, fun hm => ?_,
    fun hm hr => ?_⟩⟩
  · refine ⟨_, icmp_next hI hr hm hs, fun l hl => ?_⟩
    obtain ⟨h0, h1, h2, h3, h4, h5⟩ := icmpSel_spec hm (immBits w 32 4) hs (opA w h.grp l) (opB w h.grp l)
    simp only [lanesWhere, getLsbD_laneMask, hl, decide_true, Bool.true_and]
    exact ⟨fun e => by rw [h0 e]; rfl, fun e => by rw [h1 e]; rfl, fun e => by rw [h2 e]; rfl, fun e => by rw [h3 e]; rfl,
      fun e => by rw [h4 e]; rfl, fun e => by rw [h5 e]; rfl⟩
  · rw [exec_csel]
    exact laneOp_next hI _ (by simpa [modImm] using hm) hr fun _ => rfl
  · rw [exec_bsel]
    exact ⟨_, laneOp_next hI _ (by simpa [modImm] using hm) hr fun _ => rfl, fun l k hk => bselWord_byte _ _ _ k hk⟩
  · rw [exec_lxch]
    exact lxch_next hI hm hr
  · rw [exec_lvote, lvote_next hI hm, voteBit_eq _ (by simp only [List.mem_cons, List.not_mem_nil, or_false] at hm; omega)]
    simp only [List.mem_cons, List.not_mem_nil, or_false] at hm
    rcases hm with h | h | h <;> simp [h]
  · rw [exec_lvote]
    exact lvote_mask_next hI hm hr

end Sys2Proof.Machine

/-! The control instructions: how a path goes on, splits and merges (R22 to R27, R35, R37, R47). -/

namespace Sys2Proof.Machine

/-! Settling a group whose path meets its reconvergence point (R24). -/

/-- Where nothing is parked, no lane retries. -/
theorem retryWhere_nil {g : Group} (h : g.parked = []) (q : Park → Bool) : g.retryWhere q = g := by
  cases g; simp only at h; subst h; rfl

/-- A path at its reconvergence point stops, and its lanes have arrived there. -/
theorem settle_arrives {n : Nat} {g : Group} {p : Path} {f : Frame} (hr : g.run = some p) (hf : g.frame? p.fid = some f)
    (hpc : f.rpc = p.pc) (hn : p.retry = false) (hk : g.parked = []) :
    g.settle (n + 1) = Group.settle n { g.arrive p.fid p.mask with run := none } := by
  rw [Group.settle, hr]
  simp only [hf, hpc, hn, Bool.not_false, and_self, if_true]
  exact congrArg _ (retryWhere_nil (g := { g.arrive p.fid p.mask with run := none }) hk _)

/-- With no path running, the one that is chosen runs. -/
theorem settle_chooses {n : Nat} {g g' : Group} (hr : g.run = none) (hc : g.choose = some g') : g.settle (n + 1) = g'.settle n := by
  rw [Group.settle, hr]; simp only [hc]

/-- With no divergence complete and nothing parked the top of the stack is chosen. -/
theorem choose_top {g : Group} {q : Path} {r : List Path} (hc : ∀ f ∈ g.frames, g.complete f = false) (hk : g.parked = [])
    (hs : g.stack = q :: r) : g.choose = some { g with run := some q, stack := r } := by
  have hnone : g.frames.reverse.find? g.complete = none := List.find?_eq_none.mpr fun f hf => by
    simp [hc f (List.mem_reverse.mp hf)]
  simp [Group.choose, hnone, hk, hs]

/-- The innermost divergence, once complete, is merged: its lanes go on under one mask. -/
theorem choose_merge {g : Group} {fs : List Frame} {f : Frame} (hfs : g.frames = fs ++ [f]) (hc : g.complete f = true)
    (hd : ∀ x ∈ fs, x.fid ≠ f.fid) (ha : f.arrived ≠ 0) :
    g.choose = some { g with frames := fs, run := some { pc := f.rpc, mask := f.arrived, fid := f.parent } } := by
  have hfind : g.frames.reverse.find? g.complete = some f := by simp [hfs, hc]
  have hkeep : (fs ++ [f]).filter (fun x => x.fid != f.fid) = fs := by
    rw [List.filter_append, List.filter_eq_self.mpr (fun x hx => by simpa using hd x hx)]; simp
  unfold Group.choose
  rw [hfind]
  simp only [hfs, hkeep, ha, if_false]

/-- A group whose path runs on after settling is put back with that path; a change of mask is a progress event (R48). -/
theorem putGroup_go {s : State} {c k l : Nat} {g g' : Group} {p p' : Path} (hs : g.settle (settleFuel g) = g')
    (hr : g.run = some p) (hr' : g'.run = some p') (hh : g'.halt.req = false) :
    s.putGroup c k l g = s.setGroup c k l { g' with wdog := if p'.mask = p.mask then g'.wdog else s.now } := by
  have hres : g.resolve = .go g' := by simp [Group.resolve, hs, hr']
  have hmask : (g'.run.isSome ∧ g.run.isSome ∧ g'.run.map Path.mask ≠ g.run.map Path.mask) ↔ p'.mask ≠ p.mask := by
    simp [hr, hr']
  simp only [State.putGroup, hres, hmask]
  by_cases hm : p'.mask = p.mask <;> simp [hm, hh]

/-- Settling always has steps left to take. -/
theorem settleFuel_pos (g : Group) : ∃ n, settleFuel g = n + 3 := ⟨settleFuel g - 3, by unfold settleFuel; omega⟩

@[simp] theorem State.issued_now (s : State) (g : GRef) (h : Here) : (s.issued g h).now = s.now := rfl
@[simp] theorem Here.seen_halt_req (h : Here) : h.seen.halt.req = h.grp.halt.req := rfl

/-- The group of an instruction is not asked to halt. -/
theorem noHalt_of_issues {s : State} {g : GRef} {h : Here} {p : Path} (hI : s.Issues g h p) : h.grp.halt.req = false :=
  (ready_spec (issuer_spec hI).2.2.2.1).2.2

theorem nop_next {s : State} {g : GRef} {h : Here} {p : Path} (hI : s.Issues g h p) {w : IWord} (hm : modNat w = 0) :
    execNop g w s = .next (s.retired g h p h.seen) :=
  issue_retires hI _ (by simp [modZero, hm]) rfl rfl

/-- The running path's lanes arrive at the innermost divergence. -/
theorem arrive_last {g : Group} {fs : List Frame} {f : Frame} (m : Lanes) (hfr : g.frames = fs ++ [f])
    (hd : ∀ x ∈ fs, x.fid ≠ f.fid) : g.arrive f.fid m = { g with frames := fs ++ [{ f with arrived := f.arrived ||| m }] } := by
  have hkeep : fs.map (fun x => if x.fid == f.fid then { x with arrived := x.arrived ||| m } else x) = fs :=
    (List.map_congr_left (fun x hx => by simp [hd x hx])).trans (List.map_id fs)
  simp only [Group.arrive, modifyWhere, hfr, List.map_append, hkeep, List.map_cons, List.map_nil, beq_self_eq_true, if_true]

/-- The innermost frame is found by its number. -/
theorem frame?_last {g : Group} {fs : List Frame} {f : Frame} (hfr : g.frames = fs ++ [f]) (hd : ∀ x ∈ fs, x.fid ≠ f.fid) :
    g.frame? f.fid = some f := by
  have hnone : fs.find? (fun x => x.fid == f.fid) = none := List.find?_eq_none.mpr fun x hx => by simpa using hd x hx
  simp [Group.frame?, hfr, List.find?_append, hnone]

/-- The group with its running path stopped at the reconvergence point of its innermost divergence. -/
def Group.stopped (g : Group) (fs : List Frame) (f : Frame) (m : Lanes) : Group :=
  { g with run := none, frames := fs ++ [{ f with arrived := f.arrived ||| m }] }

/-- A path that reaches the reconvergence point of the innermost divergence stops there (R24). -/
theorem settle_stops {n : Nat} {g : Group} {p : Path} {fs : List Frame} {f : Frame} (hr : g.run = some p) (hn : p.retry = false)
    (hk : g.parked = []) (hfr : g.frames = fs ++ [f]) (hfid : f.fid = p.fid) (hpc : f.rpc = p.pc) (hd : ∀ x ∈ fs, x.fid ≠ f.fid) :
    g.settle (n + 1) = (g.stopped fs f p.mask).settle n := by
  rw [settle_arrives hr (hfid ▸ frame?_last hfr hd) hpc hn hk, ← hfid, arrive_last _ hfr hd]; rfl

/-- A divergence in which another lies is not complete. -/
theorem complete_of_child {g : Group} {x y : Frame} (hy : y ∈ g.frames) (hp : y.parent = x.fid) : g.complete x = false := by
  have : g.frames.any (fun z => z.parent == x.fid) = true := List.any_eq_true.mpr ⟨y, hy, by simpa using hp⟩
  simp [Group.complete, this]

section Reconverge
variable {n : Nat} {g : Group} {p : Path} {fs : List Frame} {f : Frame} (hr : g.run = some p) (hn : p.retry = false)
  (hk : g.parked = []) (hfr : g.frames = fs ++ [f]) (hfid : f.fid = p.fid) (hpc : f.rpc = p.pc) (hd : ∀ x ∈ fs, x.fid ≠ f.fid)
include hr hn hk hfr hfid hpc hd

/-- With a pending path of the same divergence left, that path runs (R24). -/
theorem settle_next_path {q : Path} {r : List Path} (hchild : ∀ x ∈ fs, ∃ y ∈ fs ++ [f], y.parent = x.fid)
    (hs : g.stack = q :: r) (hq : q.fid = f.fid) (hqpc : q.pc ≠ f.rpc) :
    g.settle (n + 3) = { g.stopped fs f p.mask with run := some q, stack := r } := by
  have hopen : ∀ x ∈ (g.stopped fs f p.mask).frames, (g.stopped fs f p.mask).complete x = false := fun x hx => by
    rcases List.mem_append.mp hx with hx | hx
    · obtain ⟨y, hy, hyp⟩ := hchild x hx
      rcases List.mem_append.mp hy with hy | hy
      · exact complete_of_child (List.mem_append_left _ hy) hyp
      · rw [List.mem_singleton.mp hy] at hyp
        exact complete_of_child (y := { f with arrived := f.arrived ||| p.mask }) (by simp [Group.stopped]) hyp
    · have : (g.stopped fs f p.mask).stack.any (fun z => z.fid == f.fid) = true := by simp [Group.stopped, hs, hq]
      simp [List.mem_singleton.mp hx, Group.complete, this]
  rw [settle_stops hr hn hk hfr hfid hpc hd, settle_chooses rfl (choose_top hopen hk hs), settle_clear rfl]
  have hf := frame?_last (g := { g.stopped fs f p.mask with run := some q, stack := r })
    (f := { f with arrived := f.arrived ||| p.mask }) rfl hd
  simpa only [Group.clearAt, hq, hf, bne_iff_ne, ne_eq] using fun e => hqpc e.symm

/-- With none left, the lanes that arrived go on under one mask (R24). -/
theorem settle_merge (hs : ∀ q ∈ g.stack, q.fid ≠ p.fid) (hp : ∀ y ∈ fs ++ [f], y.parent ≠ f.fid) (ha : f.arrived ||| p.mask ≠ 0)
    (hc : ({ g with frames := fs } : Group).clearAt { p with fid := f.parent } f.rpc = true) :
    g.settle (n + 3) = { g with frames := fs, run := some { pc := f.rpc, mask := f.arrived ||| p.mask, fid := f.parent } } := by
  have hstack : g.stack.any (fun z => z.fid == f.fid) = false := List.any_eq_false.mpr fun z hz => by simpa [hfid] using hs z hz
  have hfs : fs.any (fun z => z.parent == f.fid) = false := List.any_eq_false.mpr fun z hz => by
    simpa using hp z (List.mem_append_left _ hz)
  have hdone : (g.stopped fs f p.mask).complete { f with arrived := f.arrived ||| p.mask } = true := by
    simp [Group.complete, Group.stopped, hk, hstack, hfs, hp f (by simp)]
  rw [settle_stops hr hn hk hfr hfid hpc hd, settle_chooses rfl (choose_merge rfl hdone hd ha), settle_clear rfl hc]
  rfl
end Reconverge

/-- Settles O14: the first clause is `retired_clear`; at a reconvergence point the group settles in three choices: the path stops, the
next path or the merged one is chosen, and that one runs on. -/
theorem pathsGoOn : Obligations.PathsGoOn := by
  refine ⟨fun s g h p gr hI hc hf hh => retired_clear hc hf (by rw [hh]; exact noHalt_of_issues hI),
    fun s g h p w fs f hI hm hfr hfid hpc hk hd => ?_⟩
  have hd' : ∀ x ∈ fs, x.fid ≠ f.fid := fun x hx => (hd x hx).1
  rw [exec_nop, nop_next hI hm, State.retired]
  obtain ⟨n, hn⟩ := settleFuel_pos { h.seen with run := some { p with pc := p.next, retry := false } }
  refine ⟨fun q r hs hq hqpc => congrArg _ ?_, fun hs hp ha hc => congrArg _ ?_⟩
  · have hset := settle_next_path (n := n) (g := { h.seen with run := some { p with pc := p.next, retry := false } }) rfl rfl hk hfr
      hfid hpc hd' (fun x hx => (hd x hx).2) hs (hq.trans hfid.symm) hqpc
    rw [← hn] at hset
    exact (putGroup_go hset rfl rfl (noHalt_of_issues hI)).trans rfl
  · have hset := settle_merge (n := n) (g := { h.seen with run := some { p with pc := p.next, retry := false } }) rfl rfl hk hfr
      hfid hpc hd' hs hp ha hc
    rw [← hn] at hset
    exact (putGroup_go hset rfl rfl (noHalt_of_issues hI)).trans rfl

@[simp] theorem State.sees_ctx (s : State) (g : GRef) (h : Here) (p : Path) (w : IWord) : (s.sees g h p w).ctx = h.ctx := rfl
@[simp] theorem State.sees_core (s : State) (g : GRef) (h : Here) (p : Path) (w : IWord) : (s.sees g h p w).core = g.core.val := rfl
@[simp] theorem State.sees_slot (s : State) (g : GRef) (h : Here) (p : Path) (w : IWord) : (s.sees g h p w).slot = g.slot.val := rfl

/-! Retiring with a progress event, and putting a group back as it was left. -/

/-- A group put back on a path of its own mask is left as given. -/
theorem put_same_mask {s : State} {g : GRef} {h : Here} {p : Path} {w : IWord} {gr : Group}
    (hm : gr.run.map Path.mask = some p.mask) : (s.sees g h p w).put gr = s.left g h gr := by
  simp only [Iss.put, State.sees_path, hm, or_true, if_true]; rfl

/-- A group whose watchdog the instruction has set to now is left as given, whatever path it goes on with. -/
theorem put_progress {s : State} {g : GRef} {h : Here} {p : Path} {w : IWord} {gr : Group} (hw : gr.wdog = s.now) :
    (s.sees g h p w).put gr = s.left g h gr := by
  refine congrArg (s.left g h) (ite_eq_left_iff.mpr fun _ => ?_)
  exact congrArg (fun n => ({ gr with wdog := n } : Group)) hw.symm

/-- A group that goes on with another mask makes progress (R48). -/
theorem put_other_mask {s : State} {g : GRef} {h : Here} {p : Path} {w : IWord} {gr : Group} {q : Path} (hq : gr.run = some q)
    (hm : q.mask ≠ p.mask) : (s.sees g h p w).put gr = s.left g h { gr with wdog := s.now } := by
  have : ¬ (gr.run.isNone ∨ gr.run.map Path.mask = some p.mask) := by simp [hq, hm]
  exact congrArg (s.left g h) (if_neg this)

/-- A legal instruction whose meaning is a state of what it sees answers that state. -/
theorem issue_next {s t : State} {g : GRef} {h : Here} {p : Path} (hI : s.Issues g h p) {w : IWord} {legal : Group → Bool}
    {body : Iss → State} (hl : legal h.seen = true) (hb : body (s.sees g h p w) = t) : issue s g w legal body = .next t := by
  rw [issue_runs hI w legal body hl, hb]

theorem modZero_of {w : IWord} (h : modNat w = 0) : modZero w = true := by simp [modZero, h]

/-- Register checks do not look at a spent breakpoint. -/
@[simp] theorem regsOk_seen (rs : List (Nat × Nat)) (h : Here) : regsOk rs h.seen = regsOk rs h.grp := rfl

/-! YIELD, BKPT, SRD. -/

/-- A run of one register is that register. -/
theorem setRuns_one (g : Group) (r : Nat) (m : Lanes) (f : Nat → Nat) :
    g.setRuns r 1 m f = g.setLanes r m (fun l => BitVec.ofNat 32 (f l)) := by
  have hone : ∀ (g : Group) (l v : Nat), g.setRun r 1 l v = g.setReg r l (BitVec.ofNat 32 v) := fun g l v => by
    have : BitVec.ofNat 32 (bits v 0 32) = BitVec.ofNat 32 v := by apply BitVec.eq_of_toNat_eq; simp [bits]
    simp [Group.setRun, List.range_succ, this]
  simp only [Group.setRuns, Group.setLanes, hone]

/-- SRD's special registers are the entries of Table 02.1's list by selector, but for the cycle counter. -/
theorem special_eq {i : Iss} {sel l v : Nat} (h7 : sel ≠ 7)
    (hv : [l, i.slot, i.grp.idx, i.core, i.core / 8, i.ctx, i.s.width i.core, 0, i.s.dev.deviceId][sel]? = some v) :
    i.special sel l = some v := by
  have hs : sel < 9 := (List.getElem?_eq_some_iff.mp hv).1
  interval_cases sel <;> first | exact absurd rfl h7 | exact hv

/-- Settles O15. -/
theorem plainControl : Obligations.PlainControl := by
  intro s g h p w hI hm
  have hz := modZero_of hm
  have hstep : h.grp.halt.step = false := (issuer_spec hI).2.2.2.2.1
  have hrun : h.grp.run = some p := (issuer_spec hI).2.2.1
  refine ⟨nop_next hI hm, fun hs => ?_, fun ha => ?_, fun q r hs ha => ?_, fun hd => ?_, fun hd ha => ?_, fun v h7 hr hv => ?_,
    fun h7 hr => ?_⟩
  · rw [exec_yield, execYield]
    refine issue_retires hI _ hz rfl ?_
    have : (s.sees g h p w).grp.stack = [] := hs
    simp only [this]; rfl
  · rw [exec_yield, execYield]
    refine issue_retires hI _ hz rfl ?_
    cases hs : h.grp.stack with
    | nil =>
      have : (s.sees g h p w).grp.stack = [] := hs
      simp only [this, if_true]; rfl
    | cons q r =>
      have : (s.sees g h p w).grp.stack = q :: r := hs
      simp only [this, State.sees_act, ha, if_true, reduceCtorEq, if_false]; rfl
  · rw [exec_yield, execYield]
    refine issue_next hI hz ?_
    have : (s.sees g h p w).grp.stack = q :: r := hs
    simp only [this, State.sees_act, ha, if_false]
    exact put_progress rfl
  · rw [exec_bkpt, execBkpt]
    refine issue_retires hI _ hz rfl ?_
    have hc : ((s.issued g h).debugged h.ctx && h.active p w != 0) = false := by
      rcases hd with hd | ha
      · rw [show (s.issued g h).debugged h.ctx = s.debugged h.ctx from rfl, hd]; rfl
      · simp [ha]
    exact if_neg (by simpa using hc)
  · rw [exec_bkpt, execBkpt]
    refine issue_next hI hz ?_
    have hc : ((s.issued g h).debugged h.ctx && h.active p w != 0) = true := by
      rw [show (s.issued g h).debugged h.ctx = s.debugged h.ctx from rfl, hd]; simpa using ha
    refine (if_pos hc).trans ?_
    rw [show (s.sees g h p w).grp.halt.step = false from hstep]
    exact congrArg (fun t : State => t.freezeSync h.ctx g.core.val) (retire_eq s g h p w hrun)
  · have hs : immBits w 0 8 ≤ 8 := Nat.lt_succ_iff.mp (List.getElem?_eq_some_iff.mp (hv 0)).1
    rw [exec_srd]
    unfold execSrd
    refine issue_retires hI _ (by simp only [hz, hs, h7, decide_true, Bool.true_and, if_false]; exact hr) (by simp [Here.lanes]) ?_
    simp only [h7, if_false, setRuns_one]
    refine congrArg _ (congrArg _ (funext fun l => ?_))
    rw [special_eq (i := s.sees g h p w) h7 (hv l)]; rfl
  · rw [exec_srd]
    unfold execSrd
    refine issue_next hI (by simp only [hz, h7, Bool.true_and, if_true]; exact hr) ?_
    simp only [h7, if_true]
    exact retire_eq_at s _ g h p w (by simpa using hrun)

end Sys2Proof.Machine

/-! Branches, EXIT and GSYNC (R24 to R27, R37). -/

namespace Sys2Proof.Machine

/-! Direct branches. -/

/-- What a branch leaves: a fault where the divergence stack overflows (R25), else the group split. -/
theorem branch_fault {s : State} {g : GRef} {h : Here} {p : Path} {w : IWord} {gr : Group} {rpc : Nat} {ps : List (Nat × Lanes)}
    (hs : gr.split p rpc ps = none) : (s.sees g h p w).branch gr rpc ps = s.faulted g h p Code.divergence := by
  simp only [Iss.branch, State.sees_path, hs]; rfl
theorem branch_split {s : State} {g : GRef} {h : Here} {p : Path} {w : IWord} {gr gr' : Group} {rpc : Nat} {ps : List (Nat × Lanes)}
    (hs : gr.split p rpc ps = some gr') : (s.sees g h p w).branch gr rpc ps = (s.sees g h p w).put gr' := by
  simp only [Iss.branch, State.sees_path, hs]

/-- One path does not diverge: a branch of the whole path goes on at its target. -/
theorem branch_one {s : State} {g : GRef} {h : Here} {p : Path} {w : IWord} {gr : Group} {rpc pc : Nat} :
    (s.sees g h p w).branch gr rpc [(pc, p.mask)] = s.left g h { gr with run := some { p with pc := pc, retry := false } } :=
  (branch_split rfl).trans (put_same_mask rfl)

/-- Group gr of path p after it has split into paths, the first of them running (R24, R26). -/
def Group.diverged (gr : Group) (p : Path) (rpc now : Nat) (a : Nat × Lanes) (r : List (Nat × Lanes)) : Group :=
  { gr with
    nextFid := gr.nextFid + 1
    frames := gr.frames ++ [{ fid := gr.nextFid, rpc := rpc, parent := p.fid }]
    run := some { pc := a.1, mask := a.2, fid := gr.nextFid }
    stack := r.map (fun e => { pc := e.1, mask := e.2, fid := gr.nextFid }) ++ gr.stack
    wdog := now }

/-- Two or more paths diverge: the first runs, the others are pushed, and the change of mask is progress. -/
theorem branch_many {s : State} {g : GRef} {h : Here} {p : Path} {w : IWord} {gr : Group} {rpc : Nat} {a : Nat × Lanes}
    {r : List (Nat × Lanes)} (hr : r ≠ []) (hlen : gr.stack.length + r.length ≤ 32) (hm : a.2 ≠ p.mask) :
    (s.sees g h p w).branch gr rpc (a :: r) = s.left g h (gr.diverged p rpc s.now a r) := by
  obtain ⟨pc, m⟩ := a
  obtain ⟨b, r, rfl⟩ := List.exists_cons_of_ne_nil hr
  have hs : ¬ gr.stack.length + (b :: r).length > 32 := by omega
  rw [branch_split (by simp only [Group.split, if_neg hs]; rfl)]
  exact put_other_mask rfl hm

theorem branch_overflow {s : State} {g : GRef} {h : Here} {p : Path} {w : IWord} {gr : Group} {rpc : Nat} {a : Nat × Lanes}
    {r : List (Nat × Lanes)} (hr : r ≠ []) (hlen : 32 < gr.stack.length + r.length) :
    (s.sees g h p w).branch gr rpc (a :: r) = s.faulted g h p Code.divergence := by
  obtain ⟨pc, m⟩ := a
  obtain ⟨b, r, rfl⟩ := List.exists_cons_of_ne_nil hr
  exact branch_fault (by simp only [Group.split]; exact if_pos hlen)

@[simp] theorem setReg_stack (g : Group) (r l : Nat) (v : Word) : (g.setReg r l v).stack = g.stack := by
  unfold Group.setReg; split <;> rfl
@[simp] theorem setRun_stack (g : Group) (r n l v : Nat) : (g.setRun r n l v).stack = g.stack := foldl_part _ _ (by simp) _ _
@[simp] theorem setRuns_stack (g : Group) (r n : Nat) (m : Lanes) (f : Nat → Nat) : (g.setRuns r n m f).stack = g.stack :=
  foldl_part _ _ (by simp) _ _

/-- The active lanes are lanes of the path. -/
theorem mask_and_active (h : Here) (p : Path) (w : IWord) : p.mask &&& h.active p w = h.active p w := by
  simp [Here.active, ← BitVec.and_assoc]

/-- With no lane of the path left over, the active lanes are the path's. -/
theorem active_eq_mask {h : Here} {p : Path} {w : IWord} (ho : p.mask &&& ~~~(h.active p w) = 0) : h.active p w = p.mask :=
  (mask_and_active h p w).symm.trans ((and_not_eq_zero _ _).mp ho)

/-- BRA and CALL are the split of the same two paths, of the group as each of them leaves it. -/
theorem direct_next {s : State} {g : GRef} {h : Here} {p : Path} {w : IWord} (hI : s.Issues g h p) (hm : modNat w = 0)
    {i : Instr} {gr : Group} (hi : (i = Instr.bra g w ∧ gr = h.seen) ∨ (i = Instr.call g w ∧
      regsOk [(w.rd.toNat, 2)] h.grp = true ∧ gr = h.seen.setRuns w.rd.toNat 2 (h.active p w) (fun _ => p.next))) :
    exec i s = .next ((s.sees g h p w).branch gr (branchTo p.pc (BitVec.ofNat 32 (immHi w))) ((s.sees g h p w).takenPaths w)) ∧
    gr.stack = h.grp.stack := by
  have hz := modZero_of hm
  rcases hi with ⟨rfl, rfl⟩ | ⟨rfl, hr, rfl⟩
  · rw [exec_bra, execBra]
    exact ⟨issue_next hI hz rfl, rfl⟩
  · rw [exec_call, execCall]
    exact ⟨issue_next hI (by simp only [hz, Bool.true_and]; exact hr) rfl, setRuns_stack _ _ _ _ _⟩

/-- The paths of a direct branch of an issuing group (R24). -/
theorem takenPaths_sees (s : State) (g : GRef) (h : Here) (p : Path) (w : IWord) : (s.sees g h p w).takenPaths w =
    (if h.active p w = 0 then [(p.next, p.mask &&& ~~~(h.active p w))]
     else if p.mask &&& ~~~(h.active p w) = 0 then [(branchTo p.pc (immLo w), h.active p w)]
     else if lowestLane (h.active p w) < lowestLane (p.mask &&& ~~~(h.active p w)) then
       [(branchTo p.pc (immLo w), h.active p w), (p.next, p.mask &&& ~~~(h.active p w))]
     else [(p.next, p.mask &&& ~~~(h.active p w)), (branchTo p.pc (immLo w), h.active p w)]) := rfl

theorem and_not_eq_self (m g : Lanes) : m &&& ~~~g = m ↔ m &&& g = 0 := by
  rw [← and_not_eq_zero, BitVec.not_not]

/-- Settles O16: BRA and CALL take the same two paths (`direct_next`), which the five clauses tell apart by which of them is empty, which
has the lower lane and whether the stack has room. -/
theorem directBranches : Obligations.DirectBranches := by
  intro s g h p w hI hm on off goal split i gr hi
  obtain ⟨hexec, hstack⟩ := direct_next hI hm hi
  have hon : off ≠ 0 → on ≠ p.mask := fun h0 e => h0 ((and_not_eq_zero _ _).mpr ((mask_and_active h p w).trans e))
  have hoff : on ≠ 0 → off ≠ p.mask := fun h0 e => h0 ((mask_and_active h p w).symm.trans ((and_not_eq_self _ _).mp e))
  have hlen : h.grp.stack.length < 32 → ∀ b : Nat × Lanes, gr.stack.length + [b].length ≤ 32 := fun hl b => by
    rw [hstack]; simpa using hl
  rw [hexec, takenPaths_sees]
  refine ⟨fun h0 => ?_, fun h1 h0 => ?_, fun h1 h2 h3 h4 => ?_, fun h1 h2 h3 h4 => ?_, fun h1 h2 h3 => ?_⟩
  · rw [if_pos h0, show h.active p w = 0 from h0, (and_not_eq_self p.mask 0).mpr (by simp)]
    exact congrArg _ branch_one
  · rw [if_neg h1, if_pos h0, active_eq_mask h0]
    exact congrArg _ branch_one
  · rw [if_neg h1, if_neg h2, if_pos h4]
    exact congrArg _ (branch_many (by simp) (hlen h3 _) (hon h2))
  · rw [if_neg h1, if_neg h2, if_neg h4.not_gt]
    exact congrArg _ (branch_many (by simp) (hlen h3 _) (hoff h1))
  · rw [if_neg h1, if_neg h2]
    have hover : ∀ b : Nat × Lanes, 32 < gr.stack.length + [b].length := fun b => by rw [hstack]; simpa [Nat.lt_succ_iff] using h3
    split
    · exact congrArg _ (branch_overflow (by simp) (hover _))
    · exact congrArg _ (branch_overflow (by simp) (hover _))

/-! Lanes of a mask. -/

@[simp] theorem mem_lanesOf {m : Lanes} {l : Nat} : l ∈ lanesOf m ↔ m.getLsbD l = true := by
  simp only [lanesOf, List.mem_filter, List.mem_range, and_iff_right_iff_imp]
  exact BitVec.lt_of_getLsbD

theorem lanesOf_sorted (m : Lanes) : (lanesOf m).Pairwise (· < ·) := List.pairwise_lt_range.filter _

theorem lanesOf_eq_nil {m : Lanes} : lanesOf m = [] ↔ m = 0 := by
  rw [BitVec.eq_of_getLsbD_eq_iff, List.eq_nil_iff_forall_not_mem]
  simp only [mem_lanesOf, Bool.not_eq_true, BitVec.ofNat_eq_ofNat, BitVec.getLsbD_zero]
  exact ⟨fun h i _ => h i, fun h i => by
    by_cases hi : i < 32
    · exact h i hi
    · exact BitVec.getLsbD_of_ge _ _ (by omega)⟩

theorem getLsbD_laneBit (l j : Nat) : (laneBit l).getLsbD j = (decide (j < 32) && decide (l = j)) := by
  rw [laneBit, BitVec.getLsbD_ofNat, Nat.testBit_two_pow]

/-- The lowest lane is a lane, and none is lower. -/
theorem lowestLane_eq {m : Lanes} {l : Nat} (hl : m.getLsbD l = true) (hn : ∀ j < l, m.getLsbD j = false) : lowestLane m = l := by
  have hf : (List.range 32).find? (fun l => m.getLsbD l) = some l := by
    rw [List.find?_range_eq_some]
    exact ⟨hl, by simpa using BitVec.lt_of_getLsbD hl, fun j hj => by simp [hn j hj]⟩
  simp [lowestLane, lanesOf, List.head?_filter, hf]

theorem exists_lowestLane {m : Lanes} (hm : m ≠ 0) : m.getLsbD (lowestLane m) = true ∧ ∀ j < lowestLane m, m.getLsbD j = false := by
  obtain ⟨l, hl⟩ := List.exists_mem_of_ne_nil _ (mt lanesOf_eq_nil.mp hm)
  have hex : ∃ l, m.getLsbD l = true := ⟨l, mem_lanesOf.mp hl⟩
  have hmin : ∀ j < Nat.find hex, m.getLsbD j = false := fun j hj => by simpa using Nat.find_min hex hj
  rw [lowestLane_eq (Nat.find_spec hex) hmin]
  exact ⟨Nat.find_spec hex, hmin⟩

theorem lowestLane_le {m : Lanes} {l : Nat} (hl : m.getLsbD l = true) : lowestLane m ≤ l := by
  have hm : m ≠ 0 := fun e => by simp [e] at hl
  by_contra hlt
  simp [(exists_lowestLane hm).2 l (by omega)] at hl

/-! Lanes grouped by target (R26). -/

/-- What the paths of some lanes, in rising order, are: one a distinct target, with the lanes that go there, in the order of their lowest
lanes. -/
structure Grouped (L : List Nat) (f : Nat → Nat) (ps : List (Nat × Lanes)) : Prop where
  nodup : (ps.map Prod.fst).Nodup
  sorted : ps.Pairwise (fun a b => lowestLane a.2 < lowestLane b.2)
  lanes : ∀ e ∈ ps, e.2 ≠ 0 ∧ ∀ l < 32, e.2.getLsbD l = (decide (l ∈ L) && decide (f l = e.1))
  covers : ∀ l ∈ L, ∃ e ∈ ps, e.1 = f l

/-- The lowest lane of a path is one of the lanes grouped. -/
theorem Grouped.lowest_mem {L : List Nat} {f : Nat → Nat} {ps : List (Nat × Lanes)} (h : Grouped L f ps) {e : Nat × Lanes} (he : e ∈ ps) :
    lowestLane e.2 ∈ L := by
  obtain ⟨hne, hbits⟩ := h.lanes e he
  have hl := (exists_lowestLane hne).1
  have := hbits _ (BitVec.lt_of_getLsbD hl)
  rw [hl] at this
  simpa using (Bool.and_eq_true_iff.mp this.symm).1

/-- A path with a further lane l, when its target is l's. -/
def joinLane (f : Nat → Nat) (l : Nat) (e : Nat × Lanes) : Nat × Lanes := if e.1 = f l then (f l, e.2 ||| laneBit l) else e

@[simp] theorem joinLane_fst (f : Nat → Nat) (l : Nat) (e : Nat × Lanes) : (joinLane f l e).1 = e.1 := by
  unfold joinLane; split
  · next h => exact h.symm
  · rfl

theorem joinLane_bits (f : Nat → Nat) (l : Nat) (e : Nat × Lanes) {j : Nat} (hj : j < 32) :
    (joinLane f l e).2.getLsbD j = (e.2.getLsbD j || (decide (j = l) && decide (f j = e.1))) := by
  unfold joinLane
  by_cases h : e.1 = f l
  · rw [if_pos h, BitVec.getLsbD_or, getLsbD_laneBit]
    by_cases hl : j = l
    · subst hl; simp [h, hj]
    · simp [hl, Ne.symm hl]
  · rw [if_neg h]
    by_cases hl : j = l
    · subst hl; simp [Ne.symm h]
    · simp [hl]

/-- A higher lane leaves the lowest lane of a path as it is. -/
theorem joinLane_lowest (f : Nat → Nat) {l : Nat} {e : Nat × Lanes} (hne : e.2 ≠ 0) (hl : lowestLane e.2 < l) :
    lowestLane (joinLane f l e).2 = lowestLane e.2 := by
  obtain ⟨hbit, hmin⟩ := exists_lowestLane hne
  have h32 := BitVec.lt_of_getLsbD hbit
  refine lowestLane_eq (by rw [joinLane_bits f l e h32, hbit]; rfl) fun j hj => ?_
  rw [joinLane_bits f l e (by omega), hmin j hj]; simp [show j ≠ l by omega]

/-- A lane above all others joins the path of its target, or makes a new one behind them. -/
theorem Grouped.snoc {L : List Nat} {f : Nat → Nat} {ps : List (Nat × Lanes)} (h : Grouped L f ps) {l : Nat} (hl : l < 32)
    (habove : ∀ j ∈ L, j < l) : Grouped (L ++ [l]) f
      (if ps.any (fun e => e.1 == f l) then ps.map (joinLane f l) else ps ++ [(f l, laneBit l)]) := by
  by_cases hany : ps.any (fun e => e.1 == f l) = true
  · rw [if_pos hany]
    have hlow : ∀ e ∈ ps, lowestLane (joinLane f l e).2 = lowestLane e.2 := fun e he =>
      joinLane_lowest f (h.lanes e he).1 (habove _ (h.lowest_mem he))
    refine ⟨by simpa [Function.comp_def] using h.nodup, ?_, ?_, ?_⟩
    · rw [List.pairwise_map]
      exact h.sorted.imp_of_mem fun ha hb hab => by rw [hlow _ ha, hlow _ hb]; exact hab
    · intro e' he'
      obtain ⟨e, he, rfl⟩ := List.mem_map.mp he'
      obtain ⟨hne, hbits⟩ := h.lanes e he
      refine ⟨fun h0 => ?_, fun j hj => ?_⟩
      · have h1 := (exists_lowestLane hne).1
        have h2 := joinLane_bits f l e (BitVec.lt_of_getLsbD h1)
        simp [h0, h1] at h2
      · rw [joinLane_bits f l e hj, hbits j hj]
        simp [Bool.decide_or, Bool.and_or_distrib_right]
    · intro j hj
      rcases List.mem_append.mp hj with hj | hj
      · obtain ⟨e, he, hej⟩ := h.covers j hj
        exact ⟨_, List.mem_map_of_mem he, by simpa using hej⟩
      · obtain ⟨e, he, hel⟩ := List.any_eq_true.mp hany
        exact ⟨_, List.mem_map_of_mem he, by rw [List.mem_singleton.mp hj]; simpa using hel⟩
  · rw [if_neg hany]
    have hnew : ∀ e ∈ ps, e.1 ≠ f l := fun e he q => hany (List.any_eq_true.mpr ⟨e, he, by simpa using q⟩)
    have hlow : lowestLane (laneBit l) = l := lowestLane_eq (by simp [getLsbD_laneBit, hl]) fun j hj => by
      simp [getLsbD_laneBit, show l ≠ j by omega]
    refine ⟨?_, ?_, ?_, ?_⟩
    · rw [List.map_append, List.nodup_append]
      refine ⟨h.nodup, by simp, ?_⟩
      rintro _ ha _ hb rfl
      obtain ⟨e, he, rfl⟩ := List.mem_map.mp ha
      exact hnew e he (by simpa using hb)
    · rw [List.pairwise_append]
      refine ⟨h.sorted, by simp, fun a ha b hb => ?_⟩
      rw [List.mem_singleton.mp hb, hlow]
      exact habove _ (h.lowest_mem ha)
    · intro e he
      rcases List.mem_append.mp he with hold | he
      · obtain ⟨hne, hbits⟩ := h.lanes e hold
        refine ⟨hne, fun j hj => ?_⟩
        by_cases hjl : j = l
        · subst hjl; simp [hbits j hj, Ne.symm (hnew e hold)]
        · simp [hbits j hj, hjl]
      · rw [List.mem_singleton.mp he]
        refine ⟨fun h0 => ?_, fun j hj => ?_⟩
        · have hb := getLsbD_laneBit l l
          rw [show laneBit l = 0 from h0] at hb
          simp [hl] at hb
        rw [getLsbD_laneBit]
        by_cases hjl : j = l
        · subst hjl; simp [hj]
        · have hmiss : j ∈ L → f j ≠ f l := fun hjL q => by
            obtain ⟨e, he, hej⟩ := h.covers j hjL
            exact hnew e he (hej.trans q)
          by_cases hjL : j ∈ L <;> simp [hj, hjl, Ne.symm hjl, hjL]
          exact hmiss hjL
    · intro j hj
      rcases List.mem_append.mp hj with hj | hj
      · obtain ⟨e, he, hej⟩ := h.covers j hj
        exact ⟨e, List.mem_append_left _ he, hej⟩
      · exact ⟨_, List.mem_append_right _ (List.mem_singleton_self _), by rw [List.mem_singleton.mp hj]⟩

theorem groupTargets_grouped (f : Nat → Nat) (L : List Nat) (hs : L.Pairwise (· < ·)) (h32 : ∀ l ∈ L, l < 32) :
    Grouped L f (groupTargets (L.map (fun l => (l, f l)))) := by
  induction L using List.reverseRecOn with
  | nil => exact ⟨List.nodup_nil, List.Pairwise.nil, fun e he => absurd he List.not_mem_nil, fun l hl => absurd hl List.not_mem_nil⟩
  | append_singleton L l ih =>
    obtain ⟨hL, -, hbelow⟩ := List.pairwise_append.mp hs
    have := (ih hL fun j hj => h32 j (List.mem_append_left _ hj)).snoc (h32 l (by simp)) fun j hj => hbelow j hj l (by simp)
    rw [List.map_append, groupTargets, List.foldl_append]
    exact this

/-- The paths of an indirect branch of some lanes (R26). -/
theorem lanesOf_grouped (m : Lanes) (f : Nat → Nat) : Grouped (lanesOf m) f (groupTargets ((lanesOf m).map (fun l => (l, f l)))) :=
  groupTargets_grouped f _ (lanesOf_sorted m) fun _ hl => BitVec.lt_of_getLsbD (mem_lanesOf.mp hl)

/-- Lanes that all have one target form one path. -/
theorem Grouped.single {m : Lanes} {f : Nat → Nat} {ps : List (Nat × Lanes)} (h : Grouped (lanesOf m) f ps) {q : Nat} (hm : m ≠ 0)
    (hq : ∀ l ∈ lanesOf m, f l = q) : ps = [(q, m)] := by
  have hfst : ∀ e ∈ ps, e.1 = q := fun e he => by
    obtain ⟨hne, hbits⟩ := h.lanes e he
    have hl := h.lowest_mem he
    have := hbits _ (BitVec.lt_of_getLsbD (mem_lanesOf.mp hl))
    rw [(exists_lowestLane hne).1] at this
    exact (of_decide_eq_true (Bool.and_eq_true_iff.mp this.symm).2).symm.trans (hq _ hl)
  have hmask : ∀ e ∈ ps, e.2 = m := fun e he => BitVec.eq_of_getLsbD_eq fun l hl => by
    rw [(h.lanes e he).2 l hl]
    by_cases hlm : l ∈ lanesOf m
    · simp [hlm, hq l hlm, hfst e he, mem_lanesOf.mp hlm]
    · rw [decide_eq_false hlm, Bool.false_and]; simpa using (mt mem_lanesOf.mpr hlm)
  obtain ⟨l, hl⟩ := List.exists_mem_of_ne_nil _ (mt lanesOf_eq_nil.mp hm)
  obtain ⟨e, he, -⟩ := h.covers l hl
  match ps, h.nodup, hfst, hmask, he with
  | [a], _, hfst, hmask, _ => rw [← hfst a (by simp), ← hmask a (by simp)]
  | a :: b :: r, hnd, hfst, _, _ =>
    have := hfst a (by simp); have := hfst b (by simp)
    simp_all

/-- With a second path the first does not hold the whole mask. -/
theorem Grouped.first_ne {m : Lanes} {f : Nat → Nat} {a b : Nat × Lanes} {r : List (Nat × Lanes)}
    (h : Grouped (lanesOf m) f (a :: b :: r)) : a.2 ≠ m := fun e => by
  obtain ⟨hne, hbits⟩ := h.lanes b (by simp)
  have hl := h.lowest_mem (e := b) (by simp)
  have h32 := BitVec.lt_of_getLsbD (mem_lanesOf.mp hl)
  have hb := hbits _ h32
  have ha := (h.lanes a (by simp)).2 _ h32
  rw [(exists_lowestLane hne).1] at hb
  rw [e, mem_lanesOf.mp hl] at ha
  have h1 : f (lowestLane b.2) = b.1 := of_decide_eq_true (Bool.and_eq_true_iff.mp hb.symm).2
  have h2 : f (lowestLane b.2) = a.1 := of_decide_eq_true (Bool.and_eq_true_iff.mp ha.symm).2
  have := h.nodup
  simp [← h1, ← h2] at this

/-- BRI and RET are the same: a fault at a far target, else the split by target (R26, R188). -/
theorem indirect_next {s : State} {g : GRef} {h : Here} {p : Path} {w : IWord} (hI : s.Issues g h p) (hm : modNat w = 0)
    (hr : regsOk [(w.ra.toNat, 2)] h.grp = true) {i : Instr} (hi : i ∈ [Instr.bri g w, .ret g w]) :
    exec i s = .next (if (lanesOf (h.active p w)).any (fun l => decide (h.grp.run64 w.ra.toNat 2 l ≥ 2 ^ 48)) then
        s.faulted g h p Code.pageFault
      else (s.sees g h p w).branch h.seen (branchTo p.pc (BitVec.ofNat 32 (immHi w)))
        (groupTargets ((lanesOf p.mask).map (fun l => (l, if (h.active p w).getLsbD l then h.grp.run64 w.ra.toNat 2 l else p.next))))) := by
  have hl : (modZero w && regsOk [(w.ra.toNat, 2)] h.seen) = true := by simp only [modZero_of hm, Bool.true_and]; exact hr
  simp only [List.mem_cons, List.not_mem_nil, or_false] at hi
  rcases hi with rfl | rfl
  · rw [exec_bri, execBri]; exact issue_next hI hl rfl
  · rw [exec_ret, execRet]; exact issue_next hI hl rfl

/-- Settles O17. -/
theorem indirectBranches : Obligations.IndirectBranches := by
  refine ⟨fun m f => ?_, fun s g h p w hI hm hr => ?_⟩
  · have hg := lanesOf_grouped m f
    refine ⟨hg.nodup, hg.sorted, fun e he => ⟨(hg.lanes e he).1, fun l hl => ?_⟩⟩
    rw [(hg.lanes e he).2 l hl]; simp
  intro on dest paths i hi
  have hg : Grouped (lanesOf p.mask) dest paths := lanesOf_grouped p.mask dest
  rw [indirect_next hI hm hr hi]
  refine ⟨fun ⟨l, hl, hfar⟩ => ?_, fun hnear => ?_⟩
  · rw [if_pos (List.any_eq_true.mpr ⟨l, hl, by simpa using hfar⟩)]
  · rw [if_neg (by simpa using hnear)]
    refine ⟨fun q hm0 hq => ?_, fun q m r hp hr0 hlen => ?_, fun q m r hp hr0 hlen => ?_⟩
    · rw [show groupTargets _ = [(q, p.mask)] from hg.single hm0 hq]
      exact congrArg _ branch_one
    · obtain ⟨b, r, rfl⟩ := List.exists_cons_of_ne_nil hr0
      rw [show groupTargets _ = (q, m) :: b :: r from hp]
      exact congrArg _ (branch_many hr0 hlen (hp ▸ hg).first_ne)
    · rw [show groupTargets _ = (q, m) :: r from hp]
      exact congrArg _ (branch_overflow hr0 hlen)

/-! EXIT and GSYNC. -/

/-- A group with no path left and none to choose has ended (R27). -/
theorem putGroup_ended {s : State} {c k l : Nat} {g : Group} (hr : g.run = none) (hs : g.stack = []) (hf : g.frames = [])
    (hk : g.parked = []) : s.putGroup c k l g = ((s.updImg c k (fun i => { i with groups := mapErase i.groups l })).updLaunch g.launch
      (fun l => { l with ended := l.ended + 1 })).freezeSync c k := by
  have hc : g.choose = none := by simp [Group.choose, hs, hf, hk]
  obtain ⟨n, hn⟩ := settleFuel_pos g
  have hset : g.settle (settleFuel g) = g := by rw [hn, Group.settle, hr]; simp only [hc]
  have hres : g.resolve = .ended := by simp [Group.resolve, hset, hr, hk]
  simp only [State.putGroup, hres]

/-- The group after EXIT of some lanes, before its path is settled (R27). -/
def Here.exited (h : Here) (p : Path) (w : IWord) (now : Nat) : Group :=
  ({ h.seen with alive := h.grp.alive &&& ~~~h.active p w, wdog := now } : Group).trimSyncs

/-- EXIT of part of a path: the other lanes go on (R27). -/
theorem exit_part {s : State} {g : GRef} {h : Here} {p : Path} {w : IWord} (hI : s.Issues g h p) (hz : modZero w = true)
    (hon : h.active p w ≠ 0) (hoff : p.mask &&& ~~~h.active p w ≠ 0) :
    exec (.exit g w) s = .next ((s.left g h { h.exited p w s.now with
      run := some { p with pc := p.next, mask := p.mask &&& ~~~h.active p w, retry := false } }).gsyncSweep h.ctx g.core.val) := by
  rw [exec_exit, execExit]
  refine issue_next hI hz ((if_neg hon).trans ?_)
  refine (congrArg (fun gr => ((s.sees g h p w).put gr).gsyncSweep h.ctx g.core.val) (if_neg hoff)).trans ?_
  exact congrArg (fun t => t.gsyncSweep h.ctx g.core.val) (put_progress (gr := { h.exited p w s.now with
    run := some { p with pc := p.next, mask := p.mask &&& ~~~h.active p w, retry := false } }) rfl)

/-- EXIT of the lanes of a group's only path ends the group (R27). -/
theorem exit_whole {s : State} {g : GRef} {h : Here} {p : Path} {w : IWord} (hI : s.Issues g h p) (hz : modZero w = true)
    (hon : h.active p w ≠ 0) (hoff : p.mask &&& ~~~h.active p w = 0) (hs : h.grp.stack = []) (hf : h.grp.frames = [])
    (hk : h.grp.parked = []) :
    exec (.exit g w) s = .next (((((s.issued g h).updImg h.ctx g.core.val (fun i =>
      { i with groups := mapErase i.groups g.slot.val })).updLaunch h.grp.launch (fun l =>
        { l with ended := l.ended + 1 })).freezeSync h.ctx g.core.val).gsyncSweep h.ctx g.core.val) := by
  rw [exec_exit, execExit]
  refine issue_next hI hz ((if_neg hon).trans ?_)
  refine (congrArg (fun gr => ((s.sees g h p w).put gr).gsyncSweep h.ctx g.core.val)
    ((if_pos hoff).trans (retryWhere_nil (g := { h.exited p w s.now with run := none }) hk _))).trans ?_
  exact congrArg (fun t => t.gsyncSweep h.ctx g.core.val)
    ((put_progress (gr := { h.exited p w s.now with run := none }) rfl).trans (putGroup_ended rfl hs hf hk))

/-- Settles O18, EXIT by what it leaves of the path, GSYNC by the lanes that wait already. -/
theorem exitAndGsync : Obligations.ExitAndGsync := by
  intro s g h p w hI hm on off id seen
  have hz := modZero_of hm
  refine ⟨fun h0 => ⟨?_, ?_⟩, exit_part hI hz, exit_whole hI hz, fun hon hwait => ?_, fun hon hseen hapart => ?_⟩
  · rw [exec_exit, execExit]
    exact issue_retires hI _ hz rfl (if_pos h0)
  · rw [exec_gsync, execGsync]
    exact issue_retires hI _ hz rfl (if_pos h0)
  · have hgo : ¬ (seen ≠ 0 ∧ seen &&& on = 0) := fun ⟨h0, h1⟩ => hwait.elim h0 fun hne => hne h1
    rw [exec_gsync, execGsync]
    exact issue_next hI hz ((if_neg hon).trans (if_neg hgo))
  · rw [exec_gsync, execGsync]
    exact issue_retires hI _ hz rfl ((if_neg hon).trans (if_pos ⟨hseen, hapart⟩))

end Sys2Proof.Machine

/-! WAIT and POLL of tokens. -/

namespace Sys2Proof.Machine

/-- Writing a register in some lanes commutes with an update of the group that commutes with one write. -/
theorem setLanes_comm {u : Group → Group} (hu : ∀ g r l v, u (g.setReg r l v) = (u g).setReg r l v) (g : Group) (r : Nat) (m : Lanes)
    (f : Nat → Word) : u (g.setLanes r m f) = (u g).setLanes r m f :=
  (List.foldl_hom u fun g l => (hu g r l (f l)).symm).symm

theorem setReg_wdog (n : Nat) (g : Group) (r l : Nat) (v : Word) :
    ({ g.setReg r l v with wdog := n } : Group) = ({ g with wdog := n } : Group).setReg r l v := by
  unfold Group.setReg; split <;> rfl

theorem setLanes_wdog (n : Nat) (g : Group) (r : Nat) (m : Lanes) (f : Nat → Word) :
    ({ g.setLanes r m f with wdog := n } : Group) = ({ g with wdog := n } : Group).setLanes r m f :=
  setLanes_comm (u := fun g => { g with wdog := n }) (setReg_wdog n) g r m f

theorem setToks_run (g : Group) (array : Bool) (m : Map Tok) : (g.setToks array m).run = g.run := by cases array <;> rfl
theorem setToks_wait (g : Group) (array : Bool) (m : Map Tok) : (g.setToks array m).wait = g.wait := by cases array <;> rfl

theorem setToks_wdog (g : Group) (array : Bool) (m : Map Tok) : (g.setToks array m).wdog = g.wdog := by cases array <;> rfl

theorem setWait_none {g : Group} (h : g.wait = .none) (n : Nat) :
    ({ g with wait := .none, wdog := n } : Group) = { g with wdog := n } := by rw [← h]

theorem step16_run {g : Group} {p : Path} (h : g.run = some p) :
    g.step16 = { g with run := some { p with pc := p.next, retry := false } } := by
  unfold Group.step16; rw [h]; rfl

/-- The group once the final status of a token is written and the token is free (R52, R75). -/
def Here.tokenDone (h : Here) (p : Path) (w : IWord) (array : Bool) (t : Nat) (st : Status) : Group :=
  (h.seen.setToks array (mapErase (h.grp.toks array) t)).setLanes w.rd.toNat (h.active p w) (fun _ => st.setWidth 32)

theorem tokenDone_run {h : Here} {p : Path} {w : IWord} {array : Bool} {t : Nat} {st : Status} :
    (h.tokenDone p w array t st).run = h.grp.run := (setLanes_run _ _ _ _).trans (setToks_run _ _ _)

/-- The group once a token is polled: its status is written, 0xFFFF while there is none, and an ended token is free (R52, R75). -/
def Here.polled (h : Here) (p : Path) (w : IWord) (array : Bool) (t : Nat) (k : Tok) : Group :=
  (if k.st.isSome then h.seen.setToks array (mapErase (h.grp.toks array) t) else h.seen).setLanes w.rd.toNat (h.active p w)
    (fun _ => (k.st.getD Code.running).setWidth 32)

theorem polled_run {h : Here} {p : Path} {w : IWord} {array : Bool} {t : Nat} {k : Tok} :
    (h.polled p w array t k).run = h.grp.run := by
  unfold Here.polled; split <;> simp [setToks_run, Here.seen_run]

theorem setReg_wdog_same (g : Group) (r l : Nat) (v : Word) : (g.setReg r l v).wdog = g.wdog := by
  unfold Group.setReg; split <;> rfl

theorem setLanes_wdog_same (g : Group) (r : Nat) (m : Lanes) (f : Nat → Word) : (g.setLanes r m f).wdog = g.wdog :=
  foldl_part Group.wdog _ (fun _ _ => setReg_wdog_same _ _ _ _) _ _

theorem polled_wdog {h : Here} {p : Path} {w : IWord} {array : Bool} {t : Nat} {k : Tok} :
    (h.polled p w array t k).wdog = h.grp.wdog := by
  unfold Here.polled; rw [setLanes_wdog_same]; split
  · exact setToks_wdog _ _ _
  · rfl

theorem setWdog_self {g : Group} {n : Nat} (h : g.wdog = n) : ({ g with wdog := n } : Group) = g := by rw [← h]

section
variable {s : State} {g : GRef} {h : Here} {p : Path} {w : IWord} {array : Bool} {t : Nat} {k : Tok} {st : Status}

/-- WAIT on an ended token whose status does not fault (R52, R75). -/
theorem endWait_retires (hI : s.Issues g h p) (hst : w.rd ≠ 0 ∨ waitFaults array st = false) :
    (s.issued g h).endWait h.ctx g.core.val g.slot.val h.seen array t w.rd.toNat (h.active p w) false st =
      s.retired g h p { h.tokenDone p w array t st with wdog := s.now } := by
  obtain ⟨-, -, hp, hready, -⟩ := issuer_spec hI
  have hcond : ¬ ((false || w.rd.toNat == 0) && waitFaults array st) = true := by
    rcases hst with hrd | hst
    · have : w.rd.toNat ≠ 0 := fun e => hrd (BitVec.eq_of_toNat_eq e)
      simp [this]
    · simp [hst]
  have hwait := (setToks_wait h.seen array (mapErase (h.grp.toks array) t)).trans (ready_spec hready).1
  have hgr := setLanes_wdog s.now (h.seen.setToks array (mapErase (h.grp.toks array) t)) w.rd.toNat (h.active p w)
    (fun _ => st.setWidth 32)
  rw [← setWait_none hwait] at hgr
  unfold State.endWait
  rw [if_neg hcond]
  refine Eq.trans ?_ (congrArg (State.left s g h) ((congrArg Group.step16 hgr.symm).trans (step16_run (tokenDone_run.trans hp))))
  rfl

/-- WAIT on an ended token whose status faults (R52, R75). -/
theorem endWait_faults (hrd : w.rd = 0) (hp : h.grp.run = some p) (hst : waitFaults array st = true) :
    (s.issued g h).endWait h.ctx g.core.val g.slot.val h.seen array t w.rd.toNat (h.active p w) false st = s.faulted g h p st := by
  have hrun : h.seen.run = some p := hp
  unfold State.endWait
  rw [if_pos (by simp [hrd, hst]), hrun]
  rfl

theorem waitTok_none (hn : mapFind (h.grp.toks array) (leadReg (s.sees g h p w) w.ra.toNat) = none) :
    (s.sees g h p w).waitTok array w.rd.toNat w.ra.toNat = s.faulted g h p Code.illegal := by
  have hn' : mapFind ((s.sees g h p w).grp.toks array) (leadReg (s.sees g h p w) w.ra.toNat) = none := hn
  simp only [Iss.waitTok, hn']; rfl

theorem waitTok_some (hk : mapFind (h.grp.toks array) (leadReg (s.sees g h p w) w.ra.toNat) = some k) :
    (s.sees g h p w).waitTok array w.rd.toNat w.ra.toNat = match k.st with
      | none => (s.issued g h).setGroup h.ctx g.core.val g.slot.val { h.seen with
          wait := .token array (leadReg (s.sees g h p w) w.ra.toNat) w.rd.toNat (h.active p w) false }
      | some st => (s.issued g h).endWait h.ctx g.core.val g.slot.val h.seen array (leadReg (s.sees g h p w) w.ra.toNat) w.rd.toNat
          (h.active p w) false st := by
  have hk' : mapFind ((s.sees g h p w).grp.toks array) (leadReg (s.sees g h p w) w.ra.toNat) = some k := hk
  simp only [Iss.waitTok, hk']
  cases k.st <;> rfl

theorem pollTok_none (hn : mapFind (h.grp.toks array) (leadReg (s.sees g h p w) w.ra.toNat) = none) :
    (s.sees g h p w).pollTok array w.rd.toNat w.ra.toNat = s.faulted g h p Code.illegal := by
  have hn' : mapFind ((s.sees g h p w).grp.toks array) (leadReg (s.sees g h p w) w.ra.toNat) = none := hn
  simp only [Iss.pollTok, hn']; rfl

/-- POLL retires; it is progress for a token of the tensor mover (R52, R75). -/
theorem pollTok_some (hk : mapFind (h.grp.toks array) (leadReg (s.sees g h p w) w.ra.toNat) = some k) :
    (s.sees g h p w).pollTok array w.rd.toNat w.ra.toNat = (s.sees g h p w).retire
      { h.polled p w array (leadReg (s.sees g h p w) w.ra.toNat) k with wdog := if array then h.grp.wdog else s.now } := by
  have hk' : mapFind ((s.sees g h p w).grp.toks array) (leadReg (s.sees g h p w) w.ra.toNat) = some k := hk
  simp only [Iss.pollTok, hk']
  cases array
  · rfl
  · exact congrArg (s.sees g h p w).retire (setWdog_self polled_wdog).symm

/-- POLL retires with the token's status, 0xFFFF while there is none. -/
theorem pollTok_retires (hI : s.Issues g h p) (hk : mapFind (h.grp.toks array) (leadReg (s.sees g h p w) w.ra.toNat) = some k) :
    (s.sees g h p w).pollTok array w.rd.toNat w.ra.toNat = s.retired g h p
      { h.polled p w array (leadReg (s.sees g h p w) w.ra.toNat) k with wdog := if array then h.grp.wdog else s.now } := by
  obtain ⟨-, -, hp, -⟩ := issuer_spec hI
  rw [pollTok_some hk]
  exact retire_eq s g h p w (polled_run.trans hp)

end

/-- WAIT and POLL of either kind, for their active lanes. -/
theorem token_next {s : State} {g : GRef} {h : Here} {p : Path} {w : IWord} (hI : s.Issues g h p) (hon : h.active p w ≠ 0)
    (hz : tokRegs w h.grp = true) (array : Bool) :
    exec (if array then Instr.mxaWait g w else .tmWait g w) s =
      .next ((s.sees g h p w).waitTok array w.rd.toNat w.ra.toNat) ∧
    exec (if array then Instr.mxaPoll g w else .tmPoll g w) s =
      .next ((s.sees g h p w).pollTok array w.rd.toNat w.ra.toNat) := by
  cases array
  · exact ⟨issue_next (body := fun i => if i.act = 0 then i.retire i.grp else i.waitTok false w.rd.toNat w.ra.toNat) hI hz (if_neg hon),
      issue_next (body := fun i => if i.act = 0 then i.retire i.grp else i.pollTok false w.rd.toNat w.ra.toNat) hI hz (if_neg hon)⟩
  · exact ⟨issue_next (body := fun i => if i.act = 0 then i.retire i.grp else i.waitTok true w.rd.toNat w.ra.toNat) hI hz (if_neg hon),
      issue_next (body := fun i => if i.act = 0 then i.retire i.grp else i.pollTok true w.rd.toNat w.ra.toNat) hI hz (if_neg hon)⟩

/-- Settles O27, by what the token table holds under the number in RA. -/
theorem tokens : Obligations.Tokens := by
  intro s g h p w array hI hon hm hr t wait poll done
  obtain ⟨-, -, hp, -⟩ := issuer_spec hI
  obtain ⟨hwait, hpoll⟩ := token_next hI hon (w := w) (by simp only [tokRegs, modZero_of hm, hr, Bool.and_self]) array
  rw [show exec wait s = _ from hwait, show exec poll s = _ from hpoll]
  refine ⟨fun hn => ⟨congrArg _ (waitTok_none hn), congrArg _ (pollTok_none hn)⟩, fun k hk => ?_⟩
  rw [waitTok_some hk, pollTok_retires hI hk]
  refine ⟨fun hst => ?_, fun st hst => ?_⟩
  · simp only [Here.polled, hst]
    exact ⟨rfl, rfl⟩
  · simp only [Here.polled, hst]
    exact ⟨rfl, fun hrd hf => congrArg _ (endWait_faults hrd hp hf), fun hok => congrArg _ (endWait_retires hI hok)⟩

end Sys2Proof.Machine

/-! LD and ST in a local space. -/

namespace Sys2Proof.Machine

/-! Bytes of numbers, and the cells a store writes. -/

theorem leBytes_length (n v : Nat) : (leBytes n v).length = n := by
  induction n generalizing v with
  | zero => rfl
  | succ n ih => simp [leBytes, ih]

theorem getElem_leBytes (n v x : Nat) (h : x < (leBytes n v).length) : (leBytes n v)[x] = BitVec.ofNat 8 (v / 2 ^ (8 * x)) := by
  induction n generalizing v x with
  | zero => exact absurd h (by simp [leBytes])
  | succ n ih =>
    cases x with
    | zero => simp [leBytes]
    | succ x =>
      have hdiv : v / 256 / 2 ^ (8 * x) = v / 2 ^ (8 * (x + 1)) := by
        rw [Nat.div_div_eq_div_mul, Nat.mul_add, Nat.add_comm, Nat.pow_add]
      exact (ih (v / 256) x (by simpa [leBytes] using h)).trans (congrArg _ hdiv)

theorem mem_zipFrom {a : Nat} {bs : List Byte} {c : Nat × Byte} :
    c ∈ zipFrom a bs ↔ ∃ x, ∃ h : x < bs.length, c = (a + x, bs[x]) := by
  rw [List.mem_iff_getElem]
  simp [zipFrom, eq_comm]

/-- The bytes of a stored number and their addresses. -/
theorem mem_zipFrom_leBytes {p n v : Nat} {c : Nat × Byte} :
    c ∈ zipFrom p (leBytes n v) ↔ ∃ x < n, c = (p + x, BitVec.ofNat 8 (v / 2 ^ (8 * x))) := by
  simp only [mem_zipFrom, getElem_leBytes, leBytes_length, exists_prop]

/-- A byte put over what is at its address. -/
theorem mem_put {m : Map Byte} {c e : Nat × Byte} : e ∈ mapInsert (mapErase m c.1) c.1 c.2 ↔ e = c ∨ (e ∈ m ∧ e.1 ≠ c.1) := by
  rw [mem_mapInsert, mapErase_eq_filter]; simp

theorem mem_of_mem_puts {cs : List (Nat × Byte)} {m : Map Byte} {e : Nat × Byte}
    (h : e ∈ cs.foldl (fun (m : Map Byte) c => mapInsert (mapErase m c.1) c.1 c.2) m) : e ∈ m ∨ e ∈ cs := by
  induction cs generalizing m with
  | nil => exact .inl h
  | cons c cs ih =>
    rcases ih h with h | h
    · rcases mem_put.mp h with rfl | ⟨h, -⟩
      · exact .inr (by simp)
      · exact .inl h
    · exact .inr (by simp [h])

theorem puts_covers {cs : List (Nat × Byte)} {m : Map Byte} {a : Nat} (h : (∃ b, (a, b) ∈ m) ∨ ∃ b, (a, b) ∈ cs) :
    ∃ b, (a, b) ∈ cs.foldl (fun (m : Map Byte) c => mapInsert (mapErase m c.1) c.1 c.2) m := by
  induction cs generalizing m with
  | nil => simpa using h
  | cons c cs ih =>
    refine ih ?_
    by_cases hc : a = c.1
    · exact .inl ⟨c.2, mem_put.mpr (.inl (by rw [hc]))⟩
    · rcases h with ⟨b, hb⟩ | ⟨b, hb⟩
      · exact .inl ⟨b, mem_put.mpr (.inr ⟨hb, hc⟩)⟩
      · rcases List.mem_cons.mp hb with rfl | hb
        · exact absurd rfl hc
        · exact .inr ⟨b, hb⟩

theorem storeCells_eq (parts : List (Nat × List Byte)) : storeCells parts =
    (parts.flatMap (fun p => zipFrom p.1 p.2)).foldl (fun (m : Map Byte) c => mapInsert (mapErase m c.1) c.1 c.2) [] := by
  rw [List.foldl_flatMap]; rfl

/-- Each cell of a store is a byte of one of its parts. -/
theorem mem_of_mem_storeCells {parts : List (Nat × List Byte)} {c : Nat × Byte} (h : c ∈ storeCells parts) :
    ∃ p ∈ parts, c ∈ zipFrom p.1 p.2 := by
  rw [storeCells_eq] at h
  exact List.mem_flatMap.mp ((mem_of_mem_puts h).resolve_left List.not_mem_nil)

/-- Each address a part covers has a cell. -/
theorem storeCells_covers {parts : List (Nat × List Byte)} {p : Nat × List Byte} {a : Nat} {b : Byte} (hp : p ∈ parts)
    (h : (a, b) ∈ zipFrom p.1 p.2) : ∃ b, (a, b) ∈ storeCells parts := by
  rw [storeCells_eq]
  exact puts_covers (.inr ⟨b, List.mem_flatMap.mpr ⟨p, hp, h⟩⟩)

/-- Each cell of a store of n bytes a lane is a byte of a lane. -/
theorem mem_laneCells {order : List Nat} {addr val : Nat → Nat} {n : Nat} {c : Nat × Byte}
    (h : c ∈ storeCells (order.map (fun l => (addr l, leBytes n (val l))))) :
    ∃ l ∈ order, ∃ x < n, c = (addr l + x, BitVec.ofNat 8 (val l / 2 ^ (8 * x))) := by
  obtain ⟨p, hp, hc⟩ := mem_of_mem_storeCells h
  obtain ⟨l, hl, rfl⟩ := List.mem_map.mp hp
  exact ⟨l, hl, mem_zipFrom_leBytes.mp hc⟩

/-- Each byte that a lane stores to has a cell. -/
theorem laneCells_covers {order : List Nat} {addr val : Nat → Nat} {n l x : Nat} (hl : l ∈ order) (hx : x < n) :
    ∃ b, (addr l + x, b) ∈ storeCells (order.map (fun l => (addr l, leBytes n (val l)))) :=
  storeCells_covers (List.mem_map.mpr ⟨l, hl, rfl⟩) (mem_zipFrom_leBytes.mpr ⟨x, hx, rfl⟩)

theorem mapGet_cellsPut_other {cs : List (Nat × Byte)} {m : List Host.Cell} {a : Nat} (h : ∀ c ∈ cs, c.1 ≠ a) :
    mapGet (0 : Byte) (cellsPut m cs) a = mapGet (0 : Byte) m a := by
  induction cs generalizing m with
  | nil => rfl
  | cons c cs ih =>
    exact (ih fun d hd => h d (by simp [hd])).trans (mapGet_set_other _ _ _ _ _ (Ne.symm (h c (by simp))))

/-- A byte that is written reads as one of the values written to it. -/
theorem mapGet_cellsPut_mem {cs : List (Nat × Byte)} {m : List Host.Cell} {a : Nat} (h : ∃ c ∈ cs, c.1 = a) :
    (a, mapGet (0 : Byte) (cellsPut m cs) a) ∈ cs := by
  induction cs generalizing m with
  | nil => obtain ⟨c, hc, -⟩ := h; exact absurd hc List.not_mem_nil
  | cons c cs ih =>
    by_cases hr : ∃ d ∈ cs, d.1 = a
    · exact List.mem_cons_of_mem _ (ih hr)
    · have hca : c.1 = a := by
        obtain ⟨d, hd, hda⟩ := h
        rcases List.mem_cons.mp hd with rfl | hd
        · exact hda
        · exact absurd ⟨d, hd, hda⟩ hr
      subst hca
      have hrest : mapGet (0 : Byte) (cellsPut m (c :: cs)) c.1 = mapGet (0 : Byte) (mapSet 0 m c.1 c.2) c.1 :=
        mapGet_cellsPut_other fun d hd e => hr ⟨d, hd, e⟩
      rw [hrest, mapGet_set_self]
      exact List.mem_cons_self

/-- A local store after a store of n bytes a lane: a byte that no lane stores to is as before, another is that of a lane that does. -/
theorem mapGet_laneCells {order : List Nat} {addr val : Nat → Nat} {n base : Nat} {ls : List Host.Cell} (a : Nat) :
    let put := cellsPut ls ((storeCells (order.map (fun l => (addr l, leBytes n (val l))))).map (fun c => (base + c.1, c.2)))
    ((∀ l ∈ order, ¬ (base + addr l ≤ a ∧ a < base + addr l + n)) → mapGet (0 : Byte) put a = mapGet (0 : Byte) ls a) ∧
    ((∃ l ∈ order, base + addr l ≤ a ∧ a < base + addr l + n) →
      ∃ l ∈ order, base + addr l ≤ a ∧ a < base + addr l + n ∧ (mapGet (0 : Byte) put a).toNat = bits (val l) (8 * (a - (base + addr l))) 8) := by
  intro put
  refine ⟨fun hno => mapGet_cellsPut_other fun c hc he => ?_, fun ⟨l, hl, hlo, hhi⟩ => ?_⟩
  · obtain ⟨d, hd, rfl⟩ := List.mem_map.mp hc
    obtain ⟨l, hl, x, hx, rfl⟩ := mem_laneCells hd
    exact hno l hl (by simp only at he; omega)
  · obtain ⟨b, hb⟩ := laneCells_covers (addr := addr) (val := val) hl (show a - (base + addr l) < n by omega)
    have hcov := mapGet_cellsPut_mem (m := ls) (a := a) ⟨_, List.mem_map_of_mem (f := fun c : Nat × Byte => (base + c.1, c.2)) hb,
      by simp only; omega⟩
    obtain ⟨d, hd, hda⟩ := List.mem_map.mp hcov
    obtain ⟨l', hl', x, hx, rfl⟩ := mem_laneCells hd
    obtain ⟨ha, hv⟩ := Prod.mk.injEq _ _ _ _ ▸ hda
    refine ⟨l', hl', by omega, by omega, ?_⟩
    rw [← hv, show a - (base + addr l') = x by omega, BitVec.toNat_ofNat, bits, Nat.shiftRight_eq_div_pow]

/-! The instructions. -/

/-- A change of a core's image is what it makes of the image. -/
theorem updImg_congr {s : State} {c n : Nat} {f f' : Image → Image} (h : f (s.img c n) = f' (s.img c n)) :
    s.updImg c n f = s.updImg c n f' := congrArg (s.setImg c n) h

theorem img_updImg (s : State) (c n : Nat) (f : Image → Image) : (s.updImg c n f).img c n = f (s.img c n) := mapGet_set_self _ _ _ _

/-- The image that an issuing group sees is that of its core. -/
theorem img_of_issues {s : State} {g : GRef} {h : Here} {p : Path} (hI : s.Issues g h p) : s.img h.ctx g.core.val = h.img := by
  obtain ⟨-, hat, -⟩ := issuer_spec hI
  unfold State.groupAt at hat
  split at hat
  · cases hat
  · obtain ⟨_, -, rfl⟩ := Option.map_eq_some_iff.mp hat; rfl

theorem img_issued {s : State} {g : GRef} {h : Here} {p : Path} (hI : s.Issues g h p) :
    (s.issued g h).img h.ctx g.core.val = { h.img with last := g.slot.val } := by
  rw [State.issued, img_updImg, img_of_issues hI]

theorem sizeRegs_eq {z : Nat} (h : z ≤ 4) : sizeRegs z = if 2 ^ z ≤ 4 then 1 else 2 ^ z / 4 := by
  interval_cases z <;> rfl

/-- An access of a local space with every lane in place passes its checks (R33, R490). -/
theorem localCheck_fine {rng : Nat × Nat} {n : Nat} {offs : List Nat} (h : ∀ o ∈ offs, o % n = 0 ∧ o + n ≤ rng.2) :
    localCheck rng n offs = 0 := by
  have h1 : ¬ offs.any (fun o => decide (o % n ≠ 0)) = true := by simpa using fun o ho => (h o ho).1
  have h2 : ¬ offs.any (fun o => decide (o + n > rng.2)) = true := by simpa using fun o ho => (h o ho).2
  exact (if_neg h1).trans (if_neg h2)

theorem lanesOf_zero : lanesOf 0 = [] := lanesOf_eq_nil.mpr rfl

/-- The order in which lanes store is one of the active lanes (log 6). -/
theorem mem_storeLanes {m : Lanes} {n l : Nat} : l ∈ storeLanes m n ↔ l ∈ lanesOf m := by
  simp only [storeLanes, List.mem_append, List.mem_filter, decide_eq_true_eq, ← and_or_left]
  exact and_iff_left (le_or_gt n l)

theorem checked_none {i : Iss} {w : IWord} {body : Iss → State} (h : i.act = 0) : i.checked w {} body = i.retire i.grp := if_pos h
/-- An access whose words are all good does what its instruction says (R450). -/
theorem checked_good {i : Iss} {w : IWord} {body : Iss → State} (h : i.act ≠ 0) : i.checked w {} body = body i := if_neg h

theorem raUse_local {w : IWord} {sp : Space} (h : sp ≠ .virt) : raUse w sp = raUse1 w := by simp [raUse, raUse1, h]

section
variable {s : State} {g : GRef} {h : Here} {p : Path} {w : IWord} {sp : Space}

/-- LD from a local space, every lane in place (R33, R490). -/
theorem load_local (hs : spaceOf (bits (modNat w) 5 3) = some sp) (hv : sp ≠ .virt)
    (hc : localCheck (spaceRange h.img g.slot.val sp) (2 ^ bits (modNat w) 2 3) ((lanesOf (h.active p w)).map (laddr w h.grp)) = 0) :
    (s.sees g h p w).load w = (s.sees g h p w).retire (h.seen.setRuns w.rd.toNat (sizeRegs (bits (modNat w) 2 3)) (h.active p w)
      (fun l => leNat (cellsRead h.img.ls ((spaceRange h.img g.slot.val sp).1 + laddr w h.grp l) (2 ^ bits (modNat w) 2 3)))) := by
  have hmap : ((lanesOf (h.active p w)).map (fun l => (l, laddr w h.seen l))).map Prod.snd =
      (lanesOf (h.active p w)).map (laddr w h.grp) := by rw [List.map_map]; rfl
  rw [← hmap] at hc
  unfold Iss.load
  rw [hs]
  cases sp with
  | virt => exact absurd rfl hv
  | group | core =>
    refine (if_neg (not_not_intro hc)).trans (congrArg _ ?_)
    rw [List.foldl_map]
    rfl

/-- ST to a local space, every lane in place: its cells go into the local store (R33, R490). -/
theorem store_local (hs : spaceOf (bits (modNat w) 5 3) = some sp) (hv : sp ≠ .virt)
    (hc : localCheck (spaceRange h.img g.slot.val sp) (2 ^ bits (modNat w) 2 3) ((lanesOf (h.active p w)).map (laddr w h.grp)) = 0) :
    ∃ first, ∃ t : State, (t = s.issued g h ∨ t = (s.issued g h).drawn) ∧
      (s.sees g h p w).store w = ({ s.sees g h p w with s := t.updImg h.ctx g.core.val (fun m => { m with
        ls := cellsPut m.ls ((storeCells ((storeLanes (h.active p w) first).map (fun l => (laddr w h.grp l,
          leBytes (2 ^ bits (modNat w) 2 3) (h.grp.run64 w.rb.toNat (sizeRegs (bits (modNat w) 2 3)) l))))).map
            (fun c => ((spaceRange h.img g.slot.val sp).1 + c.1, c.2))) }) } : Iss).retireP h.seen := by
  have hadr : lsAddr w h.seen = laddr w h.grp := by
    funext l; exact if_neg (by rw [hs]; exact fun e => hv (Option.some.inj e))
  refine ⟨if overlaps (2 ^ bits (modNat w) 2 3) ((lanesOf (h.active p w)).map (laddr w h.grp)) then (s.issued g h).freeVal 32 else 0,
    if overlaps (2 ^ bits (modNat w) 2 3) ((lanesOf (h.active p w)).map (laddr w h.grp)) then (s.issued g h).drawn else s.issued g h,
    (ite_eq_or_eq _ _ _).symm, ?_⟩
  unfold Iss.store
  simp only [hs, State.sees_act, State.sees_grp, State.sees_s, hadr, sizeBytes]
  by_cases hclash : overlaps (2 ^ bits (modNat w) 2 3) ((lanesOf (h.active p w)).map (laddr w h.grp)) = true
  · simp only [if_pos hclash]
    cases sp with
    | virt => exact absurd rfl hv
    | group | core => exact if_neg (not_not_intro hc)
  · simp only [if_neg hclash]
    cases sp with
    | virt => exact absurd rfl hv
    | group | core => exact if_neg (not_not_intro hc)

end

/-- Settles O19: the access passes its checks, then LD writes its runs and ST its cells. -/
theorem localLoadStore : Obligations.LocalLoadStore := by
  refine ⟨fun s g h p w sp hI hsz hcm hs hv => ?_, fun s g h p w sp hI hon hsz hcm hs hv => ?_⟩
  · intro n k hr base limit hin
    have hk : k = sizeRegs (bits (modNat w) 2 3) := (sizeRegs_eq hsz).symm
    have hc := localCheck_fine (rng := spaceRange h.img g.slot.val sp) (n := n) (offs := (lanesOf (h.active p w)).map (laddr w h.grp))
      (by simpa using hin)
    have hl : ldLegal w h.seen = true := by
      simp only [ldLegal, hsz, hcm, hs, Option.isSome_some, Option.getD_some, raUse_local hv, ← hk, regsOk_seen, hr, decide_true, Bool.and_self]
    rw [exec_ld, execLd, hk]
    refine issue_retires hI _ hl (setRuns_run _ _ _ _ _) ?_
    by_cases hon : h.active p w = 0
    · simp only [Here.seen, hon, Group.setRuns, lanesOf_zero, List.foldl_nil]
      exact checked_none hon
    · exact (checked_good hon).trans (load_local hs hv hc)
  · intro n k hr base limit hin
    have hk : k = sizeRegs (bits (modNat w) 2 3) := (sizeRegs_eq hsz).symm
    have hc := localCheck_fine (rng := spaceRange h.img g.slot.val sp) (n := n) (offs := (lanesOf (h.active p w)).map (laddr w h.grp))
      (by simpa using hin)
    have hl : stLegal w h.seen = true := by
      simp only [stLegal, hsz, hcm, hs, Option.isSome_some, Option.getD_some, raUse_local hv, ← hk, regsOk_seen, hr, decide_true, Bool.and_self]
    obtain ⟨first, t, ht, hstore⟩ := store_local (s := s) hs hv hc
    rw [← hk] at hstore
    have hls : (t.img h.ctx g.core.val).ls = h.img.ls := by
      have himg := congrArg Image.ls (img_issued hI)
      rcases ht with rfl | rfl <;> exact himg
    have hnow : t.now = s.now := by rcases ht with rfl | rfl <;> rfl
    have hp : h.grp.run = some p := (issuer_spec hI).2.2.1
    have hbytes := mapGet_laneCells (order := storeLanes (h.active p w) first) (addr := laddr w h.grp)
      (val := h.grp.run64 w.rb.toNat k) (n := n) (base := base) (ls := h.img.ls)
    simp only [mem_storeLanes] at hbytes
    refine ⟨_, t, ht, ?_, hbytes⟩
    rw [exec_st, execSt]
    refine issue_next hI hl ((checked_good hon).trans (hstore.trans ?_))
    rw [updImg_congr (f' := fun m => { m with ls := cellsPut h.img.ls _ })
      (congrArg (fun ls => ({ t.img h.ctx g.core.val with ls := cellsPut ls _ } : Image)) hls), ← hnow]
    exact retire_eq_at s _ g h p w (gr := { h.seen with wdog := t.now }) hp

end Sys2Proof.Machine

/-! ATOM and RED on a local space. -/

namespace Sys2Proof.Machine

/-! Operands combined in pairs and one by one. -/

/-- A level of the pairwise tree keeps what an associative operation makes of a list. -/
theorem foldl_pairUp {α β : Type} {f : α → α → α} {g : β → α → β} (hg : ∀ o a b, g (g o a) b = g o (f a b)) (l : List α) (o : β) :
    (pairUp f l).foldl g o = l.foldl g o := by
  induction l using pairUp.induct generalizing o with
  | case1 a b r ih => simp only [pairUp, List.foldl_cons, ih, hg]
  | case2 l h =>
    match l, h with
    | [], _ => rfl
    | [_], _ => rfl
    | a :: b :: r, h => exact absurd rfl (h a b r)

theorem length_pairUp {α : Type} (f : α → α → α) (l : List α) : (pairUp f l).length = (l.length + 1) / 2 := by
  induction l using pairUp.induct with
  | case1 a b r ih => simp only [pairUp, List.length_cons, ih]; omega
  | case2 l h =>
    match l, h with
    | [], _ => simp [pairUp]
    | [_], _ => simp [pairUp]
    | a :: b :: r, h => exact absurd rfl (h a b r)

theorem foldl_treeFuel {α β : Type} {f : α → α → α} {g : β → α → β} (hg : ∀ o a b, g (g o a) b = g o (f a b)) (n : Nat) (l : List α)
    (o : β) : (treeFuel f n l).foldl g o = l.foldl g o := by
  induction n generalizing l with
  | zero => rfl
  | succ n ih => rw [treeFuel, ih, foldl_pairUp hg]

/-- n levels leave one element of at most 2^n. -/
theorem length_treeFuel {α : Type} (f : α → α → α) (n : Nat) (l : List α) (hl : l ≠ []) (hn : l.length ≤ 2 ^ n) :
    (treeFuel f n l).length = 1 := by
  have hpos := List.length_pos_iff.mpr hl
  induction n generalizing l with
  | zero => rw [treeFuel]; omega
  | succ n ih =>
    have hlen := length_pairUp f l
    rw [Nat.pow_succ] at hn
    exact ih _ (List.ne_nil_of_length_pos (by omega)) (by omega) (by omega)

/-- The pairwise tree of an associative operation gives what the operands one by one do. -/
theorem foldl_treeList {α β : Type} {f : α → α → α} {g : β → α → β} (hg : ∀ o a b, g (g o a) b = g o (f a b)) {l : List α} (hl : l ≠ [])
    (o : β) (d : α) : g o ((treeList f l).getD d) = l.foldl g o := by
  obtain ⟨r, hr⟩ := List.length_eq_one_iff.mp (length_treeFuel f (l.length.log2 + 1) l hl Nat.lt_log2_self.le)
  rw [← foldl_treeFuel hg (l.length.log2 + 1) l o, treeList, hr]
  rfl

/-- What the integer comparison of MIN and MAX orders by. -/
def atomKey (typ v : Nat) : Int := if typ = 0 ∨ typ = 2 then signedOf (8 * typBytes typ) v else v

theorem atomStep_min {typ : Nat} (ht : typ ≠ 4) (o v : Nat) : atomStep .min typ o v = if atomKey typ o < atomKey typ v then o else v := by
  unfold atomStep atomKey
  by_cases hs : typ = 0 ∨ typ = 2 <;> simp [ht, hs]

theorem atomStep_max {typ : Nat} (ht : typ ≠ 4) (o v : Nat) : atomStep .max typ o v = if atomKey typ o < atomKey typ v then v else o := by
  unfold atomStep atomKey
  by_cases hs : typ = 0 ∨ typ = 2 <;> simp [ht, hs]

/-- The integer operations of Table 02.4 are associative. -/
theorem atomStep_assoc (op : Aop) {typ : Nat} (ht : typ ≠ 4) (o a b : Nat) :
    atomStep op typ (atomStep op typ o a) b = atomStep op typ o (atomStep op typ a b) := by
  cases op with
  | add => simp [atomStep, ht, Nat.add_assoc]
  | min => simp only [atomStep_min ht]; split_ifs <;> omega
  | max => simp only [atomStep_max ht]; split_ifs <;> omega
  | and => simp [atomStep, ht, Nat.and_assoc]
  | or => simp [atomStep, ht, Nat.or_assoc]
  | xor => simp [atomStep, ht, Nat.xor_assoc]
  | swap | cas => simp [atomStep, ht]

/-- A combining set applied once leaves what its lanes one by one do (R41). -/
theorem atomStep_combineSet (op : Aop) {typ : Nat} (ht : typ ≠ 4) (old : Nat) {vs : List Nat} (hvs : vs ≠ []) (hop : op ≠ .cas) :
    atomStep op typ old (combineSet op typ vs) = vs.foldl (atomStep op typ) old := by
  have htree := foldl_treeList (atomStep_assoc op ht) hvs old 0
  cases op with
  | cas => exact absurd rfl hop
  | swap =>
    have hstep : atomStep .swap typ = fun _ v => v := by funext o v; simp [atomStep, ht]
    rw [hstep, combineSet, ← List.dropLast_concat_getLast hvs, List.foldl_append, List.getLastD_concat]
    rfl
  | add | min | max | and | or | xor => exact htree

theorem getElem?_atomReturns (op : Aop) (typ old : Nat) (vs : List (Nat × Nat)) (k : Nat) (hk : k < vs.length) :
    (atomReturns op typ old vs)[k]? = (vs[k]?).map (fun e => (e.1, ((vs.take k).map Prod.snd).foldl (atomStep op typ) old)) := by
  induction vs generalizing old k with
  | nil => exact absurd hk (Nat.not_lt_zero k)
  | cons v vs ih =>
    cases k with
    | zero => rfl
    | succ k => exact ih _ k (Nat.lt_of_succ_lt_succ hk)


/-! The combining sets. -/

/-- Every set is of an address of some lane. -/
theorem mem_combiningSets {as : List (Nat × Nat)} {x : Nat × List Nat} (hx : x ∈ combiningSets as) : ∃ e ∈ as, e.2 = x.1 := by
  induction as using List.reverseRecOn generalizing x with
  | nil => exact absurd hx List.not_mem_nil
  | append_singleton as e ih =>
    rw [combiningSets, List.foldl_append] at hx
    have hold : ∀ y ∈ combiningSets as, ∃ d ∈ as ++ [e], d.2 = y.1 := fun y hy => by
      obtain ⟨d, hd, hdy⟩ := ih hy
      exact ⟨d, List.mem_append_left _ hd, hdy⟩
    simp only [List.foldl_cons, List.foldl_nil] at hx
    split at hx
    · obtain ⟨y, hy, rfl⟩ := List.mem_map.mp hx
      obtain ⟨d, hd, hdy⟩ := hold y hy
      exact ⟨d, hd, by split <;> exact hdy⟩
    · rcases List.mem_append.mp hx with hx | hx
      · exact hold x hx
      · exact ⟨e, by simp, by rw [List.mem_singleton.mp hx]⟩

/-! The instructions. -/

/-- One atomic on a set of lanes of a local store: the word and, where asked, what the lanes get back (R39 to R41). -/
def atomOnSet (op : Aop) (typ base rd : Nat) (fetch : Bool) (val swap : Nat → Nat) (a : List Host.Cell × Group) (e : Nat × List Nat) :
    List Host.Cell × Group :=
  let old := leNat (cellsRead a.1 (base + e.1) (typBytes typ))
  let vs := e.2.map val
  (cellsWrite a.1 (base + e.1) (leBytes (typBytes typ)
      (if op = .cas then (if old = val (e.2.headD 0) then swap (e.2.headD 0) else old) else atomStep op typ old (combineSet op typ vs))),
   if fetch then (atomReturns op typ old (List.zip e.2 vs)).foldl (fun g x => g.setRun rd (typBytes typ / 4) x.1 x.2) a.2 else a.2)

/-- The sets of an atomic: CAS goes lane by lane (R39). -/
def atomSets (op : Aop) (as : List (Nat × Nat)) : List (Nat × List Nat) :=
  if op = .cas then as.map (fun e => (e.2, [e.1])) else combiningSets as

theorem mem_atomSets {op : Aop} {as : List (Nat × Nat)} {x : Nat × List Nat} (hx : x ∈ atomSets op as) : ∃ e ∈ as, e.2 = x.1 := by
  unfold atomSets at hx
  split at hx
  · obtain ⟨e, he, rfl⟩ := List.mem_map.mp hx; exact ⟨e, he, rfl⟩
  · exact mem_combiningSets hx

section
variable {s : State} {g : GRef} {h : Here} {p : Path} {w : IWord} {sp : Space} {op : Aop} {typ : Nat} {fetch : Bool}

/-- A CAS has one lane in each set, so one combined operand is that lane's. -/
theorem combineSet_cas {as : List (Nat × Nat)} {x : Nat × List Nat} (hx : x ∈ atomSets .cas as) (typ : Nat) (val : Nat → Nat) :
    combineSet .cas typ (x.2.map val) = val (x.2.headD 0) := by
  obtain ⟨e, -, rfl⟩ := List.mem_map.mp (show x ∈ as.map (fun e => (e.2, [e.1])) from hx)
  rfl

/-- The model's step over a set is that of `atomOnSet`. -/
theorem lsAtom_set {as : List (Nat × Nat)} {x : Nat × List Nat} (hx : x ∈ atomSets op as) (ls : List Host.Cell) (a : Nat)
    (val swap : Nat → Nat) : (lsAtom ls a op typ (combineSet op typ (x.2.map val)) (swap (x.2.headD 0))).1 =
      cellsWrite ls a (leBytes (typBytes typ) (if op = .cas then
        (if leNat (cellsRead ls a (typBytes typ)) = val (x.2.headD 0) then swap (x.2.headD 0) else leNat (cellsRead ls a (typBytes typ)))
        else atomStep op typ (leNat (cellsRead ls a (typBytes typ))) (combineSet op typ (x.2.map val)))) := by
  by_cases hop : op = .cas
  · subst hop
    simp only [lsAtom, atomNew, if_true, combineSet_cas hx]
  · simp only [lsAtom, atomNew, hop, if_false]

/-- An atomic on a local space, every lane in place (R38 to R41, R195). -/
theorem atomLocal_fine (hc : localCheck (spaceRange h.img g.slot.val sp) (typBytes typ) ((h.addrs p w (laddr w h.grp)).map Prod.snd) = 0) :
    (s.sees g h p w).atomLocal w sp op typ fetch =
      let res := (atomSets op (h.addrs p w (laddr w h.grp))).foldl (atomOnSet op typ (spaceRange h.img g.slot.val sp).1 w.rd.toNat fetch
        (h.grp.run64 w.rb.toNat (typBytes typ / 4)) (h.grp.run64 w.rc.toNat (typBytes typ / 4))) (h.img.ls, h.seen)
      ({ s.sees g h p w with s := (s.issued g h).updImg h.ctx g.core.val (fun m => { m with ls := res.1 }) } : Iss).retireP res.2 := by
  refine (if_neg (not_not_intro hc)).trans ?_
  refine congrArg (fun r : List Host.Cell × Group => ({ s.sees g h p w with
    s := (s.issued g h).updImg h.ctx g.core.val (fun m => { m with ls := r.1 }) } : Iss).retireP r.2) (List.foldl_ext _ _ _ fun a x hx => ?_)
  exact Prod.ext (lsAtom_set hx _ _ (h.grp.run64 w.rb.toNat (typBytes typ / 4)) (h.grp.run64 w.rc.toNat (typBytes typ / 4))) rfl

/-- An atomic on a local store changes no byte outside its words. -/
theorem foldl_atomOnSet_other {base rd : Nat} {val swap : Nat → Nat} {x : Nat} (sets : List (Nat × List Nat)) (a : List Host.Cell × Group)
    (hx : ∀ e ∈ sets, ¬ (base + e.1 ≤ x ∧ x < base + e.1 + typBytes typ)) :
    mapGet (0 : Byte) (sets.foldl (atomOnSet op typ base rd fetch val swap) a).1 x = mapGet (0 : Byte) a.1 x := by
  induction sets generalizing a with
  | nil => rfl
  | cons e sets ih =>
    have he := hx e (by simp)
    rw [List.foldl_cons, ih _ fun d hd => hx d (by simp [hd])]
    exact cellsWrite_other _ _ _ _ (by rw [leBytes_length]; omega)

theorem foldl_atomOnSet_run {base rd : Nat} {val swap : Nat → Nat} (sets : List (Nat × List Nat)) (a : List Host.Cell × Group) :
    (sets.foldl (atomOnSet op typ base rd fetch val swap) a).2.run = a.2.run := by
  induction sets generalizing a with
  | nil => rfl
  | cons e sets ih =>
    rw [List.foldl_cons, ih]
    unfold atomOnSet
    cases fetch
    · rfl
    · exact foldl_part Group.run _ (fun _ _ => setRun_run _ _ _ _ _) _ _

/-- ATOM and RED with an active lane: what they do is told by their space (R38). -/
theorem atomic_next (hI : s.Issues g h p) (hon : h.active p w ≠ 0) (hok : atomOk (bits (modNat w) 5 3) (bits (modNat w) 2 3) fetch = true)
    (hs : spaceOf (bits (modNat w) 0 2) = some sp) (hr : regsOk (raUse w sp :: (w.rb.toNat, typBytes (bits (modNat w) 2 3) / 4) ::
      ((if fetch then [(w.rd.toNat, typBytes (bits (modNat w) 2 3) / 4)] else []) ++
        (if bits (modNat w) 5 3 = 7 then [(w.rc.toNat, typBytes (bits (modNat w) 2 3) / 4)] else []))) h.grp = true) :
    exec (if fetch then .atom g w else .red g w) s = .next (
      if sp = .virt then (s.sees g h p w).atomVirtual w (aopOf (bits (modNat w) 5 3)) (bits (modNat w) 2 3) fetch
      else (s.sees g h p w).atomLocal w sp (aopOf (bits (modNat w) 5 3)) (bits (modNat w) 2 3) fetch) := by
  have hexec : exec (if fetch then .atom g w else .red g w) s = atomic fetch g w s := by cases fetch <;> rfl
  rw [hexec]
  unfold atomic
  refine issue_next hI ?_ ((if_neg hon).trans ?_)
  · simp only [hok, hs, Option.isSome_some, Option.getD_some, Bool.true_and]
    exact hr
  · rw [hs]; cases sp <;> rfl

end

/-- Settles O22: the operations are associative, so a set combined in pairs acts as its lanes one by one. -/
theorem atomicsCombine : Obligations.AtomicsCombine := by
  refine ⟨fun op typ old vs hop ht hvs _ _ => atomStep_combineSet op (by omega) old hvs hop,
    fun op typ old vs k hk => getElem?_atomReturns op typ old vs k hk, fun s g h p w sp fetch hI hon => ?_⟩
  intro op typ k hok hs hv hr base limit as hin val sets res
  have hc : localCheck (spaceRange h.img g.slot.val sp) (typBytes typ) (as.map Prod.snd) = 0 :=
    localCheck_fine (by simpa using fun a l hl => hin (l, a) hl)
  have hp : h.grp.run = some p := (issuer_spec hI).2.2.1
  rw [← raUse_local hv] at hr
  refine ⟨?_, fun a ha => foldl_atomOnSet_other _ _ fun x hx => ?_⟩
  · rw [atomic_next hI hon hok hs hr]
    have hrun : res.2.run = some p := (foldl_atomOnSet_run sets (h.img.ls, h.seen)).trans hp
    refine congrArg _ ((if_neg hv).trans ((atomLocal_fine (s := s) (op := op) (fetch := fetch) hc).trans ?_))
    exact retire_eq_at s ((s.issued g h).updImg h.ctx g.core.val (fun m => { m with ls := res.1 })) g h p w
      (gr := { res.2 with wdog := s.now }) hrun
  · obtain ⟨e, he, hex⟩ := mem_atomSets hx
    exact hex ▸ ha e he

end Sys2Proof.Machine

/-! Requests of one instruction, and atomics in virtual space. -/

namespace Sys2Proof.Machine

/-! Translations and requests. -/

/-- One address of a list that is translated (`xlateAll_eq`). -/
def State.xlateStep (s : State) (ctx : Nat) (need : Need) (acc : Status × List (Nat × Dest)) (va : Nat) : Status × List (Nat × Dest) :=
  if acc.1 ≠ 0 then acc
  else if (s.xlate ctx va need).1 ≠ 0 then ((s.xlate ctx va need).1, []) else (0, acc.2 ++ [(va, (s.xlate ctx va need).2)])

theorem xlateAll_eq (s : State) (ctx : Nat) (need : Need) (vas : List Nat) :
    s.xlateAll ctx need vas = vas.foldl (s.xlateStep ctx need) (0, []) := rfl

theorem foldl_xlateStep_failed {s : State} {ctx : Nat} {need : Need} {acc : Status × List (Nat × Dest)} (h : acc.1 ≠ 0) (vas : List Nat) :
    vas.foldl (s.xlateStep ctx need) acc = acc :=
  foldl_keeps (P := fun a => a = acc) _ _ _ rfl (fun _ _ ha => by rw [ha, State.xlateStep, if_pos h])

theorem foldl_xlateStep_fst {s : State} {ctx : Nat} {need : Need} {vas : List Nat} {acc ds : List (Nat × Dest)}
    (h : vas.foldl (s.xlateStep ctx need) (0, acc) = (0, ds)) : ds.map Prod.fst = acc.map Prod.fst ++ vas := by
  induction vas generalizing acc with
  | nil => simp [show acc = ds from congrArg Prod.snd h]
  | cons va vas ih =>
    by_cases hst : (s.xlate ctx va need).1 = 0
    · have hstep : s.xlateStep ctx need (0, acc) va = (0, acc ++ [(va, (s.xlate ctx va need).2)]) := by simp [State.xlateStep, hst]
      rw [List.foldl_cons, hstep] at h
      rw [ih h]; simp
    · have hstep : s.xlateStep ctx need (0, acc) va = ((s.xlate ctx va need).1, []) :=
        (if_neg (not_not_intro rfl)).trans (if_pos hst)
      rw [List.foldl_cons, hstep, foldl_xlateStep_failed hst] at h
      exact absurd (congrArg Prod.fst h) hst

/-- Addresses that all translate come back in order, each with its destination. -/
theorem xlateAll_fst {s : State} {ctx : Nat} {need : Need} {vas : List Nat} {ds : List (Nat × Dest)}
    (h : s.xlateAll ctx need vas = (0, ds)) : ds.map Prod.fst = vas := foldl_xlateStep_fst h

theorem asks_nil (i : Iss) (s : State) (plain thread alloc held : Bool) : i.asks s [] plain thread alloc held = (s, []) := rfl

theorem asks_concat (i : Iss) (s : State) (l : List (MemOp × Dest × Nat)) (e : MemOp × Dest × Nat) (plain thread alloc held : Bool) :
    i.asks s (l ++ [e]) plain thread alloc held =
      let q := i.asks s l plain thread alloc held
      let r := i.newReq q.1 e.1 e.2.1 e.2.2 plain thread alloc held
      (r.1, q.2 ++ [r.2]) := by
  unfold Iss.asks; rw [List.foldl_append]; rfl

theorem length_asks (i : Iss) (s : State) (l : List (MemOp × Dest × Nat)) (plain thread alloc held : Bool) :
    (i.asks s l plain thread alloc held).2.length = l.length := by
  induction l using List.reverseRecOn with
  | nil => rfl
  | append_singleton l e ih => simp [asks_concat, ih]

/-- Requests made one after the other, each with something kept beside its number. -/
theorem foldl_newReq_keep {α β : Type} (i : Iss) (s : State) (l : List α) (ask : α → MemOp × Dest × Nat) (keep : α → β)
    (plain thread alloc held : Bool) :
    l.foldl (fun (a : State × List (Nat × β)) e =>
      let r := i.newReq a.1 (ask e).1 (ask e).2.1 (ask e).2.2 plain thread alloc held
      (r.1, a.2 ++ [(r.2, keep e)])) (s, []) =
    let q := i.asks s (l.map ask) plain thread alloc held
    (q.1, (List.zip q.2 l).map (fun e => (e.1, keep e.2))) := by
  induction l using List.reverseRecOn with
  | nil => rfl
  | append_singleton l e ih =>
    have hlen : (i.asks s (l.map ask) plain thread alloc held).2.length = l.length := by rw [length_asks, List.length_map]
    rw [List.foldl_append, ih, List.map_append, List.map_singleton, asks_concat]
    simp [List.zip_append hlen]

/-! Data breakpoints. -/

/-- What an instruction sees once its accesses are held against the data breakpoints: only hits and a request to halt are new (R59). -/
def Iss.watched (i : Iss) (hits : Map (Nat × Lanes)) (halt : Halt) : Iss :=
  { i with s := { i.s with dbg := { i.s.dbg with hits := hits } }, grp := { i.grp with halt := halt } }

theorem watch_eq (i : Iss) (kind : Nat) (as : List (Nat × Nat × Nat)) : ∃ hits halt, i.watch kind as = i.watched hits halt := by
  refine foldl_keeps (P := fun j => ∃ hits halt, j = i.watched hits halt) _ _ i ⟨i.s.dbg.hits, i.grp.halt, rfl⟩ ?_
  rintro _ n ⟨hits, halt, rfl⟩
  simp only
  split
  · exact ⟨hits, halt, rfl⟩
  · exact ⟨_, _, rfl⟩

/-! Atomics. -/

/-- A set that is there already keeps its place, a new one comes last. -/
theorem combiningSets_concat (as : List (Nat × Nat)) (e : Nat × Nat) : combiningSets (as ++ [e]) =
    if (combiningSets as).any (fun x => x.1 == e.2) then (combiningSets as).map (fun x => if x.1 = e.2 then (x.1, x.2 ++ [e.1]) else x)
    else combiningSets as ++ [(e.2, [e.1])] := by
  rw [combiningSets, List.foldl_append]; rfl

/-- The first set is of the first lane's address. -/
theorem head?_combiningSets (as : List (Nat × Nat)) : (combiningSets as).head?.map Prod.fst = as.head?.map Prod.snd := by
  induction as using List.reverseRecOn with
  | nil => rfl
  | append_singleton as e ih =>
    rw [combiningSets_concat]
    cases as with
    | nil => rfl
    | cons a as =>
      obtain ⟨x, r, hc⟩ : ∃ x r, combiningSets (a :: as) = x :: r := by
        cases hc : combiningSets (a :: as) with
        | nil => rw [hc] at ih; cases ih
        | cons x r => exact ⟨x, r, rfl⟩
      rw [hc] at ih ⊢
      refine Eq.trans ?_ ih
      split
      · simp only [List.map_cons, List.head?_cons, Option.map_some]; split <;> rfl
      · rfl

section
variable {i : Iss} {w : IWord} {op : Aop} {typ : Nat} {fetch : Bool} {ds : List (Nat × Dest)} {as : List (Nat × Nat)} {j : Iss}

theorem atomDests_fine {need : Need} {vas : List Nat} (hx : i.s.xlateAll i.ctx need vas = (0, ds))
    (hoff : ds.any (fun d => destOff d.2) = false) (off : Status) : i.atomDests need off vas = (0, ds) := by
  simp [Iss.atomDests, hx, hoff]

theorem operand_watch {kind r l : Nat} {l' : List (Nat × Nat × Nat)} : (i.watch kind l').operand r typ l = i.operand r typ l := by
  obtain ⟨hits, halt, hw⟩ := watch_eq i kind l'
  rw [hw]; rfl

/-- Atomics in virtual space whose words translate: one request a combining set (R38). -/
theorem atomVirtual_sets (has : (lanesOf i.act).map (fun l => (l, vaddr w i.grp l)) = as)
    (hj : i.watch 2 (as.map (fun e => (e.1, e.2, typBytes typ))) = j) (hal : ∀ e ∈ as, e.2 % typBytes typ = 0)
    (hx : i.s.xlateAll i.ctx .both ((combiningSets as).map Prod.fst) = (0, ds)) (hoff : ds.any (fun d => destOff d.2) = false)
    (hop : op ≠ .cas) :
    let vals := fun (e : Nat × List Nat) => e.2.map (fun l => i.operand w.rb.toNat typ l)
    let q := j.asks (ds.foldl (fun (t : State) d => j.bypass t d.2) j.s) ((List.zip (combiningSets as) ds).map (fun e =>
      (MemOp.at op typ (combineSet op typ (vals e.1)) 0 fetch, e.2.2, e.1.1))) true true false false
    let held := (List.zip q.2 (List.zip (combiningSets as) ds)).map (fun e => (e.1, List.zip e.2.1.2 (vals e.2.1)))
    i.atomVirtual w op typ fetch = j.issues q.1 j.grp q.2 (if fetch then .atom w.rd.toNat op typ held else .issue) := by
  intro vals q held
  have hal' : ¬ as.any (fun e => decide (e.2 % typBytes typ ≠ 0)) = true := by simpa using fun a b hab => hal (a, b) hab
  have hval : ∀ r l, j.operand r typ l = i.operand r typ l := fun r l => hj ▸ operand_watch
  unfold Iss.atomVirtual
  simp only [has, hj, atomDests_fine hx hoff, if_neg hal', hop, ne_eq, not_true_eq_false, if_false, hval]
  have hfold := foldl_newReq_keep j (ds.foldl (fun (t : State) d => j.bypass t d.2) j.s) (List.zip (combiningSets as) ds)
    (fun e => (MemOp.at op typ (combineSet op typ (vals e.1)) 0 fetch, e.2.2, e.1.1)) (fun e => List.zip e.1.2 (vals e.1)) true true false false
  have hlen : q.2.length = (List.zip (combiningSets as) ds).length := by rw [length_asks, List.length_map]
  have hids : held.map Prod.fst = q.2 := by
    rw [List.map_map]; exact List.map_fst_zip hlen.le
  refine (congrArg (fun r : State × List (Nat × List (Nat × Nat)) => j.issues r.1 j.grp (r.2.map Prod.fst)
    (if fetch then .atom w.rd.toNat op typ r.2 else .issue)) hfold).trans ?_
  exact congrArg (fun ids => j.issues q.1 j.grp ids (if fetch then .atom w.rd.toNat op typ held else .issue)) hids

/-- CAS in virtual space whose words translate: one lane at a time (R39). -/
theorem atomVirtual_cas {l a : Nat} {rest : List (Nat × Nat)} {d : Nat × Dest}
    (has : (lanesOf i.act).map (fun l => (l, vaddr w i.grp l)) = (l, a) :: rest)
    (hj : i.watch 2 (((l, a) :: rest).map (fun e => (e.1, e.2, typBytes typ))) = j) (hal : ∀ e ∈ (l, a) :: rest, e.2 % typBytes typ = 0)
    (hx : i.s.xlateAll i.ctx .both ((combiningSets ((l, a) :: rest)).map Prod.fst) = (0, ds))
    (hoff : ds.any (fun d => destOff d.2) = false) (hd : ds.head? = some d) :
    let q := j.asks (ds.foldl (fun (t : State) d => j.bypass t d.2) j.s)
      [(MemOp.at .cas typ (i.operand w.rb.toNat typ l) (i.operand w.rc.toNat typ l) true, d.2, a)] true true false false
    i.atomVirtual w .cas typ true = j.issues q.1 j.grp q.2
      (.cas w.rd.toNat typ l (rest.map (fun e => (e.1, e.2, i.operand w.rb.toNat typ e.1, i.operand w.rc.toNat typ e.1)))) := by
  intro q
  have hal' : ¬ ((l, a) :: rest).any (fun e => decide (e.2 % typBytes typ ≠ 0)) = true := by simpa using hal
  have hval : ∀ r l, j.operand r typ l = i.operand r typ l := fun r l => hj ▸ operand_watch
  have hfind : ds.find? (fun d => d.1 == a) = some d := by
    obtain ⟨r, rfl⟩ : ∃ r, ds = d :: r := ⟨ds.tail, (List.cons_head?_tail hd).symm⟩
    have hda : d.1 = a := by
      have := head?_combiningSets ((l, a) :: rest)
      rw [← List.head?_map, ← xlateAll_fst hx] at this
      exact Option.some.inj this
    exact List.find?_cons_of_pos (by simpa using hda)
  unfold Iss.atomVirtual
  simp only [has, hj, atomDests_fine hx hoff, if_neg hal', ne_eq, not_true_eq_false, if_false, if_true, hval, hfind]
  rfl

end

/-- Settles O23: the sets' words translate, so one request is made for each. -/
theorem virtualAtomics : Obligations.VirtualAtomics := by
  intro s g h p w ds fetch hI hon op typ k hok hsp hr as i t sets vals hal hoff hx
  have hs : spaceOf (bits (modNat w) 0 2) = some .virt := by rw [hsp]; rfl
  have hexec := atomic_next hI hon hok hs hr
  refine ⟨fun hop => ?_, fun hop hf l a rest d has hd => ?_⟩
  · intro q held
    rw [hexec, if_pos rfl]
    exact congrArg _ (atomVirtual_sets (i := s.sees g h p w) rfl rfl hal hx hoff hop)
  · intro q
    subst hf
    rw [show exec (.atom g w) s = _ from hexec, if_pos rfl, show aopOf (bits (modNat w) 5 3) = .cas from hop]
    exact congrArg _ (atomVirtual_cas (i := s.sees g h p w) (j := i) has (by rw [← has]) (has ▸ hal) (has ▸ hx) hoff hd)

end Sys2Proof.Machine

/-! The lines of the caches play no part in counting, reporting and translating. -/

namespace Sys2Proof.Machine

/-- The state with other lines in its caches. -/
def State.recached (s : State) (c : Map (List Line)) : State := { s with caches := c }

theorem recached_ite {p q : Prop} [Decidable p] [Decidable q] {a b a' b' : State} {c : Map (List Line)} (h : p ↔ q)
    (ha : a' = a.recached c) (hb : b' = b.recached c) : (if p then a' else b') = (if q then a else b).recached c := by
  by_cases hp : p
  · rw [if_pos hp, if_pos (h.mp hp), ha]
  · rw [if_neg hp, if_neg (mt h.mpr hp), hb]

/-- The same where a value comes with the state. -/
theorem recached_ite_pair {β : Type} {p q : Prop} [Decidable p] [Decidable q] {a b a' b' : State × β} {c : Map (List Line)} (h : p ↔ q)
    (ha : a' = (a.1.recached c, a.2)) (hb : b' = (b.1.recached c, b.2)) :
    (if p then a' else b') = ((if q then a else b).1.recached c, (if q then a else b).2) := by
  by_cases hp : p
  · rw [if_pos hp, if_pos (h.mp hp), ha]
  · rw [if_neg hp, if_neg (mt h.mpr hp), hb]

section
variable (s : State) (c : Map (List Line))

theorem bump_recached (k n : Nat) : (s.recached c).bump k n = (s.bump k n).recached c := by
  unfold State.bump
  split
  · rfl
  · exact recached_ite Iff.rfl (recached_ite Iff.rfl rfl rfl) rfl

theorem stage_recached (y : Yew) : (s.recached c).stage y = (s.stage y).recached c := by
  let t : State := { s with rep := { s.rep with staging := s.rep.staging ++ [y] } }
  unfold State.stage
  exact recached_ite Iff.rfl (bump_recached s c _ _) (recached_ite Iff.rfl (bump_recached s c _ _)
    (recached_ite Iff.rfl (bump_recached t c _ _) (recached_ite Iff.rfl (bump_recached t c _ _) rfl)))

theorem enqueueAlarm_recached (a : Alarm) : (s.recached c).enqueueAlarm a = (s.enqueueAlarm a).recached c := by
  unfold State.enqueueAlarm
  exact recached_ite Iff.rfl rfl (recached_ite Iff.rfl rfl rfl)

theorem alarm_recached (a : Alarm) : (s.recached c).alarm a = ((s.alarm a).1.recached c, (s.alarm a).2) := by
  let a' : Alarm := { a with aseq := s.rep.aseq, opTime := s.opTime, cycles := s.powerCycles }
  have hbump : ∀ r k n, ({ s.recached c with rep := r } : State).bump k n = (({ s with rep := r } : State).bump k n).recached c :=
    fun r k n => bump_recached { s with rep := r } c k n
  let up := fun b : Alarm => if b.cls == a.cls && b.event == a.event then { b with count := satAdd (2 ^ 32 - 1) b.count 1 } else b
  have hknown := hbump { s.rep with queue := s.rep.queue.map up, held := s.rep.held.map up } (dkey 0x7030 0x03) 1
  have hnew := hbump { s.rep with aseq := (s.rep.aseq + 1) % 2 ^ 32 } (dkey 0x7030 0x02) 1
  unfold State.alarm
  refine recached_ite_pair Iff.rfl (Prod.ext hknown rfl) ?_
  refine (congrArg (fun t : State =>
    if mapGet 0 s.rep.lastQueued (a.cls * 65536 + a.event) = 0 ∨ s.now + 1 ≥ mapGet 0 s.rep.lastQueued (a.cls * 65536 + a.event) + 100000000
    then (t.enqueueAlarm a', false) else ({ t with rep := { t.rep with held := t.rep.held ++ [a'] } }, false))
    hnew).trans ?_
  exact recached_ite_pair Iff.rfl (Prod.ext (enqueueAlarm_recached _ c _) rfl) rfl

theorem raiseAs_recached (ev cls unit : Nat) (st : Status) (d0 low : Nat) :
    (s.recached c).raiseAs ev cls unit st d0 low = (s.raiseAs ev cls unit st d0 low).recached c := by
  unfold State.raiseAs
  refine recached_ite Iff.rfl (recached_ite Iff.rfl (congrArg Prod.fst (alarm_recached s c _)) rfl) ?_
  simp only [alarm_recached]
  exact recached_ite Iff.rfl rfl (stage_recached _ c _)

theorem count_recached (k n : Nat) : (s.recached c).count k n = (s.count k n).recached c := by
  unfold State.count
  simp only [bump_recached]
  exact recached_ite Iff.rfl (raiseAs_recached (s.bump k n) c _ _ _ _ _ _) rfl

theorem tagIn_recached (cap : Nat) (l : List XTag) (t : XTag) :
    (s.recached c).tagIn cap l t = ((s.tagIn cap l t).1.recached c, (s.tagIn cap l t).2) :=
  recached_ite_pair Iff.rfl rfl (recached_ite_pair Iff.rfl rfl rfl)

theorem coreTag_recached (core : Nat) (t : XTag) : (s.recached c).coreTag core t = (s.coreTag core t).recached c := by
  unfold State.coreTag
  rw [show mapGet [] (s.recached c).tlbs core = mapGet [] s.tlbs core from rfl, tagIn_recached]
  rfl

theorem dieTag_recached (die : Nat) (t : XTag) : (s.recached c).dieTag die t = (s.dieTag die t).recached c := by
  unfold State.dieTag
  rw [show mapGet [] (s.recached c).dtlbs die = mapGet [] s.dtlbs die from rfl, tagIn_recached]
  rfl

theorem foldl_recached {β : Type} {f : State → β → State} (hf : ∀ t b, f (t.recached c) b = (f t b).recached c) (l : List β) :
    l.foldl f (s.recached c) = (l.foldl f s).recached c :=
  List.foldl_hom (fun t : State => t.recached c) (fun t b => hf t b)

theorem walkFrom_recached (x : Ctx) (va f l : Nat) : (s.recached c).walkFrom x va f l = s.walkFrom x va f l := by
  induction f generalizing l with
  | zero => rfl
  | succ f ih => simp only [State.walkFrom, ih]; rfl

end

/-! A translation that the core's cache does not hold. -/

/-- A page's translation enters the core's cache (R192). -/
def State.coreLeaf (s : State) (core ctx va : Nat) (leaf : Option Nat) : State :=
  match leaf with
  | some l => s.coreTag core ⟨ctx, l, va / 2 ^ lvShift l⟩
  | none => s

/-- What a walk of the tables leaves in the die's cache (R192). -/
def State.walked (s : State) (die ctx va start : Nat) (ws : List Nat) (leaf : Option Nat) : State :=
  let s := if ws.isEmpty then s else s.count (dkey 0x3003 0x02)
  let s := (List.range (ws.length - 1)).foldl (fun (t : State) k => t.dieTag die ⟨ctx, start + k, va / 2 ^ lvShift (start + k)⟩) s
  match leaf with
  | some l => s.dieTag die ⟨ctx, l, va / 2 ^ lvShift l⟩
  | none => s

/-- The level of the leaf of an address whose page may be accessed. -/
def State.leafAt (s : State) (ctx va : Nat) : Option Nat :=
  (leafOf (s.ctx ctx).leaves va).bind (fun e => if e.2.acc then some (leafLevel e.2.size) else none)

/-- The deepest level from which a die's cache lets a walk start. -/
def State.walkStart (s : State) (core ctx va : Nat) : Nat :=
  1 + (([3, 2, 1].find? (fun l => hasTag (mapGet [] s.dtlbs (s.dieOf core)) ctx l va)).getD 0)

/-- A miss of the core's cache: the die's cache, or a walk. -/
def State.missed (s : State) (core ctx va : Nat) : State × List Nat :=
  if ((s.leafAt ctx va).map (fun l => hasTag (mapGet [] s.dtlbs (s.dieOf core)) ctx l va)).getD false then
    (s.coreLeaf core ctx va (s.leafAt ctx va), [])
  else
    let ws := s.walkFrom (s.ctx ctx) va (5 - s.walkStart core ctx va) (s.walkStart core ctx va)
    ((s.walked (s.dieOf core) ctx va (s.walkStart core ctx va) ws (s.leafAt ctx va)).coreLeaf core ctx va (s.leafAt ctx va), ws)

theorem touch_eq (s : State) (core ctx va : Nat) : s.touch core ctx va =
    if va ≥ 2 ^ 48 ∨ (winVa ≤ va ∧ va < winVa + 0x50000000) ∨ s.cached core ctx va then (s, [])
    else (s.count (dkey 0x3003 0x01)).missed core ctx va := rfl

section
variable (s : State) (c : Map (List Line))

theorem coreLeaf_recached (core ctx va : Nat) (leaf : Option Nat) :
    (s.recached c).coreLeaf core ctx va leaf = (s.coreLeaf core ctx va leaf).recached c := by
  cases leaf with
  | none => rfl
  | some l => exact coreTag_recached s c _ _

theorem walked_recached (die ctx va start : Nat) (ws : List Nat) (leaf : Option Nat) :
    (s.recached c).walked die ctx va start ws leaf = (s.walked die ctx va start ws leaf).recached c := by
  have hstart : (if ws.isEmpty then s.recached c else (s.recached c).count (dkey 0x3003 0x02)) =
      (if ws.isEmpty then s else s.count (dkey 0x3003 0x02)).recached c := recached_ite Iff.rfl rfl (count_recached s c _ _)
  unfold State.walked
  simp only
  rw [hstart, foldl_recached _ _ (fun t k => dieTag_recached t c _ _)]
  cases leaf with
  | none => rfl
  | some l => exact dieTag_recached _ c _ _

theorem missed_recached (core ctx va : Nat) :
    (s.recached c).missed core ctx va = ((s.missed core ctx va).1.recached c, (s.missed core ctx va).2) := by
  refine recached_ite_pair Iff.rfl (Prod.ext (coreLeaf_recached s c _ _ _ _) rfl) (Prod.ext ?_ (walkFrom_recached s c _ _ _ _))
  let start := s.walkStart core ctx va
  let leaf := s.leafAt ctx va
  let ws := s.walkFrom (s.ctx ctx) va (5 - start) start
  calc ((s.recached c).walked (s.dieOf core) ctx va start ((s.recached c).walkFrom (s.ctx ctx) va (5 - start) start) leaf).coreLeaf core ctx va leaf
    _ = ((s.recached c).walked (s.dieOf core) ctx va start ws leaf).coreLeaf core ctx va leaf := by rw [walkFrom_recached]
    _ = ((s.walked (s.dieOf core) ctx va start ws leaf).coreLeaf core ctx va leaf).recached c := by
      rw [walked_recached, coreLeaf_recached]

theorem touch_recached (core ctx va : Nat) :
    (s.recached c).touch core ctx va = ((s.touch core ctx va).1.recached c, (s.touch core ctx va).2) := by
  rw [touch_eq, touch_eq]
  refine recached_ite_pair Iff.rfl rfl ?_
  rw [count_recached, missed_recached]

end

/-! What a translation leaves unchanged. -/

section
variable {γ : Type} {part : State → γ} (hcount : ∀ t k n, part (t.count k n) = part t)
  (hcore : ∀ t core x, part (t.coreTag core x) = part t) (hdie : ∀ t die x, part (t.dieTag die x) = part t)

include hcore in
theorem coreLeaf_part (s : State) (core ctx va : Nat) (leaf : Option Nat) : part (s.coreLeaf core ctx va leaf) = part s := by
  cases leaf with
  | none => rfl
  | some l => exact hcore _ _ _

include hcount hdie in
theorem walked_part (s : State) (die ctx va start : Nat) (ws : List Nat) (leaf : Option Nat) :
    part (s.walked die ctx va start ws leaf) = part s := by
  have hstart : part (if ws.isEmpty then s else s.count (dkey 0x3003 0x02)) = part s := by
    split
    · rfl
    · exact hcount _ _ _
  have hfold := foldl_keeps (P := fun t => part t = part s) (fun (t : State) k => t.dieTag die ⟨ctx, start + k, va / 2 ^ lvShift (start + k)⟩)
    (List.range (ws.length - 1)) _ hstart fun t k ht => (hdie t _ _).trans ht
  unfold State.walked
  cases leaf with
  | none => exact hfold
  | some l => exact (hdie _ _ _).trans hfold

include hcount hcore hdie in
/-- A translation changes only what counting and the two caches of translations change (R192). -/
theorem touch_part (s : State) (core ctx va : Nat) : part (s.touch core ctx va).1 = part s := by
  have hmiss : ∀ t : State, part (t.missed core ctx va).1 = part t := fun t => by
    unfold State.missed
    split
    · exact coreLeaf_part hcore _ _ _ _ _
    · exact (coreLeaf_part hcore _ _ _ _ _).trans (walked_part hcount hdie _ _ _ _ _ _ _)
  rw [touch_eq]
  split
  · rfl
  · exact (hmiss _).trans (hcount _ _ _)

end

theorem tagIn_part {γ : Type} {part : State → γ} (hd : ∀ t : State, part t.drawn = part t) (s : State) (cap : Nat) (l : List XTag) (t : XTag) :
    part (s.tagIn cap l t).1 = part s := by
  unfold State.tagIn
  split
  · rfl
  · split
    · rfl
    · exact hd s

/-- The parts of the state that a request's making and its translation keep, but for the new request and its number. -/
def State.askParts (s : State) : List Host.Cell × Map (List Line) × Map Image × List Launch × Dev × List Req × Nat :=
  (s.mem, s.caches, s.images, s.launches, s.dev, s.reqs, s.nextId)

theorem touch_askParts (s : State) (core ctx va : Nat) : (s.touch core ctx va).1.askParts = s.askParts := by
  refine touch_part (fun t k n => ?_) (fun t core x => ?_) (fun t die x => ?_) s core ctx va
  · simp [State.askParts]
  · exact tagIn_part (part := State.askParts) (fun _ => rfl) t 64 _ x
  · exact tagIn_part (part := State.askParts) (fun _ => rfl) t 8192 _ x

end Sys2Proof.Machine

/-! The requests of one instruction. -/

namespace Sys2Proof.Machine

/-- The request that an instruction makes, its walk before it (R29, R192). -/
def Iss.request (i : Iss) (s : State) (op : MemOp) (d : Dest) (va : Nat) (plain thread alloc held : Bool) (walk : List Nat) : Req :=
  { id := s.nextId, src := .core i.core, ctx := i.ctx, slot := i.slot, op := op, addr := (destReq d).1, win := (destReq d).2.1,
    va := va, plain := plain, thread := thread, alloc := alloc && !(destReq d).2.2, held := held,
    owner := i.grp.launch, gidx := i.grp.idx, ipc := i.path.pc, walk := walk,
    dev := if (destReq d).2.1 then s.dev.deviceId else gDevice (destReq d).1 }

/-- The translation of a request's address: none for a window (R188, R192). -/
def Iss.translates (i : Iss) (s : State) (d : Dest) (va : Nat) : State × List Nat :=
  if (destReq d).2.1 then (s, []) else s.touch i.core i.ctx va

/-- A request is added and takes its number. -/
def State.asked (s : State) (r : Req) : State := { s with nextId := s.nextId + 1, reqs := s.reqs ++ [r] }

section
variable (i : Iss) (s : State) (op : MemOp) (d : Dest) (va : Nat) (plain thread alloc held : Bool)

theorem newReq_eq : i.newReq s op d va plain thread alloc held =
    (let u := i.translates s d va
     (u.1.asked (i.request u.1 op d va plain thread alloc held u.2), u.1.nextId)) := rfl

theorem translates_askParts : (i.translates s d va).1.askParts = s.askParts := by
  unfold Iss.translates
  split
  · rfl
  · exact touch_askParts _ _ _ _

theorem translates_recached (c : Map (List Line)) :
    i.translates (s.recached c) d va = ((i.translates s d va).1.recached c, (i.translates s d va).2) :=
  recached_ite_pair Iff.rfl rfl (touch_recached _ _ _ _ _)

theorem newReq_recached (c : Map (List Line)) : i.newReq (s.recached c) op d va plain thread alloc held =
    ((i.newReq s op d va plain thread alloc held).1.recached c, (i.newReq s op d va plain thread alloc held).2) := by
  rw [newReq_eq, translates_recached, newReq_eq]; rfl

/-- An address that the core's cache holds needs no walk (R192). -/
theorem translates_cached (h : s.cached i.core i.ctx va = true) : (i.translates s d va) = (s, []) := by
  unfold Iss.translates
  split
  · rfl
  · rw [touch_eq, if_pos (.inr (.inr h))]

end

/-- The requests an instruction adds, as the statement of O21 describes them. -/
def Iss.Asked (i : Iss) (s : State) (plain thread held : Bool) (k : Nat) (op : MemOp) (d : Dest) (va : Nat) (r : Req) : Prop :=
  r.id = s.nextId + k ∧ r.src = .core i.core ∧ r.ctx = i.ctx ∧
    r.slot = i.slot ∧ r.owner = i.grp.launch ∧ r.gidx = i.grp.idx ∧ r.ipc = i.path.pc ∧ r.op = op ∧ r.va = va ∧ r.ph = .waiting ∧
    r.plain = plain ∧ r.thread = thread ∧ r.held = held ∧
    (∀ c o, d = .win c o → r.win = true ∧ r.addr = winBase + c * 0x200000 + o ∧ r.dev = s.dev.deviceId ∧ r.walk = []) ∧
    (∀ a nc, d = .glob a nc → r.win = false ∧ r.addr = a ∧ r.dev = gDevice a ∧ (k = 0 → s.cached i.core i.ctx va = true → r.walk = []))

/-- The request made in a state that k requests came before. -/
theorem asked_request {i : Iss} {s t : State} {k : Nat} (op : MemOp) (d : Dest) (va : Nat) (plain thread alloc held : Bool)
    (hid : t.nextId = s.nextId + k) (hdev : t.dev = s.dev) (hzero : k = 0 → t = s) :
    i.Asked s plain thread held k op d va
      (i.request (i.translates t d va).1 op d va plain thread alloc held (i.translates t d va).2) := by
  have hparts := translates_askParts i t d va
  simp only [State.askParts, Prod.mk.injEq] at hparts
  obtain ⟨-, -, -, -, hdev', -, hid'⟩ := hparts
  refine ⟨hid'.trans hid, rfl, rfl, rfl, rfl, rfl, rfl, rfl, rfl, rfl, rfl, rfl, rfl, ?_, ?_⟩
  · rintro c o rfl
    exact ⟨rfl, rfl, congrArg Dev.deviceId (hdev'.trans hdev), rfl⟩
  · rintro a nc rfl
    refine ⟨rfl, rfl, rfl, fun h0 hc => ?_⟩
    rw [hzero h0]
    exact congrArg Prod.snd (translates_cached i s _ va hc)

/-- What requests made one after the other leave (R29, R192, R233). -/
theorem asks_spec (i : Iss) (s : State) (l : List (MemOp × Dest × Nat)) (plain thread alloc held : Bool) :
    let q := i.asks s l plain thread alloc held
    q.2 = (List.range l.length).map (s.nextId + ·) ∧ q.1.nextId = s.nextId + l.length ∧
    q.1.mem = s.mem ∧ q.1.caches = s.caches ∧ q.1.images = s.images ∧ q.1.launches = s.launches ∧ q.1.dev = s.dev ∧
    ∃ rs : List Req, q.1.reqs = s.reqs ++ rs ∧ rs.length = l.length ∧
      ∀ k op d va, l[k]? = some (op, d, va) → ∃ r, rs[k]? = some r ∧ i.Asked s plain thread held k op d va r := by
  induction l using List.reverseRecOn with
  | nil => exact ⟨rfl, rfl, rfl, rfl, rfl, rfl, rfl, [], by simp [asks_nil]⟩
  | append_singleton l e ih =>
    obtain ⟨hids, hid, hmem, hcaches, himages, hlaunches, hdev, rs, hreqs, hlen, hrs⟩ := ih
    obtain ⟨op, d, va⟩ := e
    have hparts := translates_askParts i (i.asks s l plain thread alloc held).1 d va
    simp only [State.askParts, Prod.mk.injEq] at hparts
    obtain ⟨pmem, pcaches, pimages, plaunches, pdev, preqs, pid⟩ := hparts
    let u := i.translates (i.asks s l plain thread alloc held).1 d va
    rw [asks_concat]
    simp only [newReq_eq]
    refine ⟨?_, ?_, pmem.trans hmem, pcaches.trans hcaches, pimages.trans himages, plaunches.trans hlaunches, pdev.trans hdev,
      rs ++ [i.request u.1 op d va plain thread alloc held u.2], ?_, ?_, fun k op' d' va' hk => ?_⟩
    · simp [List.range_succ, hids, pid, hid]
    · simp [State.asked, pid, hid, Nat.add_assoc]
    · simp only [State.asked]; rw [preqs, hreqs, List.append_assoc]
    · simp [hlen]
    · by_cases hkl : k < l.length
      · rw [List.getElem?_append_left hkl] at hk
        rw [List.getElem?_append_left (by omega)]
        exact hrs k op' d' va' hk
      · have hkl' : k = l.length := by
          have := (List.getElem?_eq_some_iff.mp hk).1
          simp only [List.length_append, List.length_singleton] at this
          omega
        subst hkl'
        rw [List.getElem?_concat_length] at hk
        obtain ⟨rfl, rfl, rfl⟩ : op = op' ∧ d = d' ∧ va = va' := by simpa using hk
        refine ⟨_, by rw [← hlen, List.getElem?_concat_length], asked_request _ _ _ _ _ _ _ hid hdev fun h0 => ?_⟩
        rw [List.eq_nil_of_length_eq_zero h0]
        rfl

end Sys2Proof.Machine

/-! LD and ST in virtual space. -/

namespace Sys2Proof.Machine

/-- The lines of every core but one are as they were. -/
def othersCached (core : Nat) (s : State) (c : Map (List Line)) : Prop := ∀ m, m ≠ core → mapGet [] c m = s.cache m

theorem setCache_others {core : Nat} {s t : State} {c : Map (List Line)} (h : othersCached core s c) (l : List Line) :
    ∃ c', (t.recached c).setCache core l = t.recached c' ∧ othersCached core s c' :=
  ⟨mapSet [] c core l, rfl, fun m hm => (mapGet_set_other _ _ _ _ _ hm).trans (h m hm)⟩

theorem foldl_stays {α β : Type} {f : α → β → α} {a : α} {l : List β} (h : ∀ b ∈ l, f a b = a) : l.foldl f a = a := by
  induction l with
  | nil => rfl
  | cons b l ih => rw [List.foldl_cons, h b (by simp), ih fun c hc => h c (by simp [hc])]

section
variable {i j : Iss} {rd size cm : Nat} {addrs : List (Nat × Nat)} {ds : List (Nat × Dest)}

/-- A load whose lines translate, of a core without a cache: one request a line (R29). -/
theorem loadVirtual_uncached (hal : ∀ e ∈ addrs, e.2 % sizeBytes size = 0)
    (hx : i.s.xlateAll i.ctx .read (linesOf (addrs.map Prod.snd)) = (0, ds)) (hoff : ds.any (fun d => destOff d.2) = false)
    (hj : i.watch 0 (addrs.map (fun e => (e.1, e.2, sizeBytes size))) = j) (hk : j.img.cacheKiB = 0) (hne : ds ≠ []) :
    let q := j.asks j.s (ds.map (fun d => (MemOp.rd 64, d.2, d.1))) false false false false
    i.loadVirtual rd size cm addrs =
      j.waits q.1 (if cm = 0 then j.grp.missStreak (ds.map Prod.fst) else j.grp) q.2 (.load rd size addrs []) := by
  intro q
  have hal' : ¬ addrs.any (fun e => decide (e.2 % sizeBytes size ≠ 0)) = true := by simpa using fun a b hab => hal (a, b) hab
  have hq : q = ds.foldl (fun (a : State × List Nat) d =>
      ((j.newReq a.1 (.rd 64) d.2 d.1 false false false false).1, a.2 ++ [(j.newReq a.1 (.rd 64) d.2 d.1 false false false false).2]))
      (j.s, []) := List.foldl_map
  have hids : q.2.isEmpty = false := by
    rw [List.isEmpty_eq_false_iff, ← List.length_pos_iff, length_asks, List.length_map]
    exact List.length_pos_iff.mpr hne
  unfold Iss.loadVirtual
  simp only [if_neg hal', hx, hoff, hj, hk, bne_self_eq_false, Bool.and_false, Bool.false_and]
  simp only [BitVec.ofNat_eq_ofNat, ne_eq, not_true_eq_false, ↓reduceIte, Bool.false_eq_true, Option.isNone_none, Option.isSome_none,
    List.foldl_fixed, ← hq, hids, List.filter_true, Option.map_none, List.filterMap_none]
  rfl

/-- A load that hits in every line, with no walk to wait for, has its data at once (R28, R192, R194). -/
theorem loadVirtual_hits {data : Nat → List Byte} (hal : ∀ e ∈ addrs, e.2 % sizeBytes size = 0)
    (hx : i.s.xlateAll i.ctx .read (linesOf (addrs.map Prod.snd)) = (0, ds)) (hoff : ds.any (fun d => destOff d.2) = false)
    (hj : i.watch 0 (addrs.map (fun e => (e.1, e.2, sizeBytes size))) = j) (hk : j.img.cacheKiB ≠ 0) (hcm : cm ≠ 2)
    (hnc : ∀ d ∈ ds, destNc d.2 = false)
    (hhit : ∀ d ∈ ds, ∃ x, lineHit (j.s.cache j.core) j.ctx (j.s.lineKey d.2) = some x ∧ x.data = data d.1)
    (hheld : ∀ d ∈ ds, j.s.cached j.core j.ctx d.1 = true ∨ winVa ≤ d.1 ∧ d.1 < winVa + 0x50000000) :
    ∃ c, othersCached j.core j.s c ∧ i.loadVirtual rd size cm addrs =
      ({ j with s := j.s.recached c } : Iss).retire (finishLoad j.grp rd size addrs (ds.map (fun d => (d.1, data d.1)))) := by
  have hal' : ¬ addrs.any (fun e => decide (e.2 % sizeBytes size ≠ 0)) = true := by simpa using fun a b hab => hal (a, b) hab
  let look := fun (d : Nat × Dest) => if j.img.cacheKiB != 0 && cm != 2 && !(destNc d.2) then
    lineHit (j.s.cache j.core) j.ctx (j.s.lineKey d.2) else none
  have hlook : ∀ d ∈ ds, ∃ x, look d = some x ∧ x.data = data d.1 := fun d hd => by
    obtain ⟨x, hx, hxd⟩ := hhit d hd
    exact ⟨x, by simp [look, hk, hcm, hnc d hd, hx], hxd⟩
  have hhits : ds.filterMap (fun d => (look d).map (fun x => (d.1, x.data))) = ds.map (fun d => (d.1, data d.1)) := by
    rw [← List.filterMap_eq_map]
    refine List.filterMap_congr fun d hd => ?_
    obtain ⟨x, hx, hxd⟩ := hlook d hd
    simp [hx, hxd]
  obtain ⟨c, hc, hothers⟩ : ∃ c, ds.foldl (fun (t : State) d =>
      if (look d).isSome then t.setCache j.core (touchLine (t.cache j.core) j.ctx (t.lineKey d.2)) else t) j.s = j.s.recached c ∧
      othersCached j.core j.s c := by
    refine foldl_keeps (P := fun t => ∃ c, t = j.s.recached c ∧ othersCached j.core j.s c) _ _ _ ⟨j.s.caches, rfl, fun _ _ => rfl⟩ ?_
    rintro _ d ⟨c, rfl, hc⟩
    split
    · exact setCache_others hc _
    · exact ⟨c, rfl, hc⟩
  have hasks : ds.foldl (fun (a : State × List Nat) d =>
      if (look d).isNone then
        let (t, id) := j.newReq a.1 (.rd 64) d.2 d.1 false false (cm == 0 && j.img.cacheKiB != 0) false
        (t, a.2 ++ [id])
      else
        let (u, walk) := a.1.touch j.core j.ctx d.1
        if walk.isEmpty then (u, a.2)
        else
          let (t, id) := j.newReq u (.rd 0) d.2 d.1 false false false false
          (t.updReq id (fun r => { r with walk := walk, noslot := true }), a.2 ++ [id])) (j.s.recached c, []) = (j.s.recached c, []) := by
    refine foldl_stays fun d hd => ?_
    obtain ⟨x, hx, -⟩ := hlook d hd
    have htouch : (j.s.recached c).touch j.core j.ctx d.1 = (j.s.recached c, []) := by
      rw [touch_eq]
      exact if_pos (.inr ((hheld d hd).symm))
    simp [hx, htouch]
  refine ⟨c, hothers, ?_⟩
  simp only [look] at hc hhits hasks
  unfold Iss.loadVirtual
  simp only [if_neg hal', hx, hoff, hj, hc, hhits, hasks]
  rfl

/-- One line of a store: its own cells take the bytes, then its request is made (R29, R194). -/
theorem patched_newReq {s : State} {c : Map (List Line)} (hc : othersCached j.core j.s c) (cs : List (Nat × Byte)) (op : MemOp) (d : Dest)
    (va : Nat) (plain thread alloc held : Bool) :
    ∃ c', othersCached j.core j.s c' ∧ j.newReq ((s.recached c).patchCache j.core j.ctx cs) op d va plain thread alloc held =
      ((j.newReq s op d va plain thread alloc held).1.recached c', (j.newReq s op d va plain thread alloc held).2) := by
  obtain ⟨c', hput, hc'⟩ := setCache_others (t := s) hc (((s.recached c).cache j.core).map (fun x => if x.ctx = j.ctx then patchLine x cs else x))
  exact ⟨c', hc', by rw [State.patchCache, hput, newReq_recached]⟩

/-- The bytes of a store that lie in a line. -/
def lineCells (cells : List (Nat × Byte)) (d : Nat × Dest) : List (Nat × Byte) :=
  (cells.filter (fun c => c.1 / 64 * 64 == d.1)).map (fun c => (c.1 - d.1, c.2))

theorem foldl_storeLines {cells : List (Nat × Byte)} (l : List (Nat × Dest)) :
    let q := j.asks j.s (l.map (fun d => (MemOp.wr (lineCells cells d), d.2, d.1))) true true false false
    ∃ c, othersCached j.core j.s c ∧
      l.foldl (fun (a : State × List Nat) d =>
        let r := j.newReq (a.1.patchCache j.core j.ctx ((lineCells cells d).map (fun c => (a.1.lineKey d.2 + c.1, c.2))))
          (.wr (lineCells cells d)) d.2 d.1 true true false false
        (r.1, a.2 ++ [r.2])) (j.s, []) = (q.1.recached c, q.2) := by
  induction l using List.reverseRecOn with
  | nil => exact ⟨j.s.caches, fun _ _ => rfl, rfl⟩
  | append_singleton l d ih =>
    obtain ⟨c, hc, ih⟩ := ih
    let t := (j.asks j.s (l.map (fun d => (MemOp.wr (lineCells cells d), d.2, d.1))) true true false false).1
    rw [List.foldl_append, ih, List.map_append, List.map_singleton, asks_concat]
    obtain ⟨c', hc', hstep⟩ := patched_newReq (s := t) hc ((lineCells cells d).map (fun x => ((t.recached c).lineKey d.2 + x.1, x.2)))
      (.wr (lineCells cells d)) d.2 d.1 true true false false
    exact ⟨c', hc', congrArg (fun r : State × Nat =>
      (r.1, (j.asks j.s (l.map (fun d => (MemOp.wr (lineCells cells d), d.2, d.1))) true true false false).2 ++ [r.2])) hstep⟩

/-- A store whose lines translate: one request a line, ascending, the core's own lines taking the bytes (R29, R194). -/
theorem storeVirtual_asks {cells : List (Nat × Byte)} (hx : j.s.xlateAll j.ctx .write (linesOf (cells.map Prod.fst)) = (0, ds))
    (hoff : ds.any (fun d => destOff d.2) = false) :
    let q := j.asks j.s (ds.map (fun d => (MemOp.wr (lineCells cells d), d.2, d.1))) true true false false
    ∃ c, othersCached j.core j.s c ∧ j.storeVirtual cells = j.issues (q.1.recached c) j.grp q.2 .issue := by
  intro q
  obtain ⟨c, hc, hfold⟩ := foldl_storeLines (j := j) (cells := cells) ds
  refine ⟨c, hc, ?_⟩
  simp only [lineCells] at hfold
  unfold Iss.storeVirtual
  simp only [hx, hfold]
  rw [if_neg (not_not_intro rfl), foldl_stays (a := (0 : Status)) (l := ds)]
  · rfl
  · intro d hd
    have hd : destOff d.2 = false := by simpa using List.any_eq_false.mp hoff d hd
    cases hdest : d.2 with
    | win core off => rfl
    | glob a nc =>
      rw [hdest] at hd
      exact (if_neg (not_not_intro rfl)).trans (if_neg (Bool.eq_false_iff.mp hd))

end

theorem mem_insNat {n m : Nat} {l : List Nat} : m ∈ insNat n l ↔ m = n ∨ m ∈ l := by
  induction l with
  | nil => simp [insNat]
  | cons a l ih =>
    unfold insNat
    split
    · simp
    · split
      · next h => subst h; simp
      · simp only [List.mem_cons, ih]; tauto

theorem mem_sortNat {m : Nat} {l : List Nat} : m ∈ sortNat l ↔ m ∈ l := by
  induction l with
  | nil => rfl
  | cons a l ih => simp only [sortNat, List.foldr_cons, mem_insNat, List.mem_cons] at ih ⊢; rw [ih]

/-- The line of each address is among the lines. -/
theorem line_mem_linesOf {a : Nat} {as : List Nat} (h : a ∈ as) : a / 64 * 64 ∈ linesOf as :=
  mem_sortNat.mpr (List.mem_map_of_mem h)

/-- The data of a load that has all its lines, by lane (R490). -/
theorem finishLoad_all {rd size : Nat} {lines : List Nat} {data : Nat → List Byte} {m : Lanes} {addr : Nat → Nat} (g : Group)
    (h : ∀ l ∈ lanesOf m, addr l / 64 * 64 ∈ lines) :
    finishLoad g rd size ((lanesOf m).map (fun l => (l, addr l))) (lines.map (fun a => (a, data a))) =
      g.setRuns rd (sizeRegs size) m (fun l => leNat (((data (addr l / 64 * 64)).drop (addr l % 64)).take (sizeBytes size))) := by
  unfold finishLoad Group.setRuns
  rw [List.foldl_map]
  refine List.foldl_ext _ _ _ fun g l hl => ?_
  have hfind : (lines.map (fun a => (a, data a))).find? (fun x => x.1 == addr l / 64 * 64) =
      some (addr l / 64 * 64, data (addr l / 64 * 64)) := by
    rw [List.find?_map]
    cases hf : lines.find? ((fun x : Nat × List Byte => x.1 == addr l / 64 * 64) ∘ fun a => (a, data a)) with
    | none => exact absurd (beq_self_eq_true _) (List.find?_eq_none.mp hf _ (h l hl))
    | some a => rw [show a = addr l / 64 * 64 by simpa using List.find?_some hf]; rfl
  simp only [hfind]
  rfl

/-- Without free lanes the lanes store in their order (log 6). -/
theorem storeLanes_zero (m : Lanes) : storeLanes m 0 = lanesOf m := by simp [storeLanes]

theorem overlaps_false {n : Nat} {as : List Nat} (h : overlaps n as = false) :
    as.Pairwise (fun a b => ¬ (a < b + n ∧ b < a + n)) := by
  induction as with
  | nil => exact .nil
  | cons a as ih =>
    rw [overlaps, Bool.or_eq_false_iff] at h
    exact .cons (fun b hb => by simpa using List.any_eq_false.mp h.1 b hb) (ih h.2)

/-- Where no two lanes store to one byte, each byte of each lane is stored (R490). -/
theorem mem_laneCells_iff {m : Lanes} {addr val : Nat → Nat} {n : Nat} (h : overlaps n ((lanesOf m).map addr) = false) (a : Nat) (b : Byte) :
    (a, b) ∈ storeCells ((lanesOf m).map (fun l => (addr l, leBytes n (val l)))) ↔
      ∃ l ∈ lanesOf m, ∃ x < n, a = addr l + x ∧ b = BitVec.ofNat 8 (val l / 2 ^ (8 * x)) := by
  have hlanes : ∀ {c}, c ∈ storeCells ((lanesOf m).map (fun l => (addr l, leBytes n (val l)))) →
      ∃ l ∈ lanesOf m, ∃ x < n, c.1 = addr l + x ∧ c.2 = BitVec.ofNat 8 (val l / 2 ^ (8 * x)) := fun hc => by
    obtain ⟨l, hl, x, hx, rfl⟩ := mem_laneCells hc
    exact ⟨l, hl, x, hx, rfl, rfl⟩
  refine ⟨fun hc => hlanes hc, ?_⟩
  rintro ⟨l, hl, x, hx, rfl, rfl⟩
  obtain ⟨b, hb⟩ := laneCells_covers (addr := addr) (val := val) hl hx
  obtain ⟨l', hl', x', hx', ha, hb'⟩ := hlanes hb
  have hpair : (lanesOf m).Pairwise (fun k k' => ¬ (addr k < addr k' + n ∧ addr k' < addr k + n)) :=
    List.pairwise_map.mp (overlaps_false h)
  have hll : l = l' := by
    by_contra hne
    have : Std.Symm fun k k' => ¬ (addr k < addr k' + n ∧ addr k' < addr k + n) := ⟨fun k k' hk h' => hk ⟨h'.2, h'.1⟩⟩
    exact hpair.forall hl hl' hne ⟨by simp only at ha; omega, by simp only at ha; omega⟩
  subst hll
  obtain rfl : x = x' := by simp only at ha; omega
  rwa [← hb']

section
variable {s : State} {g : GRef} {h : Here} {p : Path} {w : IWord}

/-- ST to virtual space, every lane in place and none over another: its cells go out by lines (R28, R490). -/
theorem store_virtual (hs : spaceOf (bits (modNat w) 5 3) = some .virt)
    (hal : ∀ l ∈ lanesOf (h.active p w), vaddr w h.grp l % 2 ^ bits (modNat w) 2 3 = 0)
    (hov : overlaps (2 ^ bits (modNat w) 2 3) ((lanesOf (h.active p w)).map (vaddr w h.grp)) = false) :
    (s.sees g h p w).store w = ((s.sees g h p w).watch 1 ((lanesOf (h.active p w)).map (fun l =>
      (l, vaddr w h.grp l, 2 ^ bits (modNat w) 2 3)))).storeVirtual
      (storeCells ((lanesOf (h.active p w)).map (fun l => (vaddr w h.grp l, leBytes (2 ^ bits (modNat w) 2 3)
        (h.grp.run64 w.rb.toNat (sizeRegs (bits (modNat w) 2 3)) l))))) := by
  have hadr : lsAddr w h.seen = vaddr w h.grp := by funext l; exact if_pos hs
  have hal' : ¬ (lanesOf (h.active p w)).any (fun l => decide (vaddr w h.grp l % 2 ^ bits (modNat w) 2 3 ≠ 0)) = true := by
    simpa using hal
  unfold Iss.store
  simp only [hs, State.sees_act, State.sees_grp, hadr, sizeBytes, hov, Bool.false_eq_true, if_false, if_neg hal', storeLanes_zero]
  rfl

end

/-- Settles O21: the requests one by one, then a load without a cache, a load that hits in every line, and a store. -/
theorem virtualLoadStore : Obligations.VirtualLoadStore := by
  refine ⟨fun i s l plain thread alloc held => ?_, fun s g h p w ds hI hon hsz hsp => ?_⟩
  · obtain ⟨hids, hid, hmem, hcaches, himages, hlaunches, -, hrs⟩ := asks_spec i s l plain thread alloc held
    exact ⟨hids, hid, hmem, hcaches, himages, hlaunches, hrs⟩
  intro n k cm ons as i j cells hal
  have hs : spaceOf (bits (modNat w) 5 3) = some .virt := by rw [hsp]; rfl
  have hk : k = sizeRegs (bits (modNat w) 2 3) := (sizeRegs_eq hsz).symm
  have halas : ∀ e ∈ as, e.2 % sizeBytes (bits (modNat w) 2 3) = 0 := fun e he => by
    obtain ⟨l, hl, rfl⟩ := List.mem_map.mp he; exact hal l hl
  have hmap : as.map Prod.snd = ons.map (vaddr w h.grp) :=
    (List.map_map (f := fun l => (l, vaddr w h.grp l)) (g := Prod.snd) (l := ons)).trans rfl
  refine ⟨fun hcm hr hoff hx => ?_, fun hcm hr hov hoff hx => ?_⟩
  · have hl : ldLegal w h.seen = true := by
      have hcm' : bits (modNat w) 0 2 ≤ 2 := hcm
      simp only [ldLegal, hsz, hcm', hs, Option.isSome_some, Option.getD_some, raUse, if_true, ← hk, regsOk_seen, decide_true, Bool.true_and]
      exact hr
    have hexec : exec (.ld g w {}) s = .next ((s.sees g h p w).loadVirtual w.rd.toNat (bits (modNat w) 2 3) cm as) := by
      rw [exec_ld, execLd]
      refine issue_next hI hl ((checked_good hon).trans ?_)
      unfold Iss.load
      rw [hs]
      rfl
    rw [← hmap] at hx
    rw [hexec]
    obtain ⟨hits, halt, hw⟩ := watch_eq (s.sees g h p w) 0 (as.map (fun e => (e.1, e.2, n)))
    have hi : i = (s.sees g h p w).watched hits halt := hw
    refine ⟨fun hnone => ?_, fun data hcache hcm2 hnc hhit => ?_⟩
    · have hne : ds ≠ [] := fun h0 => by
        obtain ⟨l, hlane⟩ := List.exists_mem_of_ne_nil _ (mt lanesOf_eq_nil.mp hon)
        have hline := line_mem_linesOf (hmap ▸ List.mem_map_of_mem (f := vaddr w h.grp) hlane)
        rw [← xlateAll_fst hx, h0] at hline
        exact List.not_mem_nil hline
      have hk0 : i.img.cacheKiB = 0 := by rw [hi]; exact hnone
      exact congrArg _ (loadVirtual_uncached (i := s.sees g h p w) (j := i) halas hx hoff rfl hk0 hne)
    · have hk0 : i.img.cacheKiB ≠ 0 := by rw [hi]; exact hcache
      have hcore : i.core = g.core.val := by rw [hi]; rfl
      have hctx : i.ctx = h.ctx := by rw [hi]; rfl
      have hcached : i.s.cached = s.cached := by rw [hi]; rfl
      have hothers : ∀ m, i.s.cache m = s.cache m := by rw [hi]; exact fun _ => rfl
      obtain ⟨c, hc, hload⟩ := loadVirtual_hits (i := s.sees g h p w) (j := i) (data := data) (rd := w.rd.toNat) halas hx hoff rfl hk0 hcm2
        (by simpa using hnc) (by rw [hcore, hctx]; exact fun d hd => (hhit d hd).1)
        (by rw [hcore, hctx, hcached]; exact fun d hd => (hhit d hd).2)
      refine ⟨c, fun m hm => (hc m (hcore ▸ hm)).trans (hothers m), congrArg _ (hload.trans ?_)⟩
      have hlines : ds.map (fun d => (d.1, data d.1)) = (linesOf (as.map Prod.snd)).map (fun a => (a, data a)) := by
        rw [← xlateAll_fst hx, List.map_map]; rfl
      rw [hlines, hk]
      exact congrArg _ (finishLoad_all i.grp fun l hl => line_mem_linesOf (hmap ▸ List.mem_map_of_mem (f := vaddr w h.grp) hl))
  · intro q
    have hl : stLegal w h.seen = true := by
      have hcm' : bits (modNat w) 0 2 = 0 := hcm
      simp only [stLegal, hsz, hcm', hs, Option.isSome_some, Option.getD_some, raUse, if_true, ← hk, regsOk_seen, decide_true, Bool.true_and]
      exact hr
    have hwatch : as.map (fun e => (e.1, e.2, n)) = ons.map (fun l => (l, vaddr w h.grp l, n)) :=
      (List.map_map (f := fun l => (l, vaddr w h.grp l)) (g := fun e => (e.1, e.2, n)) (l := ons)).trans rfl
    obtain ⟨hits, halt, hw⟩ := watch_eq (s.sees g h p w) 1 (as.map (fun e => (e.1, e.2, n)))
    have hj : j = (s.sees g h p w).watched hits halt := hw
    have hcore : j.core = g.core.val := by rw [hj]; rfl
    have hothers : ∀ m, j.s.cache m = s.cache m := by rw [hj]; exact fun _ => rfl
    have hxj : j.s.xlateAll j.ctx .write (linesOf (cells.map Prod.fst)) = (0, ds) := by rw [hj]; exact hx
    obtain ⟨c, hc, hstore⟩ := storeVirtual_asks hxj hoff
    refine ⟨mem_laneCells_iff hov, c, ?_, fun m hm => (hc m (hcore ▸ hm)).trans (hothers m)⟩
    rw [exec_st, execSt]
    refine issue_next hI hl ((checked_good hon).trans ((store_virtual hs hal hov).trans ?_))
    rw [← hk, ← hwatch]
    exact hstore

end Sys2Proof.Machine

/-! LOCK.ACQ and LOCK.REL. -/

namespace Sys2Proof.Machine

theorem leBytes_leNat (bs : List Byte) : leBytes bs.length (leNat bs) = bs := by
  induction bs with
  | nil => rfl
  | cons b r ih =>
    have hb : b.toNat < 256 := b.isLt
    have hhead : BitVec.ofNat 8 (b.toNat + 256 * leNat r) = b := BitVec.eq_of_toNat_eq (by rw [BitVec.toNat_ofNat]; omega)
    have htail : (b.toNat + 256 * leNat r) / 256 = leNat r := by omega
    rw [leNat, List.length_cons, leBytes, hhead, htail, ih]

/-- A word written back as it was read changes no byte. -/
theorem cellsWrite_back (ls : List Host.Cell) (a n x : Nat) :
    mapGet (0 : Byte) (cellsWrite ls a (leBytes n (leNat (cellsRead ls a n)))) x = mapGet (0 : Byte) ls x := by
  have hlen : (cellsRead ls a n).length = n := by simp [cellsRead]
  have hback : leBytes n (leNat (cellsRead ls a n)) = cellsRead ls a n := by
    have := leBytes_leNat (cellsRead ls a n)
    rwa [hlen] at this
  by_cases hx : x < a ∨ a + n ≤ x
  · exact cellsWrite_other _ _ _ _ (by rwa [leBytes_length])
  · have hin : x - a < (cellsRead ls a n).length := by omega
    have h := cellsWrite_same (cellsRead ls a n) ls a (x - a) hin
    have hread : (cellsRead ls a n)[x - a] = mapGet (0 : Byte) ls (a + (x - a)) := by
      simp only [cellsRead, List.getElem_map, List.getElem_range]
    rw [hread, show a + (x - a) = x by omega] at h
    rw [hback, h]

theorem invalidate_now (s : State) (core scope : Nat) : (s.invalidate core scope).now = s.now := by
  unfold State.invalidate
  split
  · rfl
  · refine (apply_ite State.now _ _ _).trans ?_
    rw [State.count_now]
    exact ite_self _

theorem eq_laneBit {m : Lanes} {l : Nat} (h : lanesOf m = [l]) : m = laneBit l := by
  have hmem : ∀ j, m.getLsbD j = decide (l = j) := fun j => by
    have : m.getLsbD j = true ↔ j ∈ lanesOf m := mem_lanesOf.symm
    rw [h, List.mem_singleton] at this
    exact Bool.eq_iff_iff.mpr (by rw [this, decide_eq_true_iff, eq_comm])
  refine BitVec.eq_of_getLsbD_eq fun j hj => ?_
  rw [getLsbD_laneBit, hmem, decide_eq_true hj, Bool.true_and]

/-- A write of a predicate changes the predicates alone. -/
theorem setPred_preds (g : Group) (p : Nat) (m v : Lanes) : ∃ q, g.setPred p m v = { g with preds := q } := by
  unfold Group.setPred
  split
  · exact ⟨g.preds, rfl⟩
  · exact ⟨_, rfl⟩

/-- What Table 02.4 and R23 allow LOCK.ACQ and LOCK.REL. -/
def lockLegal (w : IWord) (gr : Group) : Bool :=
  scopeOk w && decide (bits (modNat w) 3 3 = 0) && (spaceOf (bits (modNat w) 6 2)).isSome &&
    regsOk [raUse w ((spaceOf (bits (modNat w) 6 2)).getD .virt)] gr

@[simp] theorem laddr_seen (w : IWord) (h : Here) (l : Nat) : laddr w h.seen l = laddr w h.grp l := rfl
@[simp] theorem vaddr_seen (w : IWord) (h : Here) (l : Nat) : vaddr w h.seen l = vaddr w h.grp l := rfl
@[simp] theorem State.issued_dev (s : State) (g : GRef) (h : Here) : (s.issued g h).dev = s.dev := rfl

section
variable {s : State} {g : GRef} {h : Here} {p : Path} {w : IWord} {sp : Space} {l a own old : Nat}

/-- The attempt of one lane on a lock word of a local space, up to its outcome (R43). -/
theorem acq_local (hI : s.Issues g h p) (hl : lanesOf (h.active p w) = [l]) (hlegal : lockLegal w h.grp = true)
    (hs : spaceOf (bits (modNat w) 6 2) = some sp) (hv : sp ≠ .virt)
    (hc : localCheck (spaceRange h.img g.slot.val sp) 4 [laddr w h.grp l] = 0)
    (ha : (spaceRange h.img g.slot.val sp).1 + laddr w h.grp l = a) (hown : lockTag s.dev.deviceId g.core.val g.slot.val l = own)
    (hold : leNat (cellsRead h.img.ls a 4) = old) :
    exec (.lockAcq g w) s = .next (
      if lockOutcome own old = 2 then s.faulted g h p Code.lockMisuse
      else
        let r := finishLock ((s.issued g h).updImg h.ctx g.core.val (fun m => { m with
          ls := cellsWrite h.img.ls a (leBytes 4 (if old = 0 then own else old)) })) h.seen g.core.val w.pd.toNat (scopeOf w)
          (if lockOutcome own old = 0 then laneBit l else 0) (h.active p w)
          (if lockOutcome own old = 0 then false else tagOutside s.dev.deviceId g.core.val g.slot.val old)
        ({ s.sees g h p w with s := r.1 } : Iss).put r.2) := by
  have hon : h.active p w ≠ 0 := fun h0 => by rw [lanesOf_eq_nil.mpr h0] at hl; cases hl
  rw [exec_lockAcq]
  unfold execLockAcq
  refine issue_next hI hlegal ((if_neg hon).trans ?_)
  rw [hs]
  have hatom : lsAtom h.img.ls a .cas 1 0 own = (cellsWrite h.img.ls a (leBytes 4 (if old = 0 then own else old)), old) := by
    subst hold; rfl
  have hout : lockOutcome own old = 0 ∨ lockOutcome own old = 1 ∨ lockOutcome own old = 2 := by
    unfold lockOutcome; split_ifs <;> simp
  cases sp with
  | virt => exact absurd rfl hv
  | group | core =>
    simp only [State.sees_act, hl, List.map_cons, List.map_nil, List.foldl_cons, List.foldl_nil, State.sees_slot, State.sees_grp,
      State.sees_img, State.sees_s, State.sees_core, State.sees_ctx, laddr_seen, State.issued_dev, hc, ha, hown, hatom]
    rcases hout with hout | hout | hout
    · simp [hout]
    · simp [hout]
    · simp [hout]; rfl

/-- Every active lane has the lock: the path goes on, the back-off over (R43, R237). -/
theorem finishLock_all {t : State} {gr : Group} {core pd scope : Nat} {all : Lanes} {out : Bool} (hrun : gr.run = some p)
    (hall : all ≠ 0) (hwait : gr.wait = .none) : finishLock t gr core pd scope all all out =
      (t.invalidate core scope, { gr.setPred pd all all with
        run := some { p with pc := p.next, retry := false }, backoff := 0, wdog := t.now }) := by
  have hfail : all &&& ~~~all = 0 := BitVec.and_not_self _
  obtain ⟨q, hq⟩ := setPred_preds gr pd all all
  unfold finishLock
  simp only [hrun, hfail, if_true, if_neg hall, invalidate_now, hq, ← hwait]
  rfl

/-- No lane has the lock and other lanes of the path go on without them (R43, R44). -/
theorem finishLock_part {t : State} {gr : Group} {core pd scope : Nat} {all : Lanes} {out : Bool} (hrun : gr.run = some p)
    (hall : all ≠ 0) (hwait : gr.wait = .none) (hrest : p.mask &&& ~~~all ≠ 0) : finishLock t gr core pd scope 0 all out =
      (t, { gr.setPred pd all 0 with
        run := some { p with pc := p.next, mask := p.mask &&& ~~~all, retry := false }
        parked := gr.parked ++ [{ pc := p.pc, mask := all, fid := p.fid, tried := false, outside := out }] }) := by
  have hfail : all &&& ~~~(0 : Lanes) = all := (and_not_eq_self all 0).mpr BitVec.and_zero
  obtain ⟨q, hq⟩ := setPred_preds gr pd all 0
  have hcont : (p.mask &&& ~~~all == 0) = false := beq_eq_false_iff_ne.mpr hrest
  unfold finishLock
  simp only [hrun, hfail, if_true, if_neg hall, if_pos hrest, hcont, hq, ← hwait]
  rfl

/-- The whole path parks (R43, R44). -/
theorem finishLock_whole {t : State} {gr : Group} {core pd scope : Nat} {all : Lanes} {out : Bool} (hrun : gr.run = some p)
    (hall : all ≠ 0) (hwait : gr.wait = .none) (hrest : p.mask &&& ~~~all = 0) : finishLock t gr core pd scope 0 all out =
      (t, { gr.setPred pd all 0 with
        run := none
        parked := (if p.retry then gr.parked else gr.parked.map (fun k => { k with tried := false })) ++
          [{ pc := p.pc, mask := all, fid := p.fid, tried := true, outside := out }] }) := by
  have hfail : all &&& ~~~(0 : Lanes) = all := (and_not_eq_self all 0).mpr BitVec.and_zero
  obtain ⟨q, hq⟩ := setPred_preds gr pd all 0
  unfold finishLock
  simp only [hrun, hfail, if_true, if_neg hall, hrest, ne_eq, not_true_eq_false, if_false, hq, ← hwait]
  rfl

/-- A group put back after an instruction that also changed the state around it: progress when its mask changed (R48). -/
theorem put_at_same {t : State} {gr : Group} (hm : gr.run.isNone ∨ gr.run.map Path.mask = some p.mask) :
    ({ s.sees g h p w with s := t } : Iss).put gr = t.putGroup h.ctx g.core.val g.slot.val gr :=
  congrArg (t.putGroup h.ctx g.core.val g.slot.val) (if_pos hm)

theorem put_at_other {t : State} {gr : Group} {q : Path} (hq : gr.run = some q) (hm : q.mask ≠ p.mask) :
    ({ s.sees g h p w with s := t } : Iss).put gr = t.putGroup h.ctx g.core.val g.slot.val { gr with wdog := t.now } :=
  congrArg (t.putGroup h.ctx g.core.val g.slot.val) (if_neg (by simp [hq, hm]))

/-- The release of one lane's lock in a local space, no write it waits for being out (R46). -/
theorem rel_local (hI : s.Issues g h p) (hl : lanesOf (h.active p w) = [l]) (hlegal : lockLegal w h.grp = true)
    (hs : spaceOf (bits (modNat w) 6 2) = some sp) (hv : sp ≠ .virt)
    (hc : localCheck (spaceRange h.img g.slot.val sp) 4 [laddr w h.grp l] = 0)
    (ha : (spaceRange h.img g.slot.val sp).1 + laddr w h.grp l = a) (hown : lockTag s.dev.deviceId g.core.val g.slot.val l = own)
    (hold : leNat (cellsRead h.img.ls a 4) = old) (hout : (s.sees g h p w).writesOut (scopeOf w) = []) :
    exec (.lockRel g w) s = .next (
      if old = own then ({ s.sees g h p w with s := (s.issued g h).updImg h.ctx g.core.val (fun m => { m with
          ls := cellsWrite h.img.ls a (leBytes 4 0) }) } : Iss).retireP h.seen
      else s.faulted g h p Code.lockMisuse) := by
  have hon : h.active p w ≠ 0 := fun h0 => by rw [lanesOf_eq_nil.mpr h0] at hl; cases hl
  rw [exec_lockRel]
  unfold execLockRel
  refine issue_next hI hlegal ((if_neg hon).trans ?_)
  rw [hs]
  have hunlock : unlockLocal s.dev.deviceId g.core.val g.slot.val h.img.ls [(l, a)] =
      if old = own then some (cellsWrite h.img.ls a (leBytes 4 0)) else none := by
    subst hold hown; rfl
  cases sp with
  | virt => exact absurd rfl hv
  | group | core =>
    simp only [State.sees_act, hl, List.map_cons, List.map_nil, State.sees_slot, State.sees_grp,
      State.sees_img, State.sees_s, State.sees_core, State.sees_ctx, laddr_seen, State.issued_dev, hc, ha, hunlock, hout]
    by_cases how : old = own
    · simp [how]
    · simp [how]; rfl

/-- LOCK.ACQ in virtual space: the lowest lane's attempt (R43, R234). -/
theorem acq_virtual {ds : List (Nat × Dest)} {as : List (Nat × Nat)} {e : Nat × Nat} {rest : List (Nat × Nat)} {d : Nat × Dest} {i : Iss}
    (hI : s.Issues g h p) (hon : h.active p w ≠ 0) (hlegal : lockLegal w h.grp = true) (hs : spaceOf (bits (modNat w) 6 2) = some .virt)
    (has : h.addrs p w (vaddr w h.grp) = as) (hi : (s.sees g h p w).watch 2 (as.map (fun e => (e.1, e.2, 4))) = i)
    (hal : ∀ e ∈ as, e.2 % 4 = 0) (hoff : ds.any (fun d => destOff d.2) = false)
    (hx : (s.issued g h).xlateAll h.ctx .both (as.map Prod.snd) = (0, ds)) (hcons : as = e :: rest) (hd : ds.head? = some d) :
    let q := i.asks (ds.foldl (fun (t : State) d => i.bypass t d.2) i.s)
      [(MemOp.at .cas 1 0 (lockTag s.dev.deviceId g.core.val g.slot.val e.1) true, d.2, e.2)] false true false false
    exec (.lockAcq g w) s = .next (i.waits q.1 i.grp q.2 (.lock w.pd.toNat (scopeOf w) e.1 rest 0 (h.active p w) false)) := by
  intro q
  have hal' : ¬ as.any (fun e => decide (e.2 % 4 ≠ 0)) = true := by simpa using fun a b hab => hal (a, b) hab
  have hzip : List.zip as ds = (e, d) :: List.zip rest ds.tail := by
    rw [hcons, ← List.cons_head?_tail hd]; rfl
  have hrest : (List.zip rest ds.tail).map (fun x => x.1) = rest := by
    have hlen : ds.length = as.length := by rw [← List.length_map (f := Prod.fst), xlateAll_fst hx, List.length_map]
    refine List.map_fst_zip ?_
    rw [List.length_tail, hlen, hcons, List.length_cons]; omega
  have hact : i.act = h.active p w := by
    obtain ⟨hits, halt, hw⟩ := watch_eq (s.sees g h p w) 2 (as.map (fun e => (e.1, e.2, 4)))
    rw [← hi, hw]; rfl
  rw [exec_lockAcq]
  unfold execLockAcq
  refine issue_next hI hlegal ((if_neg hon).trans ?_)
  rw [hs]
  simp only [State.sees_act, State.sees_grp, State.sees_s, State.sees_core, State.sees_slot, State.issued_dev, vaddr_seen,
    show (lanesOf (h.active p w)).map (fun l => (l, vaddr w h.grp l)) = as from has, if_neg hal',
    atomDests_fine (i := s.sees g h p w) hx hoff, hi, hzip, hrest, hact]
  rfl

/-- LOCK.REL in virtual space: one release a lane (R46, R234). -/
theorem rel_virtual {ds : List (Nat × Dest)} {as : List (Nat × Nat)} {i : Iss}
    (hI : s.Issues g h p) (hon : h.active p w ≠ 0) (hlegal : lockLegal w h.grp = true) (hs : spaceOf (bits (modNat w) 6 2) = some .virt)
    (has : h.addrs p w (vaddr w h.grp) = as) (hi : (s.sees g h p w).watch 2 (as.map (fun e => (e.1, e.2, 4))) = i)
    (hal : ∀ e ∈ as, e.2 % 4 = 0) (hoff : ds.any (fun d => destOff d.2) = false)
    (hx : (s.issued g h).xlateAll h.ctx .both (as.map Prod.snd) = (0, ds))
    (hout : ({ i with s := ds.foldl (fun (t : State) d => i.bypass t d.2) i.s } : Iss).writesOut (scopeOf w) = []) :
    let q := i.asks (ds.foldl (fun (t : State) d => i.bypass t d.2) i.s) ((List.zip as ds).map (fun e =>
      (MemOp.at .cas 1 (lockTag s.dev.deviceId g.core.val g.slot.val e.1.1) 0 true, e.2.2, e.1.2))) false true false false
    exec (.lockRel g w) s = .next (i.issues q.1 i.grp q.2 .issue) := by
  intro q
  have hal' : ¬ as.any (fun e => decide (e.2 % 4 ≠ 0)) = true := by simpa using fun a b hab => hal (a, b) hab
  rw [exec_lockRel]
  unfold execLockRel
  refine issue_next hI hlegal ((if_neg hon).trans ?_)
  rw [hs]
  simp only [State.sees_act, State.sees_grp, State.sees_s, State.sees_core, State.sees_slot, State.issued_dev, vaddr_seen,
    show (lanesOf (h.active p w)).map (fun l => (l, vaddr w h.grp l)) = as from has, if_neg hal',
    atomDests_fine (i := s.sees g h p w) hx hoff, hi, hout]
  rfl

end

/-- Settles O25: a lock of a local space by the outcome of its one lane, a lock of virtual space by its requests. -/
theorem locks : Obligations.Locks := by
  refine ⟨fun s g h p w sp l hI hl hlo hhi hz hs hv hr => ?_, fun s g h p w ds hI hon hlo hhi hr => ?_⟩
  · intro a hal hin own old
    obtain ⟨-, -, hrun, hready, -⟩ := issuer_spec hI
    have hp : h.seen.run = some p := hrun
    have hwait : h.seen.wait = .none := (ready_spec hready).1
    have hon : h.active p w ≠ 0 := fun h0 => by rw [lanesOf_eq_nil.mpr h0] at hl; cases hl
    have hbit : h.active p w = laneBit l := eq_laneBit hl
    have hlegal : lockLegal w h.grp = true := by
      simp only [lockLegal, scopeOk, scopeOf, hlo, hhi, and_self, hz, hs, Option.isSome_some, Option.getD_some, raUse_local hv, decide_true,
        Bool.true_and]
      exact hr
    have hc : localCheck (spaceRange h.img g.slot.val sp) 4 [laddr w h.grp l] = 0 :=
      localCheck_fine fun o ho => by rw [List.mem_singleton.mp ho]; exact ⟨hal, hin⟩
    have hown : own ≠ 0 := by simp only [own, lockTag]; omega
    have hacq := acq_local hI hl hlegal hs hv hc (a := a) (own := own) (old := old) rfl rfl rfl
    let t : State := (s.issued g h).updImg h.ctx g.core.val (fun m => { m with ls := cellsWrite h.img.ls a (leBytes 4 old) })
    have hsame : ∀ x, mapGet (0 : Byte) (t.img h.ctx g.core.val).ls x = mapGet (0 : Byte) h.img.ls x := fun x =>
      (congrArg (fun m : Image => mapGet (0 : Byte) m.ls x) (img_updImg _ _ _ _)).trans (cellsWrite_back h.img.ls a 4 x)
    have hone : old ≠ 0 → old ≠ own → exec (.lockAcq g w) s = .next (
        let r := finishLock t h.seen g.core.val w.pd.toNat (scopeOf w) 0 (h.active p w) (tagOutside s.dev.deviceId g.core.val g.slot.val old)
        ({ s.sees g h p w with s := r.1 } : Iss).put r.2) := fun h0 hne => by
      have : lockOutcome own old = 1 := (if_neg h0).trans (if_neg hne)
      rw [hacq, if_neg (by omega)]
      simp only [this, if_neg h0, one_ne_zero, if_false]
      rfl
    refine ⟨fun h0 => ?_, fun heq => ?_, fun h0 hne other hother hrest => ?_, fun h0 hne hrest => ?_, fun hout heq => ?_, fun hout hne => ?_⟩
    · have hzero : lockOutcome own old = 0 := if_pos h0
      rw [hacq, if_neg (by omega)]
      simp only [hzero, if_true, if_pos h0]
      rw [← hbit, finishLock_all (p := p) hp hon hwait]
      exact congrArg _ (put_at_same (.inr rfl))
    · have htwo : lockOutcome own old = 2 := (if_neg (heq ▸ hown)).trans (if_pos heq)
      rw [hacq, if_pos htwo]
    · subst hother
      have hmask : p.mask &&& ~~~h.active p w ≠ p.mask := fun e =>
        hon ((mask_and_active h p w).symm.trans ((and_not_eq_self _ _).mp e))
      refine ⟨t, ?_, hsame, rfl, rfl⟩
      rw [hone h0 hne, finishLock_part (p := p) hp hon hwait hrest]
      exact congrArg _ (put_at_other rfl hmask)
    · refine ⟨t, ?_, hsame, rfl, rfl⟩
      rw [hone h0 hne, finishLock_whole (p := p) hp hon hwait hrest]
      exact congrArg _ (put_at_same (.inl rfl))
    · rw [rel_local hI hl hlegal hs hv hc rfl rfl rfl hout, if_pos heq]
      exact congrArg _ (retire_eq_at s _ g h p w (gr := { h.seen with wdog := s.now }) hp)
    · rw [rel_local hI hl hlegal hs hv hc rfl rfl rfl hout, if_neg hne]
  · intro as own i t hal hoff hx
    have hscope : scopeOf w = modNat w := by
      simp only [scopeOf, bits, Nat.shiftRight_zero]; omega
    have hs : spaceOf (bits (modNat w) 6 2) = some .virt := by
      rw [show bits (modNat w) 6 2 = 0 by simp only [bits, Nat.shiftRight_eq_div_pow]; omega]; rfl
    have hz : bits (modNat w) 3 3 = 0 := by simp only [bits, Nat.shiftRight_eq_div_pow]; omega
    have hlegal : lockLegal w h.grp = true := by
      simp only [lockLegal, scopeOk, hscope, hlo, hhi, and_self, hz, hs, Option.isSome_some, Option.getD_some, raUse, if_true, decide_true,
        Bool.true_and]
      exact hr
    refine ⟨fun l a rest d has hd => ?_, fun hout => ?_⟩
    · intro q
      have := acq_virtual hI hon hlegal hs (as := as) (i := i) (e := (l, a)) rfl rfl hal hoff hx has hd
      rw [hscope] at this
      exact this
    · rw [← hscope] at hout
      exact rel_virtual hI hon hlegal hs (as := as) (i := i) rfl rfl hal hoff hx hout

end Sys2Proof.Machine

/-! Rows of the object dictionary: a request that is handled as it arrives, and what reporting leaves of the entries. -/

namespace Sys2Proof.Machine

/-! Entries that reporting does not touch. -/

/-- The counters that the report of an event may advance (R443, R445, R455, R456, R461). -/
def reportKeys : List Nat :=
  [dkey 0x7010 0x02, dkey 0x7020 0x06, dkey 0x7020 0x07, dkey 0x7000 0x01, dkey 0x7000 0x02, dkey 0x7030 0x02, dkey 0x7030 0x03,
    dkey 0x7030 0x04]

section
variable {s : State} {key : Nat} (hk : key ∉ reportKeys)
include hk

theorem dv_bump {k n : Nat} (h : k ∈ reportKeys) : (s.bump k n).dv key = s.dv key := by
  have hne : ∀ j ∈ reportKeys, key ≠ j := fun j hj e => hk (e ▸ hj)
  have hlist : key ≠ dkey 0x7010 0x02 := hne _ (by simp [reportKeys])
  unfold State.bump
  split
  · exact State.dv_setDv_other _ _ _ _ (hne k h)
  · dsimp only
    split
    · split
      · exact State.dv_setDv_other _ _ _ _ (hne k h)
      · exact (State.dv_setDv_other _ _ _ _ hlist).trans (State.dv_setDv_other _ _ _ _ (hne k h))
    · exact State.dv_setDv_other _ _ _ _ (hne k h)

theorem dv_stage (y : Yew) : (s.stage y).dv key = s.dv key := by
  unfold State.stage
  split
  · exact dv_bump hk (by simp [reportKeys])
  · split
    · exact dv_bump hk (by simp [reportKeys])
    · dsimp only
      split
      · exact dv_bump hk (by simp [reportKeys])
      · split
        · exact dv_bump hk (by simp [reportKeys])
        · rfl

theorem dv_enqueueAlarm (a : Alarm) : (s.enqueueAlarm a).dv key = s.dv key := by
  have hdrop : ∀ (t : State) p, (t.dropCount p).dv key = t.dv key := fun t p =>
    State.dv_setDv_other _ _ _ _ fun e => hk (by rw [e]; simp [reportKeys])
  unfold State.enqueueAlarm
  dsimp only
  split
  · rfl
  · split
    · exact hdrop _ _
    · exact hdrop _ _

theorem dv_alarm (a : Alarm) : (s.alarm a).1.dv key = s.dv key := by
  unfold State.alarm
  dsimp only
  split
  · exact dv_bump hk (by simp [reportKeys])
  · split
    · exact (dv_enqueueAlarm hk _).trans (dv_bump hk (by simp [reportKeys]))
    · exact dv_bump (s := { s with rep := _ }) hk (by simp [reportKeys])

theorem dv_raiseAs (ev cls unit : Nat) (st : Status) (d0 low : Nat) : (s.raiseAs ev cls unit st d0 low).dv key = s.dv key := by
  unfold State.raiseAs
  dsimp only
  split
  · split
    · exact dv_alarm hk _
    · rfl
  · split
    · exact dv_alarm hk _
    · exact (dv_stage hk _).trans (dv_alarm hk _)

end

/-! Requests that are handled as they arrive. -/

section
variable {s : State} {c : Cls} {key : Nat}

theorem serveN_one {t : State} {r : DReq} (hhand : t.mgmt.hand = none) (hq : t.mgmt.queue = [r]) (hd : t.stalls r = false) :
    t.serveN 1 = (t.updMgmt (fun m => { m with queue := [] })).handle r := by
  unfold State.serveN
  rw [hhand, hq]
  simp only [hd, Bool.false_eq_true, if_false]
  rfl

/-- Nothing waits before a request, so it is handled at once (R396). -/
theorem request_served (hS : s.Serves) (r : DReq) : s.request r = s.handle r := by
  obtain ⟨hrun, hhand, hqueue, hwarn, hfence⟩ := hS
  let t := s.updMgmt (fun m => { m with queue := m.queue ++ [r] })
  have hq : t.mgmt.queue = [r] := by
    show s.mgmt.queue ++ [r] = [r]
    rw [hqueue]; rfl
  have hd : t.stalls r = false := by
    show (r.val.isSome && (s.ioWarned || (s.fencedFlash && _))) = false
    rw [hwarn, hfence]; simp
  have hback : t.updMgmt (fun m => { m with queue := [] }) = s := by
    have : ({ s.mgmt with queue := [] } : Mgmt) = s.mgmt := by rw [← hqueue]
    exact congrArg (fun m => { s with mgmt := m }) this
  have hreq : s.request r = t.serveNext := if_pos (by rw [hrun]; rfl)
  rw [hreq, State.serveNext, hq]
  exact (serveN_one (t := t) hhand hq hd).trans (congrArg (fun u : State => u.handle r) hback)

/-- A row that writes an entry, the write needing no journal. -/
theorem rowWrite_served (hS : s.Serves) {v : List Byte} {u : State} {st : Status}
    (hw : s.writeEntry { cls := c, key := key, val := some v } v = { s := u, st := st }) : rowWrite s c key v = .next (u.answered st) := by
  have hrun : s.running = true := hS.1
  unfold rowWrite
  rw [request_served hS]
  simp only [State.handle, hrun, Bool.not_true, Bool.false_eq_true, if_false, hw]
  rfl

/-- A row that reads an entry. -/
theorem rowRead_served (hS : s.Serves) {u : State} {st : Status} {v : List Byte} (hr : s.dictRead c key = (u, st, v)) :
    rowRead s c key = .next (if v = [] then u.answered st else (u.answered st).emit (.bytes "value" v)) := by
  unfold rowRead
  rw [request_served hS]
  simp only [State.handle, hr]
  rfl

/-- A write that its row allows, to an entry that acts and wants no token (R395, R396). -/
theorem writeEntry_acts {r : DReq} {v : List Byte} {e : Entry} (hsub : keySub r.key ≠ 0) (he : entryAt r.key = some e)
    (hacc : e.acc = .rw ∨ e.acc = .cmd) (hcls : bitAt e.classes 3 = false) (hfit : e.fits v = true) (hmay : mayWrite r.cls r.key = true) :
    s.writeEntry r v = s.actWrite r v := by
  unfold State.writeEntry
  rcases hacc with hacc | hacc
  · simp [hsub, he, hacc, hcls, hfit, hmay]
  · simp [hsub, he, hacc, hcls, hfit, hmay]

end

/-! The rows of debugging (Table 02.7 and 02.8). -/

theorem entryAt_dbgAction : entryAt (dkey 0x4020 0x02) = some
    ⟨"DBG_ACTION", 0x4020, 1, 0x02, 1, 1, .uint, .cmd, 3, 0, 0, 1, (some 3), false⟩ := by decide

theorem entryAt_dbgData : entryAt (dkey 0x4021 0x02) = some
    ⟨"DBG_DATA", 0x4021, 1, 0x02, 1, 128, .octets, .rw, 3, 0, 0, 0, none, false⟩ := by decide

/-- The row of a breakpoint entry (Table 02.8). -/
def bpRow (sub : Nat) : Entry :=
  if sub ≤ 8 then ⟨"BP_ADDR_n", 0x4022, 1, 0x01, 8, 8, .uint, .rw, 3, 0, 0, 0, none, false⟩
  else if sub ≤ 0x10 then ⟨"BP_CTRL_n", 0x4022, 1, 0x09, 8, 4, .uint, .rw, 3, 0, 0, 0, none, false⟩
  else if sub ≤ 0x14 then ⟨"DBP_CTRL_n", 0x4022, 1, 0x11, 4, 4, .uint, .rw, 3, 0, 0, 0, none, false⟩
  else ⟨"DBP_ADDR_n", 0x4022, 1, 0x15, 4, 8, .uint, .rw, 3, 0, 0, 0, none, false⟩

theorem entryOf_bp : ∀ sub ≤ 0x18, 1 ≤ sub → entryOf (dkey 0x4022 sub) = some (bpRow sub) := by decide

theorem entryAt_bp {sub : Nat} (h1 : 1 ≤ sub) (h2 : sub ≤ 0x18) : entryAt (dkey 0x4022 sub) = some (bpRow sub) := by
  have hi : keyIndex (dkey 0x4022 sub) ≠ 0x8100 := by simp only [keyIndex, dkey]; omega
  unfold entryAt
  rw [entryOf_bp sub h2 h1]
  simp [hi]

/-- Every breakpoint row is an unsigned entry of any value that wants no token; its control words have 4 bytes, its addresses 8. -/
theorem bpRow_fields (sub : Nat) : (bpRow sub).acc = .rw ∧ (bpRow sub).classes = 3 ∧ (bpRow sub).lo = 0 ∧ (bpRow sub).hi = none ∧
    (bpRow sub).kind = .uint ∧ (bpRow sub).bytes = if 9 ≤ sub ∧ sub ≤ 0x14 then 4 else 8 := by
  unfold bpRow
  split
  · exact ⟨rfl, rfl, rfl, rfl, rfl, (if_neg (by omega)).symm⟩
  · split
    · exact ⟨rfl, rfl, rfl, rfl, rfl, (if_pos (by omega)).symm⟩
    · split
      · exact ⟨rfl, rfl, rfl, rfl, rfl, (if_pos (by omega)).symm⟩
      · exact ⟨rfl, rfl, rfl, rfl, rfl, (if_neg (by omega)).symm⟩

end Sys2Proof.Machine

/-! Debugging: its authority, halting and resuming. -/

namespace Sys2Proof.Machine

/-! Tables of groups. -/

theorem mapFind_mapSet {α : Type} [DecidableEq α] {d v : α} (m : Map α) (k j : Nat) (hv : v ≠ d) :
    mapFind (mapSet d m k v) j = if j = k then some v else mapFind m j := by
  unfold mapSet
  rw [if_neg hv]
  split
  · next h => subst h; exact mapFind_insert_self _ _ _ (mapFind_erase_self _ _)
  · next h => rw [mapFind_insert_other _ _ _ _ h, mapFind_erase_other _ _ _ h]

theorem mem_of_mapFind {α : Type} {m : Map α} {k : Nat} {v : α} (h : mapFind m k = some v) : (k, v) ∈ m := by
  induction m with
  | nil => cases h
  | cons e r ih =>
    obtain ⟨a, x⟩ := e
    unfold mapFind at h
    split at h
    · next hk => cases h; subst hk; exact List.mem_cons_self
    · exact List.mem_cons_of_mem _ (ih h)

theorem mapFind_map {α β : Type} (f : α → β) (m : Map α) (k : Nat) : mapFind (m.map (fun e => (e.1, f e.2))) k = (mapFind m k).map f := by
  induction m with
  | nil => rfl
  | cons e r ih =>
    obtain ⟨a, x⟩ := e
    simp only [List.map_cons, mapFind]
    split
    · rfl
    · exact ih

/-- A group that is halted, asked to halt or has passed a breakpoint is no empty place of the table. -/
theorem ne_emptyGroup {g : Group} (h : g.halt ≠ {}) : g ≠ emptyGroup := fun e => h (congrArg Group.halt e)

section
variable {s : State} {x n k : Nat} {g : Group}

theorem find_updGroup {f : Group → Group} (hg : mapFind (s.img x n).groups k = some g) (hf : f g ≠ emptyGroup) (j : Nat) :
    mapFind ((s.updGroup x n k f).img x n).groups j = if j = k then some (f g) else mapFind (s.img x n).groups j := by
  unfold State.updGroup
  rw [img_updImg, hg]
  exact mapFind_mapSet _ _ _ hf

theorem find_setGroup (hg : g ≠ emptyGroup) (j : Nat) :
    mapFind ((s.setGroup x n k g).img x n).groups j = if j = k then some g else mapFind (s.img x n).groups j := by
  unfold State.setGroup
  rw [img_updImg]
  exact mapFind_mapSet _ _ _ hg

/-- What the run mode does to a group: it runs on when the freeze mode had halted it (R56). -/
def Group.thawed (g : Group) (now : Nat) : Group := if g.halt.frozen then g.unhalt now else g

theorem thawed_of_free {now : Nat} (h : g.halt.frozen = false) : g.thawed now = g := by simp [Group.thawed, h]

/-- In run mode the groups that the freeze mode halted run on; every other one is as it was (R56). -/
theorem find_freezeSync (hrun : bitAt (s.dv (dkey 0x4020 0x01)) 61 = false) (j : Nat) :
    mapFind ((s.freezeSync x n).img x n).groups j = (mapFind (s.img x n).groups j).map (fun g => g.thawed s.now) := by
  unfold State.freezeSync
  simp only [hrun, Bool.false_and, Bool.false_eq_true, if_false]
  split
  · rw [img_updImg, ← mapFind_map]
    unfold Image.thaw Group.thawed
    congr 1
    refine List.map_congr_left fun e _ => ?_
    split <;> rfl
  · next hany =>
    cases hj : mapFind (s.img x n).groups j with
    | none => rfl
    | some g =>
      have hfree : g.halt.frozen = false := by
        have := mem_of_mapFind hj
        simp only [List.any_eq_true, not_exists, not_and, Bool.not_eq_true] at hany
        exact hany _ this
      rw [Option.map_some, thawed_of_free hfree]

theorem freezeSync_part {γ : Type} {part : State → γ} (h : ∀ t f, part (t.updImg x n f) = part t) : part (s.freezeSync x n) = part s := by
  unfold State.freezeSync
  dsimp only
  split
  · exact h _ _
  · split
    · exact h _ _
    · rfl

end

/-! Authority. -/

/-- The state as an action under authority finds it: its target is held and its context marked as debugged (R54). -/
def State.dbgReady (s : State) : State :=
  let t := { s with dbg := { s.dbg with held := s.dbg.held || s.dbgGroup.isSome } }
  if dbgCtx s.dbgTarget = 4096 then t else t.updCtx (dbgCtx s.dbgTarget) (fun x => { x with debugged := true })

theorem dbgAct_allowed {s : State} (hscope : dbgScope s.dbgTarget ≠ 3) (hok : s.dbgAllowed = true) (c : Cls) (n : Nat)
    (body : State → State × Status) (addr : Nat) :
    s.dbgAct c n body addr = ((body s.dbgReady).1.dbgNote c n addr (body s.dbgReady).2, (body s.dbgReady).2) := by
  unfold State.dbgAct
  simp only [hok, if_neg hscope, if_true]
  rfl

theorem dbgAct_denied {s : State} (hscope : dbgScope s.dbgTarget ≠ 3) (hok : s.dbgAllowed = false) (c : Cls) (n : Nat)
    (body : State → State × Status) (addr : Nat) :
    s.dbgAct c n body addr = (s.dbgNote c n addr Code.debugDenied, Code.debugDenied) := by
  unfold State.dbgAct
  simp only [hok, if_neg hscope, Bool.false_eq_true, if_false]

/-- Only the indications are new. -/
theorem dbgReady_eq (s : State) : ∃ d cs, s.dbgReady = { s with dbg := d, ctxs := cs } ∧ d.bpCtx = s.dbg.bpCtx ∧
    ∀ x, (s.dbgReady.ctx x).leaves = (s.ctx x).leaves ∧ (s.dbgReady.ctx x).grove0 = (s.ctx x).grove0 ∧
      (s.dbgReady.ctx x).groves = (s.ctx x).groves := by
  unfold State.dbgReady
  split
  · exact ⟨_, _, rfl, rfl, fun x => ⟨rfl, rfl, rfl⟩⟩
  · refine ⟨_, _, rfl, rfl, fun x => ?_⟩
    by_cases hx : x = dbgCtx s.dbgTarget
    · subst hx
      simp [State.ctx, State.updCtx, State.setCtx]
    · have hget : ∀ d v, ({ s with dbg := d, ctxs := mapSet {} s.ctxs (dbgCtx s.dbgTarget) v } : State).ctx x = s.ctx x := fun d v =>
        mapGet_set_other _ _ _ _ _ hx
      exact ⟨congrArg Ctx.leaves (hget _ _), congrArg Ctx.grove0 (hget _ _), congrArg Ctx.groves (hget _ _)⟩

/-- What the record of an action leaves (Table 17.3). -/
theorem dbgNote_images (s : State) (c : Cls) (n addr : Nat) (st : Status) : (s.dbgNote c n addr st).images = s.images :=
  State.raiseAs_images _ _ _ _ _ _ _
theorem dbgNote_mem (s : State) (c : Cls) (n addr : Nat) (st : Status) : (s.dbgNote c n addr st).mem = s.mem :=
  State.raiseAs_mem _ _ _ _ _ _ _
theorem dbgNote_dbg (s : State) (c : Cls) (n addr : Nat) (st : Status) : (s.dbgNote c n addr st).dbg = s.dbg :=
  State.raiseAs_dbg _ _ _ _ _ _ _
theorem dbgNote_img (s : State) (c : Cls) (n addr : Nat) (st : Status) (x k : Nat) : (s.dbgNote c n addr st).img x k = s.img x k :=
  congrArg (fun m : Map Image => mapGet ({} : Image) m (imgKey x k)) (dbgNote_images s c n addr st)
theorem dbgNote_dv (s : State) (c : Cls) (n addr : Nat) (st : Status) {key : Nat} (hk : key ∉ reportKeys) :
    (s.dbgNote c n addr st).dv key = s.dv key := dv_raiseAs hk _ _ _ _ _ _

/-! The rows. -/

section
variable {s : State} {c : Cls}

/-- The rows of debugging that act when they are written. -/
theorem actWrite_dbg {key : Nat} (v : List Byte) (hctx : (isCtxIndex (keyIndex key) || keyIndex key == 0x8100) = false)
    (htarget : key ≠ dkey 0x4020 0x01) (hrow : key = dkey 0x4020 0x02 ∨ key = dkey 0x4021 0x02 ∨ keyIndex key = 0x4022) :
    s.actWrite { cls := c, key := key, val := some v } v = ofPair (
      if key = dkey 0x4020 0x02 then s.actionWrite c (leNat v)
      else if key = dkey 0x4021 0x02 then s.dbgWrite c v
      else s.bpWrite c (keySub key) (leNat v)) := by
  unfold State.actWrite
  dsimp only
  rw [if_neg (by rw [hctx]; exact Bool.false_ne_true), if_neg htarget]
  by_cases h2 : key = dkey 0x4020 0x02
  · rw [if_pos h2, if_pos h2]
  · rw [if_neg h2, if_neg h2]
    by_cases h3 : key = dkey 0x4021 0x02
    · rw [if_pos h3, if_pos h3]
    · rw [if_neg h3, if_neg h3, if_pos ((hrow.resolve_left h2).resolve_left h3)]

theorem actWrite_action (v : List Byte) :
    s.actWrite { cls := c, key := dkey 0x4020 0x02, val := some v } v = ofPair (s.actionWrite c (leNat v)) :=
  (actWrite_dbg v (by decide) (by decide) (.inl rfl)).trans (congrArg ofPair (if_pos rfl))

theorem actWrite_data (v : List Byte) :
    s.actWrite { cls := c, key := dkey 0x4021 0x02, val := some v } v = ofPair (s.dbgWrite c v) :=
  (actWrite_dbg v (by decide) (by decide) (.inr (.inl rfl))).trans
    (congrArg ofPair ((if_neg (by decide)).trans (if_pos rfl)))

theorem actWrite_bp {sub : Nat} (h : sub ≤ 0x18) (v : List Byte) :
    s.actWrite { cls := c, key := dkey 0x4022 sub, val := some v } v = ofPair (s.bpWrite c sub (leNat v)) := by
  have hidx : keyIndex (dkey 0x4022 sub) = 0x4022 := by simp only [keyIndex, dkey]; omega
  have hsub : keySub (dkey 0x4022 sub) = sub := by simp only [keySub, dkey]; omega
  have hne : ∀ i b, b < 256 → i ≠ 0x4022 → dkey 0x4022 sub ≠ dkey i b := fun i b hb hi => by simp only [dkey]; omega
  rw [actWrite_dbg v (by rw [hidx]; decide) (hne _ _ (by decide) (by decide)) (.inr (.inr hidx)), hsub,
    if_neg (hne _ _ (by decide) (by decide)), if_neg (hne _ _ (by decide) (by decide))]

/-- DBG_ACTION (R54, R55, R58). -/
theorem exec_dbgAction (hS : s.Serves) (hmay : mayWrite c (dkey 0x4020 0x02) = true) {i : Instr} {n : Nat}
    (hi : (i = .dbgHalt c ∧ n = 1) ∨ (i = .dbgResume c ∧ n = 2) ∨ (i = .dbgStep c ∧ n = 3)) :
    exec i s = .next ((s.actionWrite c n).1.answered (s.actionWrite c n).2) := by
  have hrow : ∀ b : Byte, b = 1 ∨ b = 2 ∨ b = 3 → rowWrite s c (dkey 0x4020 0x02) [b] =
      .next ((s.actionWrite c (leNat [b])).1.answered (s.actionWrite c (leNat [b])).2) := fun b hb => by
    refine rowWrite_served hS ((writeEntry_acts (show keySub (dkey 0x4020 0x02) ≠ 0 by decide) entryAt_dbgAction (.inr rfl) rfl ?_ hmay).trans (actWrite_action _))
    rcases hb with rfl | rfl | rfl <;> rfl
  rcases hi with ⟨rfl, rfl⟩ | ⟨rfl, rfl⟩ | ⟨rfl, rfl⟩
  · exact hrow 1 (by simp)
  · exact hrow 2 (by simp)
  · exact hrow 3 (by simp)

end

end Sys2Proof.Machine

/-! Debugging: registers, predicates and local store of a halted group, and breakpoints (R57, R59). -/

namespace Sys2Proof.Machine

/-! Lists of bytes. -/

theorem leNat_leBytes (n v : Nat) : leNat (leBytes n v) = v % 256 ^ n := by
  induction n generalizing v with
  | zero => simp [leBytes, leNat, Nat.mod_one]
  | succ n ih =>
    rw [leBytes, leNat, ih, BitVec.toNat_ofNat, pow_succ 256, Nat.mul_comm (256 ^ n), Nat.mod_mul]

theorem length_flatMap_all {α β : Type} {f : α → List β} {m : Nat} (hf : ∀ a, (f a).length = m) (as : List α) :
    (as.flatMap f).length = m * as.length := by
  induction as with
  | nil => rfl
  | cons a as ih => rw [List.flatMap_cons, List.length_append, ih, hf, List.length_cons, Nat.mul_succ, Nat.add_comm]

/-- Pieces of one length, one after another. -/
theorem piece_flatMap {α β : Type} {f : α → List β} {m : Nat} (hf : ∀ a, (f a).length = m) (as : List α) (l : Nat)
    (hl : l < as.length) (rest : List β) : (((as.flatMap f) ++ rest).drop (m * l)).take m = f as[l] := by
  induction as generalizing l with
  | nil => exact absurd hl (Nat.not_lt_zero _)
  | cons a as ih =>
    rw [List.flatMap_cons, List.append_assoc]
    cases l with
    | zero => rw [Nat.mul_zero, List.drop_zero, ← hf a, List.take_left]; rfl
    | succ l =>
      rw [Nat.mul_succ, Nat.add_comm, ← List.drop_drop, ← hf a, List.drop_left, hf a]
      exact ih l (Nat.lt_of_succ_lt_succ hl)

theorem length_pad128 {bs : List Byte} (h : bs.length ≤ 128) : (pad128 bs).length = 128 := by
  rw [pad128, List.length_append, List.length_replicate]; omega

/-! What the rows do. -/

section
variable {s : State} {c : Cls}

theorem exec_dbgData_read (hS : s.Serves) (hmay : mayRead c (dkey 0x4021 0x02) = true) {u : State} {st : Status} {v : List Byte}
    (hr : s.dbgRead c = (u, st, v)) :
    exec (.dbgDataRead c) s = .next (if v = [] then u.answered st else (u.answered st).emit (.bytes "value" v)) := by
  refine rowRead_served hS ?_
  unfold State.dictRead
  rw [if_neg (show keySub (dkey 0x4021 0x02) ≠ 0 by decide), hmay, hr]
  simp

theorem exec_dbgData_write (hS : s.Serves) (hmay : mayWrite c (dkey 0x4021 0x02) = true) {v : List Byte} (hv : v.length = 128) :
    exec (.dbgDataWrite c v) s = .next ((s.dbgWrite c v).1.answered (s.dbgWrite c v).2) := by
  refine rowWrite_served hS ((writeEntry_acts (show keySub (dkey 0x4021 0x02) ≠ 0 by decide) entryAt_dbgData (.inl rfl) rfl ?_ hmay).trans
    (actWrite_data v))
  simp [Entry.fits, hv]

/-- The number of bytes a breakpoint entry keeps of a value. -/
def bpKept (sub : Nat) (v : BitVec 64) : Nat := if 9 ≤ sub ∧ sub ≤ 0x14 then v.toNat % 2 ^ 32 else v.toNat

theorem exec_breakpoint (hS : s.Serves) {sub : Nat} (h1 : 1 ≤ sub) (h2 : sub ≤ 0x18) (hmay : mayWrite c (dkey 0x4022 sub) = true)
    (v : BitVec 64) : exec (.breakpointWrite c sub v) s =
      .next ((s.bpWrite c sub (bpKept sub v)).1.answered (s.bpWrite c sub (bpKept sub v)).2) := by
  obtain ⟨hacc, hcls, hlo, hhi, hkind, hlen⟩ := bpRow_fields sub
  have hsub : keySub (dkey 0x4022 sub) = sub := by simp only [keySub, dkey]; omega
  have hbytes : entryBytes (dkey 0x4022 sub) = (bpRow sub).bytes := by
    unfold entryBytes; rw [entryOf_bp sub h2 h1]; rfl
  have hkept : leNat (leBytes (bpRow sub).bytes v.toNat) = bpKept sub v := by
    have hv := v.isLt
    rw [leNat_leBytes, hlen, bpKept]
    split
    · norm_num
    · exact Nat.mod_eq_of_lt (by norm_num at hv ⊢; exact hv)
  have hrow := rowWrite_served hS ((writeEntry_acts (s := s) (r := { cls := c, key := dkey 0x4022 sub, val := some _ })
    (v := leBytes (bpRow sub).bytes v.toNat) (e := bpRow sub) (by rw [hsub]; omega) (entryAt_bp h1 h2) (.inl hacc)
    (by rw [hcls]; rfl) (by simp [Entry.fits, leBytes_length, hlo, hhi, hkind]) hmay).trans (actWrite_bp h2 _))
  rw [hkept] at hrow
  rw [exec_breakpointWrite, execBreakpointWrite, hbytes]
  exact hrow

end

/-! Registers and predicates written lane by lane. -/

theorem reg_setReg (g : Group) (q k : Nat) (v : Word) (r : Nat) {l : Nat} (hl : l < 32) (hk : k < 32) :
    (g.setReg q k v).reg r l = if r = q ∧ l = k ∧ r ≠ 0 then v else g.reg r l := by
  by_cases hr : r = 0
  · rw [if_neg (by omega), Group.reg, if_pos hr, Group.reg, if_pos hr]
  · by_cases hq : q = 0
    · rw [if_neg (by omega), Group.setReg, if_pos hq]
    · rw [Group.setReg, if_neg hq, Group.reg, if_neg hr, Group.reg, if_neg hr]
      by_cases hx : r = q ∧ l = k
      · obtain ⟨rfl, rfl⟩ := hx
        rw [if_pos ⟨rfl, rfl, hr⟩]
        exact mapGet_set_self _ _ _ _
      · rw [if_neg (fun h => hx ⟨h.1, h.2.1⟩)]
        exact mapGet_set_other _ _ _ _ _ (by omega)

/-- A register written in the lanes below n. -/
theorem setReg_lanes (g : Group) (q : Nat) (f : Nat → Word) (n : Nat) (hn : n ≤ 32) :
    ∃ rs, (List.range n).foldl (fun g l => g.setReg q l (f l)) g = { g with regs := rs } ∧
      ∀ r, ∀ l < 32, Group.reg { g with regs := rs } r l = if r = q ∧ r ≠ 0 ∧ l < n then f l else g.reg r l := by
  induction n with
  | zero => exact ⟨g.regs, rfl, fun r l _ => (if_neg (by omega)).symm⟩
  | succ n ih =>
    obtain ⟨rs, heq, hreg⟩ := ih (by omega)
    have hset : ∃ rs', Group.setReg { g with regs := rs } q n (f n) = { g with regs := rs' } := by
      unfold Group.setReg
      split
      · exact ⟨rs, rfl⟩
      · exact ⟨_, rfl⟩
    obtain ⟨rs', hset⟩ := hset
    refine ⟨rs', by rw [List.range_succ, List.foldl_append, heq]; exact hset, fun r l hl => ?_⟩
    rw [← hset, reg_setReg _ _ _ _ _ hl (by omega), hreg r l hl]
    by_cases hx : r = q ∧ l = n ∧ r ≠ 0
    · rw [if_pos hx, if_pos (by omega), hx.2.1]
    · rw [if_neg hx]
      exact if_congr (by omega) rfl rfl

theorem pred_setPred_all (g : Group) (p : Nat) (v : Lanes) (q : Nat) :
    (g.setPred p 0xFFFFFFFF v).pred q = if q = p ∧ q ≠ 0 then v else g.pred q := by
  by_cases hq : q = 0
  · rw [if_neg (by omega), Group.pred, if_pos hq, Group.pred, if_pos hq]
  · by_cases hp : p = 0
    · rw [if_neg (by omega), Group.setPred, if_pos hp]
    · have hall : ∀ x : Lanes, (x &&& ~~~(0xFFFFFFFF : Lanes)) ||| (v &&& 0xFFFFFFFF) = v := fun x => by
        rw [show (~~~(0xFFFFFFFF : Lanes)) = 0#32 by decide, BitVec.and_zero, BitVec.zero_or,
          show (0xFFFFFFFF : Lanes) = BitVec.allOnes 32 by decide, BitVec.and_allOnes]
      rw [Group.setPred, if_neg hp, hall, Group.pred, if_neg hq]
      by_cases hx : q = p
      · subst hx
        rw [if_pos ⟨rfl, hq⟩]
        exact mapGet_set_self _ _ _ _
      · rw [if_neg (fun h => hx h.1), Group.pred, if_neg hq]
        exact mapGet_set_other _ _ _ _ _ hx

/-- The predicates below n written in every lane. -/
theorem setPred_all (g : Group) (f : Nat → Lanes) (n : Nat) :
    ∃ ps, (List.range n).foldl (fun g p => g.setPred p 0xFFFFFFFF (f p)) g = { g with preds := ps } ∧
      ∀ p, Group.pred { g with preds := ps } p = if p ≠ 0 ∧ p < n then f p else g.pred p := by
  induction n with
  | zero => exact ⟨g.preds, rfl, fun p => (if_neg (by omega)).symm⟩
  | succ n ih =>
    obtain ⟨ps, heq, hpred⟩ := ih
    obtain ⟨ps', hset⟩ := setPred_preds { g with preds := ps } n 0xFFFFFFFF (f n)
    refine ⟨ps', by rw [List.range_succ, List.foldl_append, heq]; exact hset, fun p => ?_⟩
    have hnew : Group.pred { g with preds := ps' } p = _ := (congrArg (fun g => Group.pred g p) hset.symm).trans (pred_setPred_all _ _ _ _)
    rw [hnew, hpred p]
    by_cases hx : p = n ∧ p ≠ 0
    · rw [if_pos hx, if_pos (by omega), hx.1]
    · rw [if_neg hx]
      exact if_congr (by omega) rfl rfl

end Sys2Proof.Machine

/-! Debugging: halt, resume and step of one group (R55, R58). -/

namespace Sys2Proof.Machine

/-! The action's state. -/

section
variable (s : State)

theorem dbgReady_part {γ : Type} {part : State → γ} (hd : ∀ (t : State) d, part { t with dbg := d } = part t)
    (hc : ∀ (t : State) x f, part (t.updCtx x f) = part t) : part s.dbgReady = part s := by
  unfold State.dbgReady
  dsimp only
  split
  · exact hd _ _
  · exact (hc _ _ _).trans (hd _ _)

theorem dbgReady_images : s.dbgReady.images = s.images := dbgReady_part s (fun _ _ => rfl) (fun _ _ _ => rfl)
theorem dbgReady_mem : s.dbgReady.mem = s.mem := dbgReady_part s (fun _ _ => rfl) (fun _ _ _ => rfl)
theorem dbgReady_now : s.dbgReady.now = s.now := dbgReady_part s (fun _ _ => rfl) (fun _ _ _ => rfl)
theorem dbgReady_dv : s.dbgReady.dv = s.dv := dbgReady_part s (fun _ _ => rfl) (fun _ _ _ => rfl)
theorem dbgReady_img (x n : Nat) : s.dbgReady.img x n = s.img x n := congrArg (fun m => mapGet ({} : Image) m (imgKey x n)) (dbgReady_images s)
theorem dbgReady_target : s.dbgReady.dbgTarget = s.dbgTarget := congrFun (dbgReady_dv s) _
theorem dbgReady_group : s.dbgReady.dbgGroup = s.dbgGroup := dbgReady_part s (fun _ _ => rfl) (fun _ _ _ => rfl)

/-- The register DBG_ACTION keeps its last value and changes nothing else. -/
theorem setAction_dv {key : Nat} (h : key ≠ dkey 0x4020 0x02) (n : Nat) : (s.setDv (dkey 0x4020 0x02) n).dv key = s.dv key :=
  State.dv_setDv_other _ _ _ _ h
theorem setAction_target (n : Nat) : (s.setDv (dkey 0x4020 0x02) n).dbgTarget = s.dbgTarget := setAction_dv s (by decide) n
theorem setAction_group (n : Nat) : (s.setDv (dkey 0x4020 0x02) n).dbgGroup = s.dbgGroup := by
  unfold State.dbgGroup; rw [setAction_target]; rfl
theorem setAction_allowed (n : Nat) : (s.setDv (dkey 0x4020 0x02) n).dbgAllowed = s.dbgAllowed := by
  unfold State.dbgAllowed; rw [setAction_target]; rfl

end

/-! The actions. -/

theorem actionWrite_halt (s : State) (c : Cls) : s.actionWrite c 1 = (s.setDv (dkey 0x4020 0x02) 1).dbgAct c 1
    (fun t => (t.haltAll (dbgCtx t.dbgTarget) t.dbgGroups, 0)) := by
  simp only [State.actionWrite, State.dbgHalt, if_true]

theorem actionWrite_resume (s : State) (c : Cls) : s.actionWrite c 2 = (s.setDv (dkey 0x4020 0x02) 2).dbgAct c 2
    (fun t => (t.resumeAll (dbgCtx t.dbgTarget) t.dbgGroups, 0)) := by
  simp [State.actionWrite, State.dbgResume]

theorem actionWrite_step (s : State) (c : Cls) : s.actionWrite c 3 = (s.setDv (dkey 0x4020 0x02) 3).dbgStep c := by
  simp [State.actionWrite]

theorem askHalt_running {g : Group} (h : g.halt.halted = false) : g.askHalt =
    { g with halt := { g.halt with req := true, frozen := false, cause := if g.halt.req && g.halt.cause == 3 then 3 else 1 } } :=
  if_neg (by rw [h]; exact Bool.false_ne_true)

theorem unhalt_halted {g : Group} {now : Nat} (h : g.halt.halted = true) :
    g.unhalt now = { g with halt := { skip := true }, wdog := g.wdog + (now - g.halt.since) } := if_pos h

/-- The target of an action on one group (Table 02.7). -/
theorem dbgGroups_one {s r : State} {gr : Group} (hscope : dbgScope s.dbgTarget = 0) (hgr : s.dbgGroup = some gr)
    (htarget : r.dbgTarget = s.dbgTarget) (hgroup : r.dbgGroup = s.dbgGroup) :
    r.dbgGroups = [(dbgCore s.dbgTarget, dbgSlot s.dbgTarget)] := by
  simp [State.dbgGroups, htarget, hgroup, hgr, hscope]

/-- The other groups of a core, the freeze mode having halted none of them, are as they were. -/
def State.OthersStay (s t : State) (x n k : Nat) : Prop :=
  ∀ j, j ≠ k → (∀ o, mapFind (s.img x n).groups j = some o → o.halt.frozen = false) →
    mapFind (t.img x n).groups j = mapFind (s.img x n).groups j

/-- In run mode an action leaves its group as it says, and every other one alone. -/
theorem synced_group {s t r : State} {x n k : Nat} {g : Group} (hrun : bitAt (r.dv (dkey 0x4020 0x01)) 61 = false)
    (hr : ∀ j, mapFind (r.img x n).groups j = if j = k then some g else mapFind (s.img x n).groups j) (hfree : g.halt.frozen = false)
    (ht : t.img x n = (r.freezeSync x n).img x n) :
    mapFind (t.img x n).groups k = some g ∧ s.OthersStay t x n k := by
  refine ⟨?_, fun j hj hfr => ?_⟩
  · rw [ht, find_freezeSync hrun, hr, if_pos rfl, Option.map_some, thawed_of_free hfree]
  · rw [ht, find_freezeSync hrun, hr, if_neg hj]
    cases hf : mapFind (s.img x n).groups j with
    | none => rfl
    | some o => rw [Option.map_some, thawed_of_free (hfr o hf)]

section
variable {s : State} {c : Cls} {gr : Group} (hS : s.Serves) (hscope : dbgScope s.dbgTarget = 0) (hmode : bitAt s.dbgTarget 61 = false)
  (hok : s.dbgAllowed = true) (hgr : s.dbgGroup = some gr) (hmay : mayWrite c (dkey 0x4020 0x02) = true)
include hS hscope hok hmay

/-- An action under authority, its record made. -/
theorem exec_action {i : Instr} {n : Nat} {body : State → State × Status}
    (hi : (i = .dbgHalt c ∧ n = 1) ∨ (i = .dbgResume c ∧ n = 2) ∨ (i = .dbgStep c ∧ n = 3))
    (hbody : s.actionWrite c n = (s.setDv (dkey 0x4020 0x02) n).dbgAct c n body) {u : State} {st : Status}
    (hu : body (s.setDv (dkey 0x4020 0x02) n).dbgReady = (u, st)) : exec i s = .next ((u.dbgNote c n 0 st).answered st) := by
  have hne : dbgScope (s.setDv (dkey 0x4020 0x02) n).dbgTarget ≠ 3 := by rw [setAction_target, hscope]; decide
  rw [exec_dbgAction hS hmay hi, hbody, dbgAct_allowed hne ((setAction_allowed s n).trans hok), hu]

/-- One group of the target, given what an action does to it. -/
theorem exec_groupAction {i : Instr} {n : Nat} {f : Group → Group}
    (hi : (i = .dbgHalt c ∧ n = 1) ∨ (i = .dbgResume c ∧ n = 2) ∨ (i = .dbgStep c ∧ n = 3))
    {body : State → State × Status} (hbody : s.actionWrite c n = (s.setDv (dkey 0x4020 0x02) n).dbgAct c n body)
    (hone : ∀ r : State, r.now = s.now → r.dbgTarget = s.dbgTarget → r.dbgGroup = s.dbgGroup → body r =
      ((r.updGroup (dbgCtx s.dbgTarget) (dbgCore s.dbgTarget) (dbgSlot s.dbgTarget) f).freezeSync (dbgCtx s.dbgTarget) (dbgCore s.dbgTarget), 0))
    (hmode : bitAt s.dbgTarget 61 = false) (hgr : s.dbgGroup = some gr) (hne : (f gr).halt ≠ {}) (hfree : (f gr).halt.frozen = false) :
    ∃ t : State, exec i s = .next (t.answered 0) ∧
      mapFind (t.img (dbgCtx s.dbgTarget) (dbgCore s.dbgTarget)).groups (dbgSlot s.dbgTarget) = some (f gr) ∧
      s.OthersStay t (dbgCtx s.dbgTarget) (dbgCore s.dbgTarget) (dbgSlot s.dbgTarget) ∧ t.mem = s.mem ∧ t.dv (dkey 0x4020 0x02) = n := by
  let r := (s.setDv (dkey 0x4020 0x02) n).dbgReady
  have htarget : r.dbgTarget = s.dbgTarget := (dbgReady_target _).trans (setAction_target s n)
  have hgroup : r.dbgGroup = s.dbgGroup := (dbgReady_group _).trans (setAction_group s n)
  have himg : r.img (dbgCtx s.dbgTarget) (dbgCore s.dbgTarget) = s.img (dbgCtx s.dbgTarget) (dbgCore s.dbgTarget) := dbgReady_img _ _ _
  have hfind : mapFind (r.img (dbgCtx s.dbgTarget) (dbgCore s.dbgTarget)).groups (dbgSlot s.dbgTarget) = some gr := by rw [himg]; exact hgr
  refine ⟨_, exec_action hS hscope hok hmay hi hbody (hone r (dbgReady_now _) htarget hgroup), ?_⟩
  have hsync := synced_group (s := s) (k := dbgSlot s.dbgTarget) (g := f gr)
    (r := r.updGroup (dbgCtx s.dbgTarget) (dbgCore s.dbgTarget) (dbgSlot s.dbgTarget) f)
    (t := ((r.updGroup (dbgCtx s.dbgTarget) (dbgCore s.dbgTarget) (dbgSlot s.dbgTarget) f).freezeSync (dbgCtx s.dbgTarget)
      (dbgCore s.dbgTarget)).dbgNote c n 0 0)
    (by show bitAt r.dbgTarget 61 = false; rw [htarget]; exact hmode)
    (fun j => by rw [find_updGroup hfind (ne_emptyGroup hne), himg]) hfree (dbgNote_img _ _ _ _ _ _ _)
  refine ⟨hsync.1, hsync.2, ?_, ?_⟩
  · exact (dbgNote_mem _ _ _ _ _).trans ((freezeSync_part (part := State.mem) fun _ _ => rfl).trans (dbgReady_mem _))
  · refine (dbgNote_dv _ _ _ _ _ (by decide)).trans ((freezeSync_part (part := fun t => t.dv (dkey 0x4020 0x02)) fun _ _ => rfl).trans ?_)
    exact (congrFun (dbgReady_dv _) _).trans (State.dv_setDv _ _ _)

include hmode hgr

/-- DBG_HALT asks a running group to halt (R55). -/
theorem halt_next (hrunning : gr.halt.halted = false) : ∃ t : State, exec (.dbgHalt c) s = .next (t.answered 0) ∧
    mapFind (t.img (dbgCtx s.dbgTarget) (dbgCore s.dbgTarget)).groups (dbgSlot s.dbgTarget) = some gr.askHalt ∧
    s.OthersStay t (dbgCtx s.dbgTarget) (dbgCore s.dbgTarget) (dbgSlot s.dbgTarget) ∧ t.mem = s.mem ∧ t.dv (dkey 0x4020 0x02) = 1 := by
  have hhalt := congrArg Group.halt (askHalt_running hrunning)
  refine exec_groupAction hS hscope hok hmay (.inl ⟨rfl, rfl⟩) (actionWrite_halt s c) (fun r hnow htarget hgroup => ?_) hmode hgr ?_ ?_
  · rw [dbgGroups_one hscope hgr htarget hgroup, htarget]; rfl
  · rw [hhalt]; exact fun e => Bool.noConfusion (congrArg Halt.req e)
  · rw [hhalt]

/-- DBG_RESUME lets a halted group run on, past its breakpoint, its watchdog having paused (R55, R59, R60). -/
theorem resume_next (hhalted : gr.halt.halted = true) : ∃ t : State,
    exec (.dbgResume c) s = .next (t.answered 0) ∧
    mapFind (t.img (dbgCtx s.dbgTarget) (dbgCore s.dbgTarget)).groups (dbgSlot s.dbgTarget) =
      some { gr with halt := { skip := true }, wdog := gr.wdog + (s.now - gr.halt.since) } ∧
    s.OthersStay t (dbgCtx s.dbgTarget) (dbgCore s.dbgTarget) (dbgSlot s.dbgTarget) ∧ t.mem = s.mem ∧ t.dv (dkey 0x4020 0x02) = 2 := by
  rw [← unhalt_halted hhalted]
  have hhalt := congrArg Group.halt (unhalt_halted (now := s.now) hhalted)
  refine exec_groupAction (f := fun g => g.unhalt s.now) hS hscope hok hmay (.inr (.inl ⟨rfl, rfl⟩)) (actionWrite_resume s c)
    (fun r hnow htarget hgroup => ?_) hmode hgr ?_ ?_
  · rw [dbgGroups_one hscope hgr htarget hgroup, htarget, ← hnow]; rfl
  · rw [hhalt]; exact fun e => Bool.noConfusion (congrArg Halt.skip e)
  · rw [hhalt]

end

end Sys2Proof.Machine

/-! Debugging: the step of one instruction, a NOP (R58). -/

namespace Sys2Proof.Machine

/-- The fetch check reads the page tables, the device's number and its memory map (R189, R496). -/
theorem xlate_fetch {s t : State} {c va : Nat} (hl : (t.ctx c).leaves = (s.ctx c).leaves) (hd : t.dev = s.dev)
    (hr : t.region = s.region) : t.xlate c va .fetch = s.xlate c va .fetch := by
  unfold State.xlate
  simp only [hl, hd, hr, if_true]

theorem fetchAt_congr {s t : State} {c va : Nat} (h : t.xlate c va .fetch = s.xlate c va .fetch) : t.fetchAt c va = s.fetchAt c va := by
  unfold State.fetchAt; rw [h]

theorem xlate_of_fetchAt {s : State} {c va a : Nat} (h : s.fetchAt c va = some a) : (s.xlate c va .fetch).1 = 0 := by
  unfold State.fetchAt at h
  split at h
  · next st b nc hx =>
    split at h
    · next h0 => rw [hx]; exact h0
    · cases h
  · cases h

/-- A stepped group's instruction runs, past its breakpoint, and the group is looked at again after it. -/
theorem issue_steps {s : State} {g : GRef} {h : Here} {p : Path} (hrun : s.running = true)
    (hat : s.groupAt g.core.val g.slot.val = some h) (hp : h.grp.run = some p) (hready : h.grp.ready = true)
    (hskip : h.grp.halt.skip = true) (hstep : h.grp.halt.step = true) (hal : p.pc % 16 = 0) (hx : (s.xlate h.ctx p.pc .fetch).1 = 0)
    (w : IWord) {legal : Group → Bool} (hl : legal h.seen = true) (body : Iss → State) :
    issue s g w legal body = .next ((body (s.sees g h p w)).stepDone h.ctx g.core.val g.slot.val) := by
  have hbreak : (s.ibreak h.ctx g.core.val g.slot.val p.pc && !h.grp.halt.skip) = false := by rw [hskip]; simp
  have hl' : legal { h.grp with halt := { h.grp.halt with skip := false } } = true := hl
  rcases hxl : s.xlate h.ctx p.pc .fetch with ⟨st, d⟩
  rw [hxl] at hx
  obtain rfl : st = 0 := hx
  simp only [issue, hrun, hat, Bool.not_true, Bool.false_eq_true, if_false]
  split
  case h_1 hnone => rw [hp] at hnone; cases hnone
  case h_2 q hq =>
    obtain rfl : p = q := Option.some.inj (hp.symm.trans hq)
    simp only [hready, hbreak, hxl, Bool.not_true, Bool.false_eq_true, if_false, ne_eq, not_true_eq_false]
    exact (if_neg (not_not_intro hal)).trans ((if_neg (by rw [hl']; exact Bool.false_ne_true)).trans (if_pos hstep))

theorem modZero_zero : modZero (wordFields 0) = true := by decide

theorem word_zero : BitVec.ofNat 128 (leNat (List.replicate 16 (0 : Byte))) = 0 := by decide

theorem opExec_zero : opExec.find? (fun e => e.1 == (0 : BitVec 128).extractLsb' 0 8) = some (0x00, execNop) := rfl

/-- The zero word is NOP (Table 02.5). -/
theorem runOne_zero {s : State} {x : Nat} {g : GRef} {pc a : Nat} (hf : s.fetchAt x pc = some a) (hr : s.region a = .near)
    (hz : cellsRead s.mem a 16 = List.replicate 16 0) : s.runOne x g pc = stateOf s (execNop g (wordFields 0) s) := by
  have hread : s.devRead a 16 = (s, 0, List.replicate 16 0) := by
    unfold State.devRead
    rw [hr, hz]
  unfold State.runOne
  rw [hf]
  dsimp only
  rw [hread]
  simp only [ne_eq, not_true_eq_false, if_false, word_zero, opExec_zero]

section
variable {q : State} {x n k : Nat} {g : Group} {p : Path}

/-- No request is out from a number on that none has yet (R58). -/
theorem groupOut_fresh {s : State} {m : Nat} (hids : ∀ r ∈ s.reqs, r.id < m) (g : Group) : s.groupOut x n k g m = false := by
  unfold State.groupOut
  rw [List.any_eq_false]
  intro r hr
  have := hids r hr
  simp; omega

/-- A stepped group whose instruction is complete halts again (R58). -/
theorem stepDone_halts (hg : mapFind (q.img x n).groups k = some g) (hstep : g.halt.step = true) (hwait : g.wait = .none)
    (hhalted : g.halt.halted = false) (hreq : g.halt.req = false) (hout : q.groupOut x n k g g.halt.mark = false) :
    ∃ r : State, q.stepDone x n k = r.freezeSync x n ∧ r.mem = q.mem ∧ r.dv = q.dv ∧ r.now = q.now ∧
      ∀ j, mapFind (r.img x n).groups j =
        if j = k then some { g with halt := { halted := true, cause := 5, since := q.now } } else mapFind (q.img x n).groups j := by
  refine ⟨_, rfl, rfl, rfl, rfl, fun j => ?_⟩
  rw [find_updGroup hg]
  · simp only [hstep, hwait, hhalted, hout, hreq, Bool.false_eq_true, if_false, beq_self_eq_true, Bool.not_false, Bool.and_self, if_true]
  · simp only [hstep, hwait, hhalted, hout, hreq, Bool.false_eq_true, if_false, beq_self_eq_true, Bool.not_false, Bool.and_self, if_true]
    exact ne_emptyGroup fun e => Bool.noConfusion (congrArg Halt.halted e)

end

/-- What a step's group and its core's last issuing slot do not touch. -/
theorem stepping_part {γ : Type} {part : State → γ} (hpart : ∀ t c n f, part (State.updImg t c n f) = part t) (r : State) (x n k : Nat)
    (g : GRef) (h : Here) (a b : Group) : part (((r.setGroup x n k a).issued g h).setGroup x n k b) = part r :=
  (hpart _ _ _ _).trans ((hpart _ _ _ _).trans (hpart _ _ _ _))

theorem region_setGroup (r : State) (x n k : Nat) (g : Group) : (r.setGroup x n k g).region = r.region := rfl

/-- The fetch of a group's instruction does not depend on the groups. -/
theorem fetchAt_setGroup (r : State) (x n k : Nat) (g : Group) (c va : Nat) : (r.setGroup x n k g).fetchAt c va = r.fetchAt c va :=
  fetchAt_congr (xlate_fetch rfl rfl (region_setGroup r x n k g))

section
variable {r : State} {x : Nat} {g : GRef} {g0 : Group} {p : Path} (hrun : r.running = true) (hlive : r.liveCtx g.core.val = some x)
  (hp : g0.run = some p) (hwait : g0.wait = .none) (hhalt : g0.halt = { skip := true, step := true, mark := r.nextId })
  (hclear : g0.clearAt p p.next = true) (hal : p.pc % 16 = 0)
include hrun hlive hp hwait hhalt hclear hal

/-- A NOP at which no path merges, stepped: its group goes on at the next instruction and is looked at again. -/
theorem nop_steps (hx : (r.xlate x p.pc .fetch).1 = 0) {w : IWord} (hw : modZero w = true) :
    ∃ u : State, execNop g w (r.setGroup x g.core.val g.slot.val g0) = .next (u.stepDone x g.core.val g.slot.val) ∧
      u.mem = r.mem ∧ u.dv = r.dv ∧ u.now = r.now ∧ u.reqs = r.reqs ∧
      ∀ j, mapFind (u.img x g.core.val).groups j = if j = g.slot.val then
          some { g0 with run := some { p with pc := p.next, retry := false }, halt := { step := true, mark := r.nextId } }
        else mapFind (r.img x g.core.val).groups j := by
  let q := r.setGroup x g.core.val g.slot.val g0
  let h : Here := ⟨x, q.img x g.core.val, g0⟩
  have hg0 : g0 ≠ emptyGroup := ne_emptyGroup fun e => Bool.noConfusion ((congrArg Halt.skip hhalt).symm.trans (congrArg Halt.skip e))
  have hseen : h.seen = { g0 with halt := { step := true, mark := r.nextId } } :=
    congrArg (fun u : Halt => { g0 with halt := { u with skip := false } }) hhalt
  have hat : q.groupAt g.core.val g.slot.val = some h := by
    have hlive' : q.liveCtx g.core.val = some x := hlive
    simp only [State.groupAt, hlive', find_setGroup hg0, q, if_true, Option.map_some, h]
  have hfetch : q.xlate x p.pc .fetch = r.xlate x p.pc .fetch := xlate_fetch rfl rfl (region_setGroup _ _ _ _ _)
  have hready : g0.ready = true := by simp [Group.ready, hwait, hhalt]
  have hnop := issue_steps (s := q) (g := g) (h := h) hrun hat hp hready (by rw [hhalt]) (by rw [hhalt]) hal
    ((congrArg Prod.fst hfetch).trans hx) w (legal := fun _ => modZero w) hw (fun i => i.retire i.grp)
  have hput : (q.sees g h p w).retire h.seen = (q.issued g h).setGroup x g.core.val g.slot.val
      { h.seen with run := some { p with pc := p.next, retry := false } } :=
    (retire_eq q g h p w (gr := h.seen) hp).trans (retired_clear hclear rfl (by rw [hseen]))
  refine ⟨_, hnop.trans (congrArg (fun u : State => Host.Outcome.next (u.stepDone x g.core.val g.slot.val)) hput),
    stepping_part (part := State.mem) (fun _ _ _ _ => rfl) _ _ _ _ _ _ _ _, stepping_part (part := State.dv) (fun _ _ _ _ => rfl) _ _ _ _ _ _ _ _,
    stepping_part (part := State.now) (fun _ _ _ _ => rfl) _ _ _ _ _ _ _ _,
    stepping_part (part := State.reqs) (fun _ _ _ _ => rfl) _ _ _ _ _ _ _ _, fun j => ?_⟩
  rw [hseen, find_setGroup (ne_emptyGroup fun e => Bool.noConfusion (congrArg Halt.step e))]
  refine ite_congr rfl (fun _ => rfl) fun hj => ?_
  have hgroups : ((q.issued g h).img x g.core.val).groups = (q.img x g.core.val).groups := by
    unfold State.issued; rw [img_updImg]
  rw [hgroups, find_setGroup hg0, if_neg hj]

/-- The group has halted at the next instruction, its core else as it was (R58). -/
theorem runOne_nop {a : Nat} (hf : r.fetchAt x p.pc = some a) (hreg : r.region a = .near)
    (hz : cellsRead r.mem a 16 = List.replicate 16 0) (hids : ∀ q ∈ r.reqs, q.id < r.nextId) :
    ∃ v : State, (r.setGroup x g.core.val g.slot.val g0).runOne x g p.pc = v.freezeSync x g.core.val ∧ v.mem = r.mem ∧ v.dv = r.dv ∧
      ∀ j, mapFind (v.img x g.core.val).groups j = if j = g.slot.val then
          some { g0 with run := some { p with pc := p.next, retry := false }, halt := { halted := true, cause := 5, since := r.now } }
        else mapFind (r.img x g.core.val).groups j := by
  obtain ⟨u, hnop, hmem, hdv, hnow, hreqs, hu⟩ := nop_steps hrun hlive hp hwait hhalt hclear hal (xlate_of_fetchAt hf) modZero_zero
  have hone := runOne_zero (s := r.setGroup x g.core.val g.slot.val g0) (g := g) ((fetchAt_setGroup _ _ _ _ _ _ _).trans hf)
    ((congrFun (region_setGroup _ _ _ _ _) a).trans hreg) hz
  obtain ⟨v, hv, hvmem, hvdv, -, hfind⟩ := stepDone_halts ((hu _).trans (if_pos rfl)) rfl hwait rfl rfl
    (groupOut_fresh (by rw [hreqs]; exact hids) _)
  refine ⟨v, ?_, hvmem.trans hmem, hvdv.trans hdv, fun j => ?_⟩
  · rw [hone, hnop]
    exact hv
  · rw [hfind, hnow]
    refine ite_congr rfl (fun _ => rfl) fun hj => ?_
    rw [hu, if_neg hj]

end

/-- What DBG_STEP does under authority: it refuses a group that is not halted, and runs one instruction of one that is (R58). -/
theorem dbgStep_body (u : State) (c : Cls) : ∃ body : State → State × Status, u.dbgStep c = u.dbgAct c 3 body ∧
    (∀ r g, r.dbgGroup = some g → g.halt.halted = false → body r = (r, Code.debugDenied)) ∧
    ∀ r g p, ∀ core : Fin 576, ∀ slot : Fin 64, r.dbgGroup = some g → g.halt.halted = true → g.run = some p →
      core.val = dbgCore r.dbgTarget → slot.val = dbgSlot r.dbgTarget → r.liveCtx core.val = some (dbgCtx r.dbgTarget) →
      body r = ((r.setGroup (dbgCtx r.dbgTarget) core.val slot.val { g.unhalt r.now with
        halt := { skip := true, step := true, mark := r.nextId } }).runOne (dbgCtx r.dbgTarget) { core := core, slot := slot } p.pc, 0) := by
  refine ⟨_, rfl, fun r g hg hh => ?_, fun r g p core slot hg hh hp hc hs hl => ?_⟩
  · simp only [hg, hh]
  · have hslot : (⟨dbgSlot r.dbgTarget % 64, Nat.mod_lt _ (by decide)⟩ : Fin 64) = slot :=
      Fin.ext ((congrArg (· % 64) hs.symm).trans (Nat.mod_eq_of_lt slot.isLt))
    simp only [hg, hh, hp, ← hc, core.isLt, dif_pos, hl, ne_eq, not_true_eq_false, if_false, hslot, hs]

theorem region_setAction (s : State) (n : Nat) : (s.setDv (dkey 0x4020 0x02) n).region = s.region := by
  have hout : (s.setDv (dkey 0x4020 0x02) n).outSet = s.outSet := setAction_dv s (by decide) n
  funext o
  unfold State.region State.hbmBacked State.outCount
  rw [hout]

/-- What the instruction that is stepped depends on, as the action finds it. -/
theorem stepReady {s r : State} (hr : r = (s.setDv (dkey 0x4020 0x02) 3).dbgReady) :
    r.running = s.running ∧ (∀ n, r.liveCtx n = s.liveCtx n) ∧ (∀ x va, r.fetchAt x va = s.fetchAt x va) ∧ r.region = s.region ∧
      r.mem = s.mem ∧ r.now = s.now ∧ r.reqs = s.reqs ∧ r.nextId = s.nextId ∧ ∀ x n, r.img x n = s.img x n := by
  have hpart : ∀ {γ : Type} (part : State → γ), (∀ (t : State) d, part { t with dbg := d } = part t) →
      (∀ (t : State) x f, part (t.updCtx x f) = part t) → part (s.setDv (dkey 0x4020 0x02) 3) = part s → part r = part s :=
    fun part hd hc h3 => by rw [hr]; exact (dbgReady_part _ hd hc).trans h3
  have hregion : r.region = s.region := hpart State.region (fun _ _ => rfl) (fun _ _ _ => rfl) (region_setAction s 3)
  have hdev : r.dev = s.dev := hpart State.dev (fun _ _ => rfl) (fun _ _ _ => rfl) rfl
  obtain ⟨d, cs, -, -, hctx⟩ := dbgReady_eq (s.setDv (dkey 0x4020 0x02) 3)
  have hleaves : ∀ x, (r.ctx x).leaves = (s.ctx x).leaves := fun x => by rw [hr]; exact (hctx x).1
  exact ⟨hpart State.running (fun _ _ => rfl) (fun _ _ _ => rfl) rfl,
    congrFun (hpart State.liveCtx (fun _ _ => rfl) (fun _ _ _ => rfl) rfl),
    fun x va => fetchAt_congr (xlate_fetch (hleaves x) hdev hregion), hregion,
    hpart State.mem (fun _ _ => rfl) (fun _ _ _ => rfl) rfl, hpart State.now (fun _ _ => rfl) (fun _ _ _ => rfl) rfl,
    hpart State.reqs (fun _ _ => rfl) (fun _ _ _ => rfl) rfl, hpart State.nextId (fun _ _ => rfl) (fun _ _ _ => rfl) rfl,
    fun x n => congrFun (congrFun (hpart State.img (fun _ _ => rfl) (fun _ _ _ => rfl) rfl) x) n⟩

section
variable {s : State} {c : Cls} {gr : Group} (hS : s.Serves) (hscope : dbgScope s.dbgTarget = 0) (hok : s.dbgAllowed = true)
  (hgr : s.dbgGroup = some gr) (hmay : mayWrite c (dkey 0x4020 0x02) = true)
include hS hscope hok hgr hmay

/-- A step of a group that is not halted is refused (R58). -/
theorem step_refused (hrunning : gr.halt.halted = false) :
    ∃ t : State, exec (.dbgStep c) s = .next (t.answered Code.debugDenied) ∧ t.images = s.images := by
  obtain ⟨body, hbody, hrefuse, -⟩ := dbgStep_body (s.setDv (dkey 0x4020 0x02) 3) c
  have hgroup := (dbgReady_group _).trans ((setAction_group s 3).trans hgr)
  refine ⟨_, exec_action hS hscope hok hmay (.inr (.inr ⟨rfl, rfl⟩)) ((actionWrite_step s c).trans hbody) (hrefuse _ _ hgroup hrunning), ?_⟩
  exact (dbgNote_images _ _ _ _ _).trans (dbgReady_images _)

/-- A step of a halted group whose next instruction is a NOP. -/
theorem step_nop {p : Path} {a : Nat} (hmode : bitAt s.dbgTarget 61 = false) (hhalted : gr.halt.halted = true) (hp : gr.run = some p)
    (hwait : gr.wait = .none) (hclear : gr.clearAt p p.next = true) (hlive : s.liveCtx (dbgCore s.dbgTarget) = some (dbgCtx s.dbgTarget))
    (hcore : dbgCore s.dbgTarget < 576) (hal : p.pc % 16 = 0) (hf : s.fetchAt (dbgCtx s.dbgTarget) p.pc = some a)
    (hreg : s.region a = .near) (hz : cellsRead s.mem a 16 = List.replicate 16 0) (hids : ∀ q ∈ s.reqs, q.id < s.nextId) :
    ∃ t : State, exec (.dbgStep c) s = .next (t.answered 0) ∧
      mapFind (t.img (dbgCtx s.dbgTarget) (dbgCore s.dbgTarget)).groups (dbgSlot s.dbgTarget) =
        some { gr.unhalt s.now with run := some { p with pc := p.next, retry := false }
                                    halt := { halted := true, cause := 5, since := s.now } } ∧
      s.OthersStay t (dbgCtx s.dbgTarget) (dbgCore s.dbgTarget) (dbgSlot s.dbgTarget) ∧ t.mem = s.mem := by
  have hslot : dbgSlot s.dbgTarget < 64 := Nat.mod_lt _ (by decide)
  let gref : GRef := { core := ⟨dbgCore s.dbgTarget, hcore⟩, slot := ⟨dbgSlot s.dbgTarget, hslot⟩ }
  obtain ⟨body, hbody, -, hstep⟩ := dbgStep_body (s.setDv (dkey 0x4020 0x02) 3) c
  obtain ⟨r, hr⟩ : ∃ r, r = (s.setDv (dkey 0x4020 0x02) 3).dbgReady := ⟨_, rfl⟩
  have htarget : r.dbgTarget = s.dbgTarget := by rw [hr]; exact (dbgReady_target _).trans (setAction_target s 3)
  have hgroup : r.dbgGroup = some gr := by rw [hr]; exact (dbgReady_group _).trans ((setAction_group s 3).trans hgr)
  obtain ⟨hrun, hl, hfr, hregr, hmem, hnow, hreqs, hnext, himgs⟩ := stepReady hr
  have hon := unhalt_halted (now := s.now) hhalted
  obtain ⟨v, hv, hvmem, hvdv, hfind⟩ := runOne_nop (r := r) (x := dbgCtx s.dbgTarget) (g := gref) (p := p)
    (g0 := { gr.unhalt r.now with halt := { skip := true, step := true, mark := r.nextId } }) (hrun.trans hS.1) ((hl _).trans hlive)
    (by rw [hnow, hon]; exact hp) (by rw [hnow, hon]; exact hwait) rfl ((clearAt_congr (by rw [hnow, hon]) rfl _).trans hclear) hal
    ((hfr _ _).trans hf) ((congrFun hregr a).trans hreg) (by rw [hmem]; exact hz) (by rw [hreqs, hnext]; exact hids)
  have hbody3 := hstep r gr p gref.core gref.slot hgroup hhalted hp (congrArg dbgCore htarget).symm (congrArg dbgSlot htarget).symm
    (by rw [htarget]; exact (hl _).trans hlive)
  rw [htarget] at hbody3
  refine ⟨_, exec_action (u := v.freezeSync (dbgCtx s.dbgTarget) (dbgCore s.dbgTarget)) (st := 0) hS hscope hok hmay
    (.inr (.inr ⟨rfl, rfl⟩)) ((actionWrite_step s c).trans hbody) (by rw [← hr, hbody3]; exact congrArg (·, (0 : Status)) hv), ?_⟩
  have hmode' : bitAt (v.dv (dkey 0x4020 0x01)) 61 = false := by rw [hvdv]; exact (congrArg (bitAt · 61) htarget).trans hmode
  have hsync := synced_group (s := s) (t := (v.freezeSync (dbgCtx s.dbgTarget) (dbgCore s.dbgTarget)).dbgNote c 3 0 0) hmode'
    (fun j => (hfind j).trans (by rw [himgs])) rfl (dbgNote_img _ _ _ _ _ _ _)
  rw [hnow] at hsync
  refine ⟨hsync.1, hsync.2, ?_⟩
  exact (dbgNote_mem _ _ _ _ _).trans ((freezeSync_part (part := State.mem) fun _ _ => rfl).trans (hvmem.trans hmem))

end

end Sys2Proof.Machine

/-! Debugging: the data of a halted group, breakpoints, and refusals (R54, R57, R59). -/

namespace Sys2Proof.Machine

section
variable {s : State} {c : Cls} {gr : Group}

/-- What DBG_SELECT selects of the named group's data (R57). -/
theorem dbgData_running (hgr : s.dbgGroup = some gr) (h : gr.halt.halted = false) : s.dbgData = (Code.debugDenied, []) := by
  simp [State.dbgData, hgr, h]

section
variable (hgr : s.dbgGroup = some gr) (hh : gr.halt.halted = true)
include hgr hh

theorem dbgData_reg (hq : bits (s.dv (dkey 0x4021 0x01)) 30 2 = 0) (hn : bits (s.dv (dkey 0x4021 0x01)) 0 14 ≤ gr.nregs) :
    s.dbgData = (0, (List.range 32).flatMap (fun l => leBytes 4 (gr.reg (bits (s.dv (dkey 0x4021 0x01)) 0 14) l).toNat)) := by
  simp [State.dbgData, hgr, hh, hq, hn]

/-- The predicates of a lane, one bit each. -/
def Group.predByte (g : Group) (l : Nat) : Nat := (List.range 8).foldl (fun a p => if (g.pred p).getLsbD l then a + 2 ^ p else a) 0

theorem dbgData_pred (hq : bits (s.dv (dkey 0x4021 0x01)) 30 2 = 1) :
    s.dbgData = (0, (List.range 32).flatMap (fun l => leBytes 1 (gr.predByte l))) := by
  simp only [State.dbgData, hgr, hh, hq, Bool.not_true, Bool.false_eq_true, if_false, Group.predByte]

theorem dbgData_local {a : Nat} (hq : bits (s.dv (dkey 0x4021 0x01)) 30 2 = 2)
    (ha : s.dbgLocal (bits (s.dv (dkey 0x4021 0x01)) 0 14) = some a) :
    s.dbgData = (0, cellsRead (s.img (dbgCtx s.dbgTarget) (dbgCore s.dbgTarget)).ls a 128) := by
  simp only [State.dbgData, hgr, hh, hq, ha, Bool.not_true, Bool.false_eq_true, if_false]

end

theorem dbgReady_data : s.dbgReady.dbgData = s.dbgData := dbgReady_part s (fun _ _ => rfl) (fun _ _ _ => rfl)

/-- A read under authority changes no group. -/
theorem dbgRead_allowed (hscope : dbgScope s.dbgTarget ≠ 3) (hok : s.dbgAllowed = true) :
    s.dbgRead c = (s.dbgReady.dbgNote c 4 0 s.dbgData.1, s.dbgData.1, if s.dbgData.1 = 0 then pad128 s.dbgData.2 else []) := by
  unfold State.dbgRead
  rw [dbgAct_allowed hscope hok, dbgReady_data]

theorem noted_images (n addr : Nat) (st : Status) : (s.dbgReady.dbgNote c n addr st).images = s.images :=
  (dbgNote_images _ _ _ _ _).trans (dbgReady_images s)

end

section
variable {s : State} {c : Cls} {gr : Group} (hS : s.Serves) (hscope : dbgScope s.dbgTarget = 0) (hok : s.dbgAllowed = true)
  (hgr : s.dbgGroup = some gr)
include hS hscope hok

/-- A read that selects data gives them, padded to the length of the entry. -/
theorem read_next (hmay : mayRead c (dkey 0x4021 0x02) = true) {bs : List Byte} (hd : s.dbgData = (0, bs)) (hlen : bs.length ≤ 128) :
    ∃ t : State, exec (.dbgDataRead c) s = .next ((t.answered 0).emit (.bytes "value" (pad128 bs))) ∧ t.images = s.images := by
  have hne : pad128 bs ≠ [] := fun h => by have := length_pad128 hlen; rw [h] at this; cases this
  have hr := dbgRead_allowed (c := c) (by rw [hscope]; decide) hok
  rw [hd] at hr
  exact ⟨_, (exec_dbgData_read hS hmay hr).trans (by rw [if_pos rfl, if_neg hne]), noted_images _ _ _⟩

theorem read_refused (hmay : mayRead c (dkey 0x4021 0x02) = true) (hgr : s.dbgGroup = some gr) (hrunning : gr.halt.halted = false) :
    ∃ t : State, exec (.dbgDataRead c) s = .next (t.answered Code.debugDenied) ∧ t.images = s.images := by
  have hr := dbgRead_allowed (c := c) (by rw [hscope]; decide) hok
  rw [dbgData_running hgr hrunning, if_neg (show Code.debugDenied ≠ 0 by decide)] at hr
  exact ⟨_, (exec_dbgData_read hS hmay hr).trans (by rw [if_pos rfl]), noted_images _ _ _⟩

/-- A register of every lane, 4 bytes each. -/
theorem read_reg (hmay : mayRead c (dkey 0x4021 0x02) = true) (hgr : s.dbgGroup = some gr) (hh : gr.halt.halted = true)
    (hq : bits (s.dv (dkey 0x4021 0x01)) 30 2 = 0) (hn : bits (s.dv (dkey 0x4021 0x01)) 0 14 ≤ gr.nregs) :
    ∃ (t : State) (bs : List Byte), exec (.dbgDataRead c) s = .next ((t.answered 0).emit (.bytes "value" bs)) ∧ t.images = s.images ∧
      bs.length = 128 ∧ ∀ l < 32, leNat ((bs.drop (4 * l)).take 4) = (gr.reg (bits (s.dv (dkey 0x4021 0x01)) 0 14) l).toNat := by
  have hpiece : ∀ l, (leBytes 4 (gr.reg (bits (s.dv (dkey 0x4021 0x01)) 0 14) l).toNat).length = 4 := fun l => leBytes_length _ _
  have hlen := length_flatMap_all hpiece (List.range 32)
  rw [List.length_range] at hlen
  obtain ⟨t, ht, himg⟩ := read_next hS hscope hok hmay (dbgData_reg hgr hh hq hn) hlen.le
  refine ⟨t, _, ht, himg, length_pad128 hlen.le, fun l hl => ?_⟩
  rw [pad128, piece_flatMap hpiece _ _ (by rw [List.length_range]; exact hl), List.getElem_range, leNat_leBytes]
  exact Nat.mod_eq_of_lt (BitVec.isLt _)

/-- The predicates of every lane, one byte a lane. -/
theorem read_pred (hmay : mayRead c (dkey 0x4021 0x02) = true) (hgr : s.dbgGroup = some gr) (hh : gr.halt.halted = true)
    (hq : bits (s.dv (dkey 0x4021 0x01)) 30 2 = 1) :
    ∃ (t : State) (bs : List Byte), exec (.dbgDataRead c) s = .next ((t.answered 0).emit (.bytes "value" bs)) ∧ t.images = s.images ∧
      bs.length = 128 ∧ ∀ l < 32, ∀ p < 8, (bs.getD l 0).getLsbD p = (gr.pred p).getLsbD l := by
  have hpiece : ∀ l, (leBytes 1 (gr.predByte l)).length = 1 := fun l => leBytes_length _ _
  have hlen := length_flatMap_all hpiece (List.range 32)
  rw [List.length_range] at hlen
  have hfit : ((List.range 32).flatMap fun l => leBytes 1 (gr.predByte l)).length ≤ 128 := by rw [hlen]; decide
  obtain ⟨t, ht, himg⟩ := read_next hS hscope hok hmay (dbgData_pred hgr hh hq) hfit
  refine ⟨t, _, ht, himg, length_pad128 hfit, fun l hl p hp => ?_⟩
  have hbyte : pad128 ((List.range 32).flatMap fun l => leBytes 1 (gr.predByte l)) =
      (List.range 32).map (fun l => BitVec.ofNat 8 (gr.predByte l)) ++ List.replicate (128 - 32) 0 := by
    rw [pad128, hlen, List.map_eq_flatMap]; rfl
  rw [hbyte, List.getD_append _ _ _ _ (by simpa using hl), List.getD_eq_getElem _ _ (by simpa using hl), List.getElem_map,
    List.getElem_range, BitVec.getLsbD_ofNat, Group.predByte, (testBit_laneSum (fun p => (gr.pred p).getLsbD l) 8).2]
  simp [hp]

/-- 128 bytes of the group's local store. -/
theorem read_local {a : Nat} (hmay : mayRead c (dkey 0x4021 0x02) = true) (hgr : s.dbgGroup = some gr) (hh : gr.halt.halted = true)
    (hq : bits (s.dv (dkey 0x4021 0x01)) 30 2 = 2) (ha : s.dbgLocal (bits (s.dv (dkey 0x4021 0x01)) 0 14) = some a) :
    ∃ t : State, exec (.dbgDataRead c) s = .next ((t.answered 0).emit
      (.bytes "value" (cellsRead (s.img (dbgCtx s.dbgTarget) (dbgCore s.dbgTarget)).ls a 128))) ∧ t.images = s.images := by
  have hlen : (cellsRead (s.img (dbgCtx s.dbgTarget) (dbgCore s.dbgTarget)).ls a 128).length = 128 := by simp [cellsRead]
  obtain ⟨t, ht, himg⟩ := read_next hS hscope hok hmay (dbgData_local hgr hh hq ha) hlen.le
  refine ⟨t, ?_, himg⟩
  rw [ht, pad128, hlen]
  simp

end

/-! Writes of a halted group's data (R57). -/

/-- What a write under authority does, by the part that DBG_SELECT selects. -/
theorem dbgWrite_body (s : State) (c : Cls) (v : List Byte) : ∃ body : State → State × Status, s.dbgWrite c v = s.dbgAct c 5 body ∧
    (∀ r, r.dbgData.1 ≠ 0 → body r = (r, r.dbgData.1)) ∧
    ∀ r, r.dbgData.1 = 0 → let q := r.dv (dkey 0x4021 0x01)
      (bits q 30 2 = 0 → body r = (r.updGroup (dbgCtx r.dbgTarget) (dbgCore r.dbgTarget) (dbgSlot r.dbgTarget) (fun g =>
        (List.range 32).foldl (fun g l => g.setReg (bits q 0 14) l (BitVec.ofNat 32 (leNat ((v.drop (4 * l)).take 4)))) g), 0)) ∧
      (bits q 30 2 = 1 → body r = (r.updGroup (dbgCtx r.dbgTarget) (dbgCore r.dbgTarget) (dbgSlot r.dbgTarget) (fun g =>
        (List.range 8).foldl (fun g p => g.setPred p 0xFFFFFFFF (laneMask (fun l => ((v[l]?).getD 0).getLsbD p))) g), 0)) ∧
      (bits q 30 2 = 2 → ∀ a, r.dbgLocal (bits q 0 14) = some a →
        body r = (r.updImg (dbgCtx r.dbgTarget) (dbgCore r.dbgTarget) (fun i => { i with ls := cellsWrite i.ls a (v.take 128) }), 0)) := by
  refine ⟨_, rfl, fun r h => if_pos h, fun r h => ⟨fun hq => ?_, fun hq => ?_, fun hq a ha => ?_⟩⟩
  · simp only [h, hq, ne_eq, not_true_eq_false, if_false]
  · simp only [h, hq, ne_eq, not_true_eq_false, if_false]
  · simp only [h, hq, ha, ne_eq, not_true_eq_false, if_false]

section
variable {s : State} {c : Cls} {gr : Group} {v : List Byte} (hS : s.Serves) (hscope : dbgScope s.dbgTarget = 0)
  (hok : s.dbgAllowed = true) (hgr : s.dbgGroup = some gr) (hmay : mayWrite c (dkey 0x4021 0x02) = true) (hv : v.length = 128)
include hS hscope hok hmay hv

theorem write_next {body : State → State × Status} (hbody : s.dbgWrite c v = s.dbgAct c 5 body) {u : State} {st : Status}
    (hu : body s.dbgReady = (u, st)) : exec (.dbgDataWrite c v) s = .next ((u.dbgNote c 5 0 st).answered st) := by
  rw [exec_dbgData_write hS hmay hv, hbody, dbgAct_allowed (by rw [hscope]; decide) hok, hu]

include hgr

theorem write_refused (hrunning : gr.halt.halted = false) :
    ∃ t : State, exec (.dbgDataWrite c v) s = .next (t.answered Code.debugDenied) ∧ t.images = s.images := by
  obtain ⟨body, hbody, hrefuse, -⟩ := dbgWrite_body s c v
  have hd : s.dbgReady.dbgData = (Code.debugDenied, []) := dbgReady_data.trans (dbgData_running hgr hrunning)
  have hu := hrefuse s.dbgReady (by rw [hd]; decide)
  rw [hd] at hu
  exact ⟨_, write_next hS hscope hok hmay hv hbody hu, noted_images _ _ _⟩

/-- A write that changes the group alone. -/
theorem write_group {body : State → State × Status} (hbody : s.dbgWrite c v = s.dbgAct c 5 body) {f : Group → Group}
    (hh : (f gr).halt.halted = true)
    (hu : body s.dbgReady = (s.dbgReady.updGroup (dbgCtx s.dbgTarget) (dbgCore s.dbgTarget) (dbgSlot s.dbgTarget) f, 0)) :
    ∃ t : State, exec (.dbgDataWrite c v) s = .next (t.answered 0) ∧
      mapFind (t.img (dbgCtx s.dbgTarget) (dbgCore s.dbgTarget)).groups (dbgSlot s.dbgTarget) = some (f gr) ∧
      s.OthersStay t (dbgCtx s.dbgTarget) (dbgCore s.dbgTarget) (dbgSlot s.dbgTarget) := by
  have hfind : mapFind (s.dbgReady.img (dbgCtx s.dbgTarget) (dbgCore s.dbgTarget)).groups (dbgSlot s.dbgTarget) = some gr := by
    rw [dbgReady_img]; exact hgr
  have hne : f gr ≠ emptyGroup := ne_emptyGroup fun e => Bool.noConfusion (hh.symm.trans (congrArg Halt.halted e))
  refine ⟨_, write_next hS hscope hok hmay hv hbody hu, ?_, fun j hj _ => ?_⟩
  · rw [dbgNote_img, find_updGroup hfind hne, if_pos rfl]
  · rw [dbgNote_img, find_updGroup hfind hne, if_neg hj, dbgReady_img]

variable (hh : gr.halt.halted = true)
include hh

/-- A register of every lane. -/
theorem write_reg (hq : bits (s.dv (dkey 0x4021 0x01)) 30 2 = 0) (hn : bits (s.dv (dkey 0x4021 0x01)) 0 14 ≤ gr.nregs) :
    ∃ (t : State) (o : Group), exec (.dbgDataWrite c v) s = .next (t.answered 0) ∧
      mapFind (t.img (dbgCtx s.dbgTarget) (dbgCore s.dbgTarget)).groups (dbgSlot s.dbgTarget) = some o ∧ o = { gr with regs := o.regs } ∧
      s.OthersStay t (dbgCtx s.dbgTarget) (dbgCore s.dbgTarget) (dbgSlot s.dbgTarget) ∧
      ∀ r, ∀ l < 32, o.reg r l = if r = bits (s.dv (dkey 0x4021 0x01)) 0 14 ∧ r ≠ 0 then
        BitVec.ofNat 32 (leNat ((v.drop (4 * l)).take 4)) else gr.reg r l := by
  obtain ⟨body, hbody, -, hwrite⟩ := dbgWrite_body s c v
  have hd : s.dbgReady.dbgData.1 = 0 := congrArg Prod.fst (dbgReady_data.trans (dbgData_reg hgr hh hq hn))
  have hu := (hwrite s.dbgReady hd).1
  simp only [dbgReady_dv, dbgReady_target] at hu
  obtain ⟨rs, hf, hreg⟩ := setReg_lanes gr (bits (s.dv (dkey 0x4021 0x01)) 0 14)
    (fun l => BitVec.ofNat 32 (leNat ((v.drop (4 * l)).take 4))) 32 (le_refl _)
  obtain ⟨t, ht, hat, hrest⟩ := write_group hS hscope hok hgr hmay hv hbody (by rw [hf]; exact hh) (hu hq)
  rw [hf] at hat
  refine ⟨t, _, ht, hat, rfl, hrest, fun r l hl => ?_⟩
  rw [hreg r l hl]
  simp [hl]

/-- The predicates of every lane. -/
theorem write_pred (hq : bits (s.dv (dkey 0x4021 0x01)) 30 2 = 1) :
    ∃ (t : State) (o : Group), exec (.dbgDataWrite c v) s = .next (t.answered 0) ∧
      mapFind (t.img (dbgCtx s.dbgTarget) (dbgCore s.dbgTarget)).groups (dbgSlot s.dbgTarget) = some o ∧ o = { gr with preds := o.preds } ∧
      s.OthersStay t (dbgCtx s.dbgTarget) (dbgCore s.dbgTarget) (dbgSlot s.dbgTarget) ∧
      ∀ p, 1 ≤ p → p < 8 → ∀ l < 32, (o.pred p).getLsbD l = (v.getD l 0).getLsbD p := by
  obtain ⟨body, hbody, -, hwrite⟩ := dbgWrite_body s c v
  have hd : s.dbgReady.dbgData.1 = 0 := congrArg Prod.fst (dbgReady_data.trans (dbgData_pred hgr hh hq))
  have hu := (hwrite s.dbgReady hd).2.1
  simp only [dbgReady_dv, dbgReady_target] at hu
  obtain ⟨ps, hf, hpred⟩ := setPred_all gr (fun p => laneMask (fun l => ((v[l]?).getD 0).getLsbD p)) 8
  obtain ⟨t, ht, hat, hrest⟩ := write_group hS hscope hok hgr hmay hv hbody (by rw [hf]; exact hh) (hu hq)
  rw [hf] at hat
  refine ⟨t, _, ht, hat, rfl, hrest, fun p h1 hp l hl => ?_⟩
  rw [hpred p, if_pos ⟨by omega, hp⟩, getLsbD_laneMask, List.getD_eq_getElem?_getD]
  simp [hl]

/-- 128 bytes of the group's local store. -/
theorem write_local {a : Nat} (hq : bits (s.dv (dkey 0x4021 0x01)) 30 2 = 2)
    (ha : s.dbgLocal (bits (s.dv (dkey 0x4021 0x01)) 0 14) = some a) :
    ∃ t : State, exec (.dbgDataWrite c v) s = .next (t.answered 0) ∧
      (t.img (dbgCtx s.dbgTarget) (dbgCore s.dbgTarget)).groups = (s.img (dbgCtx s.dbgTarget) (dbgCore s.dbgTarget)).groups ∧
      ∀ b, mapGet (0 : Byte) (t.img (dbgCtx s.dbgTarget) (dbgCore s.dbgTarget)).ls b = if a ≤ b ∧ b < a + 128 then v.getD (b - a) 0
        else mapGet (0 : Byte) (s.img (dbgCtx s.dbgTarget) (dbgCore s.dbgTarget)).ls b := by
  obtain ⟨body, hbody, -, hwrite⟩ := dbgWrite_body s c v
  have hd : s.dbgReady.dbgData.1 = 0 := congrArg Prod.fst (dbgReady_data.trans (dbgData_local hgr hh hq ha))
  have hlocal : s.dbgReady.dbgLocal = s.dbgLocal := dbgReady_part s (fun _ _ => rfl) (fun _ _ _ => rfl)
  have hu := (hwrite s.dbgReady hd).2.2
  simp only [dbgReady_dv, dbgReady_target, hlocal, List.take_of_length_le hv.le] at hu
  refine ⟨_, write_next hS hscope hok hmay hv hbody (hu hq a ha), ?_, fun b => ?_⟩
  · rw [dbgNote_img, img_updImg, dbgReady_img]
  · rw [dbgNote_img, img_updImg, dbgReady_img]
    show mapGet (0 : Byte) (cellsWrite _ a v) b = _
    split
    · next hb =>
      obtain ⟨i, rfl⟩ := Nat.exists_eq_add_of_le hb.1
      have hi : i < v.length := by omega
      rw [cellsWrite_same _ _ _ _ hi, Nat.add_sub_cancel_left, List.getD_eq_getElem _ _ hi]
    · next hb => exact cellsWrite_other _ _ _ _ (by omega)

end

end Sys2Proof.Machine

/-! Debugging: breakpoints and refusals (R54, R59). -/

namespace Sys2Proof.Machine

theorem bpKey_quiet {y : Nat} (h1 : 1 ≤ y) (h2 : y ≤ 0x18) : dkey 0x4022 y ∉ reportKeys := by
  simp only [reportKeys, dkey, List.mem_cons, List.not_mem_nil, or_false]
  omega

theorem bpKey_inj {y z : Nat} (h : dkey 0x4022 y = dkey 0x4022 z) : y = z := by
  simp only [dkey] at h
  omega

/-- What a breakpoint entry refuses rests on the target, its context's groves and the entry it is paired with. -/
theorem bpBad_ready (s : State) (sub v : Nat) : s.dbgReady.bpBad sub v = s.bpBad sub v := by
  obtain ⟨-, -, -, -, hctx⟩ := dbgReady_eq s
  obtain ⟨-, h0, hg⟩ := hctx (dbgCtx s.dbgTarget)
  have hhas : ∀ n, (s.dbgReady.ctx (dbgCtx s.dbgTarget)).has n = (s.ctx (dbgCtx s.dbgTarget)).has n := fun n => by
    unfold Ctx.has; rw [h0, hg]
  unfold State.bpBad
  rw [dbgReady_target, dbgReady_dv, hhas]

/-- The state after a breakpoint entry takes a value. -/
def State.bpSet (s : State) (sub v : Nat) : State :=
  let t := s.setDv (dkey 0x4022 sub) (bpClean sub v)
  if 9 ≤ sub ∧ sub ≤ 0x14 then { t with dbg := { t.dbg with bpCtx := mapSet 4096 t.dbg.bpCtx (sub - 9) (dbgCtx t.dbgTarget) } } else t

theorem bpSet_part {γ : Type} {part : State → γ} (hd : ∀ (t : State) d, part { t with dbg := d } = part t) (s : State) (sub v : Nat) :
    part (s.bpSet sub v) = part (s.setDv (dkey 0x4022 sub) (bpClean sub v)) := by
  unfold State.bpSet
  dsimp only
  split
  · exact hd _ _
  · rfl

theorem bpSet_ctx {sub : Nat} (h : 9 ≤ sub ∧ sub ≤ 0x14) (s : State) (v : Nat) :
    mapGet 4096 (s.bpSet sub v).dbg.bpCtx (sub - 9) = dbgCtx s.dbgTarget := by
  have htarget : (s.setDv (dkey 0x4022 sub) (bpClean sub v)).dbgTarget = s.dbgTarget :=
    State.dv_setDv_other _ _ _ _ (by simp only [dkey]; omega)
  unfold State.bpSet
  rw [if_pos h, htarget]
  exact mapGet_set_self _ _ _ _

section
variable {s : State} {c : Cls} {sub v : Nat}

/-- The address a breakpoint's record names. -/
def State.bpAddr (s : State) (sub v : Nat) : Nat := if bpAddrSub sub = sub then v else s.dv (dkey 0x4022 (bpAddrSub sub))

theorem bpWrite_allowed (hscope : dbgScope s.dbgTarget ≠ 3) (hok : s.dbgAllowed = true) : s.bpWrite c sub v =
    if s.bpBad sub v = true then (s.dbgReady.dbgNote c 6 (s.bpAddr sub v) Code.entryRange, Code.entryRange)
    else ((s.dbgReady.bpSet sub v).dbgNote c 6 (s.bpAddr sub v) 0, 0) := by
  unfold State.bpWrite
  rw [dbgAct_allowed hscope hok, bpBad_ready]
  split
  · rfl
  · rfl

end

section
variable {s : State} {c : Cls} {sub : Nat} {v : BitVec 64} (hS : s.Serves) (hscope : dbgScope s.dbgTarget = 0)
  (hok : s.dbgAllowed = true) (h1 : 1 ≤ sub) (h2 : sub ≤ 0x18) (hmay : mayWrite c (dkey 0x4022 sub) = true)
include hS hscope hok h1 h2 hmay

theorem breakpoint_refused (hbad : s.bpBad sub (bpKept sub v) = true) :
    ∃ t : State, exec (.breakpointWrite c sub v) s = .next (t.answered Code.entryRange) ∧ t.images = s.images ∧
      ∀ y, 1 ≤ y → y ≤ 0x18 → t.dv (dkey 0x4022 y) = s.dv (dkey 0x4022 y) := by
  have hrow := exec_breakpoint hS h1 h2 hmay v
  rw [bpWrite_allowed (by rw [hscope]; decide) hok, if_pos hbad] at hrow
  refine ⟨_, hrow, noted_images _ _ _, fun y hy1 hy2 => ?_⟩
  rw [dbgNote_dv _ _ _ _ _ (bpKey_quiet hy1 hy2), dbgReady_dv]

theorem breakpoint_taken (hgood : s.bpBad sub (bpKept sub v) = false) :
    ∃ t : State, exec (.breakpointWrite c sub v) s = .next (t.answered 0) ∧ t.images = s.images ∧
      (∀ y, 1 ≤ y → y ≤ 0x18 → t.dv (dkey 0x4022 y) = if y = sub then bpClean sub (bpKept sub v) else s.dv (dkey 0x4022 y)) ∧
      (9 ≤ sub ∧ sub ≤ 0x14 → mapGet 4096 t.dbg.bpCtx (sub - 9) = dbgCtx s.dbgTarget) := by
  have hrow := exec_breakpoint hS h1 h2 hmay v
  rw [bpWrite_allowed (by rw [hscope]; decide) hok, if_neg (by rw [hgood]; exact Bool.false_ne_true)] at hrow
  refine ⟨_, hrow, ?_, fun y hy1 hy2 => ?_, fun hctl => ?_⟩
  · exact (dbgNote_images _ _ _ _ _).trans ((bpSet_part (part := State.images) (fun _ _ => rfl) _ _ _).trans (dbgReady_images s))
  · rw [dbgNote_dv _ _ _ _ _ (bpKey_quiet hy1 hy2), bpSet_part (part := State.dv) (fun _ _ => rfl)]
    split
    · next h => subst h; exact State.dv_setDv _ _ _
    · next h =>
      rw [State.dv_setDv_other _ _ _ _ fun e => h (bpKey_inj e), dbgReady_dv]
  · rw [dbgNote_dbg, bpSet_ctx hctl, dbgReady_target]

end

/-! Refusals (R54, Table 17.3). -/

theorem denial_note (s : State) (c : Cls) (n addr : Nat) : s.dbgNote c n addr Code.debugDenied =
    s.raiseCore Ev.debugAction (s.physAny (dbgCore s.dbgTarget)) Code.debugDenied addr (n + 2 ^ 63) (dbgCtx s.dbgTarget)
      (clsBit c + 2 ^ 32 * clsSession c) := rfl

section
variable {s : State} {c : Cls} (hS : s.Serves) (hscope : dbgScope s.dbgTarget ≠ 3) (hno : s.dbgAllowed = false)
include hS hscope hno

theorem action_denied (hmay : mayWrite c (dkey 0x4020 0x02) = true) {i : Instr} {n : Nat}
    (hi : (i = .dbgHalt c ∧ n = 1) ∨ (i = .dbgResume c ∧ n = 2) ∨ (i = .dbgStep c ∧ n = 3)) :
    exec i s = .next (((s.setDv (dkey 0x4020 0x02) n).dbgNote c n 0 Code.debugDenied).answered Code.debugDenied) := by
  have hn := (setAction_target s n).symm ▸ hscope
  have hd := fun body => dbgAct_denied hn ((setAction_allowed s n).trans hno) c n body 0
  rw [exec_dbgAction hS hmay hi]
  rcases hi with ⟨-, rfl⟩ | ⟨-, rfl⟩ | ⟨-, rfl⟩
  · rw [actionWrite_halt, hd]
  · rw [actionWrite_resume, hd]
  · rw [actionWrite_step]
    obtain ⟨body, hbody, -⟩ := dbgStep_body (s.setDv (dkey 0x4020 0x02) 3) c
    rw [hbody, hd]

theorem read_denied (hmay : mayRead c (dkey 0x4021 0x02) = true) :
    exec (.dbgDataRead c) s = .next ((s.dbgNote c 4 0 Code.debugDenied).answered Code.debugDenied) := by
  have hr : s.dbgRead c = (s.dbgNote c 4 0 Code.debugDenied, Code.debugDenied, []) := by
    unfold State.dbgRead
    rw [dbgAct_denied hscope hno]
    rfl
  rw [exec_dbgData_read hS hmay hr, if_pos rfl]

theorem write_denied (hmay : mayWrite c (dkey 0x4021 0x02) = true) {v : List Byte} (hv : v.length = 128) :
    exec (.dbgDataWrite c v) s = .next ((s.dbgNote c 5 0 Code.debugDenied).answered Code.debugDenied) := by
  obtain ⟨body, hbody, -⟩ := dbgWrite_body s c v
  rw [exec_dbgData_write hS hmay hv, hbody, dbgAct_denied hscope hno]

theorem breakpoint_denied {sub : Nat} {v : BitVec 64} (h1 : 1 ≤ sub) (h2 : sub ≤ 8) (hmay : mayWrite c (dkey 0x4022 sub) = true) :
    exec (.breakpointWrite c sub v) s = .next ((s.dbgNote c 6 v.toNat Code.debugDenied).answered Code.debugDenied) := by
  have haddr : bpAddrSub sub = sub := by unfold bpAddrSub; rw [if_neg (by omega), if_neg (by omega)]
  have hkept : bpKept sub v = v.toNat := if_neg (by omega)
  have hd : s.bpWrite c sub v.toNat = (s.dbgNote c 6 v.toNat Code.debugDenied, Code.debugDenied) := by
    unfold State.bpWrite
    rw [dbgAct_denied hscope hno, if_pos haddr]
  rw [exec_breakpoint hS h1 (by omega) hmay, hkept, hd]

end

end Sys2Proof.Machine

/-! Debugging: the rows under authority and without it (R54 to R59). -/

namespace Sys2Proof.Machine

/-- A denied row leaves its record and answers DEBUG_DENIED (R54, Table 17.3). -/
theorem row_denied {s u : State} {c : Cls} {i : Instr} {n addr : Nat} (hS : s.Serves) (hscope : dbgScope s.dbgTarget ≠ 3)
    (hno : s.dbgAllowed = false)
    (hi : (mayWrite c (dkey 0x4020 0x02) = true ∧ u = s.setDv (dkey 0x4020 0x02) n ∧ addr = 0 ∧
        ((i = .dbgHalt c ∧ n = 1) ∨ (i = .dbgResume c ∧ n = 2) ∨ (i = .dbgStep c ∧ n = 3))) ∨
      (mayRead c (dkey 0x4021 0x02) = true ∧ u = s ∧ addr = 0 ∧ i = .dbgDataRead c ∧ n = 4) ∨
      (mayWrite c (dkey 0x4021 0x02) = true ∧ u = s ∧ addr = 0 ∧ n = 5 ∧ ∃ v, v.length = 128 ∧ i = .dbgDataWrite c v) ∨
      (u = s ∧ n = 6 ∧ ∃ (sub : Nat) (v : BitVec 64), 1 ≤ sub ∧ sub ≤ 8 ∧ mayWrite c (dkey 0x4022 sub) = true ∧
        i = .breakpointWrite c sub v ∧ addr = v.toNat)) :
    exec i s = .next ((u.dbgNote c n addr Code.debugDenied).answered Code.debugDenied) ∧ u.dbgTarget = s.dbgTarget ∧
      u.physAny = s.physAny := by
  rcases hi with ⟨hmay, rfl, rfl, hi⟩ | ⟨hmay, rfl, rfl, rfl, rfl⟩ | ⟨hmay, rfl, rfl, rfl, v, hv, rfl⟩ | ⟨rfl, rfl, sub, v, h1, h2, hmay, rfl, rfl⟩
  · exact ⟨action_denied hS hscope hno hmay hi, setAction_target s n, rfl⟩
  · exact ⟨read_denied hS hscope hno hmay, rfl, rfl⟩
  · exact ⟨write_denied hS hscope hno hmay hv, rfl, rfl⟩
  · exact ⟨breakpoint_denied hS hscope hno h1 h2 hmay, rfl, rfl⟩

/-- Settles O36: an action under authority runs on the target as the debug rows find it, and leaves its record; without authority the
record alone. -/
theorem debugging : Obligations.Debugging := by
  unfold Obligations.Debugging
  refine ⟨fun s c gr hS hscope hmode hok hgr => ⟨fun hmay => ⟨fun hrun => ?halt, fun hhalted hfree => ?resume,
    fun p a hhalted hp hwait hclear hlive hcore hal hf hreg hz hids => ?step, step_refused hS hscope hok hgr hmay⟩,
    fun hmay => ⟨read_refused hS hscope hok hmay hgr, fun hh => ⟨read_reg hS hscope hok hmay hgr hh, read_pred hS hscope hok hmay hgr hh,
      fun hq a => read_local hS hscope hok hmay hgr hh hq⟩⟩,
    fun v hmay hv => ⟨write_refused hS hscope hok hgr hmay hv, fun hh => ⟨write_reg hS hscope hok hgr hmay hv hh,
      write_pred hS hscope hok hgr hmay hv hh, fun hq a => write_local hS hscope hok hgr hmay hv hh hq⟩⟩,
    fun sub v h1 h2 hmay => ⟨breakpoint_refused hS hscope hok h1 h2 hmay, breakpoint_taken hS hscope hok h1 h2 hmay⟩⟩,
    fun s u c i n addr hS hscope hno hi => ?denied⟩
  case halt =>
    obtain ⟨t, ht, hat, hrest, hmem, hdv⟩ := halt_next hS hscope hmode hok hgr hmay hrun
    rw [askHalt_running hrun] at hat
    exact ⟨t, _, ht, hat, rfl, rfl, hrun, hrest, hmem, hdv⟩
  case resume => exact resume_next hS hscope hmode hok hgr hmay hhalted
  case step =>
    obtain ⟨t, ht, hat, hrest, hmem⟩ := step_nop hS hscope hok hgr hmay hmode hhalted hp hwait hclear hlive hcore hal hf hreg hz hids
    rw [unhalt_halted hhalted] at hat
    exact ⟨t, _, ht, hat, rfl, rfl, rfl, rfl, rfl, hrest, hmem⟩
  case denied =>
    obtain ⟨hexec, htarget, hphys⟩ := row_denied hS hscope hno hi
    rw [hexec, denial_note, htarget, hphys]

end Sys2Proof.Machine

/-! The events of the tensor mover: the end of a token may be the fault of a group that waits for it (R44, R49). -/

namespace Sys2Proof.Machine

/-! A transfer of context 5 that has finished on core 0. Its group waits for its token with no path to run: its 32 lanes are parked at a
lock that a lane of the group itself holds, and have retried. The launch has a set of speculation whose block lies at offset 0. -/

def endedXfer : Xfer := { id := 9, slot := 0, launch := 1, token := 0, kind := .fill, ctx := 5, fin := true }

def lockedGroup : Group :=
  { idx := 0, launch := 1, parked := [{ pc := 0x10000, mask := 0xFFFFFFFF, fid := 0, outside := false, tried := true }]
    tmTok := [(0, { order := 0, unit := 9 })], wait := .token false 0 0 0 true }

def lockedImage : Image :=
  { launch := 1, nslots := 1, groups := [(0, lockedGroup)], xfers := [endedXfer]
    sets := [{ set := 0, op := { id := 8, kind := .mxa, slot := 0, launch := 1, token := 0, ctx := 5 }, block := 0, img := 0 }] }

def lockedState : State :=
  { State.reset with
    dev := { phase := .running }
    parts := [(0, { groves := 1, slice := 100, resident := 5 })]
    launches := [{ id := 1, ctx := 5, ring := 0, cmd := 0, code := 0x10000, size := 4096, entry := 0x10000, wagn := true, groups := 1 }]
    images := [(imgKey 5 0, lockedImage)] }

/-- The token's end lets the group go on; nothing of it can, so its launch fails with LIVELOCK (R44), which its set takes as
SET_STATUS (R49). -/
theorem tokenEnd_marks_set : mapGet (0 : Byte) ((stateOf lockedState (exec (.tmTokenComplete 0 9) lockedState)).img 5 0).ls 38 = 5 := by
  decide +kernel

/-- Refutes O30: TM_TOKEN_COMPLETE is said to leave the core's local store as it was beside the transfer's record, whatever group waits
for the token. The statement is of every state: a waiting group none of whose paths can run fails its launch with LIVELOCK when the
token ends, and that writes SET_STATUS into the blocks of the launch's sets (R49, Table 05.10). -/
theorem not_tensorEvents : ¬ Obligations.TensorEvents := by
  unfold Obligations.TensorEvents
  rintro ⟨hevents, -⟩
  obtain ⟨-, -, -, hend, -⟩ := hevents lockedState 0 5 9 endedXfer (by decide) (by decide) (by decide)
  obtain ⟨t, ht, -, -, -, -, hstore, -⟩ := hend rfl rfl rfl (fun hk => by cases hk) rfl
  have hkept : mapGet (0 : Byte) (t.img 5 0).ls 38 = mapGet (0 : Byte) (lockedState.img 5 0).ls 38 := hstore 38 (fun r hr => by cases hr)
  have hmarked := tokenEnd_marks_set
  rw [ht] at hmarked
  exact absurd (hmarked.symm.trans hkept) (by decide)

end Sys2Proof.Machine

/-! Issue into the array queue (R72, R74, R132, R139). -/

namespace Sys2Proof.Machine

/-- Descriptor offsets in place pass their checks (R72). -/
theorem offCheck64_fine {i : Iss} {os : List Nat} (h : ∀ o ∈ os, o % 64 = 0 ∧ o + 64 ≤ i.img.lsBytes) : offCheck64 i os = (0, 0) := by
  have haligned : os.find? (fun o => decide (o % 64 ≠ 0)) = none :=
    List.find?_eq_none.mpr fun o ho => by simpa using (h o ho).1
  have hinside : os.find? (fun o => decide (o + 64 > i.img.lsBytes)) = none :=
    List.find?_eq_none.mpr fun o ho => by simpa using (h o ho).2
  simp only [offCheck64, haligned, hinside]

theorem tokFor_free {g : Group} {array : Bool} {t : Nat} (h : freeTok (g.toks array) = some t) : g.tokFor array = .take g t := by
  simp only [Group.tokFor, h]

/-- The operation an instruction puts into the array queue, without its number and its token: its place, its control word, the flags of
its launch, and the descriptors that `mk` reads (R72, R132, R139). -/
def Iss.mxOp (i : Iss) (w : IWord) (kind : MKind) (mk : MxOp → MxOp) : MxOp :=
  let f := fun (p : Launch → Bool) => ((i.s.launch? i.grp.launch).map p).getD false
  mk { id := 0, kind := kind, slot := i.slot, launch := i.grp.launch, group := i.grp.idx, token := 0, ctx := i.ctx, ctl := w.imm.toNat
       strict := f Launch.strict, spec := f Launch.spec, saved := f Launch.savem, recOff := mxRec w.imm.toNat }

/-- An issue whose operands are in place and that has a token free enters the queue, or waits for an entry and is counted (R74). -/
theorem mxIssue_fine {i : Iss} {w : IWord} {kind : MKind} {offs : List Nat} {mk : MxOp → MxOp} {t : Nat} (hact : i.act ≠ 0)
    (hoffs : ∀ o ∈ offs, o % 64 = 0 ∧ o + 64 ≤ i.img.lsBytes) (hrec : ∀ o, mxRec w.imm.toNat = some o → o + 32 ≤ i.img.lsBytes)
    (htok : freeTok i.grp.arTok = some t) :
    i.mxIssue w kind offs mk = if i.img.mxq.length < 16 then i.mxEnter i.grp t (i.mxOp w kind mk) w.rd.toNat i.act
      else (i.s.count (dkey 0x4030 0x06)).setGroup i.ctx i.core i.slot { i.grp with wait := .queue (i.mxOp w kind mk) w.rd.toNat i.act } := by
  have hinside : ((mxRec w.imm.toNat).map (fun o => decide (o + 32 > i.img.lsBytes))).getD false = false := by
    cases h : mxRec w.imm.toNat with
    | none => rfl
    | some o => simpa using hrec o h
  unfold Iss.mxIssue
  rw [if_neg hact]
  simp only [offCheck64_fine hoffs, hinside, tokFor_free (array := true) htok]
  rfl

theorem useTok_run (g : Group) (array : Bool) (t unit rd : Nat) (act : Lanes) : (g.useTok array t unit rd act).run = g.run :=
  (setLanes_run _ _ _ _).trans (setToks_run _ _ _)

/-- The state with an operation at the end of its core's array queue (R72). -/
def State.mxQueued (s : State) (c core t : Nat) (op : MxOp) : State :=
  s.bumpId.updImg c core (fun m => { m with mxq := m.mxq ++ [{ op with id := s.nextId, token := t }] })

/-- A group whose watchdog has just been set retires as given, at the next instruction (R48). -/
theorem retireP_run {i : Iss} {g : Group} {p : Path} (hp : g.run = some p) :
    i.retireP g = i.s.putGroup i.ctx i.core i.slot { g with run := some { p with pc := p.next, retry := false }, wdog := i.s.now } := by
  unfold Iss.retireP Iss.retire Iss.put
  rw [step16_run (g := { g with wdog := i.s.now }) hp]
  exact congrArg (i.s.putGroup i.ctx i.core i.slot) (ite_self _)

/-- An operation enters the queue: its group takes the token and retires (R72). -/
theorem mxEnter_eq {i : Iss} {g : Group} {p : Path} {op : MxOp} {t rd : Nat} {act : Lanes} (hp : g.run = some p) :
    i.mxEnter g t op rd act = (i.s.mxQueued i.ctx i.core t op).putGroup i.ctx i.core i.slot
      { g.useTok true t i.s.nextId rd act with run := some { p with pc := p.next, retry := false }, wdog := i.s.now } :=
  retireP_run (i := { i with s := i.s.mxQueued i.ctx i.core t op }) ((useTok_run _ _ _ _ _ _).trans hp)

/-- What an issuing group's operation does: it enters the queue with its token, or waits for an entry (R72, R74). -/
theorem mxIssue_next {s : State} {g : GRef} {h : Here} {p : Path} {w : IWord} {t : Nat} (hI : s.Issues g h p) (hact : h.active p w ≠ 0)
    {ins : Instr} {legal : Group → Bool} {kind : MKind} {offs : Iss → List Nat} {mk : Iss → MxOp → MxOp}
    (hexec : exec ins s = issue s g w legal (fun i => i.mxIssue w kind (offs i) (mk i))) (hlegal : legal h.seen = true)
    (hoffs : ∀ o ∈ offs (s.sees g h p w), o % 64 = 0 ∧ o + 64 ≤ h.img.lsBytes)
    (hrec : ∀ o, mxRec w.imm.toNat = some o → o + 32 ≤ h.img.lsBytes) (htok : freeTok h.grp.arTok = some t) :
    let op := (s.sees g h p w).mxOp w kind (mk (s.sees g h p w))
    (h.img.mxq.length < 16 → exec ins s = .next (((s.issued g h).mxQueued h.ctx g.core.val t op).putGroup h.ctx g.core.val g.slot.val
      { h.seen.useTok true t s.nextId w.rd.toNat (h.active p w) with
        run := some { p with pc := p.next, retry := false }, wdog := s.now })) ∧
    (16 ≤ h.img.mxq.length → exec ins s = .next (((s.issued g h).count (dkey 0x4030 0x06)).setGroup h.ctx g.core.val g.slot.val
      { h.seen with wait := .queue op w.rd.toNat (h.active p w) })) := by
  intro op
  have hp : h.seen.run = some p := (issuer_spec hI).2.2.1
  have hissue := mxIssue_fine (i := s.sees g h p w) (w := w) (kind := kind) (mk := mk (s.sees g h p w)) hact hoffs hrec htok
  rw [hexec]
  refine ⟨fun hroom => issue_next hI hlegal ?_, fun hfull => issue_next hI hlegal ?_⟩
  · exact (hissue.trans (if_pos hroom)).trans (mxEnter_eq hp)
  · exact hissue.trans (if_neg (Nat.not_lt.mpr hfull))

/-- A waiting group whose core's queue has an entry free puts its operation into it (R74). -/
theorem admit_next {s : State} {g : GRef} {h : Here} {p : Path} {op : MxOp} {rd t : Nat} {act : Lanes} (hrun : s.running = true)
    (hat : s.groupAt g.core.val g.slot.val = some h) (hwait : h.grp.wait = .queue op rd act) (hp : h.grp.run = some p)
    (hroom : h.img.mxq.length < 16) (htok : freeTok h.grp.arTok = some t) :
    exec (.mxaQueueAdmit g) s = .next ((s.mxQueued h.ctx g.core.val t op).putGroup h.ctx g.core.val g.slot.val
      { ({ h.grp with wait := .none } : Group).useTok true t s.nextId rd act with
        run := some { p with pc := p.next, retry := false }, wdog := s.now }) := by
  have henter := mxEnter_eq (i := s.issOf h.ctx g.core.val g.slot.val { h.grp with wait := .none }) (g := { h.grp with wait := .none })
    (op := op) (t := t) (rd := rd) (act := act) hp
  simp only [exec_mxaQueueAdmit, execMxaQueueAdmit, hrun, hat, hwait, htok, ge_iff_le, Nat.not_le.mpr hroom, Bool.not_true,
    Bool.false_eq_true, if_false]
  exact congrArg _ henter

/-- Settles O28: the three instructions are issues of one form, whose operands are in place. -/
theorem arrayIssue : Obligations.ArrayIssue := by
  unfold Obligations.ArrayIssue
  refine ⟨?_, fun s g h p op rd t act hrun hat hwait hp hroom htok => admit_next hrun hat hwait hp hroom htok⟩
  intro s g h p w t hI hact hm hr lead reg desc fine ins kind hins hrec htok
  have hz := modZero_of hm
  have hr3 : regsOk [(w.rd.toNat, 1), (w.ra.toNat, 1), (w.rb.toNat, 1)] h.grp = true := by
    simp only [regsOk, List.all_cons, List.all_nil, Bool.and_true, Bool.and_eq_true] at hr ⊢
    exact ⟨hr.1, hr.2.1, hr.2.2.1⟩
  rcases hins with ⟨rfl, rfl, ha, hb, hc⟩ | ⟨rfl, rfl, ha, hb⟩ | ⟨rfl, rfl, ha, hb⟩
  · have hnext := mxIssue_next hI hact (exec_mxaAsync g w s) (by simp only [hz, regsOk_seen, hr, Bool.and_self])
      (by simpa using ⟨ha, hb, hc⟩) hrec htok
    exact ⟨(s.sees g h p w).mxOp w .mxa (fun op => { op with a := desc w.ra, b := desc w.rb, c := desc w.rc }), rfl, rfl, rfl, rfl, rfl, rfl, rfl, rfl,
      fun _ => ⟨rfl, rfl⟩, fun _ => rfl, nofun, hnext⟩
  · have hnext := mxIssue_next hI hact (exec_mxaCmpr g w s) (by simp only [hz, regsOk_seen, hr3, Bool.and_self])
      (by simpa using ⟨ha, hb⟩) hrec htok
    exact ⟨(s.sees g h p w).mxOp w .cmpr (fun op => { op with a := desc w.ra, b := desc w.rb }), rfl, rfl, rfl, rfl, rfl, rfl, rfl, rfl,
      fun _ => ⟨rfl, rfl⟩, nofun, nofun, hnext⟩
  · have hoffs : ∀ o ∈ (if bitAt w.imm.toNat 63 then [reg w.ra] else [reg w.ra, reg w.rb]), o % 64 = 0 ∧ o + 64 ≤ h.img.lsBytes := by
      cases hclear : bitAt w.imm.toNat 63
      · have hb := hb.resolve_left (by simp [hclear])
        simpa using ⟨ha, hb⟩
      · simpa using ha
    have hnext := mxIssue_next hI hact (exec_rwnDrain g w s) (by simp only [hz, regsOk_seen, hr3, Bool.and_self]) hoffs hrec htok
    exact ⟨(s.sees g h p w).mxOp w .drain (fun op => { op with ra := reg w.ra, b := if bitAt w.imm.toNat 63 then 0 else desc w.rb }), rfl, rfl, rfl, rfl, rfl, rfl, rfl, rfl,
      fun hk => absurd rfl hk, nofun, fun _ => rfl, hnext⟩

end Sys2Proof.Machine

/-! The events of an array: the end of an operation may be the fault of a group that waits for it (R49, R75). -/

namespace Sys2Proof.Machine

/-! An operation that ends on core 0 with DESCRIPTOR_INVALID. Its group waits for its token in an MXA.WAIT without a destination, and
another operation of the same launch is queued behind it. -/

def endingOp : MxOp := { id := 8, kind := .mxa, slot := 0, launch := 1, token := 0, ctx := 5, started := true, st := Code.descriptorInvalid }

def queuedOp : MxOp := { id := 9, kind := .mxa, slot := 0, launch := 1, token := 1, ctx := 5 }

def waitingGroup : Group :=
  { idx := 0, launch := 1, run := some { pc := 0x10000, mask := 0xFFFFFFFF }
    arTok := [(0, { order := 0, unit := 8 }), (1, { order := 1, unit := 9 })], wait := .token true 0 0 0xFFFFFFFF false }

def endingState : State :=
  { State.reset with
    dev := { phase := .running }
    launches := [{ id := 1, ctx := 5, ring := 0, cmd := 0, code := 0x10000, size := 4096, entry := 0x10000, wagn := true, groups := 1 }]
    images := [(imgKey 5 0, { launch := 1, nslots := 1, groups := [(0, waitingGroup)], mxq := [endingOp, queuedOp] })] }

/-- The status faults the waiting group (R75), its launch falls, and the operation queued behind is discarded (R49). -/
theorem mxEnd_discards_queue : ((endingState.mxEnd 0 endingOp Code.descriptorInvalid 0 none).img 5 0).mxq = [] := by
  decide +kernel

/-- Refutes O29: an operation that ends is said to leave the next one at the head of its core's queue, whatever group waits for its token.
The statement is of every state: the end with a failure faults a group that waits for it in an MXA.WAIT without a destination (R75), and
its launch loses what it had queued on the array (R49). -/
theorem not_arrayEvents : ¬ Obligations.ArrayEvents := by
  unfold Obligations.ArrayEvents
  rintro ⟨-, hends, -⟩
  obtain ⟨hqueue, -⟩ := hends endingState 0 endingOp Code.descriptorInvalid 0 none (by decide)
  exact absurd (mxEnd_discards_queue.symm.trans hqueue) (by decide)

end Sys2Proof.Machine

/-! What ending a command leaves (R335, R343): records go to the completion ring and the counters alone. -/

namespace Sys2Proof.Machine

/-- States alike, as far as launches and commands go, but for what records of a context's commands change. -/
structure State.Posted (s t : State) (x : Nat) : Prop where
  ring : ∀ r, t.ring x r = s.ring x r
  mem : t.mem = s.mem
  images : t.images = s.images
  launches : t.launches = s.launches

section
variable {s t u : State} {x : Nat}

theorem posted_refl : s.Posted s x := ⟨fun _ => rfl, rfl, rfl, rfl⟩

theorem State.Posted.trans (h : s.Posted t x) (k : t.Posted u x) : s.Posted u x :=
  ⟨fun r => (k.ring r).trans (h.ring r), k.mem.trans h.mem, k.images.trans h.images, k.launches.trans h.launches⟩

theorem posted_ite {p : Prop} [Decidable p] (ht : s.Posted t x) (hu : s.Posted u x) : s.Posted (if p then t else u) x := by
  split
  · exact ht
  · exact hu

theorem posted_of_reported (h : Reported s t) : s.Posted t x := by
  obtain ⟨_, _, _, rfl⟩ := h
  exact ⟨fun _ => rfl, rfl, rfl, rfl⟩

theorem posted_count (k n : Nat) : s.Posted (s.count k n) x := posted_of_reported (reported_count s k n)

theorem posted_emit (o : Out) : s.Posted (s.emit o) x := ⟨fun _ => rfl, rfl, rfl, rfl⟩

theorem posted_msix (v : Nat) : s.Posted (s.msix x v) x := posted_ite posted_refl (posted_emit _)

theorem posted_updCq (f : Cq → Cq) : s.Posted (s.updCq x f) x :=
  ⟨fun r => by simp [State.ring, State.updCq], rfl, rfl, rfl⟩

theorem posted_ringWrite {loc : Bool} (hloc : loc = false) (base off : Nat) (bs : List Byte) :
    s.Posted (s.ringWrite x loc base off bs) x := by
  subst hloc; exact posted_emit _

/-- A record in a ring of host memory (R335). -/
theorem posted_cqWrite (hloc : ctlLoc ((s.ringsOf x).cq).ctrl = false) (rec : Nat) : s.Posted (s.cqWrite x rec) x := by
  have hwritten := fun off bs f => (posted_ringWrite (s := s) (x := x) hloc ((s.ringsOf x).cq).base.toNat off bs).trans (posted_updCq f)
  unfold State.cqWrite
  exact posted_ite ((hwritten _ _ _).trans (posted_msix 0)) (hwritten _ _ _)

/-- A record in the ring or the overflow store (R335). -/
theorem posted_post (hloc : ctlLoc ((s.ringsOf x).cq).ctrl = false) (rec : Nat) : s.Posted (s.post x rec) x := by
  have hspill := (posted_updCq (s := s) (x := x) (fun q => { q with spill := q.spill ++ [rec] })).trans
    (posted_ite (p := ((s.ringsOf x).cq).spill.length = 63) (posted_count (dkey 0x7080 0x06) 1) posted_refl)
  exact posted_ite (posted_cqWrite hloc rec) (posted_ite (hspill.trans (posted_msix 1)) hspill)

/-- A ring whose record is posted goes on, its command ended (R334). -/
theorem freed_of_posted (h : s.Posted t x) (r : Nat) (b : Bool) :
    s.Freed (t.updRing x r (fun q => { q with cur := none, failed := b, fin := q.fin + 1 })) x r b := by
  constructor <;> rw [State.ring_updRing] <;> simp only [h.ring]

/-- A command without a record of its own ends: its ring goes on, memory, cores and launches stay (R343). -/
theorem complete_leaves {r : Nat} {c : Cmd} {st : Status} {result detail body : Nat} (hloc : ctlLoc ((s.ringsOf x).cq).ctrl = false)
    (hrec : ¬ (hasRecord (cOpc c.img) = true ∧ cRec c.img ≠ 0 ∧ cRec c.img % 32 = 0)) :
    s.Freed (s.complete x r c st result detail body) x r (Code.isFailure st) ∧ (s.complete x r c st result detail body).mem = s.mem ∧
      (s.complete x r c st result detail body).images = s.images ∧ (s.complete x r c st result detail body).launches = s.launches := by
  have hcounted := fun rec => ((posted_post hloc rec).trans (posted_count (dkey 0x7080 0x01) 1)).trans (posted_count (ctxKey x 0x04) 1)
  have hlate := fun rec => (hcounted rec).trans (posted_ite (p := st = Code.kernelDeadline) (posted_count (dkey 0x7080 0x03) 1) posted_refl)
  have hposted := fun rec => (hlate rec).trans (posted_ite (p := Code.isFailure st = true)
    (posted_of_reported ((reported_setDv _ (ctxKey x 0x03) (st.toNat * 65536 + cOpc c.img * 256 + r)).trans
      (reported_raise _ Ev.traceCompletion 8 st 0 []))) posted_refl)
  unfold State.complete
  rw [if_neg hrec]
  exact ⟨freed_of_posted (hposted _) r _, (hposted _).mem, (hposted _).images, (hposted _).launches⟩

end

/-! What the end of a launch's cores leaves (R341). -/

theorem img_updImg_other {s : State} {c n m : Nat} {f : Image → Image} (h : m ≠ n) : (s.updImg c n f).img c m = s.img c m :=
  mapGet_set_other _ _ _ _ _ fun e => h (Nat.add_left_cancel e)

theorem xfersEnd_idle {s : State} {c n : Nat} {p : Xfer → Bool} {code : Status} (h : (s.img c n).xfers = []) :
    s.xfersEnd c n p code = s := by
  unfold State.xfersEnd; rw [h]; rfl

/-- A core as a launch that ends leaves it. -/
def Launch.freed (l : Launch) (i : Image) : Image :=
  if i.launch = l.id then { i with launch := 0, nslots := 0, groups := [], xfers := [], mxq := [], sets := [] } else i

theorem freed_xfers {l : Launch} {i : Image} (h : i.xfers = []) : (l.freed i).xfers = [] := by
  unfold Launch.freed; split
  · rfl
  · exact h

/-- A core of a launch is released, what its transfers leave reported. -/
def State.releaseOn (l : Launch) (s : State) (n : Nat) : State :=
  (s.xfersEnd l.ctx n (fun x => x.launch == l.id) l.st).updImg l.ctx n l.freed

theorem releaseOn_idle {s : State} {l : Launch} {n : Nat} (h : (s.img l.ctx n).xfers = []) : s.releaseOn l n = s.updImg l.ctx n l.freed :=
  congrArg (State.updImg · l.ctx n l.freed) (xfersEnd_idle h)

/-- Releasing idle cores changes images alone. -/
theorem releaseAll_idle {s : State} {l : Launch} (h : ∀ n ∈ l.cores, (s.img l.ctx n).xfers = []) :
    ∃ is, l.cores.foldl (State.releaseOn l) s = { s with images := is } := by
  suffices hfold : (∃ is, l.cores.foldl (State.releaseOn l) s = { s with images := is }) ∧
      ∀ n ∈ l.cores, ((l.cores.foldl (State.releaseOn l) s).img l.ctx n).xfers = [] from hfold.1
  refine List.foldlRecOn (motive := fun t => (∃ is, t = { s with images := is }) ∧ ∀ n ∈ l.cores, (t.img l.ctx n).xfers = [])
    l.cores (State.releaseOn l) ⟨⟨_, rfl⟩, h⟩ fun t ⟨ht, hidle⟩ n hn => ?_
  obtain ⟨is, rfl⟩ := ht
  rw [releaseOn_idle (hidle n hn)]
  refine ⟨⟨_, rfl⟩, fun m hm => ?_⟩
  by_cases hmn : m = n
  · rw [hmn, img_updImg]; exact freed_xfers (hidle n hn)
  · rw [img_updImg_other hmn]; exact hidle m hm

/-- Idle cores of a launch are released: images, launches and requests alone change. -/
theorem releaseCores_idle {s : State} {l : Launch} (h : ∀ n ∈ l.cores, (s.img l.ctx n).xfers = []) : ∃ is rs,
    s.releaseCores l = { s with images := is, launches := s.launches.filter (fun m => m.id != l.id), reqs := rs } := by
  obtain ⟨is, hall⟩ := releaseAll_idle h
  exact ⟨is, _, congrArg (fun t : State => { t with
    launches := t.launches.filter (fun m => m.id != l.id)
    reqs := t.reqs.filter (fun r => !(r.owner == l.id && l.id != 0 && r.ph == ReqPh.done)) }) hall⟩

/-- The one core of a launch is released. -/
theorem releaseCores_img {s : State} {l : Launch} {k : Nat} (hcores : l.cores = [k]) (hidle : (s.img l.ctx k).xfers = []) :
    (s.releaseCores l).img l.ctx k = l.freed (s.img l.ctx k) := by
  have hone : l.cores.foldl (State.releaseOn l) s = s.updImg l.ctx k l.freed := by rw [hcores]; exact releaseOn_idle hidle
  exact (congrArg (State.img · l.ctx k) hone).trans (img_updImg s l.ctx k l.freed)

end Sys2Proof.Machine

/-! What a write of a translation table leaves (R189, R193, R215, R225). -/

namespace Sys2Proof.Machine

/-- States alike but for what reads and writes of memory through its code, and the dropping of translations, change. -/
def TableWritten (s t : State) : Prop := ∃ d o r m sd hb mg tl dt,
  t = { s with dict := d, ovfl := o, rep := r, mem := m, side := sd, hbm := hb, mgmt := mg, tlbs := tl, dtlbs := dt }

section
variable {s t u : State}

theorem tableWritten_refl : TableWritten s s := ⟨_, _, _, _, _, _, _, _, _, rfl⟩

theorem TableWritten.trans : TableWritten s t → TableWritten t u → TableWritten s u := by
  rintro ⟨_, _, _, _, _, _, _, _, _, rfl⟩ ⟨_, _, _, _, _, _, _, _, _, rfl⟩
  exact ⟨_, _, _, _, _, _, _, _, _, rfl⟩

theorem tableWritten_ite {p : Prop} [Decidable p] (ht : TableWritten s t) (hu : TableWritten s u) : TableWritten s (if p then t else u) := by
  split
  · exact ht
  · exact hu

theorem tableWritten_of_reported (h : Reported s t) : TableWritten s t := by
  obtain ⟨_, _, _, rfl⟩ := h; exact ⟨_, _, _, _, _, _, _, _, _, rfl⟩

theorem tableWritten_count (k n : Nat) : TableWritten s (s.count k n) := tableWritten_of_reported (reported_count s k n)

theorem tableWritten_raise (ev unit : Nat) (st : Status) (d0 : Nat) (ds : List Nat) : TableWritten s (s.raise ev unit st d0 ds) :=
  tableWritten_of_reported (reported_raise s ev unit st d0 ds)

theorem tableWritten_mem (m : List Host.Cell) (sd : Map Nat) : TableWritten s { s with mem := m, side := sd } :=
  ⟨_, _, _, _, _, _, _, _, _, rfl⟩

theorem tableWritten_hbm (hb : Hbm) : TableWritten s { s with hbm := hb } := ⟨_, _, _, _, _, _, _, _, _, rfl⟩

theorem tableWritten_mgmt (mg : Mgmt) : TableWritten s { s with mgmt := mg } := ⟨_, _, _, _, _, _, _, _, _, rfl⟩

theorem tableWritten_dropTags (out : XTag → Bool) : TableWritten s (s.dropTags out) := ⟨_, _, _, _, _, _, _, _, _, rfl⟩

theorem tableWritten_foldl {α : Type} {f : State → α → State} (h : ∀ s a, TableWritten s (f s a)) (l : List α) : TableWritten s (l.foldl f s) :=
  foldl_keeps f l s tableWritten_refl fun _ _ ht => ht.trans (h _ _)

theorem tableWritten_triggerMapout (slot : Nat) : TableWritten s (s.triggerMapout slot) :=
  tableWritten_ite tableWritten_refl (tableWritten_hbm _)

theorem tableWritten_uncorrAt (o : Nat) : TableWritten s (s.uncorrAt o) := by
  have hnoted := fun unit st d0 ds hb => (tableWritten_raise (s := s) Ev.hbmUncorrectable unit st d0 ds).trans (tableWritten_hbm hb)
  exact tableWritten_ite ((hnoted _ _ _ _ _).trans (tableWritten_triggerMapout _)) (hnoted _ _ _ _ _)

theorem tableWritten_corrAt (o : Nat) : TableWritten s (s.corrAt o) := by
  have hnoted := fun hb => (tableWritten_count (s := s) (dkey 0x3011 0x01) 1).trans (tableWritten_hbm hb)
  exact tableWritten_ite ((hnoted _).trans ((tableWritten_mgmt _).trans (tableWritten_raise _ _ _ _ _))) (hnoted _)

theorem tableWritten_eccBlock (blk : Nat) : TableWritten s (s.eccBlock blk).1 := by
  unfold State.eccBlock
  split
  · exact tableWritten_refl
  · split
    · exact tableWritten_refl
    · exact (tableWritten_mem _ _).trans (tableWritten_corrAt _)
    · exact ((tableWritten_mem _ _).trans (tableWritten_count _ _)).trans (tableWritten_uncorrAt _)
    · exact (tableWritten_count _ _).trans (tableWritten_uncorrAt _)

theorem tableWritten_blockPut (o : Nat) (cs : List (Nat × Byte)) : TableWritten s (s.blockPut o cs).1 := by
  unfold State.blockPut
  split
  · exact tableWritten_mem _ _
  · split
    · exact tableWritten_mem _ _
    · dsimp only
      split
      · exact (tableWritten_eccBlock _).trans (tableWritten_mem _ _)
      · exact tableWritten_eccBlock _
  · exact tableWritten_refl

theorem tableWritten_tableRead (o : Nat) : TableWritten s (s.tableRead o) := by
  unfold State.tableRead
  dsimp only
  split
  · split
    · exact ((tableWritten_eccBlock _).trans (tableWritten_eccBlock _)).trans (tableWritten_blockPut _ _)
    · exact (tableWritten_eccBlock _).trans (tableWritten_eccBlock _)
  · exact tableWritten_eccBlock _

theorem tableWritten_devWrite (o : Nat) (bs : List Byte) : TableWritten s (s.devWrite o bs).1 :=
  foldl_keeps (P := fun a : State × Status => TableWritten s a.1) _ _ _ tableWritten_refl fun a p ha => by
    split
    · exact ha
    · exact ha.trans (tableWritten_blockPut _ _)

/-- An entry of a table is written in both copies (R225). -/
theorem tableWritten_setEntry (c l va v : Nat) : TableWritten s (s.setEntry c l va v) := by
  unfold State.setEntry
  have hput := fun (q : State) (o : Nat) => (tableWritten_tableRead (s := q) o).trans (tableWritten_devWrite o (leBytes 8 v))
  split
  · exact tableWritten_refl
  · exact ((hput _ _).trans (hput _ _)).trans (tableWritten_dropTags _)

end

end Sys2Proof.Machine

/-! Measuring and locking a code object (R369, R370). -/

namespace Sys2Proof.Machine

theorem cur_updCmd {s : State} {x r : Nat} {c : Cmd} (h : (s.ring x r).cur = some c) (f : Cmd → Cmd) :
    ((s.updCmd x r f).ring x r).cur = some (f c) :=
  (congrArg Ring.cur (State.ring_updRing s x r _)).trans (congrArg (Option.map f) h)

/-- Does a leaf's page overlap a code object? -/
def inCode (code size : Nat) (e : Nat × Leaf) : Bool := decide (65536 * e.1 < code + size ∧ code < 65536 * e.1 + leafBytes e.2.size)

/-- The leaves of a context once W is cleared in those of a code object (R370). -/
def Ctx.lockedLeaves (x : Ctx) (code size : Nat) : Map Leaf :=
  x.leaves.map (fun e => if inCode code size e then (e.1, { e.2 with w := false }) else e)

theorem lockedLeaves_readOnly {x : Ctx} {code size : Nat} {e : Nat × Leaf} (he : e ∈ x.lockedLeaves code size)
    (hlo : 65536 * e.1 < code + size) (hhi : code < 65536 * e.1 + leafBytes e.2.size) : e.2.w = false := by
  obtain ⟨e', -, rfl⟩ := List.mem_map.mp he
  by_cases hin : inCode code size e' = true
  · rw [if_pos hin]
  · rw [if_neg hin] at hlo hhi
    exact absurd (decide_eq_true ⟨hlo, hhi⟩) hin

section
variable (s : State) (c code size : Nat)

/-- The leaves of a code object lose W, in the context and in its tables (R370). -/
def State.lockTables : State :=
  ((s.ctx c).leaves.filter (inCode code size)).foldl
    (fun (t : State) e => t.setEntry c (leafLevel e.2.size) (65536 * e.1) (leafWord { e.2 with w := false }))
    (s.setCtx c { s.ctx c with leaves := (s.ctx c).lockedLeaves code size })

theorem lockTables_written :
    TableWritten (s.setCtx c { s.ctx c with leaves := (s.ctx c).lockedLeaves code size }) (s.lockTables c code size) :=
  tableWritten_foldl (fun _ _ => tableWritten_setEntry _ _ _ _) _

/-- Locking the pages of a code object changes the ownership of its granules beside them. -/
theorem lockPages_eq : ∃ o, s.lockPages c code size = { s.lockTables c code size with owner := o } := ⟨_, rfl⟩

theorem lockPages_ctx : (s.lockPages c code size).ctx c = { s.ctx c with leaves := (s.ctx c).lockedLeaves code size } := by
  obtain ⟨_, h⟩ := lockPages_eq s c code size
  obtain ⟨_, _, _, _, _, _, _, _, _, hw⟩ := lockTables_written s c code size
  rw [h, hw]; exact mapGet_set_self _ _ _ _

theorem lockPages_keeps : (s.lockPages c code size).images = s.images ∧ (s.lockPages c code size).launches = s.launches ∧
    (s.lockPages c code size).ring = s.ring := by
  obtain ⟨_, h⟩ := lockPages_eq s c code size
  obtain ⟨_, _, _, _, _, _, _, _, _, hw⟩ := lockTables_written s c code size
  rw [h, hw]; exact ⟨rfl, rfl, rfl⟩

end

/-! A LAUNCH that runs (Table 13.8). -/

/-- A core as a launch that takes it alone and without parameters finds it (R32, R33, R341). -/
def Launch.taken (l : Launch) (i : Image) : Image :=
  { i with shared := lShared l.cmd, grpBytes := lGroupLs l.cmd, launch := l.id, nslots := occupancy l.cmd, groups := []
           nextIdx := 0, stride := 1, last := 0, served := 0, cacheKiB := lCacheKiB l.cmd, xfers := [], mxq := [], sets := [] }

/-- A launch takes a core; a change of the size of its cache discards its lines (R194). -/
def State.takeCore (s : State) (l : Launch) (x n : Nat) : State :=
  { s.updImg x n l.taken with caches := if (s.img x n).cacheKiB = lCacheKiB l.cmd then s.caches else mapErase s.caches n }

theorem takeCore_img (s : State) (l : Launch) (x n : Nat) : (s.takeCore l x n).img x n = l.taken (s.img x n) := img_updImg s x n l.taken

section
variable {s : State} {ctx : Fin 4097} {ring : Fin 8} {cmd : Cmd} {l : Launch}

theorem launchCmd_next {x r stage : Nat} {body : Cmd → Launch → State} (hrun : s.running = true) (hcur : (s.ring x r).cur = some cmd)
    (hopc : cOpc cmd.img = 0x10) (hl : s.launch? cmd.launch = some l) (hstage : cmd.stage = stage) :
    launchCmd s x r stage body = .next (body cmd l) := by
  simp [launchCmd, hrun, hcur, hopc, hl, hstage]

variable (hrun : s.running = true) (hcur : (s.ring ctx.val ring.val).cur = some cmd) (hopc : cOpc cmd.img = 0x10)
  (hl : s.launch? cmd.launch = some l)
include hrun hcur hopc hl

section
variable (hup : l.fallen = false)
include hup

/-- CODE_MEASURE of an object that is new to its context (R369, R370). -/
theorem measure_next (hstage : cmd.stage = 1) (hnew : (s.ctx ctx.val).measuredCode l.code l.size = false) :
    let h := Config.sha384 ((cut 65536 l.code l.size).flatMap (fun p => match s.fetchAt ctx.val p.1 with | some o => s.rawRead o p.2 | none => []))
    ∃ v : State, exec (.codeMeasure ctx ring) s = .next v ∧
      (v.ctx ctx.val).mctx = (if ctx.val = 4096 then 0 else Config.sha384 (leBytes 48 (s.ctx ctx.val).mctx.toNat ++ leBytes 48 h.toNat)) ∧
      (v.ctx ctx.val).codeCount = (s.ctx ctx.val).codeCount + 1 ∧ (v.ctx ctx.val).locked = (s.ctx ctx.val).locked ++ [(l.code, l.size)] ∧
      (v.ctx ctx.val).leaves = (s.ctx ctx.val).lockedLeaves l.code l.size ∧ v.images = s.images ∧ v.launches = s.launches ∧
      (v.ring ctx.val ring.val).cur = some { cmd with stage := 2 } := by
  intro h
  obtain ⟨himages, hlaunches, hring⟩ := lockPages_keeps (s.updCmd ctx.val ring.val (fun c => { c with stage := 2 })) ctx.val l.code l.size
  have hctx := lockPages_ctx (s.updCmd ctx.val ring.val (fun c => { c with stage := 2 })) ctx.val l.code l.size
  have hbody := fun body => launchCmd_next (body := body) hrun hcur hopc hl hstage
  have hwork : ¬ (l.fallen = true ∨ (s.ctx ctx.val).measuredCode l.code l.size = true) := by simp [hup, hnew]
  refine ⟨_, (hbody _).trans (congrArg _ (if_neg hwork)), ?_⟩
  rw [State.ctx_updCtx, hctx]
  refine ⟨rfl, rfl, rfl, rfl, himages, hlaunches, ?_⟩
  exact (congrArg Ring.cur (congrFun (congrFun hring ctx.val) ring.val)).trans (cur_updCmd hcur _)

/-- REPLAY_ENTRY_START of an entry that passes its checks (R169, R170). -/
theorem entry_next {img srl : Nat} {rest : List (Nat × Nat)} {t : State} {h : Header} (hstage : cmd.stage = 2)
    (hreplay : l.replay = (img, srl) :: rest) (hmain : cmd.launch = cmd.aux)
    (hheader : (s.updLaunch l.id (fun k => { k with replay := rest })).codeHeader ctx.val (lCode img) = (t, some h))
    (hok : firstReason (t.launchReasons ctx.val img (some h)) = none) :
    let e := { t.makeLaunch ctx.val ring.val img h srl true with seed := l.seed, strict := l.strict }
    exec (.replayEntryStart ctx ring) s = .next ((({ t with launches := t.launches ++ [e] } : State).bumpId).updCmd ctx.val ring.val
      (fun k => { k with launch := t.nextId, stage := if (t.ctx ctx.val).measuredCode (lCode img) h.size then 2 else 1 })) := by
  intro e
  refine (launchCmd_next hrun hcur hopc hl hstage).trans ?_
  simp only [hreplay, hup, hmain, hheader, hok, Bool.false_eq_true, ne_eq, not_true_eq_false, or_self, if_false]
  rfl

/-- LAUNCH_START of a launch of one core without parameters (R341). -/
theorem start_next {n : Nat} (hstage : cmd.stage = 2) (hreplay : l.replay = []) (hplaced : (s.ctx ctx.val).groves ≠ 0)
    (hfree : s.exchanging ctx.val = false) (hopen : ¬ (ctx.val = 4096 ∧ (s.ctx ctx.val).quiesceBy ≠ 0))
    (hfit : s.launchFit ctx.val (lCores l.cmd) l.wagn = 0) (hplen : lPlen l.cmd = 0) (hone : lCores l.cmd = 1)
    (hcore : (s.launchCores ctx.val l.wagn).filter (fun n => (s.img ctx.val n).launch == 0) = [n])
    (hlive : ∀ k ∈ s.launchCores ctx.val l.wagn, s.liveCtx k = some ctx.val) :
    exec (.launchStart ctx ring) s = .next ((((s.agDrop (cmdAg ctx.val cmd)).takeCore l ctx.val n).updLaunch l.id
      (fun k => { k with cores := [n] })).updCmd ctx.val ring.val (fun c => { c with stage := 3 })) := by
  have hgo : (l.fallen || !l.replay.isEmpty || (s.ctx ctx.val).groves == 0 || s.exchanging ctx.val ||
      (ctx.val == 4096 && (s.ctx ctx.val).quiesceBy != 0)) = false := by
    simpa [hup, hreplay, hplaced, hfree] using hopen
  have hall : (s.launchCores ctx.val l.wagn).any (fun k => s.liveCtx k != some ctx.val) = false := by simpa using hlive
  refine (launchCmd_next hrun hcur hopc hl hstage).trans ?_
  rw [hone] at hfit
  simp only [hgo, hfit, hone, hcore, hall, hplen, Bool.false_eq_true, if_false, ne_eq, not_true_eq_false, if_true, one_ne_zero,
    List.length_singleton, lt_self_iff_false, or_self]
  rfl

/-- LAUNCH_COMPLETE of a launch whose groups and work are done (R341). -/
theorem complete_next (hstage : cmd.stage = 3) (hmain : l.isEntry = false) (hgroups : l.groups ≤ l.ended) (hwork : s.launchWork l = false)
    (hreqs : s.launchReqs l = false) : exec (.launchComplete ctx ring) s = .next (s.endLaunch l l.status 65535) := by
  refine (launchCmd_next hrun hcur hopc hl hstage).trans ?_
  simp [hup, hmain, hwork, hreqs, Nat.not_lt.mpr hgroups]

end

end

end Sys2Proof.Machine

/-! The end, the deadline and the teardown of a launch; the timeout of a command (R341, R346 to R348). -/

namespace Sys2Proof.Machine

/-! Reasons of a refusal. -/

/-- Reasons that do not hold change nothing. -/
theorem firstReason_append {a b : List (Bool × Status × Nat)} (h : ∀ e ∈ b, e.1 = false) : firstReason (a ++ b) = firstReason a := by
  have hb : b.filter (fun e => e.1) = [] := List.filter_eq_nil_iff.mpr fun e he => by simp [h e he]
  unfold firstReason
  rw [List.filter_append, hb, List.append_nil]

/-- A command with no REC and no DEP that every context may give has no reason of Table 13.12 common to all (R334, R338, R339). -/
theorem baseReasons_none {s : State} {x r : Nat} {c : Cmd} (hopc : cOpc c.img < 0x60) (hrec : cRec c.img = 0) (hdep : cDep c.img = false) :
    ∀ e ∈ s.baseReasons x r c, e.1 = false := by
  simp [State.baseReasons, hrec, hdep, hopc]

/-- What a LAUNCH without a replay list comes to once its header is read (R342). -/
def State.launchJudged (s : State) (x r : Nat) (c : Cmd) (h : Option Header) : State :=
  match firstReason (s.launchReasons x c.img h), h with
  | some (st, d), _ => (if st = Code.replayInvalid then s.count (dkey 0x4060 0x05) else s).refuse x r c st d (65535 * 2 ^ 224)
  | none, some h => s.acceptLaunch x r c h []
  | none, none => s

theorem launch_next {s t : State} {ctx : Fin 4097} {ring : Fin 8} {cmd : Cmd} {h : Option Header}
    (hoff : s.offers ctx.val ring.val 0x10 cmd) (hreplay : lReplay cmd.img = false) (hrec : cRec cmd.img = 0) (hdep : cDep cmd.img = false)
    (hheader : s.codeHeader ctx.val (lCode cmd.img) = (t, h)) :
    exec (.launch ctx ring) s = .next ((t.agDrop (cmdAg ctx.val cmd)).launchJudged ctx.val ring.val cmd h) := by
  obtain ⟨hrun, hcur, hopc, hstage, htear⟩ := hoff
  have hwhy := fun a => firstReason_append (a := a) (b := [(false, Code.replayInvalid, 3)] ++ (t.agDrop (cmdAg ctx.val cmd)).baseReasons ctx.val ring.val cmd)
    (by simpa using baseReasons_none (by rw [hopc]; decide) hrec hdep)
  have hok : (RList.ok [] == RList.bad) = false := rfl
  simp only [exec_launch, execLaunch, ringCmd, hrun, hcur, hopc, hstage, htear, hheader, hreplay, State.entriesBad, List.foldl_nil,
    Bool.not_true, Bool.false_eq_true, ne_eq, not_true_eq_false, or_self, if_false, hok, Bool.or_self, List.append_assoc, hwhy]
  rfl

section
variable {s : State} {x r : Nat} {cmd : Cmd} {h : Option Header}

theorem launchJudged_accepts {h' : Header} (hok : firstReason (s.launchReasons x cmd.img (some h')) = none) :
    s.launchJudged x r cmd (some h') = s.acceptLaunch x r cmd h' [] := by
  simp only [State.launchJudged, hok]

theorem launchJudged_refuses {st : Status} {d : Nat} (hst : st ≠ Code.replayInvalid)
    (hwhy : firstReason (s.launchReasons x cmd.img h) = some (st, d)) :
    s.launchJudged x r cmd h = s.refuse x r cmd st d (65535 * 2 ^ 224) := by
  simp only [State.launchJudged, hwhy, if_neg hst]

end

/-! Rows of a running launch. -/

section
variable {s : State} {ctx : Fin 4097} {ring : Fin 8} {cmd : Cmd} {l : Launch}
variable (hrun : s.running = true) (hcur : (s.ring ctx.val ring.val).cur = some cmd) (hopc : cOpc cmd.img = 0x10)
  (hl : s.launch? cmd.launch = some l)
include hrun hcur hopc hl

/-- LAUNCH_COMPLETE of a replay entry whose groups and work are done: the main launch goes on (R169, R170). -/
theorem entry_complete_next (hup : l.fallen = false) (hstage : cmd.stage = 3) (hentry : l.isEntry = true) (hgroups : l.groups ≤ l.ended)
    (hwork : s.launchWork l = false) (hreqs : s.launchReqs l = false) :
    exec (.launchComplete ctx ring) s = .next ((((s.releaseCores l).count (dkey 0x4060 0x04)).updLaunch cmd.aux (fun m => { m with
      rindex := m.rindex + 1, flags := m.flags ++ l.flags, cnt := List.zipWith (· + ·) m.cnt l.cnt })).updCmd ctx.val ring.val
        (fun c => { c with launch := c.aux, stage := 2 })) := by
  refine (launchCmd_next hrun hcur hopc hl hstage).trans ?_
  simp [hup, hentry, hwork, hreqs, Nat.not_lt.mpr hgroups]

/-- KERNEL_DEADLINE_EXPIRY before the deadline (R347). -/
theorem deadline_early {t0 : Nat} (hstage : cmd.stage = 3) (hbegun : l.begun = some t0) (hnow : s.now < t0 + 1000000000 * l.deadline) :
    exec (.kernelDeadlineExpiry ctx ring) s = .next s := by
  have hpast : s.past t0 (1000 * ms * l.deadline) = false := decide_eq_false (Nat.not_le.mpr hnow)
  refine (launchCmd_next hrun hcur hopc hl hstage).trans ?_
  simp [hbegun, hpast]

/-- KERNEL_DEADLINE_EXPIRY of a launch not all of whose groups are halted (R60, R347). -/
theorem deadline_due {t0 : Nat} (hup : l.fallen = false) (hstage : cmd.stage = 3) (hbegun : l.begun = some t0)
    (hnow : t0 + 1000000000 * l.deadline ≤ s.now) (hgo : s.allHalted l = false) :
    exec (.kernelDeadlineExpiry ctx ring) s = .next (s.failLaunch l.id Code.kernelDeadline 0 0 l.code) := by
  have hpast : s.past t0 (1000 * ms * l.deadline) = true := decide_eq_true hnow
  refine (launchCmd_next hrun hcur hopc hl hstage).trans ?_
  simp [hup, hbegun, hpast, hgo]

/-- KERNEL_DEADLINE_EXPIRY of a launch all of whose groups are halted (R60). -/
theorem deadline_paused (hstage : cmd.stage = 3) (hhalted : s.allHalted l = true) :
    exec (.kernelDeadlineExpiry ctx ring) s = .next s := by
  refine (launchCmd_next hrun hcur hopc hl hstage).trans ?_
  simp [hhalted]

/-- LAUNCH_TEARDOWN of a launch that has fallen (R348). -/
theorem teardown_next (hdown : l.fallen = true) : let t := s.quenchLaunch l l.st
    exec (.launchTeardown ctx ring) s =
      .next (if t.launchReqs l = true then t.updCmd ctx.val ring.val (fun k => { k with tearing := true }) else t.dropLaunch l l.st) := by
  simp only [exec_launchTeardown, execLaunchTeardown, hrun, hcur, hopc, hl, hdown, Bool.not_true, Bool.false_eq_true, ne_eq,
    not_true_eq_false, or_self, if_false]
  exact (apply_ite Host.Outcome.next _ _ _).symm

end

/-- A launch with no group halted is not all halted. -/
theorem allHalted_false {s : State} {l : Launch}
    (h : ∀ n ∈ l.cores, ∀ e ∈ (s.img l.ctx n).groups, e.2.launch = l.id → e.2.halt.halted = false) : s.allHalted l = false := by
  unfold State.allHalted
  cases hgs : l.cores.flatMap (fun n => ((s.img l.ctx n).groups.filter (fun e => e.2.launch == l.id)).map Prod.snd) with
  | nil => rfl
  | cons g gs =>
    have hg : g ∈ l.cores.flatMap (fun n => ((s.img l.ctx n).groups.filter (fun e => e.2.launch == l.id)).map Prod.snd) := by
      rw [hgs]; exact List.mem_cons_self
    obtain ⟨n, hn, hg⟩ := List.mem_flatMap.mp hg
    obtain ⟨e, he, rfl⟩ := List.mem_map.mp hg
    obtain ⟨he, hid⟩ := List.mem_filter.mp he
    simp [h n hn e he (beq_iff_eq.mp hid)]

/-- What the end of a replay entry leaves: its launch gone, its main launch one entry further. -/
theorem entry_complete_leaves {s : State} {x r : Nat} {c : Cmd} {l : Launch} {f : Launch → Launch}
    (hf : ∀ m, (f m).id = m.id ∧ (f m).rindex = m.rindex + 1) (hcur : (s.ring x r).cur = some c)
    (hidle : ∀ n ∈ l.cores, (s.img l.ctx n).xfers = []) (k : Nat) :
    let v := (((s.releaseCores l).count k).updLaunch c.aux f).updCmd x r (fun q => { q with launch := q.aux, stage := 2 })
    (v.ring x r).cur = some { c with launch := c.aux, stage := 2 } ∧ (∀ m ∈ v.launches, m.id ≠ l.id) ∧
      v.launches.map Launch.rindex =
        (s.launches.filter (fun m => m.id != l.id)).map (fun m => if m.id = c.aux then m.rindex + 1 else m.rindex) ∧ v.mem = s.mem := by
  obtain ⟨is, rs, hrel⟩ := releaseCores_idle hidle
  obtain ⟨_, _, _, hcount⟩ := reported_count (s.releaseCores l) k 1
  rw [hcount, hrel]
  refine ⟨cur_updCmd hcur _, fun m hm => ?_, ?_, rfl⟩
  · obtain ⟨m', hm', rfl⟩ := List.mem_map.mp hm
    have hne : m'.id ≠ l.id := by simpa using (List.mem_filter.mp hm').2
    split
    · rw [(hf m').1]; exact hne
    · exact hne
  · refine List.map_map.trans (List.map_congr_left fun m _ => ?_)
    simp only [Function.comp_apply, beq_iff_eq, apply_ite Launch.rindex, (hf m).2]

theorem freed_congr {s t v : State} {x r : Nat} {b : Bool} (h : t.ring x r = s.ring x r) (hv : t.Freed v x r b) : s.Freed v x r b := by
  obtain ⟨hcur, hfin, hfailed, hhead, htail⟩ := hv
  rw [h] at hfin hhead htail
  exact ⟨hcur, hfin, hfailed, hhead, htail⟩

/-- What the end of a launch of one idle core without a record leaves (R341, R343). -/
theorem endLaunch_leaves {s : State} {x r : Nat} {l : Launch} {c : Cmd} {k replay : Nat} {st : Status} (hctx : l.ctx = x)
    (hring : l.ring = r) (hcur : (s.ring x r).cur = some c) (hcores : l.cores = [k]) (hown : (s.img x k).launch = l.id)
    (hrec : cRec c.img = 0) (hidle : (s.img x k).xfers = []) (hloc : ctlLoc ((s.ringsOf x).cq).ctrl = false) :
    let v := s.endLaunch l st replay
    (v.img x k).launch = 0 ∧ (v.img x k).groups = [] ∧ s.Freed v x r (Code.isFailure st) ∧ (∀ m ∈ v.launches, m.id ≠ l.id) ∧
      v.mem = s.mem := by
  subst hctx hring
  obtain ⟨is, rs, hrel⟩ := releaseCores_idle (s := s) (l := l) (by rw [hcores]; simpa using hidle)
  have himg : (s.releaseCores l).img l.ctx k = _ := releaseCores_img hcores hidle
  have hring : (s.releaseCores l).ring l.ctx l.ring = s.ring l.ctx l.ring := by rw [hrel]; rfl
  have hend : s.endLaunch l st replay = (s.releaseCores l).complete l.ctx l.ring c st l.ended l.faddr (l.record replay) := by
    unfold State.endLaunch; simp only [hring, hcur]
  obtain ⟨hfreed, hmem, himages, hlaunches⟩ := complete_leaves (s := s.releaseCores l) (x := l.ctx) (r := l.ring) (c := c) (st := st)
    (result := l.ended) (detail := l.faddr) (body := l.record replay) (by rw [hrel]; exact hloc) (by simp [hrec])
  have hcore : (s.endLaunch l st replay).img l.ctx k = l.freed (s.img l.ctx k) := by
    rw [hend, ← himg]; exact congrArg (fun m => mapGet ({} : Image) m (imgKey l.ctx k)) himages
  have hempty : l.freed (s.img l.ctx k) = { s.img l.ctx k with launch := 0, nslots := 0, groups := [], xfers := [], mxq := [], sets := [] } :=
    if_pos hown
  refine ⟨?_, ?_, freed_congr hring (hend ▸ hfreed), ?_, ?_⟩
  · rw [hcore, hempty]
  · rw [hcore, hempty]
  · rw [hend, hlaunches, hrel]
    exact fun m hm => by simpa using (List.mem_filter.mp hm).2
  · rw [hend, hmem, hrel]

theorem takeCore_launches (s : State) (l : Launch) (x n : Nat) : (s.takeCore l x n).launches = s.launches := rfl

theorem takeCore_mem (s : State) (l : Launch) (x n : Nat) : (s.takeCore l x n).mem = s.mem := rfl

/-- What LAUNCH_START leaves: its core taken, the launch running on it, memory unchanged (R341). -/
theorem start_leaves (s : State) (l : Launch) (x r n : Nat) (f : Cmd → Cmd) :
    let v := ((s.takeCore l x n).updLaunch l.id (fun k => { k with cores := [n] })).updCmd x r f
    v.img x n = l.taken (s.img x n) ∧ v.launches = modifyWhere (fun k => k.id == l.id) (fun k => { k with cores := [n] }) s.launches ∧
      v.mem = s.mem := by
  have himg := takeCore_img s l x n
  rw [← takeCore_launches s l x n, ← takeCore_mem s l x n, ← himg]
  generalize s.takeCore l x n = t
  exact ⟨rfl, rfl, rfl⟩

/-! The timeout of a command (R346, R350). -/

/-- No frame that is open carries writes of a unit: there is none to close. -/
theorem closeFor_none {s : State} {id : Nat} (h : s.frameHolds id = false) : s.closeFor id = s := by
  have hno : ∀ g, ∀ st ∈ (s.gw g).streams, ∀ f ∈ st.frames, f.xfers.contains id = false := fun g st hst f hf => by
    cases hg : mapFind s.gws g with
    | none => simp [State.gw, mapGet, hg] at hst
    | some x =>
      have hx : s.gw g = x := by simp [State.gw, mapGet, hg]
      simp only [State.frameHolds, List.any_eq_false, List.any_eq_true, not_exists, not_and, Bool.not_eq_true] at h
      exact h _ (mem_of_mapFind hg) st (hx ▸ hst) f hf
  refine List.foldlRecOn (motive := fun t => t = s) _ _ rfl fun t ht g _ => ?_
  subst ht
  refine List.foldlRecOn (motive := fun u => u = t) _ _ rfl fun u hu st hst => ?_
  subst hu
  refine if_neg ?_
  simpa using fun f hf _ => hno g st hst f hf

theorem dropWork_none {s : State} (h : s.reqs = []) (id : Nat) : s.dropWork id = s := by
  unfold State.dropWork; rw [h]
  exact congrArg (fun q => ({ s with reqs := q } : State)) h.symm

/-- COMMAND_TIMEOUT_EXPIRY of a command whose timeout runs (R346). -/
theorem timeout_next {s : State} {ctx : Fin 4097} {ring : Fin 8} {cmd : Cmd} (hrun : s.running = true)
    (hcur : (s.ring ctx.val ring.val).cur = some cmd) (hopc : cOpc cmd.img ≠ 0x10) (htear : cmd.tearing = false)
    (hstall : s.stalled ctx.val cmd = false) :
    exec (.commandTimeoutExpiry ctx ring) s = .next (if s.past cmd.prog (ms * cmd.timeout) = false then s
      else s.stopCmd ctx.val ring.val cmd Code.commandTimeout) := by
  simp only [exec_commandTimeoutExpiry, execCommandTimeoutExpiry, hrun, hcur, hopc, htear, hstall, Bool.not_true, Bool.false_eq_true,
    false_or, if_false]
  exact (apply_ite Host.Outcome.next _ _ _).symm

/-- A command that has nothing under way and no record of its own is stopped: it completes with the code (R350). -/
theorem stopCmd_idle {s : State} {x r : Nat} {c : Cmd} (code : Status) (hopc : cOpc c.img ≠ 0x10) (hown : cOpc c.img ∉ [0x40, 0x41, 0x51])
    (hreqs : s.reqs = []) (hframes : s.frameHolds c.id = false) : s.stopCmd x r c code = s.complete x r c code c.aux 0 0 := by
  simp only [List.mem_cons, List.not_mem_nil, or_false, not_or] at hown
  obtain ⟨h40, h41, h51⟩ := hown
  unfold State.stopCmd
  simp only [hopc, h40, h41, h51, if_false, dropWork_none hreqs, closeFor_none hframes]

/-- What the timeout of such a command leaves: its ring freed, memory and cores unchanged. -/
theorem timeout_frees {s : State} {ctx : Fin 4097} {ring : Fin 8} {cmd : Cmd} (hrun : s.running = true)
    (hcur : (s.ring ctx.val ring.val).cur = some cmd) (hopc : cOpc cmd.img ≠ 0x10) (htear : cmd.tearing = false)
    (hstall : s.stalled ctx.val cmd = false) (hdue : cmd.prog + 1000000 * cmd.timeout ≤ s.now) (hown : cOpc cmd.img ∉ [0x40, 0x41, 0x51])
    (hreqs : s.reqs = []) (hframes : s.frameHolds cmd.id = false) (hloc : ctlLoc ((s.ringsOf ctx.val).cq).ctrl = false) :
    ∃ v : State, exec (.commandTimeoutExpiry ctx ring) s = .next v ∧ s.Freed v ctx.val ring.val true ∧ v.mem = s.mem ∧
      v.images = s.images := by
  have hpast : s.past cmd.prog (ms * cmd.timeout) = true := decide_eq_true hdue
  have hrec : hasRecord (cOpc cmd.img) = false := by
    simp only [List.mem_cons, List.not_mem_nil, or_false, not_or] at hown
    obtain ⟨h40, h41, h51⟩ := hown
    simp [hasRecord, hopc, h40, h41, h51]
  obtain ⟨hfreed, hmem, himages, -⟩ := complete_leaves (r := ring.val) (st := Code.commandTimeout) (result := cmd.aux) (detail := 0)
    (body := 0) hloc (show ¬ (hasRecord (cOpc cmd.img) = true ∧ _) by simp [hrec])
  refine ⟨_, (timeout_next hrun hcur hopc htear hstall).trans (congrArg _ ?_), hfreed, hmem, himages⟩
  rw [if_neg (by simp [hpast])]
  exact stopCmd_idle _ hopc hown hreqs hframes

/-! The deadline of a launch and its groups: a launch of context 1, all of whose groups are halted, under a command of context 0. -/

def haltedGroup : Group := { idx := 0, launch := 1, halt := { halted := true } }

def overdueLaunch : Launch :=
  { id := 1, ctx := 1, ring := 0, cmd := 0, code := 0x10000, size := 4096, entry := 0x10000, wagn := true, groups := 1, cores := [0]
    begun := some 0, deadline := 0 }

def launchingCmd : Cmd := { img := 0x10 * 2 ^ 56, seq := 0, t0 := 0, stage := 3, launch := 1 }

def overdueState : State :=
  { State.reset with
    dev := { phase := .running }
    launches := [overdueLaunch]
    rings := [(0, { sq := [(0, { cur := some launchingCmd })] })]
    images := [(imgKey 1 0, { launch := 1, nslots := 1, groups := [(0, haltedGroup)] })] }

/-- Its deadline is paused, though core 0 holds no group in the image of the command's context (R60). -/
theorem overdue_stays : exec (.kernelDeadlineExpiry 0 0) overdueState = .next overdueState :=
  deadline_paused (l := overdueLaunch) rfl rfl (by decide) rfl rfl (by decide)

theorem overdue_stands : overdueState.launches.map Launch.fallen = [false] := rfl

theorem overdue_failed_falls :
    (overdueState.failLaunch 1 Code.kernelDeadline 0 0 0x10000).launches.map Launch.fallen = [true] := by
  decide +kernel

/-- Refutes O51: its deadline row asks only that no group is halted in the images of the command's context, and it does not say that the
launch is of that context. The instruction looks at the groups of the launch's own context: with all of them halted the deadline is paused
(R60), and the launch does not fall. What the other rows say follows from the lemmas above. -/
theorem not_launches : ¬ Obligations.Launches := by
  unfold Obligations.Launches
  intro hall
  obtain ⟨-, hlive, -⟩ := hall overdueState 0 0 launchingCmd
  obtain ⟨-, -, -, -, -, -, hdue⟩ := hlive overdueLaunch rfl rfl (by decide) rfl rfl
  have hfails := hdue 0 rfl rfl (by decide) (by decide)
  have hsame := Host.Outcome.next.inj (overdue_stays.symm.trans hfails)
  have hfallen := overdue_stands.symm.trans ((congrArg (fun s : State => s.launches.map Launch.fallen) hsame).trans overdue_failed_falls)
  exact absurd hfallen (by decide)

end Sys2Proof.Machine

/-! The rows of a context's record: its seed, secret, CTX_PRIVATE entry and gateway bindings (R121, R373, R376, R377, R397). -/

namespace Sys2Proof.Machine

/-! Entries of a context's record. -/

/-- The records of contexts share their rows, and no other row reaches into them. -/
theorem dictRows_context : ∀ e ∈ dictRows, e.index + e.span ≤ 0x9000 ∨ 0x9FFF < e.index ∨ (e.index = 0x9000 ∧ e.span = 4096) := by
  decide +kernel

theorem keyIndex_dkey {i sub : Nat} (h : sub < 256) : keyIndex (dkey i sub) = i := by simp only [keyIndex, dkey]; omega
theorem keySub_dkey {i sub : Nat} (h : sub < 256) : keySub (dkey i sub) = sub := by simp only [keySub, dkey]; omega

/-- The row that lists an entry of an index. -/
def rowAt (i sub : Nat) : Option Entry :=
  dictRows.find? (fun e => decide (e.index ≤ i ∧ i < e.index + e.span ∧ e.sub ≤ sub ∧ sub < e.sub + e.subs))

theorem entryOf_dkey {i sub : Nat} (hs : sub < 256) : entryOf (dkey i sub) = rowAt (if i = 0x8100 then 0x9000 else i) sub := by
  have hi : dkey i sub / 256 = i := keyIndex_dkey hs
  have hj : dkey i sub % 256 = sub := keySub_dkey hs
  unfold entryOf
  rw [hi, hj]
  rfl

theorem rowAt_context {i sub : Nat} (hlo : 0x9000 ≤ i) (hhi : i ≤ 0x9FFF) : rowAt i sub = rowAt 0x9000 sub :=
  List.find?_congr fun e he => by
    have := dictRows_context e he
    exact decide_eq_decide.mpr (by omega)

/-- An entry of a context's record has the row of the first context's. -/
theorem entryOf_ctxKey {ctx sub : Nat} (hc : ctx ≤ 4096) (hs : sub < 256) : entryOf (ctxKey ctx sub) = entryOf (dkey 0x9000 sub) := by
  rw [ctxKey, entryOf_dkey hs, entryOf_dkey hs, if_neg (show ¬ 0x9000 = 0x8100 by decide)]
  rcases Nat.lt_or_eq_of_le hc with h | rfl
  · rw [if_neg (Nat.ne_of_lt h), if_neg (by omega), rowAt_context (by omega) (by omega)]
  · rw [if_pos rfl, if_pos rfl]

theorem keyCtx_ctxKey {ctx sub : Nat} (hs : sub < 256) : keyCtx (ctxKey ctx sub) = ctx := by
  rw [keyCtx, ctxKey, keyIndex_dkey hs]
  by_cases h : ctx = 4096
  · simp [h]
  · simp only [h, if_false]
    split
    · omega
    · omega

theorem keySub_ctxKey {ctx sub : Nat} (hs : sub < 256) : keySub (ctxKey ctx sub) = sub := keySub_dkey hs

/-- Every entry of a tenant's record exists, and of the administrative context's those that R397 leaves it. -/
theorem entryAt_ctxKey {ctx sub : Nat} (hc : ctx ≤ 4096) (hs : sub < 256) (h : ctx < 4096 ∨ notAt8100 sub = false) :
    entryAt (ctxKey ctx sub) = entryOf (dkey 0x9000 sub) := by
  rw [entryAt, entryOf_ctxKey hc hs, keySub_ctxKey hs, ctxKey, keyIndex_dkey hs]
  rcases h with h | h
  · rw [if_neg (Nat.ne_of_lt h), if_neg (by simp; omega)]
  · rw [h, Bool.and_false, if_neg Bool.false_ne_true]

section
variable {s : State} {c : Cls} {ctx sub : Nat} {v : List Byte}

/-- What a write that its row allows does to an entry of a context's record. -/
theorem ctxRow_next (hS : s.Serves) (hc : ctx ≤ 4096) (hs : sub < 256) (h0 : sub ≠ 0) (hat : ctx < 4096 ∨ notAt8100 sub = false) {e : Entry}
    (he : entryOf (dkey 0x9000 sub) = some e) (hacc : e.acc = .rw ∨ e.acc = .wo) (hcls : bitAt e.classes 3 = false) (hfit : e.fits v = true)
    (hmay : mayWrite c (ctxKey ctx sub) = true) {u : State} {st : Status} (hw : s.ctxWrite (ctxKey ctx sub) v = { s := u, st := st }) :
    rowWrite s c (ctxKey ctx sub) v = .next (u.answered st) := by
  have hentry := (entryAt_ctxKey hc hs hat).trans he
  have hidx : (isCtxIndex (keyIndex (ctxKey ctx sub)) || keyIndex (ctxKey ctx sub) == 0x8100) = true := by
    rw [ctxKey, keyIndex_dkey hs]
    split
    · rfl
    · simp [isCtxIndex]; omega
  refine rowWrite_served hS ?_
  rw [← hw]
  unfold State.writeEntry
  have hact : s.actWrite { cls := c, key := ctxKey ctx sub, val := some v } v = s.ctxWrite (ctxKey ctx sub) v := if_pos hidx
  rcases hacc with hacc | hacc
  · simp [keySub_ctxKey hs, h0, hentry, hacc, hcls, hfit, hmay, hact]
  · simp [keySub_ctxKey hs, h0, hentry, hacc, hcls, hfit, hmay, hact]

end

theorem entryOf_seed : entryOf (dkey 0x9000 0x20) = some ⟨"SR_SEED", 0x9000, 4096, 0x20, 1, 4, .uint, .rw, 6, 0, 0, 0, none, false⟩ := by decide
theorem entryOf_secret : entryOf (dkey 0x9000 0x60) = some ⟨"CTX_SECRET", 0x9000, 4096, 0x60, 1, 160, .octets, .wo, 6, 0, 0, 0, none, false⟩ := by
  decide
theorem entryOf_ctxPrivate : entryOf (dkey 0x9000 0x61) = some ⟨"CTX_PRIVATE", 0x9000, 4096, 0x61, 1, 1, .bool, .rw, 4, 0, 0, 0, (some 1), false⟩ := by
  decide
theorem entryOf_bind : ∀ n < 4, entryOf (dkey 0x9000 (0x70 + n)) =
    some ⟨"GW_BIND_n", 0x9000, 4096, 0x70, 4, 8, .uint, .rw, 2, 0, 0, 0, none, false⟩ := by decide

section
variable {s : State} {c : Cls}

theorem srSeed_next (hS : s.Serves) (ctx : Fin 4097) (seed : Word) (hmay : mayWrite c (ctxKey ctx.val 0x20) = true) :
    exec (.srSeed c ctx seed) s = .next ((s.seedWrite ctx.val seed.toNat).answered 0) := by
  have hseed : leNat (leBytes 4 seed.toNat) = seed.toNat := by rw [leNat_leBytes]; exact Nat.mod_eq_of_lt seed.isLt
  rw [exec_srSeed]
  refine ctxRow_next hS (by omega) (by decide) (by decide) (.inr rfl) entryOf_seed (.inl rfl) rfl
    (by simp [Entry.fits, leBytes_length]) hmay ?_
  simp only [State.ctxWrite, keySub_ctxKey, keyCtx_ctxKey, Nat.reduceLT, hseed]

theorem ctxSecret_next (hS : s.Serves) (ctx : Fin 4096) {v : List Byte} (hv : v.length = 160)
    (hmay : mayWrite c (ctxKey ctx.val 0x60) = true) {u : State} {st : Status} (hw : s.secretWrite ctx.val v = (u, st)) :
    exec (.ctxSecret c ctx v) s = .next (u.answered st) := by
  rw [exec_ctxSecret]
  refine ctxRow_next hS (by omega) (by decide) (by decide) (.inl ctx.isLt) entryOf_secret (.inr rfl) rfl
    (by simp [Entry.fits, hv]) hmay ?_
  simp only [State.ctxWrite, keySub_ctxKey, keyCtx_ctxKey, Nat.reduceLT, hw, ofPair]

theorem ctxPrivate_next (hS : s.Serves) (ctx : Fin 4096) {n : Nat} (hn : n ≤ 1) (hmay : mayWrite c (ctxKey ctx.val 0x61) = true)
    {u : State} {st : Status} (hw : s.privateWrite ctx.val n = (u, st)) : exec (.ctxPrivate c ctx n) s = .next (u.answered st) := by
  have hval : leNat (leBytes 1 n) = n := by rw [leNat_leBytes]; omega
  rw [exec_ctxPrivate]
  refine ctxRow_next hS (by omega) (by decide) (by decide) (.inl ctx.isLt) entryOf_ctxPrivate (.inl rfl) rfl
    (by simp [Entry.fits, leBytes_length, hval]; omega) hmay ?_
  simp only [State.ctxWrite, keySub_ctxKey, keyCtx_ctxKey, Nat.reduceLT, hval, hw, ofPair]

theorem ctxWrite_bind {ctx : Nat} {n : Nat} (hn : n < 4) (v : List Byte) :
    s.ctxWrite (ctxKey ctx (0x70 + n)) v = ofPair (s.bindWrite ctx n (leNat v)) := by
  interval_cases n <;> simp only [State.ctxWrite, keySub_ctxKey, keyCtx_ctxKey, Nat.reduceLT, Nat.reduceAdd]

theorem gwBind_next (hS : s.Serves) (ctx : Fin 4096) (n : Fin 4) (v : BitVec 64) (hmay : mayWrite c (ctxKey ctx.val (0x70 + n.val)) = true)
    {u : State} {st : Status} (hw : s.bindWrite ctx.val n.val v.toNat = (u, st)) : exec (.gwBind c ctx n v) s = .next (u.answered st) := by
  have hval : leNat (leBytes 8 v.toNat) = v.toNat := by rw [leNat_leBytes]; exact Nat.mod_eq_of_lt v.isLt
  rw [exec_gwBind]
  refine ctxRow_next hS (by omega) (by omega) (by omega) (.inl ctx.isLt) (entryOf_bind n.val n.isLt) (.inl rfl) rfl
    (by simp [Entry.fits, leBytes_length]) hmay ?_
  rw [ctxWrite_bind n.isLt, hval, hw, ofPair]

end

/-! The secret (R373). -/

section
variable {s : State}

theorem offerKey_ctxs (p ctx : Nat) : (s.offerKey p ctx).ctxs = s.ctxs := by
  unfold State.offerKey
  split
  · unfold State.matchOffer
    split
    · dsimp only
      split
      · rw [State.updPort_ctxs, State.updPort_ctxs]; rfl
      · exact State.count_ctxs _ _ _
    · rfl
  · rfl

/-- Offering the links a context's key changes no context. -/
theorem offerAll_ctxs (ctx : Nat) : (s.offerAll ctx).ctxs = s.ctxs :=
  foldl_keeps (P := fun t : State => t.ctxs = s.ctxs) _ _ s rfl fun _ _ h => (offerKey_ctxs _ _).trans h

/-- With no active link there is nothing to offer. -/
theorem offerAll_idle {ctx : Nat} (h : ∀ p < 18, (s.port p).active = false) : s.offerAll ctx = s := by
  have hnone : (List.range 18).filter (fun p => (s.port p).active) = [] :=
    List.filter_eq_nil_iff.mpr fun p hp => by simp [h p (List.mem_range.mp hp)]
  rw [State.offerAll, hnone, List.foldl_nil]

theorem secretWrite_refused {ctx : Nat} (h : (s.ctx ctx).provKey = none ∨ (s.ctx ctx).secret ≠ none) (v : List Byte) :
    s.secretWrite ctx v = (s, Code.contextState) := by
  unfold State.secretWrite
  split
  · next hk hn => simp [hk, hn] at h
  · rfl

end

/-! A binding (R376). -/

/-- The domain of a valid binding is the device's own, or another slot's. -/
def State.bindTaken (s : State) (ctx n v : Nat) : Prop :=
  bindValid v = true ∧ (bindDomain v = s.dev.domainId ∨ ∃ k, k ≠ n ∧ k < 4 ∧ bindValid ((s.ctx ctx).bindVal k) = true ∧
    bindDomain ((s.ctx ctx).bindVal k) = bindDomain v)

/-- A frame of the slot's streams has not been answered. -/
def State.bindWaits (s : State) (ctx n : Nat) : Prop :=
  ∃ e ∈ s.gws, ∃ st ∈ e.2.streams, st.ctx = ctx ∧ st.bind = n ∧ st.frames ≠ []

/-- The slot has used the epoch, or a later one, with the far domain and context. -/
def State.bindSpent (s : State) (ctx n v : Nat) : Prop :=
  bindValid v = true ∧ bindEpoch v + 1 ≤ mapGet 0 (s.ctx ctx).epochs (epochKey n v)

/-- The gateways without the slot's streams, and without the received ones of its old and new domain. -/
def State.unbound (s : State) (ctx n v : Nat) : List (Nat × Gw) :=
  s.gws.map (fun e => (e.1, { e.2 with
    streams := e.2.streams.filter (fun st => !(st.ctx == ctx && st.bind == n))
    rstreams := e.2.rstreams.filter (fun r => !(r.key / 1048576 == ctx &&
      (r.key / 256 % 4096 == bindDomain v || r.key / 256 % 4096 == bindDomain ((s.ctx ctx).bindVal n)))) }))

/-- The state with a binding in its slot. -/
def State.bound (s : State) (ctx n v : Nat) : State :=
  ({ s with gws := s.unbound ctx n v } : State).updCtx ctx (fun x => { x with
    binds := mapSet {} x.binds n { value := BitVec.ofNat 64 (bindClean v), epoch := bindEpoch v, peer := bindCtx v, used := true }
    epochs := if bindValid v = true then mapSet 0 x.epochs (epochKey n v) (bindEpoch v + 1) else x.epochs })

section
variable {s : State} {ctx n v : Nat}

theorem bindTaken_iff : (bindValid v && (bindDomain v == s.dev.domainId || [0, 1, 2, 3].any (fun k => k != n &&
    bindValid ((s.ctx ctx).bindVal k) && bindDomain ((s.ctx ctx).bindVal k) == bindDomain v))) = true ↔ s.bindTaken ctx n v := by
  have hslots : ∀ k, k ∈ [0, 1, 2, 3] ↔ k < 4 := fun k => by simp; omega
  simp only [State.bindTaken, Bool.and_eq_true, Bool.or_eq_true, beq_iff_eq, List.any_eq_true, hslots, bne_iff_ne]
  refine and_congr_right fun _ => or_congr_right (exists_congr fun k => ?_)
  tauto

theorem bindWaits_iff : s.gws.any (fun g => g.2.streams.any (fun st => (st.ctx == ctx && st.bind == n) && !st.frames.isEmpty)) = true ↔
    s.bindWaits ctx n := by
  simp only [State.bindWaits, List.any_eq_true, Bool.and_eq_true, beq_iff_eq, Bool.not_eq_true', List.isEmpty_eq_false_iff, and_assoc]

/-- The reasons to refuse a binding, in their order, and what one that none of them meets leaves. -/
theorem bindWrite_cases : ((s.ctx ctx).secret = none → s.bindWrite ctx n v = (s, Code.contextState)) ∧
    ((s.ctx ctx).secret ≠ none → s.bindTaken ctx n v → s.bindWrite ctx n v = (s, Code.entryRange)) ∧
    ((s.ctx ctx).secret ≠ none → ¬ s.bindTaken ctx n v → s.bindWaits ctx n → s.bindWrite ctx n v = (s, Code.contextState)) ∧
    ((s.ctx ctx).secret ≠ none → ¬ s.bindTaken ctx n v → ¬ s.bindWaits ctx n → s.bindSpent ctx n v →
      s.bindWrite ctx n v = (s, Code.entryRange)) ∧
    ((s.ctx ctx).secret ≠ none → ¬ s.bindTaken ctx n v → ¬ s.bindWaits ctx n → ¬ s.bindSpent ctx n v →
      s.bindWrite ctx n v = (s.bound ctx n v, 0)) := by
  have hspent : (bindValid v && decide (bindEpoch v + 1 ≤ mapGet 0 (s.ctx ctx).epochs (epochKey n v))) = true ↔ s.bindSpent ctx n v := by
    rw [Bool.and_eq_true, decide_eq_true_eq]; rfl
  unfold State.bindWrite
  have hsecret : (s.ctx ctx).secret ≠ none → ¬ (s.ctx ctx).secret.isNone = true := mt Option.isNone_iff_eq_none.mp
  refine ⟨fun h => if_pos (Option.isNone_iff_eq_none.mpr h), fun h ht => (if_neg (hsecret h)).trans (if_pos (bindTaken_iff.mpr ht)),
    fun h ht hw => (if_neg (hsecret h)).trans ((if_neg (mt bindTaken_iff.mp ht)).trans (if_pos (bindWaits_iff.mpr hw))),
    fun h ht hw hs => (if_neg (hsecret h)).trans ((if_neg (mt bindTaken_iff.mp ht)).trans ((if_neg (mt bindWaits_iff.mp hw)).trans
      (if_pos (hspent.mpr hs)))),
    fun h ht hw hs => (if_neg (hsecret h)).trans ((if_neg (mt bindTaken_iff.mp ht)).trans ((if_neg (mt bindWaits_iff.mp hw)).trans
      (if_neg (mt hspent.mp hs))))⟩

theorem unbound_fst : (s.unbound ctx n v).map Prod.fst = s.gws.map Prod.fst := by
  rw [State.unbound, List.map_map]; rfl

/-- No stream of the slot stays. -/
theorem unbound_ends : ∀ g ∈ s.unbound ctx n v, ∀ st ∈ g.2.streams, ¬ (st.ctx = ctx ∧ st.bind = n) := by
  intro g hg st hst
  obtain ⟨e, -, rfl⟩ := List.mem_map.mp hg
  simpa [imp_iff_not_or] using (List.mem_filter.mp hst).2

/-- Every other stream stays. -/
theorem unbound_keeps : ∀ g ∈ s.gws, ∀ st ∈ g.2.streams, ¬ (st.ctx = ctx ∧ st.bind = n) →
    ∃ g' ∈ s.unbound ctx n v, g'.1 = g.1 ∧ st ∈ g'.2.streams := fun g hg st hst hne =>
  ⟨_, List.mem_map_of_mem hg, rfl, List.mem_filter.mpr ⟨hst, by simpa [imp_iff_not_or] using hne⟩⟩

end

/-- Settles O34: each row of the record answers as its write function does (`ctxRow_next`), case by case of the write. -/
theorem contextRows : Obligations.ContextRows := by
  intro s c hS
  refine ⟨fun ctx seed hmay => srSeed_next hS ctx seed hmay, fun ctx hmay => ⟨?_, fun hp => ?_, fun hp => ?_⟩, fun ctx v hmay hv => ⟨?_, ?_⟩,
    fun ctx n v hmay => ?_⟩
  · exact ctxPrivate_next hS ctx le_rfl hmay (by simp [State.privateWrite])
  · exact ctxPrivate_next hS ctx zero_le_one hmay (by simp [State.privateWrite, hp])
  · exact ctxPrivate_next hS ctx zero_le_one hmay (by simp [State.privateWrite, hp])
  · exact fun h => ctxSecret_next hS ctx hv hmay (secretWrite_refused h v)
  · intro n pub hkey hsec
    refine ⟨fun h => ctxSecret_next hS ctx hv hmay ?_, fun z sec hz hopen => ?_⟩
    · rcases h with h | ⟨z, hz, hopen⟩
      · simp only [State.secretWrite, hkey, hsec, h]
      · simp only [State.secretWrite, hkey, hsec, hz, hopen]
    · have hnext : exec (.ctxSecret c ctx v) s = .next (State.answered (State.offerAll (s.updCtx ctx.val (fun x =>
          { x with secret := some (BitVec.ofNat 256 (leNat sec)), provKey := none, epochs := [] })) ctx.val) 0) :=
        ctxSecret_next hS ctx hv hmay (by simp only [State.secretWrite, hkey, hsec, hz, hopen])
      exact ⟨hnext, offerAll_ctxs _, fun hidle => hnext.trans (congrArg (fun t : State => Host.Outcome.next (t.answered 0)) (offerAll_idle hidle))⟩
  · obtain ⟨hnone, htaken, hwaits, hspent, hbound⟩ := bindWrite_cases (s := s) (ctx := ctx.val) (n := n.val) (v := v.toNat)
    exact ⟨fun h => gwBind_next hS ctx n v hmay (hnone h), fun h ht => gwBind_next hS ctx n v hmay (htaken h ht),
      fun h ht hw => gwBind_next hS ctx n v hmay (hwaits h ht hw), fun h ht hw hs => gwBind_next hS ctx n v hmay (hspent h ht hw hs),
      fun h ht hw hs => ⟨s.unbound ctx.val n.val v.toNat, gwBind_next hS ctx n v hmay (hbound h ht hw hs), unbound_fst, unbound_ends,
        unbound_keeps⟩⟩

end Sys2Proof.Machine

/-! Exact values (R94, R106): the rational number a finite value stands for, and what sums, products and comparisons do to it. -/

namespace Sys2Proof.Machine

/-- The rational number of a sign, a magnitude and an exponent. -/
def ratOf (n : Bool) (m : Nat) (e : Int) : ℚ := (if n then -1 else 1 : ℚ) * m * (2 : ℚ) ^ e

/-- A magnitude with its sign. -/
def signed (n : Bool) (m : Nat) : Int := if n then -(m : Int) else m

theorem ratOf_signed (n : Bool) (m : Nat) (e : Int) : ratOf n m e = (signed n m : ℚ) * 2 ^ e := by
  cases n <;> simp [ratOf, signed]

@[simp] theorem ratOf_zero (n : Bool) (e : Int) : ratOf n 0 e = 0 := by simp [ratOf]

theorem ratOf_false (m : Nat) (e : Int) : ratOf false m e = m * 2 ^ e := by simp [ratOf]

theorem ratOf_true (m : Nat) (e : Int) : ratOf true m e = -ratOf false m e := by simp [ratOf]

theorem ratOf_eq_zero {n : Bool} {m : Nat} {e : Int} : ratOf n m e = 0 ↔ m = 0 := by
  cases n <;> simp [ratOf, zpow_ne_zero]

theorem ratOf_nonneg (m : Nat) (e : Int) : 0 ≤ ratOf false m e := by rw [ratOf_false]; positivity

/-- Values of one sign are as far apart as their magnitudes. -/
theorem abs_ratOf_sub (n : Bool) (m k : Nat) (e x : Int) : |ratOf n m e - ratOf n k x| = |ratOf false m e - ratOf false k x| := by
  cases n
  · rfl
  · rw [ratOf_true, ratOf_true, neg_sub_neg, abs_sub_comm]

theorem abs_ratOf (n : Bool) (m : Nat) (e : Int) : |ratOf n m e| = ratOf false m e := by
  cases n
  · exact abs_of_nonneg (ratOf_nonneg m e)
  · rw [ratOf_true, abs_neg, abs_of_nonneg (ratOf_nonneg m e)]

theorem cast_pow2 {k : Int} (h : 0 ≤ k) : ((pow2 k : Nat) : ℚ) = 2 ^ k := by
  obtain ⟨n, rfl⟩ := Int.eq_ofNat_of_zero_le h
  simp [pow2]

/-- A value on a finer grid. -/
theorem ratOf_align (n : Bool) (m : Nat) {e x : Int} (h : x ≤ e) : ratOf n (m * pow2 (e - x)) x = ratOf n m e := by
  have h2 : (2 : ℚ) ^ (e - x) * 2 ^ x = 2 ^ e := by rw [← zpow_add₀ two_ne_zero, sub_add_cancel]
  rw [ratOf, ratOf, Nat.cast_mul, cast_pow2 (by omega), ← h2]
  ring

/-- Equal and ordered values on one grid are equal and ordered magnitudes with their signs. -/
theorem ratOf_lt {a b : Bool} {m n : Nat} {x : Int} : ratOf a m x < ratOf b n x ↔ signed a m < signed b n := by
  rw [ratOf_signed, ratOf_signed, mul_lt_mul_iff_left₀ (zpow_pos two_pos x)]; exact Int.cast_lt
theorem ratOf_inj {a b : Bool} {m n : Nat} {x : Int} : ratOf a m x = ratOf b n x ↔ signed a m = signed b n := by
  rw [ratOf_signed, ratOf_signed, mul_left_inj' (zpow_ne_zero x two_ne_zero)]; exact Int.cast_inj

namespace Ex

/-- Comparison of finite values: as numbers, and -0 below +0 (R110). -/
theorem lt_fin (a b : Bool) (m n : Nat) (e g : Int) : lt (.fin a m e) (.fin b n g) = true ↔
    ratOf a m e < ratOf b n g ∨ (m = 0 ∧ n = 0 ∧ a = true ∧ b = false) := by
  have hm := ratOf_align a m (min_le_left e g)
  have hn := ratOf_align b n (min_le_right e g)
  have hz : ∀ c : Bool, ∀ k : Nat, signed c k = 0 ↔ k = 0 := fun c k => by cases c <;> simp [signed]
  have hpow : ∀ k, pow2 k ≠ 0 := fun k => by simp [pow2]
  rw [← hm, ← hn, ratOf_lt]
  show (decide (signed a (m * pow2 (e - min e g)) < signed b (n * pow2 (g - min e g))) ||
    (decide (signed a (m * pow2 (e - min e g)) = signed b (n * pow2 (g - min e g))) && signed a (m * pow2 (e - min e g)) == 0 && a && !b)) = true ↔ _
  simp only [Bool.or_eq_true, decide_eq_true_eq, Bool.and_eq_true, beq_iff_eq, Bool.not_eq_true']
  refine or_congr_right ⟨fun ⟨⟨⟨heq, h0⟩, ha⟩, hb⟩ => ?_, fun ⟨h0, h1, ha, hb⟩ => ?_⟩
  · have h1 := (heq.symm.trans h0)
    rw [hz, Nat.mul_eq_zero, or_iff_left (hpow _)] at h0 h1
    exact ⟨h0, h1, ha, hb⟩
  · subst h0 h1 ha hb
    simp [signed]

/-- The exact product of finite values. -/
theorem mul_fin (a b : Bool) (m n : Nat) (e g : Int) : ratOf (a ^^ b) (m * n) (e + g) = ratOf a m e * ratOf b n g := by
  rw [ratOf, ratOf, ratOf, zpow_add₀ two_ne_zero]
  cases a <;> cases b <;> simp <;> ring

/-- The exact sum of finite values; a zero sum is -0 only of two negative values. -/
theorem add_fin (a b : Bool) (m n : Nat) (e g : Int) : ∃ c k x, add (.fin a m e) (.fin b n g) = .fin c k x ∧
    ratOf c k x = ratOf a m e + ratOf b n g ∧ (k = 0 → c = (a && b)) := by
  have hsum : ratOf a m e + ratOf b n g =
      ((signed a (m * pow2 (e - min e g)) + signed b (n * pow2 (g - min e g)) : Int) : ℚ) * 2 ^ min e g := by
    rw [← ratOf_align a m (min_le_left e g), ← ratOf_align b n (min_le_right e g), ratOf_signed, ratOf_signed]
    push_cast; ring
  have hadd : add (.fin a m e) (.fin b n g) =
      if signed a (m * pow2 (e - min e g)) + signed b (n * pow2 (g - min e g)) = 0 then .fin (a && b) 0 0
      else .fin (decide (signed a (m * pow2 (e - min e g)) + signed b (n * pow2 (g - min e g)) < 0))
        (signed a (m * pow2 (e - min e g)) + signed b (n * pow2 (g - min e g))).natAbs (min e g) := rfl
  rw [hadd, hsum]
  generalize signed a (m * pow2 (e - min e g)) + signed b (n * pow2 (g - min e g)) = s
  by_cases hs : s = 0
  · exact ⟨_, _, _, if_pos hs, by simp [hs], fun _ => rfl⟩
  · refine ⟨_, _, _, if_neg hs, ?_, fun h => absurd (Int.natAbs_eq_zero.mp h) hs⟩
    have habs : signed (decide (s < 0)) s.natAbs = s := by
      by_cases h : s < 0
      · simp only [signed, h, decide_true, if_true]; omega
      · simp only [signed, h, decide_false, Bool.false_eq_true, if_false]; omega
    rw [ratOf_signed, habs]

/-- What the exact sum of two values is (R109, Table 04.3). -/
def IsSum (x y z : Ex) : Prop :=
  (x = .nan ∨ y = .nan → z = .nan) ∧ (∀ n, x = .inf n → y = .inf (!n) → z = .nan) ∧
  (∀ n, (x = .inf n ∧ (y = .inf n ∨ ∃ n' m e, y = .fin n' m e)) ∨ (y = .inf n ∧ ∃ n' m e, x = .fin n' m e) → z = .inf n) ∧
  (∀ nx mx ex ny my ey, x = .fin nx mx ex → y = .fin ny my ey → ∃ n m e, z = .fin n m e ∧
    ratOf n m e = ratOf nx mx ex + ratOf ny my ey ∧ (m = 0 → n = (nx && ny)))

/-- What their exact product is. -/
def IsProd (x y z : Ex) : Prop :=
  (x = .nan ∨ y = .nan → z = .nan) ∧
  (∀ n n' e, (x = .inf n ∧ y = .fin n' 0 e) ∨ (x = .fin n' 0 e ∧ y = .inf n) → z = .nan) ∧
  (∀ n n', x = .inf n → (y = .inf n' ∨ ∃ m e, m ≠ 0 ∧ y = .fin n' m e) → z = .inf (n ^^ n')) ∧
  (∀ n n' m e, m ≠ 0 → x = .fin n m e → y = .inf n' → z = .inf (n ^^ n')) ∧
  (∀ nx mx ex ny my ey, x = .fin nx mx ex → y = .fin ny my ey → ∃ m e, z = .fin (nx ^^ ny) m e ∧
    ratOf (nx ^^ ny) m e = ratOf nx mx ex * ratOf ny my ey)

@[simp] theorem add_nan_left (x : Ex) : add .nan x = .nan := by cases x <;> rfl
@[simp] theorem add_nan_right (x : Ex) : add x .nan = .nan := by cases x <;> rfl
@[simp] theorem mul_nan_left (x : Ex) : mul .nan x = .nan := by cases x <;> rfl
@[simp] theorem mul_nan_right (x : Ex) : mul x .nan = .nan := by cases x <;> rfl
theorem mul_inf_zero (n n' : Bool) (e : Int) : mul (.inf n) (.fin n' 0 e) = .nan := rfl
theorem mul_zero_inf (n n' : Bool) (e : Int) : mul (.fin n' 0 e) (.inf n) = .nan := rfl
theorem mul_inf_fin (n n' : Bool) {m : Nat} (e : Int) (h : m ≠ 0) : mul (.inf n) (.fin n' m e) = .inf (n ^^ n') := if_neg h
theorem mul_fin_inf (n n' : Bool) {m : Nat} (e : Int) (h : m ≠ 0) : mul (.fin n m e) (.inf n') = .inf (n ^^ n') := if_neg h
theorem add_inf_same (n : Bool) : add (.inf n) (.inf n) = .inf n := if_pos rfl
theorem add_inf_other (n : Bool) : add (.inf n) (.inf (!n)) = .nan := if_neg (by simp)

theorem isSum_add (x y : Ex) : IsSum x y (add x y) := by
  refine ⟨?_, ?_, ?_, ?_⟩
  · rintro (rfl | rfl) <;> simp
  · rintro n rfl rfl; exact add_inf_other n
  · rintro n (⟨rfl, rfl | ⟨n', m, e, rfl⟩⟩ | ⟨rfl, n', m, e, rfl⟩)
    · exact add_inf_same n
    · rfl
    · rfl
  · rintro nx mx ex ny my ey rfl rfl; exact add_fin _ _ _ _ _ _

theorem isProd_mul (x y : Ex) : IsProd x y (mul x y) := by
  refine ⟨?_, ?_, ?_, ?_, ?_⟩
  · rintro (rfl | rfl) <;> simp
  · rintro n n' e (⟨rfl, rfl⟩ | ⟨rfl, rfl⟩) <;> rfl
  · rintro n n' rfl (rfl | ⟨m, e, hm, rfl⟩)
    · rfl
    · exact mul_inf_fin n n' e hm
  · rintro n n' m e hm rfl rfl; exact mul_fin_inf n n' e hm
  · rintro nx mx ex ny my ey rfl rfl; exact ⟨_, _, rfl, mul_fin _ _ _ _ _ _⟩

end Ex

end Sys2Proof.Machine

/-! Rounding (R106, R107): the multiple of the grid, and the bound of a rounded value's code. -/

namespace Sys2Proof.Machine

theorem lt_two_pow_log2_succ (m : Nat) : m < 2 ^ (log2 m + 1) := Nat.lt_log2_self
theorem two_pow_log2_le {m : Nat} (h : m ≠ 0) : 2 ^ log2 m ≤ m := Nat.log2_self_le h

/-- A magnitude lies between the powers of two at its logarithm. -/
theorem ratOf_log2 {m : Nat} (h : m ≠ 0) (e : Int) :
    (2 : ℚ) ^ ((log2 m : Int) + e) ≤ ratOf false m e ∧ ratOf false m e < 2 ^ ((log2 m : Int) + e + 1) := by
  have hlo : ((2 ^ log2 m : Nat) : ℚ) ≤ m := Nat.cast_le.mpr (two_pow_log2_le h)
  have hhi : (m : ℚ) < (2 ^ (log2 m + 1) : Nat) := Nat.cast_lt.mpr (lt_two_pow_log2_succ m)
  push_cast at hlo hhi
  have he : (0 : ℚ) < 2 ^ e := zpow_pos two_pos e
  rw [ratOf_false, add_right_comm, zpow_add₀ two_ne_zero, zpow_add₀ two_ne_zero, zpow_natCast, ← Nat.cast_succ, zpow_natCast]
  exact ⟨mul_le_mul_of_nonneg_right hlo he.le, mul_lt_mul_of_pos_right hhi he⟩

/-- Division by the step of a coarser grid. -/
theorem rneGrid_div {m : Nat} {e q : Int} (h : e < q) : rneGrid m e q =
    if m % pow2 (q - e) * 2 > pow2 (q - e) ∨ (m % pow2 (q - e) * 2 = pow2 (q - e) ∧ m / pow2 (q - e) % 2 = 1) then m / pow2 (q - e) + 1
    else m / pow2 (q - e) := by
  rw [rneGrid, if_neg (by omega)]
  simp only [Bool.or_eq_true, decide_eq_true_eq, Bool.and_eq_true, beq_iff_eq]

/-- The nearest integer to a quotient, ties to even. -/
theorem nearest_div (m d : Nat) (hd : 0 < d) :
    let r := if m % d * 2 > d ∨ (m % d * 2 = d ∧ m / d % 2 = 1) then m / d + 1 else m / d
    (2 * (m : Int) ≤ (2 * r + 1) * d ∧ (2 * r - 1) * d ≤ 2 * (m : Int)) ∧
    (2 * (m : Int) = (2 * r + 1) * d ∨ (2 * r - 1) * d = 2 * (m : Int) → r % 2 = 0) := by
  have hm : ((m / d : Nat) : Int) * d + (m % d : Nat) = m := by exact_mod_cast (Nat.div_add_mod' m d)
  have hr := Nat.mod_lt m hd
  generalize m / d = q at hm ⊢
  generalize m % d = t at hm hr ⊢
  intro r
  have hexp : ∀ k : Int, (2 * k + 1) * d = 2 * (k * d) + d ∧ (2 * k - 1) * d = 2 * (k * d) - d := fun k => by constructor <;> ring
  by_cases h : t * 2 > d ∨ (t * 2 = d ∧ q % 2 = 1)
  · have hrq : (r : Int) * d = q * d + d := by simp only [r, if_pos h]; push_cast; ring
    rw [(hexp r).1, (hexp r).2, hrq]
    have heven : t * 2 = d → r % 2 = 0 := fun ht => by simp only [r, if_pos h]; omega
    exact ⟨by omega, fun hc => heven (by omega)⟩
  · have hrq : (r : Int) * d = q * d := by simp only [r, if_neg h]
    rw [(hexp r).1, (hexp r).2, hrq]
    have heven : t * 2 = d → r % 2 = 0 := fun ht => by simp only [r, if_neg h]; omega
    exact ⟨by omega, fun hc => heven (by omega)⟩

/-- Rounding to a grid is to the nearest multiple, ties to even. -/
theorem rneGrid_nearest (m : Nat) (e q : Int) : |ratOf false m e - ratOf false (rneGrid m e q) q| ≤ 2 ^ q / 2 ∧
    (|ratOf false m e - ratOf false (rneGrid m e q) q| = 2 ^ q / 2 → rneGrid m e q % 2 = 0) := by
  have hq : (0 : ℚ) < 2 ^ q := zpow_pos two_pos q
  by_cases h : q ≤ e
  · have : ratOf false (rneGrid m e q) q = ratOf false m e := by rw [rneGrid, if_pos h, ratOf_align _ _ h]
    rw [this, sub_self, abs_zero]
    exact ⟨by positivity, fun h0 => absurd h0 (by positivity)⟩
  · have he : e < q := not_le.mp h
    have hstep : (0 : ℚ) < 2 ^ e := zpow_pos two_pos e
    have hd : 0 < pow2 (q - e) := Nat.two_pow_pos _
    have hdq : ((pow2 (q - e) : Nat) : ℚ) * 2 ^ e = 2 ^ q := by
      rw [cast_pow2 (by omega), ← zpow_add₀ two_ne_zero, sub_add_cancel]
    have hnear := nearest_div m (pow2 (q - e)) hd
    rw [← rneGrid_div he] at hnear
    obtain ⟨⟨hlo, hhi⟩, heven⟩ := hnear
    generalize rneGrid m e q = r at hlo hhi heven ⊢
    have hlo' : 2 * (m : ℚ) ≤ (2 * r + 1) * pow2 (q - e) := by exact_mod_cast hlo
    have hhi' : (2 * r - 1) * pow2 (q - e) ≤ 2 * (m : ℚ) := by exact_mod_cast hhi
    rw [ratOf_false, ratOf_false, ← hdq]
    have hfactor : (m : ℚ) * 2 ^ e - r * (pow2 (q - e) * 2 ^ e) = (m - r * pow2 (q - e)) * 2 ^ e := by ring
    have hhalf : (pow2 (q - e) : ℚ) * 2 ^ e / 2 = pow2 (q - e) / 2 * 2 ^ e := by ring
    rw [hfactor, abs_mul, abs_of_pos hstep, hhalf, mul_le_mul_iff_left₀ hstep, mul_left_inj' hstep.ne', abs_le]
    refine ⟨⟨by linarith, by linarith⟩, fun habs => heven ?_⟩
    rcases (abs_eq (by positivity)).mp habs with h1 | h1
    · left; have : 2 * (m : ℚ) = (2 * r + 1) * pow2 (q - e) := by linarith
      exact_mod_cast this
    · right; have : (2 * r - 1) * pow2 (q - e) = 2 * (m : ℚ) := by linarith
      exact_mod_cast this

/-- A value below a multiple of the grid rounds to no more than it. -/
theorem rneGrid_le {m k : Nat} {e q : Int} (h : ratOf false m e ≤ ratOf false k q) : rneGrid m e q ≤ k := by
  obtain ⟨hnear, -⟩ := rneGrid_nearest m e q
  have hq : (0 : ℚ) < 2 ^ q := zpow_pos two_pos q
  rw [ratOf_false _ q] at hnear h
  by_contra hc
  have hr : (k : ℚ) + 1 ≤ rneGrid m e q := by exact_mod_cast (not_le.mp hc)
  have := (abs_le.mp hnear).1
  nlinarith

end Sys2Proof.Machine

/-! Codes: a rounded value has a code of its format's width. -/

namespace Sys2Proof.Machine

/-- A format whose all-ones exponent is infinity and NaN (R94), with a fraction and an exponent field of two bits or more. -/
structure Fmt.Ieee (f : Fmt) : Prop where
  top : f.top = .ieee
  exponent : 2 ≤ f.eb
  fraction : 1 ≤ f.fb

theorem ieee_fp32 : fp32.Ieee := ⟨rfl, by decide, by decide⟩
theorem ieee_fp16 : fp16.Ieee := ⟨rfl, by decide, by decide⟩
theorem ieee_bf16 : bf16.Ieee := ⟨rfl, by decide, by decide⟩
theorem ieee_e5m2 : e5m2.Ieee := ⟨rfl, by decide, by decide⟩
theorem ieee_e4m3 : e4m3.Ieee := ⟨rfl, by decide, by decide⟩

theorem aboveMax_iff {f : Fmt} {m : Nat} {e : Int} : aboveMax f m e = true ↔ ratOf false f.maxM f.maxE < ratOf false m e := by
  rw [aboveMax, Ex.lt_fin, or_iff_left (fun h => Bool.false_ne_true h.2.2.1)]

theorem aboveMax_eq_false {f : Fmt} {m : Nat} {e : Int} : aboveMax f m e = false ↔ ratOf false m e ≤ ratOf false f.maxM f.maxE := by
  rw [← Bool.not_eq_true, aboveMax_iff, not_lt]

/-- What is below a value that is not above the largest one is not above it either. -/
theorem aboveMax_mono {f : Fmt} {k m : Nat} {e : Int} (h : aboveMax f m e = false) (hk : k ≤ m) : aboveMax f k e = false := by
  rw [aboveMax_eq_false] at h ⊢
  refine le_trans ?_ h
  rw [ratOf_false, ratOf_false]
  exact mul_le_mul_of_nonneg_right (Nat.cast_le.mpr hk) (zpow_nonneg two_pos.le e)

/-- The grid of a magnitude is fine enough for it to be less than 2^p steps. -/
theorem rneGrid_gridOf_le (f : Fmt) {m : Nat} (h : m ≠ 0) (e : Int) : rneGrid m e (gridOf f m e) ≤ 2 ^ (f.fb + 1) := by
  apply rneGrid_le
  refine (ratOf_log2 h e).2.le.trans ?_
  rw [ratOf_false]
  push_cast
  rw [← zpow_natCast, ← zpow_add₀ two_ne_zero]
  refine zpow_le_zpow_right₀ one_le_two ?_
  have := le_max_left ((log2 m : Int) + e) f.emin
  simp only [gridOf]; push_cast; omega

/-- The grid of a value that is not above the largest one is at most that one's. -/
theorem gridOf_le {f : Fmt} (hf : f.Ieee) {m : Nat} {e : Int} (h0 : m ≠ 0) (h : aboveMax f m e = false) :
    gridOf f m e - (f.emin - f.fb) ≤ ((2 ^ f.eb - 3 : Nat) : Int) := by
  have hmaxM : ((f.maxM : Nat) : ℚ) < 2 ^ ((f.fb : Int) + 1) := by
    have : f.maxM < 2 ^ (f.fb + 1) := by simp only [Fmt.maxM, hf.top]; exact Nat.sub_lt (Nat.two_pow_pos _) one_pos
    calc ((f.maxM : Nat) : ℚ) < ((2 ^ (f.fb + 1) : Nat) : ℚ) := Nat.cast_lt.mpr this
      _ = 2 ^ ((f.fb : Int) + 1) := by rw [← Nat.cast_succ, zpow_natCast]; push_cast; rfl
  have hmax : ratOf false f.maxM f.maxE < 2 ^ (f.emax + 1) := by
    rw [ratOf_false, show f.emax + 1 = ((f.fb : Int) + 1) + f.maxE by simp only [Fmt.maxE]; ring, zpow_add₀ two_ne_zero]
    exact mul_lt_mul_of_pos_right hmaxM (zpow_pos two_pos _)
  have hlt := ((ratOf_log2 h0 e).1.trans (aboveMax_eq_false.mp h)).trans_lt hmax
  have hlog := (zpow_lt_zpow_iff_right₀ one_lt_two).mp hlt
  have heb : 2 ^ 2 ≤ 2 ^ f.eb := Nat.pow_le_pow_right two_pos hf.exponent
  simp only [gridOf, Fmt.emin]
  simp only [Fmt.emax, hf.top] at hlog
  omega

/-- A value that its format can hold: it is not above the largest one. -/
def Ex.Fits (f : Fmt) : Ex → Prop
  | .fin _ m e => m = 0 ∨ aboveMax f m e = false
  | _ => True

theorem fits_roundTo (f : Fmt) (y : Ex) : (roundTo f y).Fits f := by
  unfold roundTo
  cases h : roundRaw f y with
  | nan => trivial
  | inf n => trivial
  | fin n m e =>
    dsimp only
    split
    · trivial
    · next hm => exact .inr (Bool.eq_false_iff.mpr hm)

theorem roundTo_zero (f : Fmt) (n : Bool) (e : Int) : roundTo f (.fin n 0 e) = .fin n 0 0 := by
  have : aboveMax f 0 0 = false := aboveMax_eq_false.mpr (by rw [ratOf_zero]; exact ratOf_nonneg _ _)
  simp [roundTo, roundRaw, this]

theorem le_rneGrid {m : Nat} {e q : Int} (h : e < q) : m / pow2 (q - e) ≤ rneGrid m e q := by
  rw [rneGrid_div h]
  split
  · exact Nat.le_succ _
  · exact le_rfl

theorem fits_roundSr (f : Fmt) (y : Ex) (u : Nat) : (roundSr f y u).Fits f := by
  cases y with
  | nan => trivial
  | inf n => trivial
  | fin n m e =>
    unfold roundSr
    dsimp only
    split
    · next h0 => exact .inl h0
    · split
      · exact fits_roundTo f _
      · next hq =>
        split
        · exact fits_roundTo f _
        · split
          · split
            · trivial
            · next hr => exact .inr (aboveMax_mono (Bool.eq_false_iff.mpr hr) (le_rneGrid (not_le.mp hq)))
          · next hup =>
            have hup' := Bool.eq_false_iff.mpr hup
            split
            · exact .inr hup'
            · exact .inr (aboveMax_mono hup' (Nat.le_succ _))

theorem two_pow_width (f : Fmt) : 2 ^ f.width = 2 ^ (f.eb + f.fb) + 2 ^ (f.eb + f.fb) := by
  rw [Fmt.width, show 1 + f.eb + f.fb = (f.eb + f.fb) + 1 by omega, pow_succ]; omega

/-- The sign of a code is its highest bit. -/
theorem sign_add_lt (f : Fmt) (n : Bool) {k : Nat} (h : k < 2 ^ (f.eb + f.fb)) : (if n then 2 ^ (f.eb + f.fb) else 0) + k < 2 ^ f.width := by
  rw [two_pow_width]
  cases n
  · simp only [Bool.false_eq_true, if_false]; omega
  · simp only [if_true]; omega

/-- The all-ones exponent field with a fraction below 2^fb. -/
theorem top_field_lt {f : Fmt} {k : Nat} (h : k < 2 ^ f.fb) : (2 ^ f.eb - 1) * 2 ^ f.fb + k < 2 ^ (f.eb + f.fb) := by
  have : 1 ≤ 2 ^ f.eb := Nat.one_le_two_pow
  rw [pow_add, Nat.sub_mul, one_mul]
  have := Nat.le_mul_of_pos_left (2 ^ f.fb) this
  omega

/-- The code of a value that its format can hold is of the format's width. -/
theorem encodeFp_lt {f : Fmt} (hf : f.Ieee) {y : Ex} (hy : y.Fits f) : encodeFp f y < 2 ^ f.width := by
  have hone : 0 < 2 ^ f.fb := Nat.two_pow_pos _
  cases y with
  | nan =>
    have hq : 2 ^ (f.fb - 1) < 2 ^ f.fb := Nat.pow_lt_pow_right one_lt_two (by have := hf.fraction; omega)
    have := sign_add_lt f false (top_field_lt hq)
    simpa [encodeFp, Fmt.nanCode, hf.top] using this
  | inf n =>
    simp only [encodeFp, hf.top]
    exact sign_add_lt f n (top_field_lt hone)
  | fin n m e =>
    rw [encodeFp]
    split
    · exact sign_add_lt f n (Nat.two_pow_pos _)
    · next h0 =>
      have hfit := hy.resolve_left h0
      have hgrid := Int.toNat_le.mpr (gridOf_le hf h0 hfit)
      have hk := rneGrid_gridOf_le f h0 e
      apply sign_add_lt
      generalize rneGrid m e (gridOf f m e) = k at hk ⊢
      have heb : 2 ^ 2 ≤ 2 ^ f.eb := Nat.pow_le_pow_right two_pos hf.exponent
      split
      · next hs => exact hs.trans_le (Nat.pow_le_pow_right two_pos (by omega))
      · calc _ ≤ (2 ^ f.eb - 3) * 2 ^ f.fb + 2 ^ (f.fb + 1) := Nat.add_le_add (Nat.mul_le_mul_right _ hgrid) hk
          _ = (2 ^ f.eb - 1) * 2 ^ f.fb := by rw [pow_succ, mul_comm (2 ^ f.fb) 2, ← add_mul]; congr 1; omega
          _ < 2 ^ (f.eb + f.fb) := top_field_lt hone

end Sys2Proof.Machine

/-! Packed elements (R111). -/

namespace Sys2Proof.Machine

/-- The exact product and sum of three values, with the special values of Table 04.3. -/
theorem fma_values (a b c : Ex) :
    (a = .nan ∨ b = .nan ∨ c = .nan → (a.mul b).add c = .nan) ∧
    (∀ n n' x, (a = .fin n 0 x ∧ b = .inf n') ∨ (a = .inf n' ∧ b = .fin n 0 x) → (a.mul b).add c = .nan) ∧
    (∀ na ma ea nb mb eb, a = .fin na ma ea → b = .fin nb mb eb →
      (∀ nc, c = .inf nc → (a.mul b).add c = .inf nc) ∧
      (∀ nc mc ec, c = .fin nc mc ec → ∃ n m x, (a.mul b).add c = .fin n m x ∧
        ratOf n m x = ratOf na ma ea * ratOf nb mb eb + ratOf nc mc ec ∧ (m = 0 → (na ^^ nb) ≠ nc → n = false))) ∧
    (∀ na nb, a = .inf na → (b = .inf nb ∨ ∃ m x, m ≠ 0 ∧ b = .fin nb m x) →
      (c = .inf (!(na ^^ nb)) → (a.mul b).add c = .nan) ∧
      (c = .inf (na ^^ nb) ∨ (∃ n m x, c = .fin n m x) → (a.mul b).add c = .inf (na ^^ nb))) ∧
    (∀ na m x nb, m ≠ 0 → a = .fin na m x → b = .inf nb →
      (c = .inf (!(na ^^ nb)) → (a.mul b).add c = .nan) ∧
      (c = .inf (na ^^ nb) ∨ (∃ n m x, c = .fin n m x) → (a.mul b).add c = .inf (na ^^ nb))) := by
  obtain ⟨hpnan, hpzero, hpinf, hpinf', -⟩ := Ex.isProd_mul a b
  obtain ⟨hsnan, hsopp, hsinf, -⟩ := Ex.isSum_add (a.mul b) c
  have hinf : ∀ n, a.mul b = .inf n → (c = .inf (!n) → (a.mul b).add c = .nan) ∧
      (c = .inf n ∨ (∃ n m x, c = .fin n m x) → (a.mul b).add c = .inf n) := fun n h => ⟨hsopp n h, fun hc => hsinf n (.inl ⟨h, hc⟩)⟩
  refine ⟨?_, fun n n' x h => hsnan (.inl (hpzero n' n x h.symm)), ?_, fun na nb ha hb => hinf _ (hpinf na nb ha hb),
    fun na m x nb hm ha hb => hinf _ (hpinf' na nb m x hm ha hb)⟩
  · rintro (h | h | h)
    · exact hsnan (.inl (hpnan (.inl h)))
    · exact hsnan (.inl (hpnan (.inr h)))
    · exact hsnan (.inr h)
  · rintro na ma ea nb mb eb rfl rfl
    refine ⟨fun nc hc => hsinf nc (.inr ⟨hc, _, _, _, rfl⟩), ?_⟩
    rintro nc mc ec rfl
    obtain ⟨n, m, x, hy, hval, hzero⟩ := Ex.add_fin (na ^^ nb) nc (ma * mb) mc (ea + eb) ec
    refine ⟨n, m, x, hy, hval.trans (by rw [Ex.mul_fin]), fun hm hne => ?_⟩
    rw [hzero hm]
    revert hne
    cases (na ^^ nb) <;> cases nc <;> simp

/-- The word of two packed elements holds each at its place. -/
theorem bits_packed {x y : Nat} (hx : x < 2 ^ 16) (hy : y < 2 ^ 16) {k : Nat} (hk : k < 2) :
    bits (BitVec.ofNat 32 (x + y * 65536)).toNat (16 * k) 16 = if k = 0 then x else y := by
  rw [BitVec.toNat_ofNat, bits, Nat.shiftRight_eq_div_pow]
  interval_cases k
  · simp only [Nat.reduceMul, Nat.reducePow, if_true]; omega
  · simp only [Nat.reduceMul, Nat.reducePow, Nat.one_ne_zero, if_false]; omega

/-- The value of a packed element. -/
def packedElem (f : Fmt) (k : Nat) (x : Word) : Ex := decodeFp f (bits x.toNat (16 * k) 16)

/-- Each packed element is the once-rounded exact product and sum of the elements at its place. -/
theorem bits_packedFma {f : Fmt} (hf : f.Ieee) (hw : f.width = 16) (a b c : Word) {k : Nat} (hk : k < 2) :
    bits (packedFma f a b c).toNat (16 * k) 16 =
      encodeFp f (roundTo f (((packedElem f k a).mul (packedElem f k b)).add (packedElem f k c))) := by
  have hlt : ∀ y, encodeFp f (roundTo f y) < 2 ^ 16 := fun y => hw ▸ encodeFp_lt hf (fits_roundTo f y)
  rw [packedFma, bits_packed (hlt _) (hlt _) hk]
  interval_cases k <;> rfl

section
variable {s : State} {g : GRef} {h : Here} {p : Path} {w : IWord} (hI : s.Issues g h p) (hm : modNat w < 2)
  (hr : regsOk ((w.rd.toNat, 1) :: raUse1 w :: rcUse w :: rbUse w) h.grp = true)
include hI hm hr

theorem pfmaH_next : exec (.pfmaH g w) s = .next (s.retired g h p (h.lanes p w (fun l =>
    packedFma fp16 (opA w h.grp l) (opB w h.grp l) (opC w h.grp l)))) := by
  rw [exec_pfmaH]
  exact laneOp_next hI _ (decide_eq_true hm) hr fun _ => rfl

theorem pfmaB_next : exec (.pfmaB g w) s = .next (s.retired g h p (h.lanes p w (fun l =>
    packedFma bf16 (opA w h.grp l) (opB w h.grp l) (opC w h.grp l)))) := by
  rw [exec_pfmaB]
  exact laneOp_next hI _ (decide_eq_true hm) hr fun _ => rfl

end

/-- Settles O11: the element of the packed word is the encoded exact value (`bits_packedFma`), whose special values are `fma_values`. -/
theorem packedMultiplyAdd : Obligations.PackedMultiplyAdd := by
  intro s g h p w hI hm hr num e he
  simp only [List.mem_cons, List.not_mem_nil, or_false] at he
  rcases he with rfl | rfl
  · exact ⟨_, pfmaH_next hI hm hr, fun l k hk => ⟨_, bits_packedFma ieee_fp16 rfl _ _ _ hk, fma_values _ _ _⟩⟩
  · exact ⟨_, pfmaB_next hI hm hr, fun l k hk => ⟨_, bits_packedFma ieee_bf16 rfl _ _ _ hk, fma_values _ _ _⟩⟩

end Sys2Proof.Machine

/-! Conversion to integers and the placing of codes (R113, R114, Table 04.4). -/

namespace Sys2Proof.Machine

/-- The magnitude that a conversion to an integer rounds to, toward zero or to the nearest. -/
def intMag (trunc : Bool) (m : Nat) (e : Int) : Nat :=
  if trunc then (if 0 ≤ e then m * pow2 e else m / pow2 (-e)) else rneGrid m e 0

theorem toIntSat_fin {lo hi : Int} (h : lo ≤ hi) (trunc n : Bool) (m : Nat) (e : Int) :
    toIntSat lo hi trunc (.fin n m e) = max lo (min hi (signed n (intMag trunc m e))) := by
  show (if signed n (intMag trunc m e) < lo then lo else if signed n (intMag trunc m e) > hi then hi else signed n (intMag trunc m e)) = _
  generalize signed n (intMag trunc m e) = v
  split
  · omega
  · split <;> omega

theorem signed_eq_ratOf (n : Bool) (r : Nat) : (signed n r : ℚ) = ratOf n r 0 := by rw [ratOf_signed, zpow_zero, mul_one]

theorem signed_even {n : Bool} {r : Nat} (h : r % 2 = 0) : signed n r % 2 = 0 := by cases n <;> simp [signed] <;> omega

theorem intMag_nearest (n : Bool) (m : Nat) (e : Int) : |ratOf n m e - (signed n (intMag false m e) : ℚ)| ≤ 1 / 2 ∧
    (|ratOf n m e - (signed n (intMag false m e) : ℚ)| = 1 / 2 → signed n (intMag false m e) % 2 = 0) := by
  obtain ⟨hnear, htie⟩ := rneGrid_nearest m e 0
  rw [zpow_zero] at hnear htie
  rw [signed_eq_ratOf, abs_ratOf_sub]
  exact ⟨hnear, fun h => signed_even (htie h)⟩

/-- The integer part of a magnitude. -/
theorem intMag_floor (m : Nat) (e : Int) : (intMag true m e : ℚ) ≤ ratOf false m e ∧ ratOf false m e < intMag true m e + 1 := by
  rw [intMag, if_pos rfl]
  split
  · next h =>
    have := ratOf_align false m (x := 0) h
    rw [sub_zero, ratOf_false, zpow_zero, mul_one] at this
    rw [this]
    exact ⟨le_rfl, lt_add_one _⟩
  · next h =>
    have hd : 0 < pow2 (-e) := Nat.two_pow_pos _
    have hde : ((pow2 (-e) : Nat) : ℚ) * 2 ^ e = 1 := by
      rw [cast_pow2 (by omega), ← zpow_add₀ two_ne_zero, neg_add_cancel, zpow_zero]
    have he : (0 : ℚ) < 2 ^ e := zpow_pos two_pos e
    have hscale : ∀ k : Nat, ((k * pow2 (-e) : Nat) : ℚ) * 2 ^ e = k := fun k => by rw [Nat.cast_mul, mul_assoc, hde, mul_one]
    have hlo : (((m / pow2 (-e)) * pow2 (-e) : Nat) : ℚ) ≤ m := Nat.cast_le.mpr (Nat.div_mul_le_self _ _)
    have hhi : (m : ℚ) < (((m / pow2 (-e) + 1) * pow2 (-e) : Nat) : ℚ) := 
      Nat.cast_lt.mpr ((Nat.div_lt_iff_lt_mul hd).mp (Nat.lt_succ_self _))
    have h1 := mul_le_mul_of_nonneg_right hlo he.le
    have h2 := mul_lt_mul_of_pos_right hhi he
    rw [hscale] at h1 h2
    rw [ratOf_false]
    exact ⟨h1, by exact_mod_cast h2⟩

theorem intMag_trunc (n : Bool) (m : Nat) (e : Int) : |(signed n (intMag true m e) : ℚ)| ≤ |ratOf n m e| ∧
    |ratOf n m e - (signed n (intMag true m e) : ℚ)| < 1 ∧ (signed n (intMag true m e) ≠ 0 → (signed n (intMag true m e) < 0 ↔ n = true)) := by
  obtain ⟨hlo, hhi⟩ := intMag_floor m e
  have hval : ratOf false (intMag true m e) 0 = intMag true m e := by rw [ratOf_false, zpow_zero, mul_one]
  refine ⟨?_, ?_, ?_⟩
  · rw [signed_eq_ratOf, abs_ratOf, abs_ratOf, hval]; exact hlo
  · rw [signed_eq_ratOf, abs_ratOf_sub, hval, abs_lt]
    constructor <;> linarith
  · cases n <;> simp [signed]; omega

theorem ofSigned_word (v : Int) : BitVec.ofNat 32 (ofSigned 32 v) = BitVec.ofInt 32 v := by
  apply BitVec.eq_of_toNat_eq
  rw [BitVec.toNat_ofNat, BitVec.toNat_ofInt, ofSigned]
  omega

theorem signedOf_word (c : Nat) : signedOf 32 c = (BitVec.ofNat 32 c).toInt := by
  rw [BitVec.toInt_eq_toNat_cond, BitVec.toNat_ofNat, signedOf]
  norm_num
  split <;> split <;> omega

/-- A field replaced: the bits above it, the field, the bits below it. -/
theorem setBits_eq (v lo n x : Nat) : setBits v lo n x = 2 ^ lo * (2 ^ n * (v / 2 ^ lo / 2 ^ n) + x % 2 ^ n) + v % 2 ^ lo := by
  rw [setBits, bits, Nat.shiftRight_eq_div_pow]
  have h1 := Nat.div_add_mod v (2 ^ lo)
  have h2 := Nat.div_add_mod (v / 2 ^ lo) (2 ^ n)
  generalize v / 2 ^ lo = a at h1 h2 ⊢
  generalize a / 2 ^ n = b at h2 ⊢
  generalize a % 2 ^ n = c at h2 ⊢
  generalize v % 2 ^ lo = d at h1 ⊢
  subst h1 h2
  rw [Nat.mul_add, Nat.mul_add, Nat.mul_comm c, Nat.mul_comm (x % 2 ^ n)]
  omega

theorem testBit_setBits (v lo n x j : Nat) : (setBits v lo n x).testBit j =
    if lo ≤ j ∧ j < lo + n then x.testBit (j - lo) else v.testBit j := by
  rw [setBits_eq, Nat.testBit_two_pow_mul_add _ (Nat.mod_lt _ (Nat.two_pow_pos lo)),
    Nat.testBit_two_pow_mul_add _ (Nat.mod_lt _ (Nat.two_pow_pos n)), Nat.testBit_mod_two_pow, Nat.testBit_mod_two_pow]
  by_cases h1 : j < lo
  · simp [h1, Nat.not_le.mpr h1]
  · by_cases h2 : j - lo < n
    · rw [if_neg h1, if_pos h2, if_pos (by omega)]; simp [h2]
    · rw [if_neg h1, if_neg h2, if_neg (by omega), Nat.testBit_div_two_pow, Nat.testBit_div_two_pow]
      congr 1; omega

/-- The field of a word it was placed in. -/
theorem bits_setBits {v lo n x : Nat} (hlo : lo + n ≤ 32) (hx : x < 2 ^ n) : bits (BitVec.ofNat 32 (setBits v lo n x)).toNat lo n = x := by
  apply Nat.eq_of_testBit_eq
  intro j
  rw [bits, Nat.testBit_mod_two_pow, Nat.testBit_shiftRight, BitVec.toNat_ofNat, Nat.testBit_mod_two_pow, testBit_setBits]
  by_cases h : j < n
  · rw [if_pos (by omega)]
    simp [h]
    omega
  · have : x.testBit j = false := Nat.testBit_lt_two_pow (hx.trans_le (Nat.pow_le_pow_right two_pos (by omega)))
    simp [h, this]

/-- The bits outside the field are the word's it was placed in. -/
theorem getLsbD_setBits {c : Word} {lo n x j : Nat} (hj : j < 32) (h : j < lo ∨ lo + n ≤ j) :
    (BitVec.ofNat 32 (setBits c.toNat lo n x)).getLsbD j = c.getLsbD j := by
  rw [BitVec.getLsbD_ofNat, testBit_setBits, if_neg (by omega), BitVec.testBit_toNat]
  simp [hj]

end Sys2Proof.Machine

/-! CVT (R114, R118, R119). -/

namespace Sys2Proof.Machine

/-! What a legal control word allows. -/

structure CvtCtl.Legal (c : CvtCtl) : Prop where
  src : c.src < 8
  dst : c.dst < 8
  dsel : c.dsel < selMax c.dst
  rmode : c.rmode < 3
  stochastic : c.rmode = 1 → 2 ≤ c.dst ∧ c.dst ≤ 5
  trunc : c.rmode = 2 → 6 ≤ c.dst

theorem legal_of_cvtLegal {w : IWord} (h : cvtLegal w = true) : (cvtCtl w).Legal := by
  simp only [cvtLegal, srDest, Bool.and_eq_true, Bool.or_eq_true, decide_eq_true_eq, bne_iff_ne, ne_eq] at h
  obtain ⟨⟨⟨⟨⟨⟨⟨⟨⟨hsrc, hdst⟩, -⟩, hdsel⟩, hr⟩, hsr⟩, htr⟩, -⟩, -⟩, -⟩ := h
  exact ⟨hsrc, hdst, hdsel, hr, fun h => hsr.resolve_left (not_not.mpr h), fun h => htr.resolve_left (not_not.mpr h)⟩

theorem ieee_selFmt {k : Nat} (h : k < 6) : (selFmt k).Ieee ∧ (selFmt k).width = selBits k := by
  interval_cases k
  · exact ⟨ieee_fp32, rfl⟩
  · exact ⟨ieee_fp16, rfl⟩
  · exact ⟨ieee_bf16, rfl⟩
  · exact ⟨ieee_e5m2, rfl⟩
  · exact ⟨ieee_e4m3, rfl⟩
  · exact ⟨ieee_e4m3, rfl⟩

/-- The element a legal DSEL names lies in the word. -/
theorem element_le {k d : Nat} (h : d < selMax k) : selBits k * d + selBits k ≤ 32 := by
  have hmul : selBits k * (d + 1) ≤ 32 := (Nat.mul_le_mul_left _ h).trans (Nat.mul_div_le 32 _)
  rwa [Nat.mul_succ] at hmul

/-! One lane. -/

/-- The once-rounded value of a lane's source. -/
def cvtRound (c : CvtCtl) (v : Ex) (u : Nat) : Ex := if c.rmode = 1 then roundSr (selFmt c.dst) v u else roundTo (selFmt c.dst) v

/-- The code of a rounded value at a selector: that of the OCP encoding has no infinity (R96). -/
def cvtCode (k : Nat) (y : Ex) : Nat :=
  if k = 5 then (match y with | .nan => 0x7F | .inf n => if n then 0xFF else 0x7F | y => encodeFp e4m3 y) else encodeFp (selFmt k) y

theorem fits_cvtRound (c : CvtCtl) (v : Ex) (u : Nat) : (cvtRound c v u).Fits (selFmt c.dst) := by
  unfold cvtRound
  split
  · exact fits_roundSr _ _ _
  · exact fits_roundTo _ _

theorem cvtCode_lt {k : Nat} (hk : k < 6) {y : Ex} (hy : y.Fits (selFmt k)) : cvtCode k y < 2 ^ selBits k := by
  obtain ⟨hf, hw⟩ := ieee_selFmt hk
  unfold cvtCode
  split
  · next h5 =>
    subst h5
    cases y with
    | nan => decide
    | inf n => cases n <;> decide
    | fin n m e => exact encodeFp_lt ieee_e4m3 hy
  · exact hw ▸ encodeFp_lt hf hy

theorem putValue_eq (k : Nat) (v : Srcv) (y : Ex) : putValue (selFmt k) (k == 5) v y =
    (cvtCode k y, convCounts (selFmt k) v.v y v.ovf (k == 5 && (y.isNan || y.isInf))) := by
  unfold putValue cvtCode
  by_cases h : k = 5
  · subst h
    cases y <;> rfl
  · have hb : (k == 5) = false := beq_false_of_ne h
    simp [h, hb]

/-- A lane whose destination is a floating format. -/
theorem cvtLane_float {c : CvtCtl} (h : c.dst < 6) (a cc u : Nat) :
    let v := selVal c.src (bits a (selBits c.src * c.ssel) (selBits c.src))
    let y := cvtRound c v.v u
    (cvtLane c a cc u).1 = (if selBits c.dst = 32 then cvtCode c.dst y
      else setBits cc (selBits c.dst * c.dsel) (selBits c.dst) (cvtCode c.dst y)) ∧
    (cvtLane c a cc u).2 = convCounts (selFmt c.dst) v.v y v.ovf (c.dst == 5 && (y.isNan || y.isInf)) := by
  intro v y
  have hlane : cvtLane c a cc u = if selBits c.dst = 32 then putValue (selFmt c.dst) (c.dst == 5) v y
      else (setBits cc (selBits c.dst * c.dsel) (selBits c.dst) (putValue (selFmt c.dst) (c.dst == 5) v y).1,
        (putValue (selFmt c.dst) (c.dst == 5) v y).2) := by
    unfold cvtLane
    rw [if_neg (by omega), if_neg (by omega)]
    rfl
  rw [hlane, putValue_eq]
  split
  · exact ⟨rfl, rfl⟩
  · exact ⟨rfl, rfl⟩

/-- The lowest and the highest number of an integer destination. -/
def intLo (k : Nat) : Int := if k = 6 then -2 ^ 31 else 0
def intHi (k : Nat) : Int := if k = 6 then 2 ^ 31 - 1 else 2 ^ 32 - 1

/-- A lane whose destination is an integer: no counts (R113). -/
theorem cvtLane_int {c : CvtCtl} (h6 : 6 ≤ c.dst) (h8 : c.dst < 8) (a cc u : Nat) :
    cvtLane c a cc u = (ofSigned 32 (toIntSat (intLo c.dst) (intHi c.dst) (c.rmode == 2)
      (selVal c.src (bits a (selBits c.src * c.ssel) (selBits c.src))).v), [0, 0, 0, 0]) := by
  unfold cvtLane
  rcases (show c.dst = 6 ∨ c.dst = 7 by omega) with h | h
  · rw [if_pos h, h]; rfl
  · rw [if_neg (by omega), if_pos h, h]; rfl

/-- What comes of an integer destination (Table 04.4): saturated, 0 for a NaN. -/
theorem toIntSat_word {k rmode : Nat} (v : Ex) : let r := BitVec.ofNat 32 (ofSigned 32 (toIntSat (intLo k) (intHi k) (rmode == 2) v))
    (v = .nan → r = 0) ∧ (∀ n, v = .inf n → r = BitVec.ofInt 32 (if n then intLo k else intHi k)) ∧
    (∀ n m e, v = .fin n m e → ∃ i : Int, r = BitVec.ofInt 32 (max (intLo k) (min (intHi k) i)) ∧
      (rmode = 2 → |(i : ℚ)| ≤ |ratOf n m e| ∧ |ratOf n m e - i| < 1 ∧ (i ≠ 0 → (i < 0 ↔ n = true))) ∧
      (rmode = 0 → |ratOf n m e - i| ≤ 1 / 2 ∧ (|ratOf n m e - i| = 1 / 2 → i % 2 = 0))) := by
  have hle : intLo k ≤ intHi k := by unfold intLo intHi; split <;> decide
  intro r
  refine ⟨?_, ?_, ?_⟩
  · rintro rfl; rfl
  · rintro n rfl; exact ofSigned_word _
  · rintro n m e rfl
    refine ⟨signed n (intMag (rmode == 2) m e), ?_, ?_, ?_⟩
    · rw [← toIntSat_fin hle]; exact ofSigned_word _
    · rintro rfl; exact intMag_trunc n m e
    · rintro rfl; exact intMag_nearest n m e

/-- An infinite source is the one that an import can have made of a number (R96). -/
theorem selVal_ovf {k c : Nat} (h : ∀ n, (selVal k c).v ≠ .inf n) : (selVal k c).ovf = false := by
  unfold selVal at h ⊢
  split at h
  · unfold importOcp at h ⊢
    cases hd : decodeFp ocp8 c with
    | nan => rfl
    | inf n => rfl
    | fin n m e =>
      simp only [hd] at h ⊢
      split at h
      · exact absurd rfl (h n)
      · next hm => rw [if_neg hm]
  · rfl
  · rfl
  · rfl

/-- The counts of one converted element (R118), by its exact source v and its rounded value y. -/
theorem cvt_counts (c : CvtCtl) (x u : Nat) :
    let v := selVal c.src x
    let y := cvtRound c v.v u
    ∃ ov fl na sb : Nat, convCounts (selFmt c.dst) v.v y v.ovf (c.dst == 5 && (y.isNan || y.isInf)) = [ov, fl, na, sb] ∧
      ((∃ n m e, v.v = .fin n m e ∧ m ≠ 0 ∧ ∃ n' e', y = .fin n' 0 e') → ov = 0 ∧ fl = 1 ∧ na = 0 ∧ sb = 0) ∧
      (v.v = .nan → ov = 0 ∧ fl = 0 ∧ na = 0 ∧ sb = 0) ∧
      (∀ n m e n', v.v = .fin n m e → y = .inf n' → ov = 1 ∧ fl = 0 ∧ sb = 0 ∧ (na = 1 ↔ c.dst = 5)) ∧
      (∀ n e, v.v = .fin n 0 e → ov = 0 ∧ fl = 0 ∧ na = 0 ∧ sb = 0) := by
  intro v y
  have hovf : (∀ n, v.v ≠ .inf n) → v.ovf = false := selVal_ovf
  refine ⟨_, _, _, _, rfl, ?_, ?_, ?_, ?_⟩
  · rintro ⟨n, m, e, hv, hm, n', e', hy⟩
    have := hovf (by simp [hv])
    simp [hv, hy, this, hm, Ex.isFin, Ex.isZero, Ex.isNan, Ex.isInf]
  · intro hv
    have hy : y = .nan := by simp only [y, cvtRound, hv]; split <;> rfl
    have := hovf (by simp [hv])
    simp [hv, hy, this, Ex.isFin, Ex.isNan]
  · intro n m e n' hv hy
    have := hovf (by simp [hv])
    simp [hv, hy, this, Ex.isFin, Ex.isZero, Ex.isNan, Ex.isInf]
  · intro n e hv
    have hy : ∃ e', y = .fin n 0 e' := by
      simp only [y, cvtRound, hv]
      split
      · exact ⟨e, rfl⟩
      · exact ⟨0, roundTo_zero _ _ _⟩
    obtain ⟨e', hy⟩ := hy
    have := hovf (by simp [hv])
    simp [hv, hy, this, Ex.isFin, Ex.isZero, Ex.isNan, Ex.isInf]

/-- What one lane of a floating destination writes: the code at its element over RC's other bits. -/
theorem cvtLane_word {c : CvtCtl} (hc : c.dst < 6) (hd : c.dsel < selMax c.dst) (a : Nat) (cc : Word) (u : Nat) :
    let y := cvtRound c (selVal c.src (bits a (selBits c.src * c.ssel) (selBits c.src))).v u
    bits (BitVec.ofNat 32 (cvtLane c a cc.toNat u).1).toNat (selBits c.dst * c.dsel) (selBits c.dst) = cvtCode c.dst y ∧
    (selBits c.dst < 32 → ∀ j < 32, j < selBits c.dst * c.dsel ∨ selBits c.dst * c.dsel + selBits c.dst ≤ j →
      (BitVec.ofNat 32 (cvtLane c a cc.toNat u).1).getLsbD j = cc.getLsbD j) := by
  intro y
  have hle := element_le hd
  have hlt : cvtCode c.dst y < 2 ^ selBits c.dst := cvtCode_lt hc (fits_cvtRound c _ u)
  rw [(cvtLane_float hc a cc.toNat u).1]
  by_cases h32 : selBits c.dst = 32
  · rw [if_pos h32]
    refine ⟨?_, fun h => absurd h32 (Nat.ne_of_lt h)⟩
    have h0 : c.dsel = 0 := by rw [h32] at hle; omega
    rw [h32] at hlt ⊢
    rw [h0, bits, BitVec.toNat_ofNat]
    show (_ % 2 ^ 32) >>> 0 % 2 ^ 32 = _
    rw [Nat.shiftRight_zero, Nat.mod_mod, Nat.mod_eq_of_lt hlt]
  · rw [if_neg h32]
    exact ⟨bits_setBits hle hlt, fun _ j hj hout => getLsbD_setBits hj hout⟩

/-! The instruction. -/

/-- A lane's draw: the next of its stream when the conversion is stochastic (R107, R108). -/
def State.cvtDraw (s : State) (h : Here) (w : IWord) (l : Nat) : Nat :=
  if (cvtCtl w).rmode == 1 then draw (((s.launch? h.grp.launch).map Launch.seed).getD 0) (((s.launch? h.grp.launch).map Launch.number).getD 0)
    h.grp.idx l (mapGet 0 h.grp.draws l) else 0

/-- What a lane computes: the word and the counts. -/
def State.cvtLaneAt (s : State) (h : Here) (w : IWord) (l : Nat) : Nat × List Nat :=
  cvtLane (cvtCtl w) (opA w h.grp l).toNat (opC w h.grp l).toNat (s.cvtDraw h w l)

/-- Draws counted in each lane of a list. -/
def drawsOf (d : Map Nat) (L : List Nat) : Map Nat := L.foldl (fun d l => mapUpd 0 d l (· + 1)) d

theorem mapGet_drawsOf {L : List Nat} (hL : L.Nodup) (d : Map Nat) (l : Nat) :
    mapGet 0 (drawsOf d L) l = mapGet 0 d l + (if l ∈ L then 1 else 0) := by
  induction L generalizing d with
  | nil => simp [drawsOf]
  | cons a L ih =>
    obtain ⟨ha, hL⟩ := List.nodup_cons.mp hL
    rw [drawsOf, List.foldl_cons, ← drawsOf, ih hL]
    by_cases h : l = a
    · subst h
      simp [mapUpd, ha]
    · simp [mapUpd, mapGet_set_other _ _ _ _ _ h, h]

theorem foldl_draws (L : List Nat) (gr : Group) :
    L.foldl (fun gr ln => { gr with draws := mapUpd 0 gr.draws ln (· + 1) }) gr = { gr with draws := drawsOf gr.draws L } := by
  induction L generalizing gr with
  | nil => rfl
  | cons a L ih => rw [List.foldl_cons, ih]; rfl

theorem setReg_draws (g : Group) (r l : Nat) (v : Word) : (g.setReg r l v).draws = g.draws := by
  unfold Group.setReg; split <;> rfl
theorem setLanes_draws (g : Group) (r : Nat) (m : Lanes) (f : Nat → Word) : (g.setLanes r m f).draws = g.draws :=
  foldl_part _ _ (fun _ _ => setReg_draws _ _ _ _) _ _

theorem nodup_lanesOf (m : Lanes) : (lanesOf m).Nodup := (lanesOf_sorted m).imp Nat.ne_of_lt

/-- The counts of all lanes. -/
def State.cvtSum (s : State) (h : Here) (p : Path) (w : IWord) : List Nat :=
  (lanesOf (h.active p w)).foldl (fun a l => addCounts a (s.cvtLaneAt h w l).2) [0, 0, 0, 0]

/-- The group with its lanes converted. -/
def State.cvtLanes (s : State) (h : Here) (p : Path) (w : IWord) : Group :=
  h.lanes p w (fun l => BitVec.ofNat 32 (s.cvtLaneAt h w l).1)

section
variable {s : State} {g : GRef} {h : Here} {p : Path} {w : IWord} (hI : s.Issues g h p) (hleg : cvtLegal w = true)
  (hr : regsOk ((w.rd.toNat, 1) :: raUse1 w :: (if selBits (cvtCtl w).dst < 32 then [rcUse w] else [])) h.grp = true)
include hI hleg hr

theorem cvt_next : execCvt g w s = .next (
    let t := (s.issued g h).launchCounts h.grp.launch (s.cvtSum h p w)
    let sr := (cvtCtl w).rmode == 1
    let gr := s.cvtLanes h p w
    (if sr then t.count (dkey 0x4040 0x06) (laneCount (h.active p w)) else t).putGroup h.ctx g.core.val g.slot.val
      { (if sr then { gr with draws := drawsOf h.grp.draws (lanesOf (h.active p w)) } else gr) with
        run := some { p with pc := p.next, retry := false } }) := by
  obtain ⟨-, -, hp, -⟩ := issuer_spec hI
  have hlanes : ((lanesOf (h.active p w)).map (fun ln => (ln, s.cvtLaneAt h w ln))).foldl
      (fun gr e => gr.setReg w.rd.toNat e.1 (BitVec.ofNat 32 e.2.1)) h.seen = s.cvtLanes h p w := by
    rw [List.foldl_map]; rfl
  have hsum : ((lanesOf (h.active p w)).map (fun ln => (ln, s.cvtLaneAt h w ln))).foldl
      (fun a e => addCounts a e.2.2) [0, 0, 0, 0] = s.cvtSum h p w := by
    rw [List.foldl_map]; rfl
  have hrun : (s.cvtLanes h p w).run = some p := (setLanes_run _ _ _ _).trans hp
  have hdraws : (s.cvtLanes h p w).draws = h.grp.draws := setLanes_draws _ _ _ _
  unfold execCvt
  rw [issue_runs hI w _ _ (by rw [Bool.and_eq_true]; exact ⟨hleg, hr⟩)]
  have hmap : ((lanesOf (s.sees g h p w).act).map (fun ln => (ln, cvtLane (cvtCtl w) (opA w (s.sees g h p w).grp ln).toNat
      (opC w (s.sees g h p w).grp ln).toNat (if (cvtCtl w).rmode == 1 then
        draw ((((s.sees g h p w).s.launch? (s.sees g h p w).grp.launch).map Launch.seed).getD 0)
          ((((s.sees g h p w).s.launch? (s.sees g h p w).grp.launch).map Launch.number).getD 0)
          (s.sees g h p w).grp.idx ln (mapGet 0 (s.sees g h p w).grp.draws ln) else 0)))) =
      (lanesOf (h.active p w)).map (fun ln => (ln, s.cvtLaneAt h w ln)) := rfl
  dsimp only
  rw [hmap]
  simp only [State.sees_grp, State.sees_act]
  rw [hlanes, hsum, foldl_draws, hdraws]
  exact congrArg Host.Outcome.next (retire_eq_at s _ g h p w (by split <;> exact hrun))

/-- A conversion that is not stochastic takes no draw. -/
theorem cvt_plain (hmode : (cvtCtl w).rmode ≠ 1) : exec (.cvt g w) s = .next (((s.issued g h).launchCounts h.grp.launch (s.cvtSum h p w)).putGroup
    h.ctx g.core.val g.slot.val { s.cvtLanes h p w with run := some { p with pc := p.next, retry := false } }) := by
  have hsr : ((cvtCtl w).rmode == 1) = false := beq_false_of_ne hmode
  rw [exec_cvt, cvt_next hI hleg hr]
  simp only [hsr, Bool.false_eq_true, if_false]

/-- A stochastic one takes one draw a lane. -/
theorem cvt_stochastic (hmode : (cvtCtl w).rmode = 1) : exec (.cvt g w) s = .next ((((s.issued g h).launchCounts h.grp.launch
    (s.cvtSum h p w)).count (dkey 0x4040 0x06) (laneCount (h.active p w))).putGroup h.ctx g.core.val g.slot.val
      { s.cvtLanes h p w with run := some { p with pc := p.next, retry := false }, draws := drawsOf h.grp.draws (lanesOf (h.active p w)) }) := by
  have hsr : ((cvtCtl w).rmode == 1) = true := beq_iff_eq.mpr hmode
  rw [exec_cvt, cvt_next hI hleg hr]
  simp only [hsr, if_true]

end

theorem cvtDraw_eq {s : State} {h : Here} {w : IWord} {la : Launch} (hmode : (cvtCtl w).rmode = 1) (hla : s.launch? h.grp.launch = some la) (l : Nat) :
    s.cvtDraw h w l = draw la.seed la.number h.grp.idx l (mapGet 0 h.grp.draws l) := by
  rw [State.cvtDraw, if_pos (beq_iff_eq.mpr hmode), hla]; rfl

theorem mapGet_drawsOf_lanes (d : Map Nat) (m : Lanes) (l : Nat) :
    mapGet 0 (drawsOf d (lanesOf m)) l = mapGet 0 d l + (if l < 32 ∧ m.getLsbD l = true then 1 else 0) := by
  have : l ∈ lanesOf m ↔ l < 32 ∧ m.getLsbD l = true := by rw [lanesOf, List.mem_filter, List.mem_range]
  rw [mapGet_drawsOf (nodup_lanesOf m)]
  simp only [this]

/-- The value of a source element (Table 04.5). -/
theorem selVal_values (k x : Nat) : (k = 6 → (selVal k x).v = Ex.ofInt (BitVec.ofNat 32 x).toInt) ∧ (k = 7 → (selVal k x).v = Ex.ofNat x) ∧
    (k = 5 → (selVal k x).v = (importOcp x).v) ∧ (k < 5 → (selVal k x).v = decodeFp (selFmt k) x) := by
  refine ⟨?_, ?_, ?_, fun h => ?_⟩
  · rintro rfl; rw [← signedOf_word]; rfl
  · rintro rfl; rfl
  · rintro rfl; rfl
  · interval_cases k <;> rfl

/-- Settles O12: what the instruction leaves (`cvt_plain`, `cvt_stochastic`), then each lane by the kind of its destination. -/
theorem convert : Obligations.Convert := by
  intro s g h p w hI hleg ctl src dst rmode size at' hr on num fmt
  obtain ⟨-, hdst, hdsel, -, -, -⟩ := legal_of_cvtLegal hleg
  have hfmt : ∀ k, k < 6 → fmt k = selFmt k := fun k hk => by interval_cases k <;> rfl
  refine ⟨fun l => BitVec.ofNat 32 (s.cvtLaneAt h w l).1, fun l => (s.cvtLaneAt h w l).2, s.cvtDraw h w, fun hmode => cvt_plain hI hleg hr hmode,
    fun hmode la hla => ⟨cvtDraw_eq hmode hla, _, mapGet_drawsOf_lanes _ _, cvt_stochastic hI hleg hr hmode⟩, fun l _ => ?_⟩
  obtain ⟨hs32, hu32, hocp, hfp⟩ := selVal_values src (bits (opA w h.grp l).toNat (size src * bits ctl 22 2) (size src))
  have hint : 6 ≤ dst → selBits dst = 32 := fun h6 => by
    rcases (show dst = 6 ∨ dst = 7 by have : dst < 8 := hdst; omega) with e | e <;> rw [e] <;> rfl
  refine ⟨fun hsize => ?_, _, hs32, hu32, hocp, fun h5 => (hfp h5).trans (by rw [hfmt src (by omega)]), fun h6 => ?_, fun h6 => ?_⟩
  · have h6 : dst < 6 := not_le.mp fun h6 => absurd (hint h6) (Nat.ne_of_lt hsize)
    exact (cvtLane_word h6 hdsel _ _ _).2 hsize
  · simp only [State.cvtLaneAt, cvtLane_int h6 hdst]
    exact ⟨trivial, toIntSat_word _⟩
  · obtain ⟨hcode, -⟩ := cvtLane_word (c := cvtCtl w) h6 hdsel (opA w h.grp l).toNat (opC w h.grp l) (s.cvtDraw h w l)
    obtain ⟨-, hcnt⟩ := cvtLane_float (c := cvtCtl w) h6 (opA w h.grp l).toNat (opC w h.grp l).toNat (s.cvtDraw h w l)
    obtain ⟨ov, fl, na, sb, hlist, hcounts⟩ := cvt_counts (cvtCtl w) (bits (opA w h.grp l).toNat (size src * bits ctl 22 2) (size src)) (s.cvtDraw h w l)
    rw [hfmt dst h6]
    exact ⟨_, rfl, fun h5 => hcode.trans (if_neg h5), fun h5 => hcode.trans (if_pos h5), ov, fl, na, sb, hcnt.trans hlist, hcounts⟩

end Sys2Proof.Machine

/-! FP32 words: their values, their order, and that a word is the code of its own value (Table 04.1, R110). -/

namespace Sys2Proof.Machine

/-! A value on its own grid. -/

theorem rneGrid_self (m : Nat) (e : Int) : rneGrid m e e = m := by rw [rneGrid, if_pos le_rfl, sub_self]; simp [pow2]

section
variable {f : Fmt} {n : Bool} {m : Nat} {e : Int} (h0 : m ≠ 0) (hgrid : gridOf f m e = e)
include h0 hgrid

/-- A value that its format holds is its own rounding. -/
theorem roundTo_held (hmax : aboveMax f m e = false) : roundTo f (.fin n m e) = .fin n m e := by
  have hraw : roundRaw f (.fin n m e) = .fin n m e := by
    rw [roundRaw, if_neg h0]
    simp only [hgrid, rneGrid_self, if_neg h0]
  rw [roundTo, hraw]
  simp only [hmax, Bool.false_eq_true, if_false]

/-- Its code: a subnormal's fraction, or the exponent and the fraction below the leading one. -/
theorem encodeFp_held : encodeFp f (.fin n m e) = (if n then 2 ^ (f.eb + f.fb) else 0) +
    (if m < 2 ^ f.fb then m else (e - (f.emin - f.fb)).toNat * 2 ^ f.fb + m) := by
  rw [encodeFp, if_neg h0]
  simp only [hgrid, rneGrid_self]

end

/-! The fields of a word. -/

/-- A word's exponent and fraction, as one number. -/
def magOf (x : Word) : Nat := x.toNat % 2 ^ 31

/-- Its sign bit. -/
def signOf (x : Word) : Bool := x.getLsbD 31

/-- A word read as sign and magnitude: the order of the numbers is the order of these. -/
def ordOf (x : Word) : Int := signed (signOf x) (magOf x)

theorem magOf_lt (x : Word) : magOf x < 2 ^ 31 := Nat.mod_lt _ (by decide)

theorem toNat_eq_sign_mag (x : Word) : x.toNat = (if signOf x then 2 ^ 31 else 0) + magOf x := by
  have hx := x.isLt
  have hbit : signOf x = decide (x.toNat / 2 ^ 31 % 2 = 1) := by rw [signOf, ← BitVec.testBit_toNat, Nat.testBit_eq_decide_div_mod_eq]
  rw [hbit, magOf]
  simp only [decide_eq_true_eq]
  split <;> omega

theorem eq_of_sign_mag {x y : Word} (hs : signOf x = signOf y) (hm : magOf x = magOf y) : x = y :=
  BitVec.eq_of_toNat_eq (by rw [toNat_eq_sign_mag x, toNat_eq_sign_mag y, hs, hm])

/-- The exact value of a word, by its exponent field. -/
theorem fval_eq (x : Word) : fval x =
    if magOf x / 2 ^ 23 = 255 then (if magOf x % 2 ^ 23 = 0 then .inf (signOf x) else .nan)
    else if magOf x / 2 ^ 23 = 0 then .fin (signOf x) (magOf x % 2 ^ 23) (-149)
    else .fin (signOf x) (2 ^ 23 + magOf x % 2 ^ 23) ((magOf x / 2 ^ 23 : Nat) - 150) := by
  have hexp : bits x.toNat 23 8 = magOf x / 2 ^ 23 := by rw [bits, magOf, Nat.shiftRight_eq_div_pow]; omega
  have hfrac : bits x.toNat 0 23 = magOf x % 2 ^ 23 := by rw [bits, magOf, Nat.shiftRight_zero]; omega
  have hsign : bitAt x.toNat 31 = signOf x := rfl
  have he : ((magOf x / 2 ^ 23 : Nat) : Int) - 127 - (23 : Nat) = (magOf x / 2 ^ 23 : Nat) - 150 := by push_cast; ring
  have hraw : fval x =
      if bits x.toNat 23 8 = 255 ∧ Top.ieee = .ieee then (if bits x.toNat 0 23 = 0 then .inf (bitAt x.toNat 31) else .nan)
      else if bits x.toNat 23 8 = 255 ∧ Top.ieee = .ocp ∧ bits x.toNat 0 23 = 2 ^ 23 - 1 then .nan
      else if bits x.toNat 23 8 = 0 then .fin (bitAt x.toNat 31) (bits x.toNat 0 23) (-149)
      else .fin (bitAt x.toNat 31) (2 ^ 23 + bits x.toNat 0 23) ((bits x.toNat 23 8 : Nat) - 127 - (23 : Nat)) := rfl
  rw [hraw, hexp, hfrac, hsign, he]
  simp

/-- The magnitude of a finite word in steps of 2^-149. -/
def stepsOf (c : Nat) : Nat := if c / 2 ^ 23 = 0 then c else (2 ^ 23 + c % 2 ^ 23) * 2 ^ (c / 2 ^ 23 - 1)

/-- The next code is the next larger value. -/
theorem stepsOf_strictMono : StrictMono stepsOf := by
  refine strictMono_nat_of_lt_succ fun c => ?_
  have hpow : ∀ k, 0 < 2 ^ k := fun k => Nat.two_pow_pos k
  unfold stepsOf
  rcases (show (c + 1) / 2 ^ 23 = c / 2 ^ 23 ∧ (c + 1) % 2 ^ 23 = c % 2 ^ 23 + 1 ∨
    (c + 1) / 2 ^ 23 = c / 2 ^ 23 + 1 ∧ (c + 1) % 2 ^ 23 = 0 ∧ c % 2 ^ 23 = 2 ^ 23 - 1 by omega) with ⟨hd, hm⟩ | ⟨hd, hm, hc⟩
  · rw [hd, hm]
    split
    · omega
    · exact Nat.mul_lt_mul_of_pos_right (by omega) (hpow _)
  · rw [hd, hm, hc, if_neg (Nat.succ_ne_zero _), Nat.add_sub_cancel]
    split
    · next h0 => rw [h0]; omega
    · next h0 =>
      rw [show 2 ^ (c / 2 ^ 23) = 2 * 2 ^ (c / 2 ^ 23 - 1) by rw [← pow_succ']; congr 1; omega, ← Nat.mul_assoc]
      exact Nat.mul_lt_mul_of_pos_right (by norm_num) (hpow _)

theorem stepsOf_eq_zero {c : Nat} : stepsOf c = 0 ↔ c = 0 := by
  have h := stepsOf_strictMono.injective.eq_iff (a := c) (b := 0)
  rwa [show stepsOf 0 = 0 from rfl] at h

/-- What a word stands for: a NaN, an infinity, or a number that FP32 holds. -/
theorem fval_cases (x : Word) :
    (0x7F800000 < magOf x ∧ fval x = .nan) ∨ (magOf x = 0x7F800000 ∧ fval x = .inf (signOf x)) ∨
    (magOf x < 0x7F800000 ∧ ∃ m e, fval x = .fin (signOf x) m e ∧ m < 2 ^ 24 ∧ -149 ≤ e ∧ e ≤ 104 ∧ (e = -149 ∨ 2 ^ 23 ≤ m) ∧
      stepsOf (magOf x) = m * 2 ^ (e + 149).toNat ∧
      magOf x = (if m < 2 ^ 23 then m else (e + 149).toNat * 2 ^ 23 + m)) := by
  have hlt := magOf_lt x
  rw [fval_eq]
  by_cases h255 : magOf x / 2 ^ 23 = 255
  · rw [if_pos h255]
    by_cases h0 : magOf x % 2 ^ 23 = 0
    · rw [if_pos h0]; exact .inr (.inl ⟨by omega, rfl⟩)
    · rw [if_neg h0]; exact .inl ⟨by omega, rfl⟩
  · rw [if_neg h255]
    refine .inr (.inr ⟨by omega, ?_⟩)
    by_cases h0 : magOf x / 2 ^ 23 = 0
    · rw [if_pos h0]
      refine ⟨_, _, rfl, by omega, by omega, by omega, .inl rfl, ?_, ?_⟩
      · rw [stepsOf, if_pos h0]; simp; omega
      · rw [if_pos (by omega)]; omega
    · rw [if_neg h0]
      have he : (((magOf x / 2 ^ 23 : Nat) : Int) - 150 + 149).toNat = magOf x / 2 ^ 23 - 1 := by omega
      refine ⟨_, _, rfl, by omega, by omega, by omega, .inr (by omega), ?_, ?_⟩
      · rw [stepsOf, if_neg h0, he]
      · rw [if_neg (by omega), he]; omega

/-- A number of FP32 is its own rounding. -/
theorem fp32_held {m : Nat} {e : Int} (hm : m < 2 ^ 24) (hlo : -149 ≤ e) (hhi : e ≤ 104) (hn : e = -149 ∨ 2 ^ 23 ≤ m) (h0 : m ≠ 0) :
    gridOf fp32 m e = e ∧ aboveMax fp32 m e = false := by
  have hlog : log2 m < 24 := (Nat.log2_lt h0).mpr hm
  constructor
  · show max ((log2 m : Int) + e) (-126) - 23 = e
    rcases hn with rfl | hn
    · omega
    · have : 23 ≤ log2 m := (Nat.le_log2 h0).mpr hn
      omega
  · have hmax : fp32.maxM = 16777215 ∧ fp32.maxE = 104 := by decide
    rw [aboveMax_eq_false, ratOf_false, ratOf_false, hmax.1, hmax.2]
    exact mul_le_mul (Nat.cast_le.mpr (by omega)) (zpow_le_zpow_right₀ one_le_two hhi) (zpow_nonneg two_pos.le _) (by positivity)

/-- A word that is no NaN is the code of its value. -/
theorem fword_fval {x : Word} (h : magOf x ≤ 0x7F800000) : fword (fval x) = x := by
  apply BitVec.eq_of_toNat_eq
  have hlt := magOf_lt x
  have hcode : ∀ k : Nat, magOf x = k → (BitVec.ofNat 32 ((if signOf x then 2 ^ 31 else 0) + k)).toNat = x.toNat := fun k hk => by
    rw [← hk, ← toNat_eq_sign_mag, BitVec.toNat_ofNat]; exact Nat.mod_eq_of_lt x.isLt
  rcases fval_cases x with ⟨hn, -⟩ | ⟨hi, hv⟩ | ⟨-, m, e, hv, hm, hlo, hhi, hn, -, hmag⟩
  · omega
  · rw [hv]; exact hcode _ hi
  · rw [hv]
    by_cases h0 : m = 0
    · subst h0
      rw [fword, fp32Bits, roundTo_zero]
      exact hcode 0 (by simpa using hmag)
    · obtain ⟨hgrid, hmax⟩ := fp32_held hm hlo hhi hn h0
      rw [fword, fp32Bits, roundTo_held h0 hgrid hmax, encodeFp_held h0 hgrid]
      exact hcode _ (hmag.trans (by norm_num [fp32, Fmt.emin]))

/-! Order and equality. -/

/-- The order of magnitudes with their signs is that of their steps. -/
theorem signed_steps_lt (a b : Bool) (c d : Nat) : signed a (stepsOf c) < signed b (stepsOf d) ↔ signed a c < signed b d := by
  have hz := fun c => (stepsOf_eq_zero (c := c))
  have hcd := stepsOf_strictMono.lt_iff_lt (a := c) (b := d)
  have hdc := stepsOf_strictMono.lt_iff_lt (a := d) (b := c)
  have hc := hz c
  have hd := hz d
  cases a <;> cases b <;> simp only [signed, Bool.false_eq_true, if_true, if_false] <;> omega

/-- Order of magnitudes with their signs, -0 below +0, by the signs. -/
theorem signed_lt_iff (a b : Bool) (c d : Nat) : signed a c < signed b d ∨ (c = 0 ∧ d = 0 ∧ a = true ∧ b = false) ↔
    (if a then (if b then d < c else True) else (if b then False else c < d)) := by
  cases a <;> cases b <;> simp [signed]; omega

/-- FP32's order of values that are no NaNs: that of sign and magnitude, -0 below +0 (R110). -/
theorem lt_fval {x y : Word} (hx : magOf x ≤ 0x7F800000) (hy : magOf y ≤ 0x7F800000) : Ex.lt (fval x) (fval y) = true ↔
    ordOf x < ordOf y ∨ (magOf x = 0 ∧ magOf y = 0 ∧ signOf x = true ∧ signOf y = false) := by
  rcases fval_cases x with ⟨hn, -⟩ | ⟨hi, hv⟩ | ⟨hf, m, e, hv, -, hlo, -, -, hm, -⟩
  · omega
  · rcases fval_cases y with ⟨hn', -⟩ | ⟨hi', hv'⟩ | ⟨hf', m', e', hv', -⟩
    · omega
    · rw [hv, hv', ordOf, ordOf, signed_lt_iff, hi, hi']
      cases signOf x <;> cases signOf y <;> simp [Ex.lt]
    · rw [hv, hv', ordOf, ordOf, signed_lt_iff, hi]
      cases signOf x <;> cases signOf y <;> simp [Ex.lt] <;> omega
  · rcases fval_cases y with ⟨hn', -⟩ | ⟨hi', hv'⟩ | ⟨hf', m', e', hv', -, hlo', -, -, hm', -⟩
    · omega
    · rw [hv, hv', ordOf, ordOf, signed_lt_iff, hi']
      cases signOf x <;> cases signOf y <;> simp [Ex.lt] <;> omega
    · have hsteps : ∀ (n : Bool) (k : Nat) (q : Int), -149 ≤ q → ratOf n k q = ratOf n (k * 2 ^ (q + 149).toNat) (-149) := fun n k q h =>
        (ratOf_align n k h).symm.trans (by rw [sub_neg_eq_add]; rfl)
      have hzero : ∀ (z : Word) (k : Nat) (q : Int), stepsOf (magOf z) = k * 2 ^ (q + 149).toNat → (k = 0 ↔ magOf z = 0) := fun z k q h => by
        rw [← stepsOf_eq_zero (c := magOf z), h]; simp
      rw [hv, hv', Ex.lt_fin, hsteps _ _ _ hlo, hsteps _ _ _ hlo', ← hm, ← hm', ratOf_lt, signed_steps_lt, hzero x m e hm, hzero y m' e' hm']
      rfl

end Sys2Proof.Machine

/-! FMIN, FMAX and FCMP of FP32 words (R110). -/

namespace Sys2Proof.Machine

theorem fword_nan : fword .nan = 0x7FC00000 := by decide

theorem isNan_fval (x : Word) : (fval x).isNan = decide (0x7F800000 < magOf x) := by
  rcases fval_cases x with ⟨h, hv⟩ | ⟨h, hv⟩ | ⟨h, m, e, hv, -⟩ <;> rw [hv] <;> simp [Ex.isNan] <;> omega

theorem isZero_fval (x : Word) : (fval x).isZero = decide (magOf x = 0) := by
  rcases fval_cases x with ⟨h, hv⟩ | ⟨h, hv⟩ | ⟨h, m, e, hv, -, -, -, -, hsteps, -⟩
  · rw [hv]; simp [Ex.isZero]; omega
  · rw [hv]; simp [Ex.isZero, h]
  · have : m = 0 ↔ magOf x = 0 := by rw [← stepsOf_eq_zero (c := magOf x), hsteps]; simp
    rw [hv, Bool.eq_iff_iff]; simp [Ex.isZero, this]

theorem signed_eq_cases {a b : Bool} {c d : Nat} (h : signed a c = signed b d) : (a = b ∧ c = d) ∨ (c = 0 ∧ d = 0) := by
  cases a <;> cases b <;> simp [signed] at h ⊢ <;> omega

theorem signed_zero (a : Bool) : signed a 0 = 0 := by cases a <;> rfl

theorem eqv_of_ne_nan {a b : Ex} (ha : a ≠ .nan) (hb : b ≠ .nan) :
    Ex.eqv a b = ((!(Ex.lt a b) && !(Ex.lt b a)) || (a.isZero && b.isZero)) := by
  cases a with
  | nan => exact absurd rfl ha
  | _ => cases b with
    | nan => exact absurd rfl hb
    | _ => rfl

/-- Words of equal order are equal, but for zeros of different sign. -/
theorem eq_of_ordOf {x y : Word} (h : ordOf x = ordOf y) : x = y ∨ (magOf x = 0 ∧ magOf y = 0) :=
  (signed_eq_cases h).imp_left fun ⟨hs, hm⟩ => eq_of_sign_mag hs hm

/-- Words of different order are not both zeros. -/
theorem not_zeros {x y : Word} (h : ordOf x ≠ ordOf y) : ¬ (magOf x = 0 ∧ magOf y = 0) := fun ⟨hx, hy⟩ => by
  rw [ordOf, ordOf, hx, hy, signed_zero, signed_zero] at h
  exact h rfl

section
variable {x y : Word} (hx : magOf x ≤ 0x7F800000) (hy : magOf y ≤ 0x7F800000)
include hx hy

/-- Two words that are no NaNs: one is the lesser, or they are one word, or they are zeros of different sign, -0 the lesser. -/
theorem order_cases : (ordOf x < ordOf y ∧ Ex.lt (fval x) (fval y) = true ∧ Ex.lt (fval y) (fval x) = false) ∨
    (ordOf y < ordOf x ∧ Ex.lt (fval x) (fval y) = false ∧ Ex.lt (fval y) (fval x) = true) ∨
    (x = y ∧ Ex.lt (fval x) (fval y) = false ∧ Ex.lt (fval y) (fval x) = false) ∨
    (magOf x = 0 ∧ magOf y = 0 ∧ ordOf x = ordOf y ∧
      ((signOf x = true ∧ Ex.lt (fval x) (fval y) = true ∧ Ex.lt (fval y) (fval x) = false) ∨
       (signOf x = false ∧ Ex.lt (fval x) (fval y) = false ∧ Ex.lt (fval y) (fval x) = true))) := by
  simp only [← Bool.not_eq_true, lt_fval hx hy, lt_fval hy hx]
  rcases lt_trichotomy (ordOf x) (ordOf y) with h | h | h
  · have hno := not_zeros h.ne
    exact .inl ⟨h, .inl h, fun hc => hc.elim (lt_asymm h) fun hz => hno ⟨hz.2.1, hz.1⟩⟩
  · rcases eq_of_ordOf h with rfl | ⟨h1, h2⟩
    · exact .inr (.inr (.inl ⟨rfl, by simp, by simp⟩))
    · by_cases hxy : x = y
      · subst hxy; exact .inr (.inr (.inl ⟨rfl, by simp, by simp⟩))
      · have hsign : signOf x ≠ signOf y := fun hs => hxy (eq_of_sign_mag hs (h1.trans h2.symm))
        refine .inr (.inr (.inr ⟨h1, h2, h, ?_⟩))
        simp only [h, h1, h2, lt_irrefl, true_and, false_or]
        revert hsign
        cases signOf x <;> cases signOf y <;> simp
  · have hno := not_zeros h.ne'
    exact .inr (.inl ⟨h, fun hc => hc.elim (lt_asymm h) fun hz => hno ⟨hz.1, hz.2.1⟩, .inl h⟩)

theorem fmin_words : fword (exMin (fval x) (fval y)) = if ordOf x < ordOf y ∨ (ordOf x = ordOf y ∧ signOf x = true) then x else y := by
  have hnan : ((fval x).isNan || (fval y).isNan) = false := by simp [isNan_fval, hx, hy]
  have hpick : exMin (fval x) (fval y) = if Ex.lt (fval y) (fval x) then fval y else fval x := by
    rw [exMin, hnan]; rfl
  rw [hpick, apply_ite fword, fword_fval hx, fword_fval hy]
  rcases order_cases hx hy with ⟨h, -, hl⟩ | ⟨h, -, hl⟩ | ⟨rfl, -, hl⟩ | ⟨-, -, h, ⟨hs, -, hl⟩ | ⟨hs, -, hl⟩⟩
  · simp [hl, h]
  · simp [hl, h.not_gt, h.ne']
  · simp [hl]
  · simp [hl, h, hs]
  · simp [hl, h, hs]

theorem fmax_words : fword (exMax (fval x) (fval y)) = if ordOf y < ordOf x ∨ (ordOf x = ordOf y ∧ signOf x = false) then x else y := by
  have hnan : ((fval x).isNan || (fval y).isNan) = false := by simp [isNan_fval, hx, hy]
  have hpick : exMax (fval x) (fval y) = if Ex.lt (fval x) (fval y) then fval y else fval x := by
    rw [exMax, hnan]; rfl
  rw [hpick, apply_ite fword, fword_fval hx, fword_fval hy]
  rcases order_cases hx hy with ⟨h, hl, -⟩ | ⟨h, hl, -⟩ | ⟨rfl, hl, -⟩ | ⟨-, -, h, ⟨hs, hl, -⟩ | ⟨hs, hl, -⟩⟩
  · simp [hl, h.not_gt, h.ne]
  · simp [hl, h]
  · simp [hl]
  · simp [hl, h, hs]
  · simp [hl, h, hs]

/-- As numbers, with -0 equal to +0. -/
theorem numLt_fval : Ex.numLt (fval x) (fval y) = decide (ordOf x < ordOf y) := by
  rw [Ex.numLt, isZero_fval, isZero_fval]
  rcases order_cases hx hy with ⟨h, hl, -⟩ | ⟨h, hl, -⟩ | ⟨rfl, hl, -⟩ | ⟨h1, h2, h, -⟩
  · have hno := not_zeros h.ne
    simpa [hl, h, imp_iff_not_or] using hno
  · simp [hl, h.le]
  · simp [hl]
  · simp [h, h1, h2]

theorem eqv_fval : Ex.eqv (fval x) (fval y) = decide (ordOf x = ordOf y) := by
  have hne : ∀ {z : Word}, magOf z ≤ 0x7F800000 → fval z ≠ .nan := fun {z} hz h => by
    have := isNan_fval z
    rw [h, decide_eq_false (by omega)] at this
    exact absurd this (by decide)
  rw [eqv_of_ne_nan (hne hx) (hne hy), isZero_fval, isZero_fval]
  rcases order_cases hx hy with ⟨h, hl, -⟩ | ⟨h, -, hg⟩ | ⟨rfl, hl, -⟩ | ⟨h1, h2, h, -⟩
  · have hno := not_zeros h.ne
    simpa [hl, h.ne] using hno
  · have hno := not_zeros h.ne'
    simpa [hg, h.ne'] using hno
  · simp [hl]
  · simp [h, h1, h2]

end

/-- The comparison each selector of FCMP names. -/
theorem fcmpSel_words {sel : Nat} (hsel : sel ≤ 7) (x y : Word) :
    let ord := !decide (0x7F800000 < magOf x) && !decide (0x7F800000 < magOf y)
    fcmpSel sel (fval x) (fval y) = [ord && decide (ordOf x = ordOf y), !ord || decide (ordOf x ≠ ordOf y), ord && decide (ordOf x < ordOf y),
      ord && decide (ordOf x ≤ ordOf y), ord && decide (ordOf x > ordOf y), ord && decide (ordOf x ≥ ordOf y), ord, !ord].getD sel false := by
  intro ord
  have hun : ((fval x).isNan || (fval y).isNan) = !ord := by rw [isNan_fval, isNan_fval]; simp [ord]
  cases hord : ord with
  | false =>
    interval_cases sel <;> simp [fcmpSel, hun, hord]
  | true =>
    have hle : magOf x ≤ 0x7F800000 ∧ magOf y ≤ 0x7F800000 := by simpa [ord] using hord
    obtain ⟨hx, hy⟩ := hle
    have h1 := numLt_fval hx hy
    have h2 := numLt_fval hy hx
    have h3 := eqv_fval hx hy
    interval_cases sel <;> simp [fcmpSel, hun, hord, h1, h2, h3] <;> rw [Bool.eq_iff_iff] <;> simp <;> omega

end Sys2Proof.Machine

/-! The reciprocal, the reciprocal root, and the powers and logarithms that are exact (R109, Table 04.3). -/

namespace Sys2Proof.Machine

/-! The floor of the square root. -/

/-- One of Newton's steps stays above the root. -/
theorem sqrt_le_newton (n : Nat) {x : Nat} (hx : 0 < x) : n.sqrt ≤ (x + n / x) / 2 := by
  have hroot := Nat.sqrt_le n
  have hdiv := Nat.lt_mul_div_succ n hx
  generalize n.sqrt = r at hroot ⊢
  generalize n / x = q at hdiv ⊢
  by_contra h
  have hsum : x + (q + 1) ≤ 2 * r := by omega
  zify at *
  nlinarith [sq_nonneg ((r : ℤ) - x), mul_le_mul_of_nonneg_left hsum (Int.natCast_nonneg x)]

/-- From above the root it goes at least half the way. -/
theorem div_le_sqrt {n x : Nat} (h : n.sqrt < x) : n / x ≤ n.sqrt := by
  have hlt : n < (n.sqrt + 1) * x := (Nat.lt_succ_sqrt n).trans_le (Nat.mul_le_mul_left _ h)
  exact Nat.lt_succ_iff.mp ((Nat.div_lt_iff_lt_mul (by omega)).mpr hlt)

/-- Newton's steps from above the root reach it when the distance has been halved away. -/
theorem isqrtLoop_eq {n k x : Nat} (hlo : n.sqrt ≤ x) (hhi : x - n.sqrt < 2 ^ k) : isqrtLoop n k x = n.sqrt := by
  induction k generalizing x with
  | zero => simp only [isqrtLoop]; omega
  | succ k ih =>
    simp only [isqrtLoop]
    rcases Nat.eq_or_lt_of_le hlo with heq | hlt
    · subst heq
      refine if_neg (not_lt.mpr ?_)
      rcases Nat.eq_zero_or_pos n.sqrt with h0 | hx
      · rw [h0]; exact Nat.zero_le _
      · exact sqrt_le_newton n hx
    · have := div_le_sqrt hlt
      have := sqrt_le_newton n (Nat.zero_lt_of_lt hlt)
      rw [if_pos (by omega)]
      exact ih this (by rw [pow_succ] at hhi; omega)

theorem isqrt_eq_sqrt (n : Nat) : isqrt n = n.sqrt := by
  unfold isqrt
  split
  · next h => subst h; rfl
  · next h =>
    have hlt : n < 2 ^ (n.log2 + 1) := Nat.lt_log2_self
    have hstart : n.sqrt < 2 ^ (n.log2 / 2 + 1) := by
      rw [Nat.sqrt_lt', ← pow_mul]
      exact hlt.trans_le (Nat.pow_le_pow_right two_pos (by omega))
    refine isqrtLoop_eq hstart.le ?_
    exact (Nat.sub_le _ _).trans_lt (Nat.pow_lt_pow_right one_lt_two (by omega))

/-! The reciprocal. -/

/-- The reciprocal is carried to more than 2^-80 of itself, and is exact of a power of two. -/
theorem rcp_near (n : Bool) {m : Nat} (h0 : m ≠ 0) (e : Int) : ∃ m' e', rcpEx (.fin n m e) = .fin n m' e' ∧
    |ratOf n m' e' * ratOf n m e - 1| ≤ 1 / 2 ^ 70 ∧ (∀ k : Nat, m = 2 ^ k → ratOf n m' e' * ratOf n m e = 1) := by
  let k := 80 + log2 m
  let q := 2 ^ k / m
  let t := 2 ^ k % m
  have hdiv : q * m + t = 2 ^ k := Nat.div_add_mod' _ _
  have ht : t < m := Nat.mod_lt _ (Nat.pos_of_ne_zero h0)
  have hval : rcpEx (.fin n m e) = .fin n (2 * q + if t = 0 then 0 else 1) (-e - k - 1) := by
    have hk : k = 80 + log2 m := rfl
    simp only [rcpEx, Ex.one, Ex.div, h0, if_false, one_ne_zero, one_mul, Bool.false_bne, zero_sub]
    rfl
  have hprod : ∀ a : Nat, ratOf n a (-e - k - 1) * ratOf n m e - 1 = ((a * m : Int) - 2 * 2 ^ k : Int) / (2 * 2 ^ k : ℚ) := fun a => by
    rw [← Ex.mul_fin, Bool.xor_self, ratOf_false, show -e - (k : Int) - 1 + e = -((k : Int) + 1) by ring, zpow_neg, zpow_add₀ two_ne_zero,
      zpow_natCast, zpow_one]
    field_simp
    push_cast
    ring
  have hpow : (0 : ℚ) < 2 * 2 ^ k := by positivity
  have hexp : ((2 * q + 0 : Nat) * m : Int) - 2 * 2 ^ k = -2 * t ∧ ((2 * q + 1 : Nat) * m : Int) - 2 * 2 ^ k = m - 2 * t := by
    have : (q * m + t : Int) = 2 ^ k := by exact_mod_cast hdiv
    constructor <;> push_cast <;> linarith
  refine ⟨_, _, hval, ?_, fun j hj => ?_⟩
  · have herr : |((((2 * q + if t = 0 then 0 else 1 : Nat) * m : Int) - 2 * 2 ^ k : Int) : ℚ)| ≤ m := by
      rw [← Int.cast_abs]
      have : |((2 * q + if t = 0 then 0 else 1 : Nat) * m : Int) - 2 * 2 ^ k| ≤ m := by
        split
        · next h => rw [hexp.1, h]; simp
        · rw [hexp.2, abs_le]; omega
      exact_mod_cast this
    have hm : (m : ℚ) ≤ 2 ^ (log2 m + 1) := by exact_mod_cast (lt_two_pow_log2_succ m).le
    rw [hprod, abs_div, abs_of_pos hpow, div_le_div_iff₀ hpow (by positivity), one_mul]
    calc _ ≤ (2 : ℚ) ^ (log2 m + 1) * 2 ^ 70 := mul_le_mul_of_nonneg_right (herr.trans hm) (by positivity)
      _ ≤ 2 * 2 ^ k := by rw [← pow_add, ← pow_succ']; exact pow_le_pow_right₀ one_le_two (by omega)
  · have hdvd : t = 0 := Nat.mod_eq_zero_of_dvd (hj ▸ pow_dvd_pow 2 (by subst hj; simp only [k, log2, Nat.log2_two_pow]; omega))
    rw [← sub_eq_zero, hprod, if_pos hdvd, hexp.1, hdvd]
    simp

/-! The reciprocal root. -/

/-- The error of the root of the quotient P / m, doubled and with a sticky bit, in its square times m. -/
theorem root_error {P w m : Nat} (hw : w ≤ 2) (hm : m < 2 ^ 24) (hP : P * 2 < 2 ^ 201 * 2 ^ 201) (h0 : 0 < m) :
    let r := (P / m * w).sqrt
    |((2 * r + if r * r * m = P * w then 0 else 1 : Nat) * (2 * r + if r * r * m = P * w then 0 else 1 : Nat) * m : Int) - 4 * w * P| ≤ 2 ^ 228 := by
  intro r
  have hr1 : r * r ≤ P / m * w := Nat.sqrt_le _
  have hr2 : P / m * w ≤ r * r + r + r := Nat.sqrt_le_add _
  have hq1 := Nat.div_mul_le_self P m
  have hq2 := Nat.lt_succ_iff.mp (Nat.lt_succ_of_lt (Nat.lt_div_mul_add h0 (a := P)))
  generalize r = r at hr1 hr2 ⊢
  generalize P / m = q at hr1 hr2 hq1 hq2
  have hr : r < 2 ^ 201 := by
    have hq : q ≤ P := (Nat.le_mul_of_pos_right q h0).trans hq1
    exact Nat.mul_self_lt_mul_self_iff.mp (hr1.trans_lt ((Nat.mul_le_mul hq hw).trans_lt hP))
  have hrm : r * m ≤ 2 ^ 225 := (Nat.mul_le_mul hr.le hm.le).trans (by norm_num)
  have h1 := Nat.mul_le_mul_right m hr1
  have h2 := Nat.mul_le_mul_right m hr2
  have h3 := Nat.mul_le_mul_right w hq1
  have h4 := Nat.mul_le_mul_right w hq2
  have h5 := Nat.mul_le_mul_left m hw
  zify at *
  split
  · next h =>
    rw [show (2 * (r : ℤ) + 0) * (2 * r + 0) * m - 4 * w * P = 0 by linear_combination 4 * h]
    norm_num
  · rw [abs_le]
    constructor <;> nlinarith

/-- The reciprocal root is carried to more than 2^-70 of itself. -/
theorem rsqrt_near {m : Nat} (h0 : m ≠ 0) (hm : m < 2 ^ 24) (e : Int) : ∃ m' e', rsqrtEx (.fin false m e) = .fin false m' e' ∧
    |ratOf false m' e' ^ 2 * ratOf false m e - 1| ≤ 1 / 2 ^ 70 := by
  obtain ⟨P, hP⟩ : ∃ P : Nat, P = 2 ^ 400 := ⟨_, rfl⟩
  let o : Int := if e % 2 = 0 then 0 else 1
  let w : Nat := pow2 o
  let r := isqrt (P / m * w)
  have hval : rsqrtEx (.fin false m e) =
      .fin false (2 * r + if r * r * m = P * w then 0 else 1) ((-e - o - 400) / 2 - 1) := by
    simp only [r, hP, rsqrtEx, h0, if_false, Bool.false_eq_true]
    rfl
  have hPQ : (P : ℚ) = 2 ^ (400 : Int) := by rw [hP, Nat.cast_pow, Nat.cast_ofNat, ← zpow_natCast]; rfl
  have ho : (o = 0 ∧ w = 1) ∨ (o = 1 ∧ w = 2) := by
    by_cases h : e % 2 = 0
    · have : o = 0 := if_pos h
      exact .inl ⟨this, by simp only [w, this]; rfl⟩
    · have : o = 1 := if_neg h
      exact .inr ⟨this, by simp only [w, this]; rfl⟩
  have hwo : (2 : ℚ) ^ o = w := by rcases ho with ⟨h, h'⟩ | ⟨h, h'⟩ <;> rw [h, h'] <;> norm_num
  have heven : 2 * ((-e - o - 400) / 2) = -e - o - 400 := by
    have : o = 0 ∧ e % 2 = 0 ∨ o = 1 ∧ ¬ e % 2 = 0 := by
      by_cases h : e % 2 = 0
      · exact .inl ⟨if_pos h, h⟩
      · exact .inr ⟨if_neg h, h⟩
    omega
  have hprod : ∀ a : Nat, ratOf false a ((-e - o - 400) / 2 - 1) ^ 2 * ratOf false m e - 1 =
      ((a * a * m : Int) - 4 * w * P : Int) / (4 * w * P : ℚ) := fun a => by
    have hone : ((2 : ℚ) ^ ((-e - o - 400) / 2 - 1)) ^ 2 * 2 ^ e * (4 * w * P) = 1 := by
      rw [← hwo, hPQ, show (4 : ℚ) = 2 ^ (2 : Int) by norm_num, ← zpow_natCast, ← zpow_mul, ← zpow_add₀ two_ne_zero, ← zpow_add₀ two_ne_zero,
        ← zpow_add₀ two_ne_zero, ← zpow_add₀ two_ne_zero,
        show ((-e - o - 400) / 2 - 1) * ((2 : Nat) : Int) + e + (2 + o + 400) = 0 by push_cast; omega, zpow_zero]
    rw [ratOf_false, ratOf_false, eq_div_iff (right_ne_zero_of_mul_eq_one hone)]
    push_cast
    linear_combination ((a : ℚ) * a * m) * hone
  refine ⟨_, _, hval, ?_⟩
  have herr := root_error (P := P) (w := w) (m := m) (by omega) hm
    (by rw [hP, show 400 = 200 + 200 from rfl, pow_add]; norm_num) (Nat.pos_of_ne_zero h0)
  rw [← isqrt_eq_sqrt] at herr
  have hw1 : (1 : ℚ) ≤ w := by exact_mod_cast (show 1 ≤ w by omega)
  have hlow : (2 : ℚ) ^ 228 * 2 ^ 70 ≤ P := by
    rw [hPQ, ← pow_add, ← zpow_natCast]; exact zpow_le_zpow_right₀ one_le_two (by norm_num)
  have hP0 : (0 : ℚ) < P := lt_of_lt_of_le (by positivity) hlow
  have hpos : (0 : ℚ) < 4 * w * P := by positivity
  rw [hprod, abs_div, abs_of_pos hpos, div_le_div_iff₀ hpos (by positivity), one_mul, ← Int.cast_abs]
  calc _ ≤ (2 : ℚ) ^ 228 * 2 ^ 70 := mul_le_mul_of_nonneg_right (by exact_mod_cast herr) (by positivity)
    _ ≤ P := hlow
    _ ≤ 4 * w * P := le_mul_of_one_le_left hP0.le (by linarith)

/-! Powers and logarithms. -/

/-- The logarithm of a power of two. -/
theorem log2_power (k : Nat) (e : Int) : log2Ex (.fin false (2 ^ k) e) = Ex.ofInt (k + e) := by
  have hlog : log2 (2 ^ k) = k := Nat.log2_two_pow
  have h0 : 2 ^ k ≠ 0 := (Nat.two_pow_pos k).ne'
  simp only [log2Ex, h0, hlog, if_true, if_false, Bool.false_eq_true]
  split
  · next h => rw [h]; rfl
  · rfl

/-- The power of a whole number of FP32's range. -/
theorem exp2_integer {n : Bool} {m : Nat} {e k : Int} (h0 : m ≠ 0) (he : -149 ≤ e) (hk : ratOf n m e = k) (hlo : -1024 < k) (hhi : k < 1024) :
    exp2Ex (.fin n m e) = .fin false 1 k := by
  have hsmall : ¬ (log2 m : Int) + e ≥ 10 := fun hc => by
    have h1 : (2 : ℚ) ^ (10 : Int) ≤ |(k : ℚ)| := by
      rw [← hk, abs_ratOf]
      exact (zpow_le_zpow_right₀ one_le_two hc).trans (ratOf_log2 h0 e).1
    have h2 : |k| < 1024 := abs_lt.mpr ⟨hlo, hhi⟩
    have h3 : |(k : ℚ)| < 1024 := by exact_mod_cast h2
    norm_num at h1
    linarith
  have hv : signed n (m * pow2 (e + fixBits)) = k * ((2 ^ fixBits : Nat) : Int) := by
    have h1 := ratOf_align n m (e := e) (x := -(fixBits : Int)) (by simp only [fixBits]; omega)
    rw [hk, ratOf_signed, sub_neg_eq_add, zpow_neg, zpow_natCast, ← div_eq_mul_inv, div_eq_iff (by positivity)] at h1
    exact_mod_cast h1
  have hpow : ((2 ^ fixBits : Nat) : Int) ≠ 0 := by exact_mod_cast (Nat.two_pow_pos _).ne'
  have hexp : exp2Ex (.fin n m e) = if (signed n (m * pow2 (e + fixBits)) % (2 ^ fixBits : Nat)).toNat = 0
      then .fin false 1 (signed n (m * pow2 (e + fixBits)) / (2 ^ fixBits : Nat))
      else .fin false (2 * expSum ((signed n (m * pow2 (e + fixBits)) % (2 ^ fixBits : Nat)).toNat * ln2Fix / 2 ^ fixBits) 60 1 (2 ^ fixBits)
        (2 ^ fixBits) + 1) (signed n (m * pow2 (e + fixBits)) / (2 ^ fixBits : Nat) - fixBits - 1) := by
    rw [exp2Ex, if_neg h0, if_neg hsmall]
    rfl
  rw [hexp, hv, Int.mul_emod_left, Int.mul_ediv_cancel _ hpow]
  rfl

/-- The power of a number beyond FP32's range. -/
theorem exp2_large {n : Bool} {m : Nat} {e : Int} (h0 : m ≠ 0) (h : 1024 ≤ |ratOf n m e|) :
    exp2Ex (.fin n m e) = if n then .fin false 1 (-1000) else .fin false 1 1000 := by
  have hlog : (log2 m : Int) + e ≥ 10 := by
    rw [abs_ratOf] at h
    have hlt := h.trans_lt (ratOf_log2 h0 e).2
    rw [show (1024 : ℚ) = 2 ^ (10 : Int) by norm_num, zpow_lt_zpow_iff_right₀ one_lt_two] at hlt
    omega
  rw [exp2Ex, if_neg h0, if_pos hlog]

theorem fword_one_large : fword (.fin false 1 1000) = 0x7F800000 := by decide +kernel
theorem fword_one_small : fword (.fin false 1 (-1000)) = 0 := by decide +kernel

end Sys2Proof.Machine

/-! The FP32 instructions (R109, R110). -/

namespace Sys2Proof.Machine

/-! What they leave. -/

section
variable {s : State} {g : GRef} {h : Here} {p : Path} {w : IWord} (hI : s.Issues g h p)
include hI

theorem fpOp2_next (hm : modNat w < 2) (hr : regsOk ((w.rd.toNat, 1) :: raUse1 w :: rbUse w) h.grp = true) (f : Ex → Ex → Ex) :
    fpOp2 g w s f = .next (s.retired g h p (h.lanes p w (fun l => fword (f (fval (opA w h.grp l)) (fval (opB w h.grp l)))))) :=
  laneOp2_next hI (fun a b => fword (f (fval a) (fval b))) hm hr fun _ _ => rfl

theorem fpOp1_next (hm : modNat w = 0) (hr : regsOk [(w.rd.toNat, 1), raUse1 w] h.grp = true) (f : Ex → Ex) :
    fpOp1 g w s f = .next (s.retired g h p (h.lanes p w (fun l => fword (f (fval (opA w h.grp l)))))) :=
  laneOp_next hI _ (modZero_of hm) hr fun _ => rfl

theorem fma_next (hm : modNat w < 2) (hr : regsOk ((w.rd.toNat, 1) :: raUse1 w :: rcUse w :: rbUse w) h.grp = true) :
    execFma g w s = .next (s.retired g h p (h.lanes p w (fun l =>
      fword (Ex.add (Ex.mul (fval (opA w h.grp l)) (fval (opB w h.grp l))) (fval (opC w h.grp l)))))) :=
  laneOp_next hI _ (decide_eq_true hm) hr fun _ => rfl

theorem fcmp_next (hm : modNat w < 2) (hs : immBits w 32 4 ≤ 7) (hr : regsOk (raUse1 w :: rbUse w) h.grp = true) :
    execFcmp g w s = .next (s.retired g h p (h.seen.setPred w.pd.toNat (h.active p w)
      (lanesWhere (h.active p w) (fun l => fcmpSel (immBits w 32 4) (fval (opA w h.grp l)) (fval (opB w h.grp l)))))) := by
  unfold execFcmp
  exact issue_retires hI _ (by simp only [modImm, hm, hs, decide_true, Bool.true_and]; exact hr) (by simp) rfl

end

/-! Special values (Table 04.3). -/

theorem exMin_nan {x y : Ex} (h : (x.isNan || y.isNan) = true) : exMin x y = .nan := if_pos h
theorem exMax_nan {x y : Ex} (h : (x.isNan || y.isNan) = true) : exMax x y = .nan := if_pos h

theorem fword_inf (n : Bool) : fword (.inf n) = if n then 0xFF800000 else 0x7F800000 := by cases n <;> decide
theorem fword_zero (n : Bool) : fword (.fin n 0 0) = if n then 0x80000000 else 0 := by cases n <;> decide
theorem fword_one : fword Ex.one = 0x3F800000 := by decide

/-- The functions of one operand at NaN, at the infinities and at zeros. -/
theorem function_specials (v : Ex) :
    (v = .nan → fword (rcpEx v) = 0x7FC00000 ∧ fword (rsqrtEx v) = 0x7FC00000 ∧ fword (exp2Ex v) = 0x7FC00000 ∧ fword (log2Ex v) = 0x7FC00000) ∧
    (v = .inf false → fword (rcpEx v) = 0 ∧ fword (rsqrtEx v) = 0 ∧ fword (exp2Ex v) = 0x7F800000 ∧ fword (log2Ex v) = 0x7F800000) ∧
    (v = .inf true → fword (rcpEx v) = 0x80000000 ∧ fword (rsqrtEx v) = 0x7FC00000 ∧ fword (exp2Ex v) = 0 ∧ fword (log2Ex v) = 0x7FC00000) ∧
    (∀ n e, v = .fin n 0 e → fword (rcpEx v) = (if n then 0xFF800000 else 0x7F800000) ∧
      fword (rsqrtEx v) = (if n then 0xFF800000 else 0x7F800000) ∧ fword (exp2Ex v) = 0x3F800000 ∧ fword (log2Ex v) = 0xFF800000) := by
  refine ⟨?_, ?_, ?_, ?_⟩
  · rintro rfl; exact ⟨fword_nan, fword_nan, fword_nan, fword_nan⟩
  · rintro rfl; exact ⟨fword_zero false, fword_zero false, fword_inf false, fword_inf false⟩
  · rintro rfl; exact ⟨fword_zero true, fword_nan, fword_zero false, fword_nan⟩
  · rintro n e rfl
    exact ⟨by rw [← fword_inf]; exact congrArg fword (congrArg Ex.inf (Bool.false_bne n)), fword_inf n, fword_one, fword_inf true⟩

theorem fval_bounds {x : Word} {n : Bool} {m : Nat} {e : Int} (h : fval x = .fin n m e) : m < 2 ^ 24 ∧ -149 ≤ e := by
  rcases fval_cases x with ⟨-, hv⟩ | ⟨-, hv⟩ | ⟨-, m', e', hv, hm, hlo, -⟩
  · rw [hv] at h; cases h
  · rw [hv] at h; cases h
  · rw [hv] at h; cases h; exact ⟨hm, hlo⟩

/-- The functions of one operand at the numbers of FP32 other than zeros. -/
theorem function_values {x : Word} {n : Bool} {m : Nat} {e : Int} (h0 : m ≠ 0) (hv : fval x = .fin n m e) :
    (∃ m' e', fword (rcpEx (fval x)) = fword (.fin n m' e') ∧ |ratOf n m' e' * ratOf n m e - 1| ≤ 1 / 2 ^ 70 ∧
      (∀ k : Nat, m = 2 ^ k → ratOf n m' e' * ratOf n m e = 1)) ∧
    (n = true → fword (rsqrtEx (fval x)) = 0x7FC00000 ∧ fword (log2Ex (fval x)) = 0x7FC00000) ∧
    (n = false → (∃ m' e', fword (rsqrtEx (fval x)) = fword (.fin false m' e') ∧ |ratOf false m' e' ^ 2 * ratOf false m e - 1| ≤ 1 / 2 ^ 70) ∧
      ∀ k : Nat, m = 2 ^ k → fword (log2Ex (fval x)) = fword (Ex.ofInt (k + e))) ∧
    (∀ k : Int, ratOf n m e = k → -1024 < k → k < 1024 → fword (exp2Ex (fval x)) = fword (.fin false 1 k)) ∧
    (ratOf n m e ≥ 1024 → fword (exp2Ex (fval x)) = 0x7F800000) ∧ (ratOf n m e ≤ -1024 → fword (exp2Ex (fval x)) = 0) := by
  obtain ⟨hm, he⟩ := fval_bounds hv
  rw [hv]
  have hnonneg := ratOf_nonneg m e
  refine ⟨?_, ?_, ?_, fun k hk hlo hhi => congrArg fword (exp2_integer h0 he hk hlo hhi), fun h => ?_, fun h => ?_⟩
  · obtain ⟨m', e', hr, hnear⟩ := rcp_near n h0 e
    exact ⟨m', e', congrArg fword hr, hnear⟩
  · rintro rfl
    have hr : rsqrtEx (.fin true m e) = .nan := (if_neg h0).trans rfl
    have hl : log2Ex (.fin true m e) = .nan := (if_neg h0).trans rfl
    rw [hr, hl]
    exact ⟨fword_nan, fword_nan⟩
  · rintro rfl
    obtain ⟨m', e', hr, hnear⟩ := rsqrt_near h0 hm e
    exact ⟨⟨m', e', congrArg fword hr, hnear⟩, fun k hk => by rw [hk, log2_power]⟩
  · cases n with
    | false => rw [exp2_large h0 (h.trans (le_abs_self _))]; exact fword_one_large
    | true => rw [ratOf_true] at h; linarith
  · cases n with
    | false => linarith
    | true => rw [exp2_large h0 ((le_neg.mpr h).trans (neg_le_abs _))]; exact fword_one_small

/-- Settles O10: the instructions by shape (two, three or one operand, and a predicate), then the exact value each lane encodes. -/
theorem floatingPoint : Obligations.FloatingPoint := by
  intro s g h p w hI a b c num isSum isProd nan val
  have hmag : ∀ x, nan x = false → magOf x ≤ 0x7F800000 := fun x hx => not_lt.mp (of_decide_eq_false hx)
  refine ⟨fun hm hr => ?_, fun hm hr => ⟨?_, pfmaH_next hI hm hr, pfmaB_next hI hm hr⟩, fun hm hs hr => ?_, fun hm hr => ?_⟩
  · rw [exec_fadd, exec_fmul, exec_fmin, exec_fmax]
    refine ⟨_, _, _, _, fpOp2_next hI hm hr _, fpOp2_next hI hm hr _, fpOp2_next hI hm hr _, fpOp2_next hI hm hr _, fun l =>
      ⟨⟨_, Ex.isSum_add _ _, rfl⟩, ⟨_, Ex.isProd_mul _ _, rfl⟩, fun hn => ?_, fun hx hy => ?_⟩⟩
    · have hn' : ((fval (opA w h.grp l)).isNan || (fval (opB w h.grp l)).isNan) = true := by rw [isNan_fval, isNan_fval]; exact hn
      exact ⟨(congrArg fword (exMin_nan hn')).trans fword_nan, (congrArg fword (exMax_nan hn')).trans fword_nan⟩
    · exact ⟨fmin_words (hmag _ hx) (hmag _ hy), fmax_words (hmag _ hx) (hmag _ hy)⟩
  · rw [exec_fma]
    exact ⟨_, fma_next hI hm hr, fun l => ⟨_, _, Ex.isProd_mul _ _, Ex.isSum_add _ _, rfl⟩⟩
  · rw [exec_fcmp]
    refine ⟨_, fcmp_next hI hm hs hr, fun l hl => ?_⟩
    simp only [lanesWhere, getLsbD_laneMask, hl, decide_true, Bool.true_and]
    rw [fcmpSel_words hs]
    rfl
  · rw [exec_rcp, exec_rsqrt, exec_exp2, exec_log2]
    refine ⟨_, _, _, _, fpOp1_next hI hm hr _, fpOp1_next hI hm hr _, fpOp1_next hI hm hr _, fpOp1_next hI hm hr _, fun l => ?_⟩
    obtain ⟨hnan, hpinf, hninf, hzero⟩ := function_specials (fval (opA w h.grp l))
    exact ⟨hnan, hpinf, hninf, hzero, fun n m e h0 hv => function_values h0 hv⟩

end Sys2Proof.Machine

/-! What memory accesses of a unit and the records of a completion leave (R192 to R231, R303, R343): the steps of the Alder engines,
exchanges, the power subsystem and, of accesses alone, the rings. -/

namespace Sys2Proof.Machine

/-- States alike in the steps of the Alder engines, the exchanges and the power subsystem. -/
structure State.Aside (s t : State) : Prop where
  alder : t.alder = s.alder
  exch : t.exch = s.exch
  pwr : t.pwr = s.pwr

/-- States alike in these and in the rings. -/
structure State.Accessed (s t : State) : Prop extends s.Aside t where
  rings : t.rings = s.rings

section
variable {s t u : State}

theorem aside_refl : s.Aside s := ⟨rfl, rfl, rfl⟩

theorem State.Aside.trans (h : s.Aside t) (k : t.Aside u) : s.Aside u :=
  ⟨k.alder.trans h.alder, k.exch.trans h.exch, k.pwr.trans h.pwr⟩

theorem aside_ite {p : Prop} [Decidable p] (ht : s.Aside t) (hu : s.Aside u) : s.Aside (if p then t else u) := by
  split
  · exact ht
  · exact hu

theorem accessed_refl : s.Accessed s := ⟨aside_refl, rfl⟩

theorem State.Accessed.trans (h : s.Accessed t) (k : t.Accessed u) : s.Accessed u := ⟨h.toAside.trans k.toAside, k.rings.trans h.rings⟩

theorem accessed_ite {p : Prop} [Decidable p] (ht : s.Accessed t) (hu : s.Accessed u) : s.Accessed (if p then t else u) := by
  split
  · exact ht
  · exact hu

/-- The same where a value comes with the state. -/
theorem accessed_ite_fst {β : Type} {p : Prop} [Decidable p] {a b : State × β} (ha : s.Accessed a.1) (hb : s.Accessed b.1) :
    s.Accessed (if p then a else b).1 := by
  split
  · exact ha
  · exact hb

theorem accessed_foldl {α : Type} {f : State → α → State} (h : ∀ (t : State) a, t.Accessed (f t a)) (l : List α) :
    s.Accessed (l.foldl f s) :=
  foldl_keeps f l s accessed_refl fun _ _ ht => ht.trans (h _ _)

theorem accessed_of_tableWritten (h : TableWritten s t) : s.Accessed t := by
  obtain ⟨_, _, _, _, _, _, _, _, _, rfl⟩ := h; exact ⟨⟨rfl, rfl, rfl⟩, rfl⟩

theorem accessed_of_reported (h : Reported s t) : s.Accessed t := accessed_of_tableWritten (tableWritten_of_reported h)

theorem accessed_count (k n : Nat) : s.Accessed (s.count k n) := accessed_of_reported (reported_count s k n)

theorem accessed_reqs (rs : List Req) (n : Nat) : s.Accessed { s with reqs := rs, nextId := n } := ⟨⟨rfl, rfl, rfl⟩, rfl⟩

theorem accessed_updReq (id : Nat) (f : Req → Req) : s.Accessed (s.updReq id f) := ⟨⟨rfl, rfl, rfl⟩, rfl⟩

theorem accessed_updGw (g : Nat) (f : Gw → Gw) : s.Accessed (s.updGw g f) := ⟨⟨rfl, rfl, rfl⟩, rfl⟩

theorem accessed_updPort (p : Nat) (f : Port → Port) : s.Accessed (s.updPort p f) := ⟨⟨rfl, rfl, rfl⟩, rfl⟩

theorem accessed_emit (o : Out) : s.Accessed (s.emit o) := ⟨⟨rfl, rfl, rfl⟩, rfl⟩

theorem accessed_winWrite (c core off : Nat) (cs : List (Nat × Byte)) : s.Accessed (s.winWrite c core off cs) :=
  (accessed_ite accessed_refl (accessed_count _ _)).trans ⟨⟨rfl, rfl, rfl⟩, rfl⟩

theorem accessed_agReq (ag : Ag) (op : MemOp) (a va : Nat) : s.Accessed (s.agReq ag op a va) := ⟨⟨rfl, rfl, rfl⟩, rfl⟩

/-! Reads and writes of virtual space. -/

theorem tableWritten_devRead (o n : Nat) : TableWritten s (s.devRead o n).1 := by
  have hsweep : TableWritten s (s.eccSweep o n).1 :=
    foldl_keeps (P := fun a : State × Bool => TableWritten s a.1) _ _ _ tableWritten_refl fun _ _ ha => ha.trans (tableWritten_eccBlock _)
  unfold State.devRead
  split
  · dsimp only
    split <;> exact hsweep
  · exact tableWritten_refl
  · exact tableWritten_refl

theorem accessed_globRead (ag : Ag) (a va n : Nat) : s.Accessed (s.globRead ag a va n).1 := by
  refine accessed_ite_fst accessed_refl (accessed_ite_fst (accessed_of_tableWritten (tableWritten_devRead _ _)) ?_)
  split
  · exact accessed_refl
  · exact accessed_agReq _ _ _ _

theorem accessed_agPiece (ag : Ag) (need : Need) (va n : Nat) : s.Accessed (s.agPiece ag need va n).1 := by
  unfold State.agPiece
  dsimp only
  split
  · exact accessed_refl
  · split
    · split
      · exact accessed_refl
      · exact accessed_ite accessed_refl (accessed_count _ _)
    · split
      · exact accessed_refl
      · exact accessed_globRead _ _ _ _

theorem accessed_agRead (ag : Ag) (need : Need) (va n : Nat) : s.Accessed (s.agRead ag need va n).1 :=
  foldl_keeps (P := fun a : State × Got => s.Accessed a.1) _ _ _ accessed_refl fun _ _ ha => ha.trans (accessed_agPiece _ _ _ _)

theorem accessed_globWrite (ag : Ag) (a va : Nat) (bs : List Byte) : s.Accessed (s.globWrite ag a va bs).1 :=
  accessed_ite_fst accessed_refl (accessed_ite_fst (accessed_of_tableWritten (tableWritten_devWrite _ _)) (accessed_agReq _ _ _ _))

theorem accessed_agWrite (ag : Ag) (va : Nat) (bs : List Byte) : s.Accessed (s.agWrite ag va bs).1 := by
  refine foldl_keeps (P := fun a : State × Status => s.Accessed a.1) _ _ _ accessed_refl fun a p ha => ?_
  split
  · exact ha
  · dsimp only
    split
    · exact ha
    · split
      · split
        · exact ha
        · exact ha.trans (accessed_winWrite _ _ _ _)
      · exact ha.trans (accessed_globWrite _ _ _ _)

/-! Requests that go on their way. -/

theorem accessed_enter (r : Req) (key p : Nat) : s.Accessed (s.enter r key p) := by
  unfold State.enter
  exact accessed_ite ⟨⟨rfl, rfl, rfl⟩, rfl⟩ ⟨⟨rfl, rfl, rfl⟩, rfl⟩

theorem accessed_acceptPkt (p : Nat) (r : Req) : s.Accessed (s.acceptPkt p r) :=
  (accessed_ite accessed_refl (accessed_ite (accessed_updPort _ _) accessed_refl)).trans (accessed_count _ _)

theorem accessed_admitCand (c : Cand) : s.Accessed (s.admitCand c) := by
  unfold State.admitCand
  dsimp only
  split
  · exact (((accessed_updPort _ _).trans (accessed_acceptPkt _ _)).trans (accessed_updReq _ _)).trans (accessed_enter _ _ _)
  · exact accessed_enter _ _ _

theorem accessed_admitOne {ds ss : List Nat} (h : s.admitOne ds ss = some t) : s.Accessed t := by
  unfold State.admitOne at h
  dsimp only at h
  split at h
  · cases h
  · split at h
    · cases h
    · obtain ⟨c, -, rfl⟩ := Option.map_eq_some_iff.mp h
      exact accessed_admitCand c

theorem accessed_admitAll (n : Nat) (ds ss : List Nat) (s : State) : s.Accessed (State.admitAll n ds ss s) := by
  induction n generalizing s with
  | zero => exact accessed_refl
  | succ n ih =>
    unfold State.admitAll
    split
    case h_1 t ht => exact (accessed_admitOne ht).trans (ih t)
    case h_2 => exact accessed_refl

theorem accessed_readmit : s.Accessed s.readmit :=
  (accessed_admitAll _ _ _ s).trans (accessed_foldl (fun _ _ =>
    accessed_ite (accessed_ite accessed_refl ((accessed_updReq _ _).trans (accessed_count _ _))) accessed_refl) _)

theorem accessed_failReq (id : Nat) (st : Status) : s.Accessed (s.failReq id st) := ⟨⟨rfl, rfl, rfl⟩, rfl⟩

theorem accessed_sendOne (r : Req) : s.Accessed (s.sendOne r) := by
  unfold State.sendOne
  dsimp only
  split
  · exact accessed_failReq _ _
  · exact accessed_ite (accessed_failReq _ _) (accessed_ite accessed_refl ⟨⟨rfl, rfl, rfl⟩, rfl⟩)

theorem accessed_closeFrame (g : Nat) (st : Stream) : s.Accessed (s.closeFrame g st) := by
  unfold State.closeFrame
  split
  · exact accessed_refl
  · exact ((accessed_updGw _ _).trans (accessed_count _ _)).trans (accessed_emit _)

theorem accessed_streamFor {ctx n idx domain g : Nat} {st : Stream} (h : s.streamFor ctx n idx domain = some (t, g, st)) : s.Accessed t := by
  unfold State.streamFor at h
  dsimp only at h
  split at h
  · cases h
  · split at h
    · cases h; exact accessed_refl
    · split at h
      · cases h
      · cases h; exact ⟨⟨rfl, rfl, rfl⟩, rfl⟩

theorem accessed_getD_ite {p : Prop} [Decidable p] {a b : Option State} (ha : s.Accessed (a.getD t)) (hb : s.Accessed (b.getD t)) :
    s.Accessed ((if p then a else b).getD t) := by
  split
  · exact ha
  · exact hb

theorem accessed_larchEmits (g : Nat) (ds : List LSent) : s.Accessed (s.larchEmits g ds) :=
  accessed_foldl (fun _ _ => accessed_emit _) ds

/-- An off-domain request that a gateway accepts, or that waits (R303). -/
theorem accessed_gwAccept (r : Req) : s.Accessed ((s.gwAccept r).getD s) := by
  unfold State.gwAccept
  split
  · exact accessed_failReq _ _
  · split
    · exact accessed_failReq _ _
    · rename_i v g st hstream
      extract_lets rd size w st' opn f
      have hw : s.Accessed w := by
        refine (accessed_streamFor hstream).trans ?_
        unfold w
        split
        · exact accessed_ite (accessed_closeFrame _ _) accessed_refl
        · exact accessed_refl
      clear_value w st' opn f
      refine accessed_getD_ite (hw.trans (accessed_failReq _ _)) (accessed_getD_ite accessed_refl (accessed_getD_ite accessed_refl ?_))
      have hfull := fun ds f k => ((accessed_larchEmits (s := w) g ds).trans (accessed_updGw g f)).trans (accessed_updReq r.id k)
      exact (hw.trans (hfull _ _ _)).trans (accessed_ite (accessed_closeFrame _ _) accessed_refl)

theorem accessed_sendOff : s.Accessed s.sendOff := by
  refine accessed_foldl (fun t r => ?_) _
  split
  · split
    · exact accessed_gwAccept r
    · exact accessed_failReq _ _
  · exact accessed_refl

/-- The requests of the firmware go on their way. -/
theorem accessed_agGo {ag : Ag} (hag : ag.src = .firmware) : s.Accessed (s.agGo ag) := by
  unfold State.agGo
  rw [hag]
  exact (accessed_readmit.trans (accessed_foldl (fun _ _ => accessed_ite (accessed_sendOne _) accessed_refl) _)).trans accessed_sendOff

/-! The end of a command. -/

theorem accessed_ringWrite (c : Nat) (loc : Bool) (base off : Nat) (bs : List Byte) : s.Accessed (s.ringWrite c loc base off bs) := by
  unfold State.ringWrite
  split
  · exact ((accessed_agWrite _ _ _).trans (accessed_agGo rfl)).trans (accessed_reqs _ _)
  · exact accessed_emit _

theorem aside_updCq (c : Nat) (f : Cq → Cq) : s.Aside (s.updCq c f) := ⟨rfl, rfl, rfl⟩

theorem aside_msix (c v : Nat) : s.Aside (s.msix c v) := aside_ite aside_refl (accessed_emit _).toAside

theorem aside_cqWrite (c rec : Nat) : s.Aside (s.cqWrite c rec) := by
  have hwritten := fun loc base off bs f => (accessed_ringWrite (s := s) c loc base off bs).toAside.trans (aside_updCq c f)
  unfold State.cqWrite
  exact aside_ite ((hwritten _ _ _ _ _).trans (aside_msix c 0)) (hwritten _ _ _ _ _)

theorem aside_post (c rec : Nat) : s.Aside (s.post c rec) := by
  have hspill := (aside_updCq (s := s) c (fun q => { q with spill := q.spill ++ [rec] })).trans
    (aside_ite (p := ((s.ringsOf c).cq).spill.length = 63) (accessed_count (dkey 0x7080 0x06) 1).toAside aside_refl)
  exact aside_ite (aside_cqWrite c rec) (aside_ite (hspill.trans (aside_msix c 1)) hspill)

/-- The end of a command (R343). -/
theorem aside_complete (c r : Nat) (k : Cmd) (st : Status) (result detail body : Nat) : s.Aside (s.complete c r k st result detail body) := by
  have hown : s.Aside (if hasRecord (cOpc k.img) ∧ cRec k.img ≠ 0 ∧ cRec k.img % 32 = 0 then
      s.ringWrite c true (cRec k.img) 0 (leBytes 32 (st.toNat * 2 ^ 240 + body % 2 ^ 240)) else s) :=
    aside_ite (accessed_ringWrite _ _ _ _ _).toAside aside_refl
  have hcounted := fun rec => ((hown.trans (aside_post c rec)).trans (accessed_count (dkey 0x7080 0x01) 1).toAside).trans
    (accessed_count (ctxKey c 0x04) 1).toAside
  have hlate := fun rec => (hcounted rec).trans (aside_ite (p := st = Code.kernelDeadline) (accessed_count (dkey 0x7080 0x03) 1).toAside aside_refl)
  have hposted := fun rec => (hlate rec).trans (aside_ite (p := Code.isFailure st = true) (accessed_of_reported
    ((reported_setDv _ (ctxKey c 0x03) (st.toNat * 65536 + cOpc k.img * 256 + r)).trans (reported_raise _ Ev.traceCompletion 8 st 0 []))).toAside
    aside_refl)
  exact (hposted _).trans ⟨rfl, rfl, rfl⟩

end

end Sys2Proof.Machine

/-! Rows of ring commands: the checks, the body, and the command's place on its ring (R333 to R345). -/

namespace Sys2Proof.Machine

theorem firstReason_none {l : List (Bool × Status × Nat)} (h : ∀ e ∈ l, e.1 = false) : firstReason l = none := firstReason_append (a := []) h

/-- The one reason that holds. -/
theorem firstReason_only {a b : List (Bool × Status × Nat)} {x : Status × Nat} (ha : ∀ e ∈ a, e.1 = false) (hb : ∀ e ∈ b, e.1 = false) :
    firstReason (a ++ (true, x) :: b) = some x := by
  have hnone : ∀ l : List (Bool × Status × Nat), (∀ e ∈ l, e.1 = false) → l.filter (fun e => e.1) = [] :=
    fun l h => List.filter_eq_nil_iff.mpr fun e he => by simp [h e he]
  unfold firstReason
  rw [List.filter_append, List.filter_cons_of_pos (by simp), hnone a ha, hnone b hb]
  rfl

/-- The reasons of a QUERY (R340): mode 3, mode 2 of a tenant, mode 2 beside the device's memory. -/
def queryReasons (x : Nat) (c : Cmd) : List (Bool × Status × Nat) :=
  let o := bits (cArg1 c.img) 0 45
  [(qMode c.img == 3, Code.commandInvalid, 5),
   (qMode c.img == 2 && x != 4096, Code.notAdmin, 0),
   (qMode c.img == 2 && x == 4096 && (o ≥ 2 ^ 41 && !(nearBase ≤ o && o < nearBase + 0x300000000)), Code.commandInvalid, 6)]

section
variable {s : State} {x r opc : Nat} {cmd : Cmd} {why : Cmd → List (Bool × Status × Nat)} {go : Cmd → State} (hoff : s.offers x r opc cmd)
include hoff

theorem ringCmd_next : ringCmd s x r opc go = .next (go cmd) := by
  obtain ⟨hrun, hcur, hopc, hstage, htear⟩ := hoff
  simp [ringCmd, hrun, hcur, hopc, hstage, htear]

/-- A command of a tenant's opcodes without REC and DEP has none of the reasons common to all. -/
theorem offers_bare (hlow : opc < 0x60) (hrec : cRec cmd.img = 0) (hdep : cDep cmd.img = false) : ∀ e ∈ s.baseReasons x r cmd, e.1 = false := by
  obtain ⟨-, -, hopc, -⟩ := hoff
  exact baseReasons_none (hopc ▸ hlow) hrec hdep

theorem ringRow_goes (hwhy : firstReason (why cmd ++ s.baseReasons x r cmd) = none) : ringRow s x r opc why go = .next (go cmd) := by
  obtain ⟨hrun, hcur, hopc, hstage, htear⟩ := hoff
  simp [ringRow, hrun, hcur, hopc, hstage, htear, hwhy]

theorem ringRow_refuses {st : Status} {d : Nat} (hwhy : firstReason (why cmd ++ s.baseReasons x r cmd) = some (st, d)) :
    ringRow s x r opc why go = .next (s.refuse x r cmd st d 0) := by
  obtain ⟨hrun, hcur, hopc, hstage, htear⟩ := hoff
  simp [ringRow, hrun, hcur, hopc, hstage, htear, hwhy]

/-- A QUERY whose mode is the row's, or of mode 3, which QUERY_ENTRY refuses. -/
theorem query_eq {mode : Nat} (hmode : qMode cmd.img = mode ∨ mode = 0 ∧ qMode cmd.img = 3) :
    s.query x r mode go = ringRow s x r 0x53 (queryReasons x) go := by
  obtain ⟨-, hcur, -⟩ := hoff
  have hkeep : ¬ (qMode cmd.img ≠ mode ∧ (!decide (mode = 0 ∧ qMode cmd.img = 3)) = true) := by
    rintro ⟨hne, hno⟩
    rcases hmode with h | h
    · exact hne h
    · simp [h] at hno
  simp only [State.query, hcur]
  exact if_neg hkeep

end

section
variable {s t u : State} {x r : Nat} {cmd : Cmd}

/-- A ring's end is judged by the ring's fields other than its command. -/
theorem State.Freed.of_ring {f : Cmd → Cmd} {b : Bool} (h : u.Freed t x r b)
    (hring : u.ring x r = { s.ring x r with cur := (s.ring x r).cur.map f }) : s.Freed t x r b := by
  obtain ⟨hcur, hfin, hfailed, hhead, htail⟩ := h
  rw [hring] at hfin hhead htail
  exact ⟨hcur, hfin, hfailed, hhead, htail⟩

theorem ring_updCmd (f : Cmd → Cmd) : (s.updCmd x r f).ring x r = { s.ring x r with cur := (s.ring x r).cur.map f } :=
  State.ring_updRing _ _ _ _

theorem ring_of_rings (h : t.rings = s.rings) : t.ring x r = s.ring x r := by simp only [State.ring, State.ringsOf, h]

theorem ringsOf_of_rings (h : t.rings = s.rings) : t.ringsOf x = s.ringsOf x := by simp only [State.ringsOf, h]

theorem ctrl_updCmd (f : Cmd → Cmd) : (((s.updCmd x r f).ringsOf x).cq).ctrl = ((s.ringsOf x).cq).ctrl := by
  simp [State.updCmd, State.updRing]

/-- A unit none of whose requests stands has nothing to take out. -/
theorem agAbsorb_none {ag : Ag} (h : s.reqs.any ag.owns = false) : s.agAbsorb ag = (s, 0) := by
  have hno : ∀ q ∈ s.reqs, ag.owns q = false := by simpa using h
  have hkeep : s.reqs.filter (fun q => !(ag.owns q && q.ph == .done && !(isRd q))) = s.reqs :=
    List.filter_eq_self.mpr fun q hq => by simp [hno q hq]
  have hout : s.reqs.filter (fun q => ag.owns q && q.ph == .done && !(isRd q)) = [] :=
    List.filter_eq_nil_iff.mpr fun q hq => by simp [hno q hq]
  simp only [State.agAbsorb, hkeep, hout, List.foldl_nil]

theorem owns_none {ag : Ag} (h : ∀ q ∈ s.reqs, q.xfer ≠ ag.id) : s.reqs.any ag.owns = false := by
  simp only [List.any_eq_false, Ag.owns]
  exact fun q hq => by simp [h q hq]

theorem countCode_ok (c : Nat) : s.countCode c 0 = s := rfl

end

/-! QUERY (R340, R395). -/

section
variable {s : State} {ctx : Fin 4097} {ring : Fin 8} {cmd : Cmd} (hoff : s.offers ctx.val ring.val 0x53 cmd) (hrec : cRec cmd.img = 0)
  (hdep : cDep cmd.img = false)
include hoff hrec hdep

theorem query_reserved (hmode : qMode cmd.img = 3) :
    exec (.queryEntry ctx ring) s = .next (s.refuse ctx.val ring.val cmd Code.commandInvalid 5 0) :=
  (query_eq hoff (.inr ⟨rfl, hmode⟩)).trans (ringRow_refuses hoff (by
    rw [queryReasons, hmode]
    exact firstReason_only (a := []) (by simp) (by simpa using offers_bare hoff (by decide) hrec hdep)))

theorem query_goes {mode : Nat} {go : Cmd → State} (hmode : qMode cmd.img = mode) (hlow : mode < 2) :
    s.query ctx.val ring.val mode go = .next (go cmd) :=
  (query_eq hoff (.inl hmode)).trans (ringRow_goes hoff (firstReason_none (by
    have h3 : (mode == 3) = false := by simp; omega
    have h2 : (mode == 2) = false := by simp; omega
    simpa [queryReasons, hmode, h2, h3] using offers_bare hoff (by decide) hrec hdep)))

/-- QUERY_ENTRY while no persistent write is under way. -/
theorem query_entry {t : State} {st : Status} {bs : List Byte} (hmode : qMode cmd.img = 0) (hidle : ∀ q ∈ s.reqs, q.xfer ≠ cmd.id)
    (hhand : s.mgmt.hand = none) (hqueue : s.mgmt.queue = []) (hread : s.dictRead (qCls ctx.val) (qKey cmd.img) = (t, st, bs)) :
    (st ≠ 0 → exec (.queryEntry ctx ring) s = .next (t.refuse ctx.val ring.val cmd st 5 0)) ∧
    (st = 0 → bs.length ≤ 8 → exec (.queryEntry ctx ring) s = .next (t.complete ctx.val ring.val cmd 0 (leNat bs) 0 0)) := by
  have habsorb : s.agAbsorb (cmdAg ctx.val cmd) = (s, 0) := agAbsorb_none (owns_none hidle)
  obtain ⟨-, -, -, hstage, -⟩ := id hoff
  refine ⟨fun hst => (query_goes hoff hrec hdep hmode (by decide)).trans ?_,
    fun hst hlen => (query_goes hoff hrec hdep hmode (by decide)).trans ?_⟩
  · simp [habsorb, hstage, hhand, hqueue, hread]
    exact fun h => absurd h hst
  · simp [habsorb, hstage, hhand, hqueue, hread, hst, hlen, State.okCmd]

theorem query_translation (hmode : qMode cmd.img = 1) : exec (.queryTranslation ctx ring) s = .next (s.complete ctx.val ring.val cmd 0
    (match leafOf (s.ctx (targetOf ctx.val cmd.img)).leaves (bits (cArg1 cmd.img) 0 48) with | some (_, l) => leafWord l | none => 0) 0 0) :=
  query_goes hoff hrec hdep hmode (by decide)

theorem query_ownership_tenant (hmode : qMode cmd.img = 2) (hctx : ctx.val ≠ 4096) :
    exec (.queryOwnership ctx ring) s = .next (s.refuse ctx.val ring.val cmd Code.notAdmin 0 0) :=
  (query_eq hoff (.inl hmode)).trans (ringRow_refuses hoff (by
    have hadm : (ctx.val != 4096) = true := by simpa using hctx
    have hno : (ctx.val == 4096) = false := by simpa using hctx
    rw [queryReasons, hmode, hadm, hno]
    exact firstReason_only (a := [_]) (by simp) (by simpa using offers_bare hoff (by decide) hrec hdep)))

theorem query_ownership_admin (hmode : qMode cmd.img = 2) (hctx : ctx.val = 4096) (hlow : bits (cArg1 cmd.img) 0 45 < 2 ^ 41) :
    exec (.queryOwnership ctx ring) s =
      .next (s.complete ctx.val ring.val cmd 0 (ownerWord (s.own (bits (cArg1 cmd.img) 0 45 / 65536))) 0 0) :=
  (query_eq hoff (.inl hmode)).trans (ringRow_goes hoff (firstReason_none (by
    have hin : ¬ 2199023255552 ≤ bits (cArg1 cmd.img) 0 45 := Nat.not_le.mpr hlow
    simpa [queryReasons, hmode, hctx, hin] using offers_bare hoff (by decide) hrec hdep)))

end

end Sys2Proof.Machine

/-! HINT (R417, R418). -/

namespace Sys2Proof.Machine

section
variable {s : State} {ctx : Fin 4097} {ring : Fin 8} {cmd : Cmd} {d : Fin 8}

theorem filter_die : ∀ d : Fin 8, (List.range 8).filter (fun e => bitAt (2 ^ d.val) e) = [d.val] := by decide

theorem bitAt_die : ∀ (d : Fin 8) (e : Nat), e < 8 → bitAt (2 ^ d.val) e = decide (e = d.val) := by decide

/-- A HINT for one die names that die alone. -/
theorem hintDies_one (h : hDies cmd.img = 2 ^ d.val) : s.hintDies ctx.val cmd.img = [d.val] := by
  have hpos : (2 : Nat) ^ d.val ≠ 0 := by positivity
  rw [State.hintDies, h, if_neg hpos, filter_die]

/-- A HINT for one of the context's dies names no other's. -/
theorem hint_own {x : Nat} (h : hDies cmd.img = 2 ^ d.val) (hmine : (s.ctxDies x).contains d.val = true) :
    (List.range 8).any (fun e => bitAt (hDies cmd.img) e && !((s.ctxDies x).contains e)) = false := by
  rw [List.any_eq_false]
  intro e he
  rw [h, bitAt_die d e (List.mem_range.mp he)]
  by_cases hed : e = d.val
  · rw [hed, hmine]; simp
  · simp [hed]

/-- The guard that a HINT asks for. -/
def State.hintGuard (s : State) (x r : Nat) (img : Nat) : Guard :=
  { mv16 := s.dv (dkey 0x2001 0x02) * (hInt img + 1), dur := hDur img, cmd := 8 * x + r + 1 }

/-- What a HINT asks of a die: with CLASS 0 its filler, and a guard unless the die's telemetry is stale or it is in reset. -/
def DieP.hinted (p : DieP) (img lvl now : Nat) (g : Guard) : DieP :=
  let p := if hClass img = 0 then { p with hold := some (max lvl (p.hold.getD 0)) } else p
  if p.held || p.down then p else { p with guards := p.guards ++ [g], want := some (p.want.getD p.volt), askAt := now }

section
variable (hoff : s.offers ctx.val ring.val 0x50 cmd) (hrec : cRec cmd.img = 0) (hdep : cDep cmd.img = false)
include hoff hrec hdep

/-- HINT while DROOP_RESPONSE is off. -/
theorem hint_off (hon : s.dv (dkey 0x2001 0x01) = 0) : exec (.hint ctx ring) s = .next (s.complete ctx.val ring.val cmd 0 0 0 0) := by
  refine (ringCmd_next hoff).trans ?_
  rw [firstReason_none (by simpa [hon] using offers_bare hoff (by decide) hrec hdep)]
  simp [hon, State.okCmd]

/-- HINT of one of the context's dies. -/
theorem hint_one (hon : s.dv (dkey 0x2001 0x01) ≠ 0) (hdies : hDies cmd.img = 2 ^ d.val) (hmine : (s.ctxDies ctx.val).contains d.val = true)
    (hclass : hClass cmd.img ≤ 3) {t u : State} (ht : (s.count (dkey 0x2001 0x03)).updCmd ctx.val ring.val (fun k => { k with stage := 1 }) = t)
    (hu : t.updDie d.val (fun p => p.hinted cmd.img ((hInt cmd.img + 1) * (t.dieCores d.val).length) t.now
      (s.hintGuard ctx.val ring.val cmd.img)) = u) :
    exec (.hint ctx ring) s = .next (if (u.die d.val).guards.any (fun g => g.cmd == 8 * ctx.val + ring.val + 1) then u
      else u.hintOk ctx.val ring.val { cmd with stage := 1 }) := by
  obtain ⟨-, hcur, -⟩ := id hoff
  have hcur' : (u.ring ctx.val ring.val).cur = some { cmd with stage := 1 } := by
    rw [← hu, ring_of_rings (State.updDie_rings _ _ _), ← ht, ring_updCmd, ring_of_rings (State.count_rings _ _ _), hcur]
    rfl
  have hwhy : firstReason ([(!(s.dv (dkey 0x2001 0x01) == 0) && (decide (hClass cmd.img ≥ 4) ||
      (ctx.val != 4096 && (List.range 8).any (fun e => bitAt (hDies cmd.img) e && !((s.ctxDies ctx.val).contains e)))), Code.commandInvalid, 5)] ++
      s.baseReasons ctx.val ring.val cmd) = none := by
    refine firstReason_none (List.forall_mem_cons.mpr ⟨?_, offers_bare hoff (by decide) hrec hdep⟩)
    simp only [hint_own hdies hmine, Bool.and_false, Bool.or_false]
    simp; omega
  refine (ringCmd_next hoff).trans ?_
  rw [hwhy]
  simp only [hintDies_one hdies]
  rw [if_neg (by simpa using hon)]
  simp only [List.foldl_cons, List.foldl_nil, List.any_cons, List.any_nil, Bool.or_false]
  rw [ht]
  refine (congrArg (fun v : State => Host.Outcome.next (if (v.die d.val).guards.any (fun g => g.cmd == 8 * ctx.val + ring.val + 1) then v
    else match (v.ring ctx.val ring.val).cur with | some c => v.hintOk ctx.val ring.val c | none => v)) hu).trans ?_
  simp only [hcur']

end

theorem die_of_pwr {t u : State} {e : Nat} (h : u.pwr = t.pwr) : u.die e = t.die e := by simp only [State.die, h]

theorem updDie_congr {t : State} {e : Nat} {f f' : DieP → DieP} (h : f (t.die e) = f' (t.die e)) : t.updDie e f = t.updDie e f' :=
  congrArg (fun p => ({ t with pwr := { t.pwr with dies := mapSet {} t.pwr.dies e p } } : State)) h

theorem dieCores_counted {t : State} {key x r e : Nat} {f : Cmd → Cmd} : ((t.count key).updCmd x r f).dieCores e = t.dieCores e := by
  obtain ⟨_, _, _, h⟩ := reported_count t key 1
  rw [h]; rfl

section
variable (hoff : s.offers ctx.val ring.val 0x50 cmd) (hrec : cRec cmd.img = 0) (hdep : cDep cmd.img = false)
variable (hon : s.dv (dkey 0x2001 0x01) ≠ 0) (hdies : hDies cmd.img = 2 ^ d.val) (hmine : (s.ctxDies ctx.val).contains d.val = true)
include hoff hrec hdep hon hdies hmine

/-- A HINT of CLASS 1 to 3 waits for the guard of its die. -/
theorem hint_guards (hlow : 1 ≤ hClass cmd.img) (hhigh : hClass cmd.img ≤ 3) (hheld : (s.die d.val).held = false)
    (hdown : (s.die d.val).down = false) : exec (.hint ctx ring) s =
      .next (((s.count (dkey 0x2001 0x03)).updCmd ctx.val ring.val (fun k => { k with stage := 1 })).updDie d.val (fun p =>
        { p with guards := p.guards ++ [s.hintGuard ctx.val ring.val cmd.img], want := some (p.want.getD p.volt), askAt := s.now })) := by
  refine (hint_one hoff hrec hdep hon hdies hmine hhigh rfl rfl).trans ?_
  generalize ht : (s.count (dkey 0x2001 0x03)).updCmd ctx.val ring.val (fun k => { k with stage := 1 }) = t
  have hdie : t.die d.val = s.die d.val := die_of_pwr (by rw [← ht, State.updCmd_pwr, State.count_pwr])
  have hnow : t.now = s.now := by rw [← ht, State.updCmd_now, State.count_now]
  have hasked : ∀ lvl g, (t.die d.val).hinted cmd.img lvl t.now g = { t.die d.val with
      guards := (t.die d.val).guards ++ [g], want := some ((t.die d.val).want.getD (t.die d.val).volt), askAt := s.now } := by
    intro lvl g
    have hne : hClass cmd.img ≠ 0 := by omega
    simp only [DieP.hinted, if_neg hne, hdie, hheld, hdown, hnow, Bool.or_self, Bool.false_eq_true, if_false]
  rw [if_pos (by rw [State.die_updDie, hasked]; simp [State.hintGuard])]
  exact congrArg Host.Outcome.next (updDie_congr (hasked _ _))

/-- A HINT of CLASS 0 for a die with stale telemetry arms its filler alone and completes (Table 16.7). -/
theorem hint_fills (hclass : hClass cmd.img = 0) (hheld : (s.die d.val).held = true) (hguards : (s.die d.val).guards = [])
    (hhold : (s.die d.val).hold = none) (hloc : ctlLoc ((s.ringsOf ctx.val).cq).ctrl = false) :
    ∃ v : State, exec (.hint ctx ring) s = .next v ∧ s.Freed v ctx.val ring.val false ∧
      (v.die d.val).hold = some ((hInt cmd.img + 1) * (s.dieCores d.val).length) ∧ (v.die d.val).holdTo = s.now + 100000 ∧
      (v.die d.val).guards = [] ∧ v.mem = s.mem := by
  generalize ht : (s.count (dkey 0x2001 0x03)).updCmd ctx.val ring.val (fun k => { k with stage := 1 }) = t
  have hdie : t.die d.val = s.die d.val := die_of_pwr (by rw [← ht, State.updCmd_pwr, State.count_pwr])
  have hnow : t.now = s.now := by rw [← ht, State.updCmd_now, State.count_now]
  have hcores : t.dieCores d.val = s.dieCores d.val := by rw [← ht]; exact dieCores_counted
  have hmem : t.mem = s.mem := by rw [← ht, State.updCmd_mem, State.count_mem]
  have hctrl : (((t.ringsOf ctx.val).cq).ctrl) = ((s.ringsOf ctx.val).cq).ctrl := by
    rw [← ht, ctrl_updCmd, ringsOf_of_rings (State.count_rings _ _ _)]
  have hring : t.ring ctx.val ring.val = { s.ring ctx.val ring.val with
      cur := (s.ring ctx.val ring.val).cur.map (fun k => { k with stage := 1 }) } := by
    rw [← ht, ring_updCmd, ring_of_rings (State.count_rings _ _ _)]
  have hasked : ∀ lvl g, (t.die d.val).hinted cmd.img lvl t.now g = { s.die d.val with hold := some lvl } := by
    intro lvl g
    simp [DieP.hinted, hclass, hdie, hheld, hhold]
  obtain ⟨u, hu⟩ : ∃ u, t.updDie d.val (fun p => p.hinted cmd.img ((hInt cmd.img + 1) * (t.dieCores d.val).length) t.now
      (s.hintGuard ctx.val ring.val cmd.img)) = u := ⟨_, rfl⟩
  have hudie : u.die d.val = { s.die d.val with hold := some ((hInt cmd.img + 1) * (s.dieCores d.val).length) } := by
    rw [← hu, State.die_updDie, hasked, hcores]
  let w := u.updDie d.val (fun p => { p with holdTo := u.now + 100 * us })
  have hurings : w.rings = t.rings := by rw [State.updDie_rings, ← hu, State.updDie_rings]
  have hunow : u.now = s.now := by rw [← hu]; exact hnow
  have humem : w.mem = s.mem := by rw [State.updDie_mem, ← hu, State.updDie_mem, hmem]
  have hwdie : w.die d.val = { u.die d.val with holdTo := s.now + 100000 } := by
    rw [← hunow]; exact State.die_updDie _ _ _
  have hexec : exec (.hint ctx ring) s = .next (w.complete ctx.val ring.val { cmd with stage := 1 } 0 0 0 0) := by
    refine (hint_one hoff hrec hdep hon hdies hmine (by omega) ht hu).trans ?_
    rw [hudie, hguards]
    simp [State.hintOk, hclass, hintDies_one (s := u) hdies, State.okCmd, w]
  obtain ⟨hfreed, hvmem, -, -⟩ := complete_leaves (s := w) (r := ring.val) (c := { cmd with stage := 1 }) (st := 0) (result := 0) (detail := 0)
    (body := 0) (by rw [ringsOf_of_rings hurings, hctrl]; exact hloc) (by simp [hrec])
  have hvdie := die_of_pwr (e := d.val) (aside_complete (s := w) ctx.val ring.val { cmd with stage := 1 } 0 0 0 0).pwr
  rw [hwdie, hudie] at hvdie
  refine ⟨_, hexec, hfreed.of_ring ((ring_of_rings hurings).trans hring), ?_, ?_, ?_, ?_⟩
  · rw [hvdie]
  · rw [hvdie]
  · rw [hvdie]; exact hguards
  · exact hvmem.trans humem

end

end

end Sys2Proof.Machine

/-! Bytes of a core's local window read and written by a unit (R188, R195). -/

namespace Sys2Proof.Machine

/-- A property of the pieces of a range, in order: it holds of nothing, and each piece carries it on. -/
theorem foldl_cut {σ : Type} {f : σ → Nat × Nat → σ} {P : Nat → σ → Prop} {step a n : Nat} {x : σ} (hstep : 0 < step) (h0 : P 0 x)
    (hs : ∀ i k y, 0 < k → i + k ≤ n → P i y → P (i + k) (f y (a + i, k))) : P n ((cut step a n).foldl f x) := by
  suffices hfrom : ∀ fuel i m x, i + m = n → (m ≠ 0 → (a + i) % step + m ≤ step * fuel) → P i x →
      P n ((pieces step fuel (a + i) m).foldl f x) by
    refine hfrom (n / step + 2) 0 n x (by omega) (fun _ => ?_) h0
    have hlt := Nat.mod_lt (a + 0) hstep
    have hdiv := Nat.div_add_mod n step
    have hrest := Nat.mod_lt n hstep
    rw [Nat.mul_add]
    omega
  intro fuel
  induction fuel with
  | zero =>
    intro i m x hm hfuel hx
    obtain rfl : i = n := by omega
    exact hx
  | succ fuel ih =>
    intro i m x hm hfuel hx
    unfold pieces
    by_cases hm0 : m = 0
    · obtain rfl : i = n := by omega
      rw [if_pos hm0]; exact hx
    · have hlt := Nat.mod_lt (a + i) hstep
      have hnext := hs i _ x (show 0 < min m (step - (a + i) % step) by omega) (by omega) hx
      rw [if_neg hm0, List.foldl_cons, Nat.add_assoc]
      refine ih _ _ _ (by omega) (fun hrest => ?_) hnext
      have hk : min m (step - (a + i) % step) = step - (a + i) % step := by omega
      have hend : a + (i + (step - (a + i) % step)) = step * ((a + i) / step + 1) := by
        have := Nat.div_add_mod (a + i) step
        rw [Nat.mul_add]; omega
      have hroom := hfuel hm0
      rw [Nat.mul_add] at hroom
      rw [hk, hend, Nat.mul_mod_right]
      omega

/-- Two states of one window: they differ in what counting and writes to local stores change, the size of the core's local store apart. -/
def State.WindowOf (s t : State) (x core : Nat) : Prop :=
  ∃ d o r is q, t = { s with dict := d, ovfl := o, rep := r, images := is, rings := q } ∧ (t.img x core).lsBytes = (s.img x core).lsBytes

section
variable {s t u : State} {x core off va : Nat} {need : Need}

theorem State.WindowOf.trans (h : s.WindowOf t x core) (k : t.WindowOf u x core) : s.WindowOf u x core := by
  obtain ⟨_, _, _, _, _, rfl, hs⟩ := h
  obtain ⟨_, _, _, _, _, rfl, ht⟩ := k
  exact ⟨_, _, _, _, _, rfl, ht.trans hs⟩

theorem windowOf_refl : s.WindowOf s x core := ⟨_, _, _, _, _, rfl, rfl⟩

theorem windowOf_of_reported (h : Reported s t) : s.WindowOf t x core := by
  obtain ⟨_, _, _, rfl⟩ := h; exact ⟨_, _, _, _, _, rfl, rfl⟩

theorem windowOf_rings (q : Map Rings) : s.WindowOf { s with rings := q } x core := ⟨_, _, _, _, _, rfl, rfl⟩

/-- Which addresses of virtual space lie in a window (R188, R191). -/
theorem xlate_win_iff : s.xlate x va need = (0, .win core off) ↔
    va < 2 ^ 48 ∧ (winVa ≤ va ∧ va < winVa + 0x50000000) ∧ need ≠ .fetch ∧ core = (va - winVa) / 0x200000 ∧
      off = (va - winVa) % 0x200000 ∧ ¬ (s.dev.fenced.contains (s.physAny core) = true ∧ core < s.logicalCores ∧ (s.ctx x).has core = true) ∧
      (s.served core = true ∧ (s.ctx x).has core = true) ∧ off < (s.img x core).lsBytes := by
  constructor
  · intro h
    unfold State.xlate at h
    dsimp only at h
    split at h
    · cases h
    · split at h
      · next hlow hwin =>
        split at h
        · cases h
        · split at h
          · cases h
          · split at h
            · cases h
            · split at h
              · cases h
              · next hfetch hfenced hserved hbytes =>
                cases h
                exact ⟨Nat.not_le.mp hlow, hwin, hfetch, rfl, rfl, hfenced, by simpa using hserved, Nat.not_le.mp hbytes⟩
      · split at h
        · cases h
        · split at h
          · cases h
          · split at h
            · cases h
            · split at h
              · split at h
                · cases h
                · split at h <;> cases h
              · cases h
  · rintro ⟨hlow, hwin, hfetch, hcore, hoff, hfenced, ⟨hserved, hhas⟩, hbytes⟩
    unfold State.xlate
    dsimp only
    rw [if_neg (Nat.not_le.mpr hlow), if_pos hwin, if_neg hfetch, ← hcore, ← hoff, if_neg hfenced, hserved, hhas, if_neg (by simp),
      if_neg (Nat.not_le.mpr hbytes)]

/-- The window stands where it stood. -/
theorem xlate_windowOf (h : s.WindowOf t x core) (hx : s.xlate x va need = (0, .win core off)) : t.xlate x va need = (0, .win core off) := by
  obtain ⟨hlow, hwin, hfetch, hcore, hoff, hfenced, hheld, hbytes⟩ := xlate_win_iff.mp hx
  obtain ⟨d, o, r, is, q, rfl, hsize⟩ := h
  exact xlate_win_iff.mpr ⟨hlow, hwin, hfetch, hcore, hoff, hfenced, hheld, hsize ▸ hbytes⟩

end

end Sys2Proof.Machine

/-! What a counter that saturates leaves of an attestation report (R371, R457, R461): the clock and the entries that no report touches. -/

namespace Sys2Proof.Machine

/-- What the operating time is counted from. -/
def State.clock (s : State) : Nat × Nat := (s.rep.opBase, s.rep.opStart)

section
variable {s t : State}

theorem clock_bump (k n : Nat) : (s.bump k n).clock = s.clock := by
  unfold State.bump
  split
  · rfl
  · dsimp only
    split
    · split
      · rfl
      · rfl
    · rfl

theorem clock_stage (y : Yew) : (s.stage y).clock = s.clock := by
  let u : State := { s with rep := { s.rep with staging := s.rep.staging ++ [y] } }
  unfold State.stage
  split
  · exact clock_bump _ _
  · split
    · exact clock_bump _ _
    · dsimp only
      split
      · exact clock_bump (s := u) _ _
      · split
        · exact clock_bump (s := u) _ _
        · rfl

theorem clock_enqueueAlarm (a : Alarm) : (s.enqueueAlarm a).clock = s.clock := by
  unfold State.enqueueAlarm
  dsimp only
  split
  · rfl
  · split
    · rfl
    · rfl

theorem clock_alarm (a : Alarm) : (s.alarm a).1.clock = s.clock := by
  have hbump : ∀ (r : Rep) k n, (({ s with rep := r } : State).bump k n).clock = (r.opBase, r.opStart) :=
    fun r k n => clock_bump (s := { s with rep := r }) k n
  unfold State.alarm
  dsimp only
  split
  · exact hbump _ _ _
  · split
    · exact (clock_enqueueAlarm _).trans (hbump _ _ _)
    · exact hbump { s.rep with aseq := (s.rep.aseq + 1) % 2 ^ 32 } _ _

theorem clock_raiseAs (ev cls unit : Nat) (st : Status) (d0 low : Nat) : (s.raiseAs ev cls unit st d0 low).clock = s.clock := by
  unfold State.raiseAs
  dsimp only
  split
  · split
    · exact clock_alarm _
    · rfl
  · split
    · exact clock_alarm _
    · exact (clock_stage _).trans (clock_alarm _)

theorem clock_count (k n : Nat) : (s.count k n).clock = s.clock := by
  unfold State.count
  dsimp only
  split
  · exact (clock_raiseAs _ _ _ _ _ _).trans (clock_bump _ _)
  · exact clock_bump _ _

theorem dv_bump_other {key k n : Nat} (hk : key ∉ reportKeys) (hne : key ≠ k) : (s.bump k n).dv key = s.dv key := by
  have hlist : key ≠ dkey 0x7010 0x02 := fun e => hk (by simp [e, reportKeys])
  unfold State.bump
  split
  · exact State.dv_setDv_other _ _ _ _ hne
  · dsimp only
    split
    · split
      · exact State.dv_setDv_other _ _ _ _ hne
      · exact (State.dv_setDv_other _ _ _ _ hlist).trans (State.dv_setDv_other _ _ _ _ hne)
    · exact State.dv_setDv_other _ _ _ _ hne

theorem dv_count {key k n : Nat} (hk : key ∉ reportKeys) (hne : key ≠ k) : (s.count k n).dv key = s.dv key := by
  unfold State.count
  dsimp only
  split
  · exact (dv_raiseAs hk _ _ _ _ _ _).trans (dv_bump_other hk hne)
  · exact dv_bump_other hk hne

/-- The entries that a report of a context gives (Table 14.5). -/
def measureKeys : List Nat := [dkey 0x6000 0x02, dkey 0x6000 0x05, dkey 0x6000 0x06, dkey 0x1000 0x09]

theorem report_congr (h : Reported s t) (hclock : t.clock = s.clock) (hdv : ∀ k ∈ measureKeys, t.dv k = s.dv k) (x : Nat) (nonce : List Byte) :
    t.report x nonce = s.report x nonce := by
  have hctx : t.ctx x = s.ctx x := by obtain ⟨_, _, _, rfl⟩ := h; rfl
  have hdev : t.dev = s.dev := by obtain ⟨_, _, _, rfl⟩ := h; rfl
  have hnow : t.now = s.now := by obtain ⟨_, _, _, rfl⟩ := h; rfl
  have htime : t.opTime = s.opTime := by
    obtain ⟨hbase, hstart⟩ := Prod.mk.inj hclock
    simp only [State.opTime, hbase, hstart, hnow]
  simp only [measureKeys, List.forall_mem_cons, List.not_mem_nil, false_imp_iff, implies_true, and_true] at hdv
  obtain ⟨hid, hfw, hjournal, hcycles⟩ := hdv
  unfold State.report State.reportHead
  simp only [State.idKeyHash, State.powerCycles, hctx, hdev, htime, hid, hfw, hjournal, hcycles]

/-- Counting what a report does not give changes no report. -/
theorem report_count {k : Nat} (h : k ∉ measureKeys) (n x : Nat) (nonce : List Byte) : (s.count k n).report x nonce = s.report x nonce := by
  have hquiet : ∀ j ∈ measureKeys, j ∉ reportKeys := by decide
  exact report_congr (reported_count s k n) (clock_count k n) (fun j hj => dv_count (hquiet j hj) (fun e => h (e ▸ hj))) x nonce

end

end Sys2Proof.Machine

/-! Reads and writes of a window by a unit (R188, R195, Table 07.5). -/

namespace Sys2Proof.Machine

/-- An access to a window of a core whose state is another context's is counted (R195). -/
def State.winSeen (s : State) (x core : Nat) : State := if s.heldCtx core = some x then s else s.count (dkey 0x3003 0x03)

section
variable {s t : State} {x core off va n : Nat} {need : Need} {ag : Ag}

theorem winSeen_reported : Reported s (s.winSeen x core) := by
  unfold State.winSeen
  split
  · exact .rfl s
  · exact reported_count _ _ _

theorem winSeen_report (y : Nat) (nonce : List Byte) : (s.winSeen x core).report y nonce = s.report y nonce := by
  unfold State.winSeen
  split
  · rfl
  · exact report_count (by decide) _ _ _

theorem winSeen_images : (s.winSeen x core).images = s.images := by
  obtain ⟨_, _, _, h⟩ := winSeen_reported (s := s) (x := x) (core := core)
  rw [h]

theorem agPiece_window (hx : s.xlate ag.ctx va need = (0, .win core off)) (hfit : off + n ≤ (s.img ag.ctx core).lsBytes) :
    s.agPiece ag need va n = (s.winSeen ag.ctx core, .ok (s.winRead ag.ctx core off n)) := by
  simp only [State.agPiece, hx, ne_eq, not_true_eq_false, if_false, Nat.not_lt.mpr hfit]
  rfl

theorem cellsRead_add (m : List Host.Cell) (a i k : Nat) : cellsRead m a i ++ cellsRead m (a + i) k = cellsRead m a (i + k) := by
  simp [cellsRead, List.range_add, Nat.add_assoc]

/-- A read of a range that lies in a window. -/
theorem agRead_window (hwin : s.windowed ag.ctx va n need core off) : ∃ t, s.agRead ag need va n = (t, .ok (s.winRead ag.ctx core off n)) ∧
    Reported s t ∧ ∀ y nonce, t.report y nonce = s.report y nonce := by
  obtain ⟨hfit, hx⟩ := hwin
  obtain ⟨hreported, hreport, hbytes⟩ := foldl_cut (step := 256) (a := va) (n := n) (x := (s, Got.ok []))
    (f := fun a p => ((a.1.agPiece ag need p.1 p.2).1, a.2.join (a.1.agPiece ag need p.1 p.2).2))
    (P := fun i (a : State × Got) => Reported s a.1 ∧ (∀ y nonce, a.1.report y nonce = s.report y nonce) ∧
      a.2 = .ok (s.winRead ag.ctx core off i)) (by decide) ⟨.rfl s, fun _ _ => rfl, rfl⟩
    (fun i k a hk hi ⟨hw, hr, hg⟩ => by
      have himg : a.1.img ag.ctx core = s.img ag.ctx core := by obtain ⟨_, _, _, h⟩ := hw; rw [h]; rfl
      rw [agPiece_window (xlate_windowOf (windowOf_of_reported hw) (hx i (by omega))) (by rw [himg]; omega)]
      refine ⟨hw.trans winSeen_reported, fun y nonce => (winSeen_report y nonce).trans (hr y nonce), ?_⟩
      rw [hg]
      simp only [Got.join, State.winRead, himg, cellsRead_add])
  exact ⟨_, Prod.ext rfl hbytes, hreported, hreport⟩

theorem windowed_windowOf (h : s.WindowOf t x core) (hwin : s.windowed x va n need core off) : t.windowed x va n need core off := by
  obtain ⟨hfit, hx⟩ := hwin
  refine ⟨?_, fun k hk => xlate_windowOf h (hx k hk)⟩
  obtain ⟨_, _, _, _, _, -, hsize⟩ := h
  rw [hsize]; exact hfit

/-- A part of a list of bytes put at its place reads as that part, and nothing below it changes. -/
theorem mapGet_cellsPut_part {m : List Host.Cell} {bs : List Byte} {i k j : Nat} (hi : i + k ≤ bs.length) (hj : j < i + k) :
    mapGet (0 : Byte) (cellsPut m ((zipFrom 0 ((bs.drop i).take k)).map (fun e => (off + i + e.1, e.2)))) (off + j) =
      if i ≤ j then (bs[j]?).getD 0 else mapGet (0 : Byte) m (off + j) := by
  have hcell : ∀ c ∈ (zipFrom 0 ((bs.drop i).take k)).map (fun e => (off + i + e.1, e.2)),
      ∃ y, i + y < bs.length ∧ c = (off + i + y, (bs[i + y]?).getD 0) := by
    intro c hc
    obtain ⟨e, he, rfl⟩ := List.mem_map.mp hc
    obtain ⟨y, hy, rfl⟩ := mem_zipFrom.mp he
    rw [List.length_take, List.length_drop] at hy
    exact ⟨y, by omega, by simp [show i + y < bs.length by omega]⟩
  split
  · next hij =>
    have hy : j - i < ((bs.drop i).take k).length := by rw [List.length_take, List.length_drop]; omega
    have hin := List.mem_map_of_mem (f := fun e : Nat × Byte => (off + i + e.1, e.2)) (mem_zipFrom (a := 0).mpr ⟨j - i, hy, rfl⟩)
    have hmem := mapGet_cellsPut_mem (m := m) (a := off + j) ⟨_, hin, show off + i + (0 + (j - i)) = off + j by omega⟩
    obtain ⟨y, -, he⟩ := hcell _ hmem
    obtain ⟨ha, hv⟩ := Prod.mk.inj he
    rw [hv, show i + y = j by omega]
  · exact mapGet_cellsPut_other fun c hc he => by
      obtain ⟨y, -, rfl⟩ := hcell c hc
      simp only at he; omega

theorem windowOf_winWrite {o : Nat} {cs : List (Nat × Byte)} : s.WindowOf (s.winWrite x core o cs) x core := by
  refine (windowOf_of_reported winSeen_reported).trans ⟨_, _, _, _, _, rfl, ?_⟩
  exact (congrArg Image.lsBytes (img_updImg (s.winSeen x core) _ _ _)).trans rfl

theorem img_winWrite {o : Nat} {cs : List (Nat × Byte)} : ((s.winWrite x core o cs).img x core).ls =
    cellsPut (s.img x core).ls (cs.map (fun e => (o + e.1, e.2))) := by
  refine (congrArg Image.ls (img_updImg (s.winSeen x core) _ _ _)).trans ?_
  simp only [State.img, winSeen_images]

/-- A write of a range that lies in a window. -/
theorem agWrite_window {bs : List Byte} (hwin : s.windowed ag.ctx va bs.length .write core off) : ∃ t, s.agWrite ag va bs = (t, 0) ∧
    s.WindowOf t ag.ctx core ∧ ∀ k, k < bs.length → mapGet (0 : Byte) (t.img ag.ctx core).ls (off + k) = (bs[k]?).getD 0 := by
  obtain ⟨hfit, hx⟩ := hwin
  have hall : s.WindowOf (s.agWrite ag va bs).1 ag.ctx core ∧ (s.agWrite ag va bs).2 = 0 ∧
      ∀ k, k < bs.length → mapGet (0 : Byte) ((s.agWrite ag va bs).1.img ag.ctx core).ls (off + k) = (bs[k]?).getD 0 := by
    refine foldl_cut (step := 256) (P := fun i (a : State × Status) => s.WindowOf a.1 ag.ctx core ∧ a.2 = 0 ∧
      ∀ k, k < i → mapGet (0 : Byte) (a.1.img ag.ctx core).ls (off + k) = (bs[k]?).getD 0) (by decide)
      ⟨windowOf_refl, rfl, fun k hk => absurd hk (Nat.not_lt_zero k)⟩ fun i k a hk hi ⟨hw, hst, hput⟩ => ?_
    have hsize : (a.1.img ag.ctx core).lsBytes = (s.img ag.ctx core).lsBytes := by
      obtain ⟨_, _, _, _, _, -, h⟩ := hw
      exact h
    have hfits : ¬ off + i + k > (a.1.img ag.ctx core).lsBytes := by rw [hsize]; omega
    simp only [hst, ne_eq, not_true_eq_false, if_false, xlate_windowOf hw (hx i (by omega)), hfits, Nat.add_sub_cancel_left]
    refine ⟨hw.trans windowOf_winWrite, trivial, fun j hj => ?_⟩
    rw [img_winWrite, mapGet_cellsPut_part hi hj]
    split
    · rfl
    · exact hput j (by omega)
  obtain ⟨hwindow, hst, hput⟩ := hall
  exact ⟨_, Prod.ext rfl hst, hwindow, hput⟩

end

end Sys2Proof.Machine

/-! ATTEST (R371). -/

namespace Sys2Proof.Machine

section
variable {s t v : State} {x r : Nat} {ag : Ag}

/-- With no request under way none goes on its way. -/
theorem agGo_idle (hag : ag.src = .firmware) (h : s.reqs = []) : s.agGo ag = s := by
  have hadmit : s.readmit = s := by
    unfold State.readmit State.noteWaits
    simp only [h, List.map_nil, List.foldl_nil, State.admitAll]
  have hsend : s.sendAway = s := by rw [State.sendAway, h]; rfl
  have hoff : s.sendOff = s := by rw [State.sendOff, h]; rfl
  unfold State.agGo
  rw [hag]
  simp only [hadmit, hsend, hoff]

theorem agDrop_idle (h : s.reqs = []) : s.agDrop ag = s := by
  have hsame : ({ s with reqs := [] } : State) = s := by rw [← h]
  rw [State.agDrop, h]; exact hsame

/-- The end of a bulk command of the firmware with nothing under way (R307). -/
theorem bulkEnd_completes {k : Cmd} (hag : ag.src = .firmware) (hreqs : s.reqs = []) (hframes : s.frameHolds ag.id = false)
    (hcur : (s.ring x r).cur = some k) (hdone : k.done = none) : s.bulkEnd x r ag 0 0 = s.complete x r k 0 k.aux 0 0 := by
  have hbusy : s.agBusy ag = false := by rw [State.agBusy, hreqs]; rfl
  unfold State.bulkEnd
  simp only [agDrop_idle hreqs, closeFor_none hframes, agGo_idle hag hreqs, hcur, hdone, hbusy, hframes, Bool.or_self, Bool.false_eq_true,
    if_false, countCode_ok]

end

theorem report_length (s : State) (y : Nat) {nonce : List Byte} (h : nonce.length = 48) : (s.report y nonce).length = 640 := by
  have hbe : ∀ n v, (beBytes n v).length = n := fun n v => by rw [beBytes, List.length_reverse, leBytes_length]
  unfold State.report
  dsimp only
  cases (s.ctx y).provKey with
  | none => simp only [List.length_append, List.length_replicate, leBytes_length, hbe, h]
  | some e => simp only [List.length_append, List.length_replicate, leBytes_length, hbe, h]

section
variable {s : State} {ctx : Fin 4097} {ring : Fin 8} {cmd : Cmd} (hoff : s.offers ctx.val ring.val 0x52 cmd) (hrec : cRec cmd.img = 0)
  (hdep : cDep cmd.img = false) (hst : (s.ctx (attestTarget ctx.val cmd.img)).st ≠ 0) (ha0 : s.badAddr ctx.val (cA0 cmd.img) 640 1 .write = false)
  (ha1 : s.badAddr ctx.val (cA1 cmd.img) 48 1 .read = false)
include hoff hrec hdep hst ha0 ha1

/-- ATTEST without a valid identity. -/
theorem attest_unidentified (hid : s.dv (dkey 0x6000 0x01) ≠ 0) :
    exec (.attest ctx ring) s = .next (s.refuse ctx.val ring.val cmd Code.identityUnavailable 0 0) := by
  refine ringRow_refuses hoff ?_
  have hbad : (s.dv (dkey 0x6000 0x01) != 0) = true := by simpa using hid
  rw [hbad]
  refine firstReason_only (a := []) (by simp) ?_
  simpa [hst, ha0, ha1] using offers_bare hoff (by decide) hrec hdep

/-- ATTEST reads the nonce and writes the report. -/
theorem attest_reports {t v : State} {nonce : List Byte} (hid : s.dv (dkey 0x6000 0x01) = 0)
    (hhash : s.hashing (attestTarget ctx.val cmd.img) = false) (hidle : ∀ q ∈ s.reqs, q.xfer ≠ cmd.id)
    (hread : s.agRead (cmdAg ctx.val cmd) .read (cA1 cmd.img) 48 = (t, .ok nonce))
    (hwrite : (t.updCmd ctx.val ring.val (fun k => { k with stage := 1, aux := 640 })).agWrite (cmdAg ctx.val cmd) (cA0 cmd.img)
      ((t.updCmd ctx.val ring.val (fun k => { k with stage := 1, aux := 640 })).report (attestTarget ctx.val cmd.img) nonce) = (v, 0)) :
    exec (.attest ctx ring) s = .next (v.bulkEnd ctx.val ring.val (cmdAg ctx.val cmd) 0 0) := by
  obtain ⟨-, -, -, hstage, -⟩ := id hoff
  have habsorb : s.agAbsorb (cmdAg ctx.val cmd) = (s, 0) := agAbsorb_none (owns_none hidle)
  refine (ringRow_goes hoff (firstReason_none ?_)).trans ?_
  · simpa [hst, ha0, ha1, hid] using offers_bare hoff (by decide) hrec hdep
  · simp [habsorb, hstage, hhash, hread, hwrite]

/-- ATTEST whose nonce and report lie in windows of cores. -/
theorem attest_windows {core off core' off' : Nat} (hid : s.dv (dkey 0x6000 0x01) = 0)
    (hhash : s.hashing (attestTarget ctx.val cmd.img) = false) (hreqs : s.reqs = []) (hframes : s.frameHolds cmd.id = false)
    (hdone : cmd.done = none) (hloc : ctlLoc ((s.ringsOf ctx.val).cq).ctrl = false)
    (hto : s.windowed ctx.val (cA0 cmd.img) 640 .write core off) (hfrom : s.windowed ctx.val (cA1 cmd.img) 48 .read core' off') :
    ∃ v : State, exec (.attest ctx ring) s = .next v ∧ s.Freed v ctx.val ring.val false ∧ v.mem = s.mem ∧
      ∀ k, k < 640 → mapGet (0 : Byte) (v.img ctx.val core).ls (off + k) =
        ((s.report (attestTarget ctx.val cmd.img) (s.winRead ctx.val core' off' 48))[k]?).getD 0 := by
  obtain ⟨-, hcur, -⟩ := id hoff
  obtain ⟨t, hread, hreported, hreport⟩ := agRead_window (ag := cmdAg ctx.val cmd) hfrom
  obtain ⟨u, hu⟩ : ∃ u, t.updCmd ctx.val ring.val (fun k => { k with stage := 1, aux := 640 }) = u := ⟨_, rfl⟩
  have hrings : t.rings = s.rings := by obtain ⟨_, _, _, h⟩ := hreported; rw [h]
  have hwindow : s.WindowOf u ctx.val core := (windowOf_of_reported hreported).trans (hu ▸ windowOf_rings _)
  have hbody : ∀ y nonce, u.report y nonce = s.report y nonce := fun y nonce => by rw [← hreport, ← hu]; rfl
  have hlen : (u.report (attestTarget ctx.val cmd.img) (s.winRead ctx.val core' off' 48)).length = 640 :=
    report_length u _ (by simp [State.winRead, cellsRead])
  have haccess := (accessed_agWrite (s := u) (cmdAg ctx.val cmd) (cA0 cmd.img)
    (u.report (attestTarget ctx.val cmd.img) (s.winRead ctx.val core' off' 48))).rings
  obtain ⟨v, hwrite, hwritten, hput⟩ := agWrite_window (ag := cmdAg ctx.val cmd)
    (bs := u.report (attestTarget ctx.val cmd.img) (s.winRead ctx.val core' off' 48)) (hlen.symm ▸ windowed_windowOf hwindow hto)
  have hvrings : v.rings = u.rings := by rw [hwrite] at haccess; exact haccess
  have hvring : v.ring ctx.val ring.val = { s.ring ctx.val ring.val with
      cur := (s.ring ctx.val ring.val).cur.map (fun k => { k with stage := 1, aux := 640 }) } := by
    rw [ring_of_rings hvrings, ← hu, ring_updCmd, ring_of_rings hrings]
  have hctrl : ((v.ringsOf ctx.val).cq).ctrl = ((s.ringsOf ctx.val).cq).ctrl := by
    rw [ringsOf_of_rings hvrings, ← hu, ctrl_updCmd, ringsOf_of_rings hrings]
  obtain ⟨_, _, _, _, _, hv, -⟩ := hwindow.trans hwritten
  have hvmem : v.mem = s.mem := by rw [hv]
  have hend : v.bulkEnd ctx.val ring.val (cmdAg ctx.val cmd) 0 0 = v.complete ctx.val ring.val { cmd with stage := 1, aux := 640 } 0 640 0 0 :=
    bulkEnd_completes rfl (by rw [hv]; exact hreqs) (by rw [hv]; exact hframes) (by rw [hvring, hcur]; rfl) hdone
  obtain ⟨hfreed, hmem, himages, -⟩ := complete_leaves (s := v) (r := ring.val) (c := { cmd with stage := 1, aux := 640 }) (st := 0)
    (result := 640) (detail := 0) (body := 0) (hctrl ▸ hloc) (by simp [hrec])
  refine ⟨_, (attest_reports hoff hrec hdep hst ha0 ha1 hid hhash (by simp [hreqs]) hread (hu ▸ hwrite)).trans (congrArg _ hend),
    hfreed.of_ring hvring, hmem.trans hvmem, fun k hk => ?_⟩
  have himg : (v.complete ctx.val ring.val { cmd with stage := 1, aux := 640 } 0 640 0 0).img ctx.val core = v.img ctx.val core := by
    simp only [State.img, himages]
  rw [himg, ← hbody]
  exact hput k (hlen ▸ hk)

end

end Sys2Proof.Machine

/-! The end of a step (R180, R182). -/

namespace Sys2Proof.Machine

/-- The STATUS a step ends with. -/
def OptStep.code (o : OptStep) : Status :=
  if Code.isFailure o.st ∨ o.st = Code.optSkipped then o.st else if o.cnt.any (fun n => n != 0) then Code.numericFlagged else 0

/-- The state without a step. -/
def State.withoutStep (s : State) (o : OptStep) : State :=
  { s with alder := { s.alder with steps := s.alder.steps.filter (fun x => x.key != o.key) } }

section
variable {s t u : State} {o : OptStep} {c : Cmd}

theorem reported_ite {p : Prop} [Decidable p] (ht : Reported s t) (hu : Reported s u) : Reported s (if p then t else u) := by
  split
  · exact ht
  · exact hu

theorem reported_numTotals (l : List Nat) : Reported s (s.numTotals l) :=
  foldl_keeps (P := Reported s) _ _ _ (.rfl s) fun _ _ h => h.trans (reported_ite (.rfl _) (reported_count _ _ _))

theorem reported_countCode (x : Nat) (st : Status) : Reported s (s.countCode x st) :=
  reported_ite (reported_count _ _ _) (reported_ite (reported_count _ _ _) (.rfl s))

/-- What a step that ends counts (Table 06.12). -/
def State.stepCounted (s : State) (o : OptStep) : State :=
  let s := s.count (dkey 0x3080 0x01)
  let s := if o.code = Code.optSkipped then s.count (dkey 0x3080 0x03) else if Code.isFailure o.code then s.count (dkey 0x3080 0x04) else s
  let s := if o.satur = 0 then s else s.count (dkey 0x3080 0x05) o.satur
  let s := if o.nanBlk = 0 then s else s.count (dkey 0x4040 0x05) o.nanBlk
  (s.numTotals o.cnt).countCode o.ctx o.code

theorem reported_stepCounted : Reported s (s.stepCounted o) :=
  (((((reported_count _ _ _).trans (reported_ite (reported_count _ _ _) (reported_ite (reported_count _ _ _) (.rfl _)))).trans
    (reported_ite (.rfl _) (reported_count _ _ _))).trans (reported_ite (.rfl _) (reported_count _ _ _))).trans (reported_numTotals _)).trans
    (reported_countCode _ _)

/-- A step that ends counts and completes its command. -/
theorem stepEnd_completes (hcur : (s.ring o.ctx o.ring).cur = some c) :
    s.stepEnd o false = (((s.withoutStep o).stepCounted o).dropWork c.id).complete o.ctx o.ring c o.code 0 0 o.body := by
  have hcur' : (((s.withoutStep o).stepCounted o).ring o.ctx o.ring).cur = some c := by
    obtain ⟨_, _, _, h⟩ := reported_stepCounted (s := s.withoutStep o) (o := o)
    rw [h]; exact hcur
  refine (show s.stepEnd o false = (match (((s.withoutStep o).stepCounted o).ring o.ctx o.ring).cur with
    | none => (s.withoutStep o).stepCounted o
    | some c => (((s.withoutStep o).stepCounted o).dropWork c.id).complete o.ctx o.ring c o.code 0 0 o.body) from rfl).trans ?_
  rw [hcur']

/-- The steps left by the end of one. -/
theorem stepEnd_steps (hcur : (s.ring o.ctx o.ring).cur = some c) :
    (s.stepEnd o false).alder.steps = s.alder.steps.filter (fun x => x.key != o.key) := by
  rw [stepEnd_completes hcur, (aside_complete _ _ _ _ _ _ _).alder]
  obtain ⟨_, _, _, h⟩ := reported_stepCounted (s := s.withoutStep o) (o := o)
  rw [h]; rfl

/-- A step without a record of its own ends: its ring goes on, memory stays. -/
theorem stepEnd_frees (hcur : (s.ring o.ctx o.ring).cur = some c) (hrec : cRec c.img = 0) (hloc : ctlLoc ((s.ringsOf o.ctx).cq).ctrl = false) :
    s.Freed (s.stepEnd o false) o.ctx o.ring (Code.isFailure o.code) ∧ (s.stepEnd o false).mem = s.mem := by
  rw [stepEnd_completes hcur]
  generalize hw : ((s.withoutStep o).stepCounted o).dropWork c.id = w
  obtain ⟨_, _, _, h⟩ := reported_stepCounted (s := s.withoutStep o) (o := o)
  have hrings : w.rings = s.rings := by rw [← hw, h]; rfl
  have hwmem : w.mem = s.mem := by rw [← hw, h]; rfl
  obtain ⟨hfreed, hmem, -, -⟩ := complete_leaves (s := w) (r := o.ring) (c := c) (st := o.code) (result := 0) (detail := 0) (body := o.body)
    (by rw [ringsOf_of_rings hrings]; exact hloc) (by simp [hrec])
  exact ⟨freed_congr (ring_of_rings hrings) hfreed, hmem.trans hwmem⟩

theorem code_skipped (h : o.st = Code.optSkipped) : Code.isFailure o.code = false := by
  rw [OptStep.code, if_pos (.inr h), h]; rfl

theorem code_ok (h : o.st = 0) : Code.isFailure o.code = false := by
  rw [OptStep.code, h, if_neg (by decide)]
  split
  · rfl
  · rfl

end

end Sys2Proof.Machine

/-! OPT_STEP (R173 to R175, R180). -/

namespace Sys2Proof.Machine

/-- The step that an OPT_STEP without a mask begins. -/
def optStepOf (x r b : Nat) : OptStep :=
  { ctx := x, ring := r, blk := b, left := List.range (oChunks b), ratio := if oRule b = 4 then 0x3F800000 else fp32Bits (clipScale b) }

/-- The state with a step begun for a command. -/
def State.stepped (s : State) (x r : Nat) (o : OptStep) : State :=
  ({ s with alder := { s.alder with steps := s.alder.steps ++ [o] } } : State).updCmd x r (fun c => { c with stage := 1 })

theorem stepped_stage (s : State) (x r : Nat) (o : OptStep) :
    ((s.stepped x r o).ring x r).cur.map Cmd.stage = (s.ring x r).cur.map (fun _ => 1) :=
  (congrArg (fun q : Ring => q.cur.map Cmd.stage) (ring_updCmd _)).trans (Option.map_map ..)

/-- The reasons for which an OPT_STEP whose block has been read is refused (R174). -/
def State.stepReasons (s : State) (x r b : Nat) (c : Cmd) : List (Bool × Status × Nat) :=
  [(false, Code.commandInvalid, 1), (s.optBad x b (some 0), Code.optParams, 1)] ++ s.baseReasons x r c

section
variable {s t : State} {ctx : Fin 4097} {ring : Fin 8} {cmd : Cmd} {bs : List Byte} (hoff : s.offers ctx.val ring.val 0x41 cmd)
  (haddr : s.badAddr ctx.val (cA0 cmd.img) 128 128 .read = false)
  (hread : s.agRead (cmdAg ctx.val cmd) .read (cA0 cmd.img) 128 = (t, .ok bs)) (hmask : oMask (leNat bs) = 0)
include hoff haddr hread hmask

/-- OPT_STEP whose block has been read. -/
theorem optStep_next : exec (.optStep ctx ring) s = .next
    (match firstReason ((t.agDrop (cmdAg ctx.val cmd)).stepReasons ctx.val ring.val (leNat bs) cmd) with
    | some (st, d) => (t.agDrop (cmdAg ctx.val cmd)).refuse ctx.val ring.val cmd st d 0
    | none =>
      let u := (t.agDrop (cmdAg ctx.val cmd)).stepped ctx.val ring.val (optStepOf ctx.val ring.val (leNat bs))
      if clipSkips (leNat bs) then u.stepEnd { optStepOf ctx.val ring.val (leNat bs) with st := Code.optSkipped, ratio := 0x3F800000 } false
      else u) := by
  refine (ringCmd_next hoff).trans ?_
  simp only [haddr, hread, hmask, Bool.false_eq_true, if_false, true_or, or_true, if_true, Bool.not_false, Bool.true_and]
  rfl

/-- An OPT_STEP that is accepted: its chunks wait for their engines. -/
theorem optStep_starts (hwhy : firstReason ((t.agDrop (cmdAg ctx.val cmd)).stepReasons ctx.val ring.val (leNat bs) cmd) = none)
    (hskip : clipSkips (leNat bs) = false) : exec (.optStep ctx ring) s =
      .next ((t.agDrop (cmdAg ctx.val cmd)).stepped ctx.val ring.val (optStepOf ctx.val ring.val (leNat bs))) := by
  rw [optStep_next hoff haddr hread hmask, hwhy]
  simp only [hskip, Bool.false_eq_true, if_false]

/-- An OPT_STEP whose clip factor is no number to clip by ends at once (R175). -/
theorem optStep_skips (hwhy : firstReason ((t.agDrop (cmdAg ctx.val cmd)).stepReasons ctx.val ring.val (leNat bs) cmd) = none)
    (hskip : clipSkips (leNat bs) = true) (hrec : cRec cmd.img = 0) (hloc : ctlLoc ((s.ringsOf ctx.val).cq).ctrl = false)
    (hnew : ∀ o ∈ s.alder.steps, o.key ≠ 8 * ctx.val + ring.val) :
    ∃ v : State, exec (.optStep ctx ring) s = .next v ∧ s.Freed v ctx.val ring.val false ∧ v.alder.steps = s.alder.steps ∧ v.mem = t.mem := by
  obtain ⟨-, hcur, -⟩ := id hoff
  obtain ⟨⟨halder, -, -⟩, hrings⟩ : s.Accessed t := by
    have h := accessed_agRead (s := s) (cmdAg ctx.val cmd) .read (cA0 cmd.img) 128
    rw [hread] at h; exact h
  let o : OptStep := { optStepOf ctx.val ring.val (leNat bs) with st := Code.optSkipped, ratio := 0x3F800000 }
  let u := (t.agDrop (cmdAg ctx.val cmd)).stepped ctx.val ring.val (optStepOf ctx.val ring.val (leNat bs))
  have huring : u.ring ctx.val ring.val = { s.ring ctx.val ring.val with
      cur := (s.ring ctx.val ring.val).cur.map (fun k => { k with stage := 1 }) } :=
    (ring_updCmd _).trans (by rw [← ring_of_rings hrings]; rfl)
  have hucur : (u.ring o.ctx o.ring).cur = some { cmd with stage := 1 } := by
    refine (congrArg Ring.cur huring).trans ?_
    rw [hcur]; rfl
  have hctrl : ctlLoc ((u.ringsOf o.ctx).cq).ctrl = false := by
    refine (congrArg ctlLoc (ctrl_updCmd _)).trans ?_
    rw [← ringsOf_of_rings hrings] at hloc; exact hloc
  obtain ⟨hfreed, hmem⟩ := stepEnd_frees (o := o) hucur hrec hctrl
  rw [code_skipped rfl] at hfreed
  refine ⟨u.stepEnd o false, ?_, hfreed.of_ring huring, ?_, hmem⟩
  · rw [optStep_next hoff haddr hread hmask, hwhy]
    simp only [hskip, if_true]
    rfl
  · rw [stepEnd_steps hucur]
    refine (List.filter_append ..).trans ?_
    have hold : t.alder.steps.filter (fun x => x.key != o.key) = s.alder.steps := by
      rw [halder]
      exact List.filter_eq_self.mpr fun x hx => bne_iff_ne.mpr (hnew x hx)
    have hone : [optStepOf ctx.val ring.val (leNat bs)].filter (fun x => x.key != o.key) = [] := by simp [OptStep.key, o]
    exact (congrArg₂ _ hold hone).trans (List.append_nil _)

/-- An OPT_STEP with bad parameters is refused (R174). -/
theorem optStep_refused (hbad : (t.agDrop (cmdAg ctx.val cmd)).optBad ctx.val (leNat bs) (some 0) = true) (hrec : cRec cmd.img = 0)
    (hdep : cDep cmd.img = false) :
    exec (.optStep ctx ring) s = .next ((t.agDrop (cmdAg ctx.val cmd)).refuse ctx.val ring.val cmd Code.optParams 1 0) := by
  obtain ⟨-, -, hopc, -⟩ := id hoff
  have hwhy : firstReason ((t.agDrop (cmdAg ctx.val cmd)).stepReasons ctx.val ring.val (leNat bs) cmd) = some (Code.optParams, 1) := by
    rw [State.stepReasons, hbad]
    exact firstReason_only (a := [_]) (by simp) (baseReasons_none (by rw [hopc]; decide) hrec hdep)
  rw [optStep_next hoff haddr hread hmask, hwhy]

end

end Sys2Proof.Machine

/-! EXCHANGE (R312 to R318, R357). -/

namespace Sys2Proof.Machine

theorem mapFind_filter_ne {α : Type} (m : Map α) (k : Nat) : mapFind (m.filter (fun e => e.1 != k)) k = none := by
  have hfilter : m.filter (fun e => e.1 != k) = mapErase m k := by
    rw [mapErase_eq_filter]; exact List.filter_congr fun e _ => by rw [Bool.eq_iff_iff]; simp
  rw [hfilter, mapFind_erase_self]

/-- The context's exchange after a change of it. -/
theorem mapFind_updExch (s : State) (x : Nat) (f : Exch → Exch) : mapFind (s.updExch x f).exch x = (mapFind s.exch x).map f := by
  unfold State.updExch
  dsimp only
  generalize s.exch = m
  induction m with
  | nil => rfl
  | cons e m ih =>
    obtain ⟨k, y⟩ := e
    by_cases hk : k = x
    · simp [mapFind, hk]
    · simpa [mapFind, hk] using ih

section
variable {s : State} {x : Nat} {e : Exch}

/-- An exchange without an exchange step, with nothing under way, ends with its local stage (R314). -/
theorem exchPump_local (hfind : mapFind s.exch x = some e) (hidle : s.reqs.any (exAg x e).owns = false) (hflags : e.flags = [])
    (hfail : e.fail = none) (hstep : xExchanges e.blk = false) :
    ∃ m done, s.exchPump x = ({ s with exch := m } : State).exchEnd x e.ring e.blk none done e.checked e.cnt := by
  have hno : ∀ q ∈ s.reqs, (exAg x e).owns q = false := by simpa using hidle
  have hbad : s.reqs.filter (fun q => q.xfer == (exAg x e).id && q.src == .firmware && q.ph == .done && q.st != 0 && !(isRd q)) = [] :=
    List.filter_eq_nil_iff.mpr fun q hq => by
      have howns : (q.xfer == (exAg x e).id && Src.firmware == q.src) = false := hno q hq
      rw [Bool.beq_comm (a := q.src), howns]
      simp
  have hbusy : ∀ f, (s.updExch x f).agBusy (exAg x e) = false := fun f => List.any_eq_false.mpr fun q hq => by simp [hno q hq]
  unfold State.exchPump
  simp only [hfind, hbad, agAbsorb_none hidle, List.head?_nil, List.any_nil, Bool.not_false, mapFind_updExch, hbusy, Option.map_some,
    hflags, List.filter_nil, List.isEmpty_nil, Bool.not_true, Bool.false_eq_true, if_false, hfail, hstep, true_or, or_true, if_true]
  exact ⟨_, _, rfl⟩

/-- The state without the exchange of a context, its STATUS kept (R328). -/
def State.exchOver (s : State) (x : Nat) : State := ({ s with exch := s.exch.filter (fun e => e.1 != x) } : State).setDv (ctxKey x 0x50) 0

/-- The end of an exchange that has not failed, without an exchange step and with nothing counted (R324, R328). -/
theorem exchEnd_ok {r b done checked : Nat} {c : Cmd} (hstep : xExchanges b = false) (hcur : (s.ring x r).cur = some c) :
    s.exchEnd x r b none done checked [0, 0, 0, 0] = (s.exchOver x).complete x r c 0 0 0 (exchBody b none done checked [0, 0, 0, 0]) := by
  have hcur' : ((s.exchOver x).ring x r).cur = some c := hcur
  unfold State.exchEnd
  simp only [hstep, Bool.and_false, Bool.false_eq_true, if_false]
  refine (show _ = (match ((s.exchOver x).ring x r).cur with
    | none => s.exchOver x
    | some c => (s.exchOver x).complete x r c 0 0 0 (exchBody b none done checked [0, 0, 0, 0])) from rfl).trans ?_
  rw [hcur']

/-- An EXCHANGE without parts and exchange step, once it has started. -/
theorem exchStart_local {r b : Nat} {c : Cmd} (hstep : xExchanges b = false) : ∃ e : Exch,
    s.exchStart x r b c [] = (((({ s with exch := mapInsert (mapErase s.exch x) x e } : State).agDrop (cmdAg x c)).updCmd x r
        (fun k => { k with stage := 1 })).exchPump x) ∧
      e.ring = r ∧ e.blk = b ∧ e.id = c.id ∧ e.flags = [] ∧ e.fail = none ∧ e.cnt = [0, 0, 0, 0] := by
  have hrunning : ¬ (0 : Status) = Code.running := by decide
  unfold State.exchStart State.localStage
  simp only [List.isEmpty_nil, if_true, hstep, or_true, hrunning, if_false]
  exact ⟨_, rfl, rfl, rfl, rfl, rfl, rfl, rfl⟩

end

/-- The reasons for which an EXCHANGE without parts is refused once its block has been read (R312, R313). -/
def State.exchReasons (s : State) (x r b : Nat) (c : Cmd) : List (Bool × Status × Nat) :=
  [(false, Code.commandInvalid, 1), (s.perDie == 0, Code.gradeInvalid, 0), (s.exchBad x b (some []), Code.exchangeParams, 1)] ++
    s.baseReasons x r c

section
variable {s t : State} {ctx : Fin 4097} {ring : Fin 8} {cmd : Cmd} {bs : List Byte} (hoff : s.offers ctx.val ring.val 0x40 cmd)
  (haddr : s.badAddr ctx.val (cA0 cmd.img) 128 128 .read = false)
  (hread : s.agRead (cmdAg ctx.val cmd) .read (cA0 cmd.img) 128 = (t, .ok bs)) (hparts : xParts (leNat bs) = 0)
  (hrec : cRec cmd.img = 0) (hdep : cDep cmd.img = false)
include hoff haddr hread hparts

/-- EXCHANGE whose block has been read. -/
theorem exchange_next : let u := t.agDrop (cmdAg ctx.val cmd)
    exec (.exchange ctx ring) s = .next (match firstReason (u.exchReasons ctx.val ring.val (leNat bs) cmd) with
    | some (st, d) => u.refuse ctx.val ring.val cmd st d 0
    | none => if !(u.onCores ctx.val) || (mapFind u.exch ctx.val).isSome || u.launches.any (fun l => l.ctx == ctx.val && !l.cores.isEmpty) then s
      else u.exchStart ctx.val ring.val (leNat bs) cmd []) := by
  refine (ringCmd_next hoff).trans ?_
  simp only [haddr, hread, hparts, Nat.min_zero, Bool.false_eq_true, if_false, true_or, or_true, if_true, Bool.not_false, Bool.true_and]
  rfl

/-- An EXCHANGE with good parameters, which the context's other work may hold up (R317, R357). -/
theorem exchange_accepted (hrec : cRec cmd.img = 0) (hdep : cDep cmd.img = false) (hgrade : (t.agDrop (cmdAg ctx.val cmd)).perDie ≠ 0)
    (hgood : (t.agDrop (cmdAg ctx.val cmd)).exchBad ctx.val (leNat bs) (some []) = false) : let u := t.agDrop (cmdAg ctx.val cmd)
    exec (.exchange ctx ring) s = .next (if !(u.onCores ctx.val) || (mapFind u.exch ctx.val).isSome ||
      u.launches.any (fun l => l.ctx == ctx.val && !l.cores.isEmpty) then s else u.exchStart ctx.val ring.val (leNat bs) cmd []) := by
  obtain ⟨-, -, hopc, -⟩ := id hoff
  have hwhy : firstReason ((t.agDrop (cmdAg ctx.val cmd)).exchReasons ctx.val ring.val (leNat bs) cmd) = none := by
    refine firstReason_none ?_
    simpa [State.exchReasons, hgrade, hgood] using baseReasons_none (by rw [hopc]; decide) hrec hdep
  intro u
  rw [exchange_next hoff haddr hread hparts, hwhy]

section
variable (hrec : cRec cmd.img = 0) (hdep : cDep cmd.img = false) (hgrade : (t.agDrop (cmdAg ctx.val cmd)).perDie ≠ 0)
  (hgood : (t.agDrop (cmdAg ctx.val cmd)).exchBad ctx.val (leNat bs) (some []) = false)
include hrec hdep hgrade hgood

/-- EXCHANGE of a context that stands on its cores, has none under way and no launch that holds a core. -/
theorem exchange_starts (hon : (t.agDrop (cmdAg ctx.val cmd)).onCores ctx.val = true)
    (hfree : mapFind (t.agDrop (cmdAg ctx.val cmd)).exch ctx.val = none)
    (hcores : ∀ l ∈ (t.agDrop (cmdAg ctx.val cmd)).launches, l.ctx = ctx.val → l.cores = []) :
    exec (.exchange ctx ring) s = .next ((t.agDrop (cmdAg ctx.val cmd)).exchStart ctx.val ring.val (leNat bs) cmd []) := by
  have hnone : (t.agDrop (cmdAg ctx.val cmd)).launches.any (fun l => l.ctx == ctx.val && !l.cores.isEmpty) = false :=
    List.any_eq_false.mpr fun l hl => by simpa using hcores l hl
  rw [exchange_accepted hoff haddr hread hparts hrec hdep hgrade hgood, hon, hfree, hnone]
  rfl

/-- EXCHANGE of a context with one under way. -/
theorem exchange_waits (hbusy : mapFind (t.agDrop (cmdAg ctx.val cmd)).exch ctx.val ≠ none) : exec (.exchange ctx ring) s = .next s := by
  rw [exchange_accepted hoff haddr hread hparts hrec hdep hgrade hgood, Option.isSome_iff_ne_none.mpr hbusy, Bool.or_true, Bool.true_or, if_pos rfl]

end

/-- An EXCHANGE with bad parameters is refused (R312, R313). -/
theorem exchange_refused (hrec : cRec cmd.img = 0) (hdep : cDep cmd.img = false) (hgrade : (t.agDrop (cmdAg ctx.val cmd)).perDie ≠ 0)
    (hbad : (t.agDrop (cmdAg ctx.val cmd)).exchBad ctx.val (leNat bs) (some []) = true) :
    exec (.exchange ctx ring) s = .next ((t.agDrop (cmdAg ctx.val cmd)).refuse ctx.val ring.val cmd Code.exchangeParams 1 0) := by
  obtain ⟨-, -, hopc, -⟩ := id hoff
  have hwhy : firstReason ((t.agDrop (cmdAg ctx.val cmd)).exchReasons ctx.val ring.val (leNat bs) cmd) = some (Code.exchangeParams, 1) := by
    rw [State.exchReasons, hbad]
    exact firstReason_only (a := [_, _]) (by simpa using hgrade) (baseReasons_none (by rw [hopc]; decide) hrec hdep)
  rw [exchange_next hoff haddr hread hparts, hwhy]

omit haddr hparts in
/-- What an EXCHANGE without exchange step leaves once it has started: it has completed. -/
theorem exchange_local (hrec : cRec cmd.img = 0) (hstep : xExchanges (leNat bs) = false)
    (hidle : t.reqs.any (cmdAg ctx.val cmd).owns = false) (hloc : ctlLoc ((s.ringsOf ctx.val).cq).ctrl = false) :
    let v := (t.agDrop (cmdAg ctx.val cmd)).exchStart ctx.val ring.val (leNat bs) cmd []
    s.Freed v ctx.val ring.val false ∧ mapFind v.exch ctx.val = none ∧ v.mem = t.mem := by
  obtain ⟨-, hcur, -⟩ := id hoff
  have hrings : t.rings = s.rings := by
    have h := (accessed_agRead (s := s) (cmdAg ctx.val cmd) .read (cA0 cmd.img) 128).rings
    rw [hread] at h; exact h
  obtain ⟨e, hstart, hering, heblk, heid, heflags, hefail, hecnt⟩ := exchStart_local (s := t.agDrop (cmdAg ctx.val cmd)) (x := ctx.val)
    (r := ring.val) (c := cmd) hstep
  generalize hw : State.updCmd (State.agDrop { t.agDrop (cmdAg ctx.val cmd) with
      exch := mapInsert (mapErase (t.agDrop (cmdAg ctx.val cmd)).exch ctx.val) ctx.val e } (cmdAg ctx.val cmd))
    ctx.val ring.val (fun k => { k with stage := 1 }) = w at hstart
  have hfind : mapFind w.exch ctx.val = some e := by
    rw [← hw]; exact mapFind_insert_self _ _ _ (mapFind_erase_self _ _)
  have hag : exAg ctx.val e = cmdAg ctx.val cmd := by rw [exAg, cmdAg, heid]
  have hnone : w.reqs.any (exAg ctx.val e).owns = false := by
    have hno : ∀ q ∈ t.reqs, (cmdAg ctx.val cmd).owns q = false := by simpa using hidle
    rw [hag, List.any_eq_false, ← hw]
    exact fun q hq => by simp [hno q (List.mem_filter.mp (List.mem_filter.mp hq).1).1]
  obtain ⟨m, done, hpump⟩ := exchPump_local hfind hnone heflags hefail (heblk ▸ hstep)
  have hwring : w.ring ctx.val ring.val = { s.ring ctx.val ring.val with
      cur := (s.ring ctx.val ring.val).cur.map (fun k => { k with stage := 1 }) } := by
    rw [← hw]; refine (ring_updCmd _).trans ?_
    rw [← ring_of_rings hrings]; rfl
  have hwcur : (w.ring ctx.val ring.val).cur = some { cmd with stage := 1 } := by rw [hwring, hcur]; rfl
  have hctrl : ((w.ringsOf ctx.val).cq).ctrl = ((s.ringsOf ctx.val).cq).ctrl := by
    rw [← hw]; refine (ctrl_updCmd _).trans ?_
    rw [← ringsOf_of_rings hrings]; rfl
  have hwmem : w.mem = t.mem := by rw [← hw]; rfl
  intro v
  let z : State := { w with exch := m }
  have hv : v = (z.exchOver ctx.val).complete ctx.val ring.val { cmd with stage := 1 } 0 0 0
      (exchBody (leNat bs) none done e.checked [0, 0, 0, 0]) := by
    rw [hering, heblk, hecnt] at hpump
    exact hstart.trans (hpump.trans (exchEnd_ok hstep hwcur))
  obtain ⟨hfreed, hmem, -, -⟩ := complete_leaves (s := z.exchOver ctx.val) (r := ring.val) (c := { cmd with stage := 1 }) (st := 0) (result := 0)
    (detail := 0) (body := exchBody (leNat bs) none done e.checked [0, 0, 0, 0]) (hctrl ▸ hloc) (by simp [hrec])
  rw [hv]
  refine ⟨hfreed.of_ring hwring, ?_, hmem.trans hwmem⟩
  rw [(aside_complete ..).exch]
  exact mapFind_filter_ne m ctx.val

end

end Sys2Proof.Machine

/-! ALDER_CHUNK of the one step under way (R172, R180, R181). -/

namespace Sys2Proof.Machine

/-- A step whose chunk is written counts what the chunk came to (R180). -/
def OptStep.landed (o : OptStep) (k : Nat) (q : ChunkOut) : OptStep :=
  { o with flying := [], updated := o.updated + q.n, cnt := addCounts o.cnt q.cnt.c
           nanBlk := o.nanBlk + q.cnt.nan, satur := o.satur + q.cnt.sat
           sums := match q.sums with | some v => setKey o.sums k v | none => o.sums }

/-- The state with a step's chunk counted. -/
def State.chunkLands (s : State) (o : OptStep) (k : Nat) (q : ChunkOut) : State :=
  ((if q.n = 0 then s else s.count (dkey 0x3080 0x02) q.n).updStep o.key (fun _ => o.landed k q)).progress o.ctx o.ring

section
variable {s : State} {o : OptStep} {cmd : Cmd} {e : Nat}

theorem alderSettle_none (h : s.alder.steps = []) : s.alderSettle = s := by rw [State.alderSettle, h]; rfl

theorem alderSettle_one (h : s.alder.steps = [o]) : s.alderSettle = s.chunkSettle o := by
  rw [State.alderSettle, h, List.foldl_cons, List.foldl_nil, h, List.find?_cons_of_pos (by simp)]

theorem alderRun_none (h : s.alder.steps = []) : s.alderRun e = s := by
  have hnext : s.engineNext e = none := by unfold State.engineNext; rw [h]; rfl
  rw [State.alderRun, hnext]

/-- A step with chunks left and none under way waits. -/
theorem chunkSettle_waits (hcur : (s.ring o.ctx o.ring).cur = some cmd) (hflying : o.flying = []) (hleft : o.left ≠ []) :
    s.chunkSettle o = s := by
  have hsome : o.left.isEmpty = false := by simpa using hleft
  unfold State.chunkSettle
  simp only [hcur, hflying, List.find?_nil, hsome, Bool.false_and, Bool.false_eq_true, if_false]

/-- The one chunk of a step under way has come back. -/
theorem chunkSettle_lands {k f : Nat} {q : ChunkOut} (hcur : (s.ring o.ctx o.ring).cur = some cmd) (hflying : o.flying = [(k, f, q)])
    (hreqs : s.reqs = []) : s.chunkSettle o =
      if o.left.isEmpty then (s.chunkLands o k q).passEnd (cmdAg o.ctx cmd) (o.landed k q) else s.chunkLands o k q := by
  have hback : s.chunkBack (engAg o.ctx f k cmd) = true := by rw [State.chunkBack, hreqs]; rfl
  have hsame : ({ s with reqs := [] } : State) = s := by rw [← hreqs]
  have hfind : o.flying.find? (fun y => s.chunkBack (engAg o.ctx y.2.1 y.1 cmd)) = some (k, f, q) := by
    rw [hflying]; exact List.find?_cons_of_pos hback
  have hgone : o.flying.filter (fun y => y.1 != k) = [] := by rw [hflying]; simp
  unfold State.chunkSettle
  simp only [hcur, hfind, hreqs, List.filter_nil, List.map_nil, hsame, hgone, firstCode, List.foldl_nil, ne_eq, not_true_eq_false, if_false,
    List.isEmpty_nil, Bool.and_true]
  rfl

theorem passEnd_last (hrule : (oRule o.blk ≠ 3 ∧ oRule o.blk ≠ 4) ∨ o.pass = 2) (ag : Ag) : s.passEnd ag o = s.stepEnd o false := by
  have h3 : ¬ (oRule o.blk = 3 ∧ o.pass = 1) := by omega
  have h4 : ¬ (oRule o.blk = 4 ∧ o.pass = 1) := by omega
  unfold State.passEnd
  simp only [h3, h4, if_false]

theorem chunkLands_counted (k : Nat) (q : ChunkOut) : ∃ u, Reported s u ∧
    s.chunkLands o k q = (u.updStep o.key (fun _ => o.landed k q)).progress o.ctx o.ring :=
  ⟨_, reported_ite (.rfl s) (reported_count _ _ _), rfl⟩

theorem chunkLands_ring (k : Nat) (q : ChunkOut) : (s.chunkLands o k q).ring o.ctx o.ring = { s.ring o.ctx o.ring with
    cur := (s.ring o.ctx o.ring).cur.map (fun c => { c with prog := s.now }) } := by
  obtain ⟨u, ⟨_, _, _, rfl⟩, h⟩ := chunkLands_counted (s := s) (o := o) k q
  rw [h]; exact ring_updCmd _

theorem chunkLands_ctrl (k : Nat) (q : ChunkOut) : ((s.chunkLands o k q).ringsOf o.ctx).cq.ctrl = ((s.ringsOf o.ctx).cq).ctrl := by
  obtain ⟨u, ⟨_, _, _, rfl⟩, h⟩ := chunkLands_counted (s := s) (o := o) k q
  rw [h]; exact ctrl_updCmd _

theorem chunkLands_steps (hsteps : s.alder.steps = [o]) (k : Nat) (q : ChunkOut) : (s.chunkLands o k q).alder.steps = [o.landed k q] := by
  obtain ⟨u, ⟨_, _, _, rfl⟩, h⟩ := chunkLands_counted (s := s) (o := o) k q
  rw [h]
  refine (congrArg (modifyWhere (fun x => x.key == o.key) (fun _ => o.landed k q)) hsteps).trans ?_
  simp [modifyWhere]

theorem chunkLands_mem (k : Nat) (q : ChunkOut) : (s.chunkLands o k q).mem = s.mem := by
  obtain ⟨u, ⟨_, _, _, rfl⟩, h⟩ := chunkLands_counted (s := s) (o := o) k q
  rw [h]; rfl

/-- An engine has a chunk to serve of the one step under way only if the step has chunks left. -/
theorem left_of_engineNext {k : Nat} (hsteps : s.alder.steps = [o]) (hnext : s.engineNext e = some (o, k)) : o.left ≠ [] := by
  intro hleft
  unfold State.engineNext at hnext
  rw [hsteps] at hnext
  simp [hleft] at hnext

end

section
variable {s : State} {engine : Fin 16} {o : OptStep} {cmd : Cmd} (hrun : s.running = true) (hok : s.engineOk engine.val = true)
  (hgoes : s.enginePaused engine.val = false) (hon : s.pwr.domOff.contains (864 + engine.val) = false) (hsteps : s.alder.steps = [o])
  (hcur : (s.ring o.ctx o.ring).cur = some cmd)
include hrun hok hgoes hon hsteps hcur

omit hcur in
/-- ALDER_CHUNK of an engine that serves. -/
theorem alderChunk_next : exec (.alderChunk engine) s = .next ((s.chunkSettle o).alderRun engine.val).alderSettle := by
  rw [exec_alderChunk, execAlderChunk, hrun, hok, hgoes, hon, alderSettle_one hsteps]
  rfl

/-- An engine carries out the chunk next in its order. -/
theorem alderChunk_runs {k : Nat} {q : ChunkOut} {u : State} (hflying : o.flying = []) (hnext : s.engineNext engine.val = some (o, k))
    (hbusy : s.agBusy (cmdAg o.ctx cmd) = false) (hchunk : s.chunkRun (engAg o.ctx engine.val k cmd) o k = (u, q)) (hst : q.st = 0) :
    let v := ({ (u.agDrop (engAg o.ctx engine.val k cmd)) with alder := { u.alder with last := mapSet 0 u.alder.last engine.val (o.key + 1) } }.agGo
      (engAg o.ctx engine.val k cmd)).countFree (dkey 0x3080 0x07)
    exec (.alderChunk engine) s = .next ((v.updStep o.key (fun o => { o with
      left := o.left.filter (fun x => x != k), flying := o.flying ++ [(k, engine.val, q)] })).alderSettle) := by
  have hleft := left_of_engineNext hsteps hnext
  intro v
  rw [alderChunk_next hrun hok hgoes hon hsteps, chunkSettle_waits hcur hflying hleft, State.alderRun, hnext]
  simp only [hcur, hbusy, Bool.false_eq_true, if_false, hchunk, hst, ne_eq, not_true_eq_false]
  rfl

/-- The last chunk under way lands while others are left, none of which the engine may serve. -/
theorem alderChunk_lands {k f : Nat} {q : ChunkOut} (hflying : o.flying = [(k, f, q)]) (hreqs : s.reqs = []) (hleft : o.left ≠ [])
    (hnext : (s.chunkLands o k q).engineNext engine.val = none) : exec (.alderChunk engine) s = .next (s.chunkLands o k q) ∧
      (s.chunkLands o k q).alder.steps = [o.landed k q] ∧ (s.chunkLands o k q).mem = s.mem := by
  have hsome : o.left.isEmpty = false := by simpa using hleft
  have hlanded := chunkLands_steps hsteps k q
  have hcur' : ((s.chunkLands o k q).ring (o.landed k q).ctx (o.landed k q).ring).cur = some { cmd with prog := s.now } := by
    refine (congrArg Ring.cur (chunkLands_ring k q)).trans ?_
    rw [hcur]; rfl
  refine ⟨?_, hlanded, chunkLands_mem k q⟩
  rw [alderChunk_next hrun hok hgoes hon hsteps, chunkSettle_lands hcur hflying hreqs, hsome, if_neg (by simp), State.alderRun, hnext,
    alderSettle_one hlanded, chunkSettle_waits hcur' rfl hleft]

/-- The last chunk of the last pass lands: the step ends. -/
theorem alderChunk_ends {k f : Nat} {q : ChunkOut} (hflying : o.flying = [(k, f, q)]) (hreqs : s.reqs = []) (hleft : o.left = [])
    (hrule : (oRule o.blk ≠ 3 ∧ oRule o.blk ≠ 4) ∨ o.pass = 2) :
    exec (.alderChunk engine) s = .next ((s.chunkLands o k q).stepEnd (o.landed k q) false) ∧
      (o.st = 0 → cRec cmd.img = 0 → ctlLoc ((s.ringsOf o.ctx).cq).ctrl = false →
        s.Freed ((s.chunkLands o k q).stepEnd (o.landed k q) false) o.ctx o.ring false ∧
          ((s.chunkLands o k q).stepEnd (o.landed k q) false).alder.steps = []) := by
  have hring := chunkLands_ring (s := s) (o := o) k q
  have hcur' : ((s.chunkLands o k q).ring (o.landed k q).ctx (o.landed k q).ring).cur = some { cmd with prog := s.now } := by
    refine (congrArg Ring.cur hring).trans ?_
    rw [hcur]; rfl
  have hgone : ((s.chunkLands o k q).stepEnd (o.landed k q) false).alder.steps = [] := by
    rw [stepEnd_steps hcur', chunkLands_steps hsteps]; simp
  refine ⟨?_, fun hst hrec hloc => ⟨?_, hgone⟩⟩
  · rw [alderChunk_next hrun hok hgoes hon hsteps, chunkSettle_lands hcur hflying hreqs, hleft, if_pos List.isEmpty_nil,
      passEnd_last (o := o.landed k q) hrule, alderRun_none hgone, alderSettle_none hgone]
  · obtain ⟨hfreed, -⟩ := stepEnd_frees hcur' hrec (chunkLands_ctrl (s := s) (o := o) k q ▸ hloc)
    rw [code_ok (o := o.landed k q) hst] at hfreed
    exact hfreed.of_ring hring

end

end Sys2Proof.Machine

/-! OPT_STEP, EXCHANGE, ALDER_CHUNK, ATTEST, QUERY and HINT. -/

namespace Sys2Proof.Machine

/-- Settles O52: row by row, each from the lemmas about it. -/
theorem stepCommands : Obligations.StepCommands := by
  unfold Obligations.StepCommands
  refine ⟨fun s t ctx ring cmd bs => ⟨fun hoff haddr hread hmask => ⟨fun hwhy hskip => ?_, fun hwhy hskip hrec hloc hnew => ?_,
        fun hbad hrec hdep => ?_⟩,
      fun hoff haddr hread hparts hrec hdep hgrade => ⟨fun hbad => ?_, fun hgood hon hfree hcores => ?_, fun hgood hbusy => ?_⟩,
      fun engine o hrun hok hgoes hon hsteps hcur => ⟨fun k q u hflying hnext hbusy => ?_, fun k f q hflying hreqs => ?_⟩⟩,
    fun s ctx ring cmd hrec hdep => ⟨?_, ?_, ?_, fun hoff => ⟨?_, ?_, ?_, ?_, ?_⟩, fun hoff => ⟨?_, ?_, ?_⟩⟩⟩
  · refine ⟨_, optStepOf ctx.val ring.val (leNat bs), optStep_starts hoff haddr hread hmask hwhy hskip, rfl, rfl, rfl, rfl, rfl, rfl, rfl,
      stepped_stage ..⟩
  · exact optStep_skips hoff haddr hread hmask hwhy hskip hrec hloc hnew
  · exact optStep_refused hoff haddr hread hmask hbad hrec hdep
  · exact exchange_refused hoff haddr hread hparts hrec hdep hgrade hbad
  · have hstarts := exchange_starts hoff haddr hread hparts hrec hdep hgrade hgood hon hfree hcores
    exact ⟨hstarts, fun hstep hidle hloc => ⟨_, hstarts, exchange_local hoff hread hrec hstep hidle hloc⟩⟩
  · exact exchange_waits hoff haddr hread hparts hrec hdep hgrade hgood hbusy
  · exact alderChunk_runs hrun hok hgoes hon hsteps hcur hflying hnext hbusy
  · exact ⟨fun hleft hnext => alderChunk_lands hrun hok hgoes hon hsteps hcur hflying hreqs hleft hnext,
      fun hleft hrule => alderChunk_ends hrun hok hgoes hon hsteps hcur hflying hreqs hleft hrule⟩
  · exact fun hoff hid hst ha0 ha1 => attest_unidentified hoff hrec hdep hst ha0 ha1 hid
  · exact fun t nonce v hoff hid hst ha0 ha1 hhash hidle hread => attest_reports hoff hrec hdep hst ha0 ha1 hid hhash hidle hread
  · exact fun core off core' off' hoff hid hst ha0 ha1 hhash hreqs hframes hdone hloc hto hfrom =>
      attest_windows hoff hrec hdep hst ha0 ha1 hid hhash hreqs hframes hdone hloc hto hfrom
  · exact query_reserved hoff hrec hdep
  · exact fun t st bs hmode hidle hhand hqueue hread => query_entry hoff hrec hdep hmode hidle hhand hqueue hread
  · exact query_translation hoff hrec hdep
  · exact query_ownership_tenant hoff hrec hdep
  · exact query_ownership_admin hoff hrec hdep
  · exact hint_off hoff hrec hdep
  · exact fun d hon hdies hmine hclass hheld hguards hhold hloc => hint_fills hoff hrec hdep hon hdies hmine hclass hheld hguards hhold hloc
  · exact fun d hon hdies hmine hlow hhigh hheld hdown => hint_guards hoff hrec hdep hon hdies hmine hlow hhigh hheld hdown

end Sys2Proof.Machine

/-! Memory's canonical form over a step (R183, R231; log 5). What each function of the model leaves of memory, in the model's order: a
lemma `f_mem` where `f` leaves the cells as they are, `f_wf` where it may write cells and they stay canonical. Cells are written in few
places alone: the correction of a block, a write within a block, the scrub of a granule, the move of a range, the end of a map-out and a
full reset. Each is a write or a filter of the sparse table, whose laws (`cellsWrite_wf`, `cellsPut_wf`, `mapFilter_wf`) keep its form. -/

/-! Projections through conditionals, outcomes and pairs. -/

namespace Sys2Proof.Machine
@[simp] theorem State.mem_ite (c : Prop) [Decidable c] (a b : State) : (if c then a else b).mem = if c then a.mem else b.mem :=
  apply_ite _ _ _ _
@[simp] theorem fst_ite {β : Type} (c : Prop) [Decidable c] (a b : State × β) : (if c then a else b).1 = if c then a.1 else b.1 :=
  apply_ite _ _ _ _
@[simp] theorem wf_ite (c : Prop) [Decidable c] (a b : List Host.Cell) :
    Memory.wf (if c then a else b) = if c then Memory.wf a else Memory.wf b := apply_ite _ _ _ _
/-- By `rw`, not by `rfl`: a definitional equation here would have the kernel run the step to compare two states. -/
@[simp] theorem stateOf_next (s t : State) : stateOf s (.next t) = t := by rw [stateOf]
@[simp] theorem stateOf_ite (c : Prop) [Decidable c] (s : State) (a b : Res) :
    stateOf s (if c then a else b) = if c then stateOf s a else stateOf s b := apply_ite _ _ _ _

/-- The memory of a state that a pair names. -/
theorem mem_of_fst {β : Type} {q : State × β} {t : State} {x : β} {m : List Host.Cell} (e : q = (t, x)) (h : q.1.mem = m) :
    t.mem = m := by
  rw [← h, e]
theorem wf_of_fst {β : Type} {q : State × β} {t : State} {x : β} (e : q = (t, x)) (h : Memory.wf q.1.mem = true) :
    Memory.wf t.mem = true := by
  rw [e] at h
  exact h
theorem Prog.wf_of_eq {β : Type} {q : Prog × β} {p : Prog} {x : β} (e : q = (p, x)) (h : Memory.wf q.1.s.mem = true) :
    Memory.wf p.s.mem = true := by
  rw [e] at h
  exact h

/-! Folds whose steps leave memory as it was, or leave it canonical. -/

@[simp] theorem foldl_mem {β : Type} (f : State → β → State) (l : List β) (s : State) (h : ∀ t b, (f t b).mem = t.mem) :
    (l.foldl f s).mem = s.mem :=
  foldl_keeps (P := fun t => t.mem = s.mem) f l s rfl fun t b ht => (h t b).trans ht
@[simp] theorem foldl_fst_mem {β γ : Type} (f : State × γ → β → State × γ) (l : List β) (s : State × γ)
    (h : ∀ t b, (f t b).1.mem = t.1.mem) : (l.foldl f s).1.mem = s.1.mem :=
  foldl_keeps (P := fun t => t.1.mem = s.1.mem) f l s rfl fun t b ht => (h t b).trans ht
@[simp] theorem foldl_prog_mem {β : Type} (f : Prog → β → Prog) (l : List β) (p : Prog) (h : ∀ q b, (f q b).s.mem = q.s.mem) :
    (l.foldl f p).s.mem = p.s.mem :=
  foldl_keeps (P := fun q => q.s.mem = p.s.mem) f l p rfl fun q b hq => (h q b).trans hq
theorem foldl_wf {β : Type} (f : State → β → State) (l : List β) (s : State) (h : Memory.wf s.mem = true)
    (hf : ∀ t b, Memory.wf t.mem = true → Memory.wf (f t b).mem = true) : Memory.wf (l.foldl f s).mem = true :=
  foldl_keeps (P := fun t => Memory.wf t.mem = true) f l s h hf
theorem foldl_fst_wf {β γ : Type} (f : State × γ → β → State × γ) (l : List β) (s : State × γ) (h : Memory.wf s.1.mem = true)
    (hf : ∀ t b, Memory.wf t.1.mem = true → Memory.wf (f t b).1.mem = true) : Memory.wf (l.foldl f s).1.mem = true :=
  foldl_keeps (P := fun t => Memory.wf t.1.mem = true) f l s h hf
theorem foldl_prog_wf {β : Type} (f : Prog → β → Prog) (l : List β) (p : Prog) (h : Memory.wf p.s.mem = true)
    (hf : ∀ q b, Memory.wf q.s.mem = true → Memory.wf (f q b).s.mem = true) : Memory.wf (l.foldl f p).s.mem = true :=
  foldl_keeps (P := fun q => Memory.wf q.s.mem = true) f l p h hf
theorem foldl_prog_fst_wf {β γ : Type} (f : Prog × γ → β → Prog × γ) (l : List β) (p : Prog × γ)
    (h : Memory.wf p.1.s.mem = true) (hf : ∀ q b, Memory.wf q.1.s.mem = true → Memory.wf (f q b).1.s.mem = true) :
    Memory.wf (l.foldl f p).1.s.mem = true :=
  foldl_keeps (P := fun q => Memory.wf q.1.s.mem = true) f l p h hf

/-! The steps of an array operation's program. -/

theorem Prog.do_wf {p : Prog} {f : Prog → Prog} (h : Memory.wf p.s.mem = true) (hf : Memory.wf (f p).s.mem = true) :
    Memory.wf (p.do f).s.mem = true := by
  unfold Prog.do
  split <;> assumption
theorem Prog.fold_wf {α : Type} {p : Prog} {l : List α} {f : Prog → α → Prog} (h : Memory.wf p.s.mem = true)
    (hf : ∀ q a, Memory.wf q.s.mem = true → Memory.wf (f q a).s.mem = true) : Memory.wf (p.fold l f).s.mem = true :=
  foldl_prog_wf _ _ _ h fun q a hq => Prog.do_wf hq (hf q a hq)

end Sys2Proof.Machine

namespace Sys2Proof.Machine
variable (s : State)

/-! Counts, alarms and the tables of the state. -/

@[simp] theorem State.countFree_mem (key : Nat) : (s.countFree key).mem = s.mem := by simp [State.countFree]
@[simp] theorem State.raiseCore_mem (ev phys : Nat) (st : Status) (d0 d1 d2 d3 : Nat) :
    (s.raiseCore ev phys st d0 d1 d2 d3).mem = s.mem := by
  simp [State.raiseCore]
@[simp] theorem State.setGroup_mem (c core slot : Nat) (g : Group) : (s.setGroup c core slot g).mem = s.mem := by simp [State.setGroup]
@[simp] theorem State.updGroup_mem (c core slot : Nat) (f : Group → Group) : (s.updGroup c core slot f).mem = s.mem := by
  simp [State.updGroup]
@[simp] theorem State.countCode_mem (c : Nat) (st : Status) : (s.countCode c st).mem = s.mem := by simp [State.countCode]

/-! Blocks of memory: where the model writes it (R211 to R216, R223). -/

@[simp] theorem State.triggerMapout_mem (slot : Nat) : (s.triggerMapout slot).mem = s.mem := by simp [State.triggerMapout]
@[simp] theorem State.uncorrAt_mem (o : Nat) : (s.uncorrAt o).mem = s.mem := by simp [State.uncorrAt]
@[simp] theorem State.corrAt_mem (o : Nat) : (s.corrAt o).mem = s.mem := by simp [State.corrAt]
/-- A read writes memory too: a block that its code corrects is written back (R215). -/
@[simp] theorem State.eccBlock_wf (blk : Nat) (h : Memory.wf s.mem = true) : Memory.wf (s.eccBlock blk).1.mem = true := by
  unfold State.eccBlock
  dsimp only
  (repeat' split) <;> simp [h]
@[simp] theorem State.eccSweep_wf (o n : Nat) (h : Memory.wf s.mem = true) : Memory.wf (s.eccSweep o n).1.mem = true :=
  foldl_fst_wf _ _ _ h fun t _ ht => t.1.eccBlock_wf _ ht
@[simp] theorem State.devRead_wf (o n : Nat) (h : Memory.wf s.mem = true) : Memory.wf (s.devRead o n).1.mem = true := by
  unfold State.devRead
  split <;> simp [h]
/-- Every write of data, whether from a core, an agent or a packet, is a sequence of these (R216). -/
@[simp] theorem State.blockPut_wf (o : Nat) (cs : List (Nat × Byte)) (h : Memory.wf s.mem = true) :
    Memory.wf (s.blockPut o cs).1.mem = true := by
  unfold State.blockPut
  split <;> simp [h]
@[simp] theorem State.devWrite_wf (o : Nat) (bs : List Byte) (h : Memory.wf s.mem = true) : Memory.wf (s.devWrite o bs).1.mem = true :=
  foldl_fst_wf _ _ _ h fun t p ht => by
    split
    · exact ht
    · exact t.1.blockPut_wf _ _ ht
@[simp] theorem State.winWrite_mem (c core off : Nat) (cs : List (Nat × Byte)) : (s.winWrite c core off cs).mem = s.mem := by
  simp [State.winWrite]
@[simp] theorem State.sramFixed_mem (n : Nat) : (s.sramFixed n).mem = s.mem := by simp [State.sramFixed]
@[simp] theorem State.countWait_mem (r : Req) (chan : Bool) : (s.countWait r chan).mem = s.mem := by simp [State.countWait]
@[simp] theorem State.grantSlots_mem (core : Nat) : (s.grantSlots core).mem = s.mem := by
  unfold State.grantSlots
  dsimp only
  (repeat' split) <;> simp
@[simp] theorem State.grantMover_mem (core n : Nat) : (State.grantMover core n s).mem = s.mem := by
  induction n generalizing s with
  | zero => rfl
  | succ n ih =>
    unfold State.grantMover
    dsimp only
    (repeat' split) <;> simp [ih]
@[simp] theorem State.grant_mem (core : Nat) : (s.grant core).mem = s.mem := by simp [State.grant]
@[simp] theorem State.enter_mem (r : Req) (key p : Nat) : (s.enter r key p).mem = s.mem := by simp [State.enter]
@[simp] theorem State.noteWaits_mem : (s.noteWaits).mem = s.mem := by simp [State.noteWaits]
@[simp] theorem State.unqueue_mem (id : Nat) : (s.unqueue id).mem = s.mem := by simp [State.unqueue]
@[simp] theorem State.applyWin_mem (r : Req) : (s.applyWin r).1.mem = s.mem := by
  unfold State.applyWin
  split <;> simp
@[simp] theorem State.applyBlock_wf (r : Req) (p : Nat) (h : Memory.wf s.mem = true) : Memory.wf (s.applyBlock r p).1.mem = true := by
  unfold State.applyBlock
  split <;> simp [h]
@[simp] theorem State.subDone_mem (r : Req) (p : Nat) : (s.subDone r p).mem = s.mem := by
  unfold State.subDone
  split <;> simp
@[simp] theorem State.blockDone_mem (r : Req) (p : Nat) (st : Status) (bs : List Byte) : (s.blockDone r p st bs).mem = s.mem := by
  unfold State.blockDone
  dsimp only
  (repeat' split) <;> simp
@[simp] theorem State.tableRead_wf (o : Nat) (h : Memory.wf s.mem = true) : Memory.wf (s.tableRead o).mem = true := by
  have ht := s.eccBlock_wf (o / 64) h
  unfold State.tableRead
  dsimp only
  split
  · next c _ _ =>
    have hu := State.eccBlock_wf _ (c / 64) ht
    split
    · exact State.blockPut_wf _ _ _ hu
    · exact hu
  · exact ht
@[simp] theorem State.walkDone_wf (r : Req) (h : Memory.wf s.mem = true) : Memory.wf (s.walkDone r).mem = true := by
  simp [State.walkDone, h]
@[simp] theorem State.servePart_wf (id p : Nat) (lost : Bool) (h : Memory.wf s.mem = true) :
    Memory.wf (s.servePart id p lost).mem = true := by
  unfold State.servePart
  split <;> simp [h]
@[simp] theorem State.serveParts_wf (id : Nat) (ps : List Nat) (h : Memory.wf s.mem = true) : Memory.wf (s.serveParts id ps).mem = true :=
  foldl_wf _ _ _ h fun t _ ht => t.servePart_wf _ _ _ ht
@[simp] theorem State.applyReq_wf (r : Req) (h : Memory.wf s.mem = true) : Memory.wf (s.applyReq r).mem = true := by
  simp [State.applyReq, h]

/-! Groups and launches. -/

@[simp] theorem State.stopGroups_mem (ctx launch : Nat) (code : Status) : (s.stopGroups ctx launch code).mem = s.mem := by
  simp [State.stopGroups]
@[simp] theorem State.failLaunch_mem (id : Nat) (code : Status) (core slot pc addr : Nat) :
    (s.failLaunch id code core slot pc addr).mem = s.mem := by
  unfold State.failLaunch
  split <;> simp
@[simp] theorem State.groupFault_mem (ctx core slot : Nat) (g : Group) (code : Status) (pc addr : Nat) :
    (s.groupFault ctx core slot g code pc addr).mem = s.mem := by
  simp [State.groupFault]
@[simp] theorem State.freezeSync_mem (ctx core : Nat) : (s.freezeSync ctx core).mem = s.mem := by simp [State.freezeSync]
@[simp] theorem State.haltNow_mem (ctx core slot : Nat) (g : Group) (cause : Nat) : (s.haltNow ctx core slot g cause).mem = s.mem := by
  simp [State.haltNow]
@[simp] theorem State.putGroup_mem (ctx core slot : Nat) (g : Group) : (s.putGroup ctx core slot g).mem = s.mem := by
  unfold State.putGroup
  split <;> simp
@[simp] theorem State.gsyncSweep_mem (ctx core : Nat) : (s.gsyncSweep ctx core).mem = s.mem := by
  unfold State.gsyncSweep
  dsimp only
  (repeat' split) <;> simp
@[simp] theorem State.stepDone_mem (ctx core slot : Nat) : (s.stepDone ctx core slot).mem = s.mem := by simp [State.stepDone]
@[simp] theorem Iss.fault_mem (i : Iss) (code : Status) (addr : Nat) : (i.fault code addr).mem = i.s.mem := by simp [Iss.fault]
@[simp] theorem Iss.put_mem (i : Iss) (g : Group) : (i.put g).mem = i.s.mem := by simp [Iss.put]
@[simp] theorem Iss.retire_mem (i : Iss) (g : Group) : (i.retire g).mem = i.s.mem := by simp [Iss.retire]
@[simp] theorem Iss.retireP_mem (i : Iss) (g : Group) : (i.retireP g).mem = i.s.mem := by simp [Iss.retireP]
@[simp] theorem issue_mem (g : GRef) (w : IWord) (legal : Group → Bool) (body : Iss → State) (hb : ∀ i, (body i).mem = i.s.mem) :
    (stateOf s (issue s g w legal body)).mem = s.mem := by
  unfold issue
  dsimp only
  (repeat' split) <;> simp [hb]

/-! Packets of requests. -/

@[simp] theorem State.failReq_mem (id : Nat) (st : Status) : (s.failReq id st).mem = s.mem := by simp [State.failReq]
@[simp] theorem State.sendOne_mem (r : Req) : (s.sendOne r).mem = s.mem := by
  unfold State.sendOne
  dsimp only
  (repeat' split) <;> simp
@[simp] theorem State.sendAway_mem : (s.sendAway).mem = s.mem := by simp [State.sendAway]

/-! Off-domain requests. -/

@[simp] theorem State.larchEmit_mem (g : Nat) (d : LSent) : (s.larchEmit g d).mem = s.mem := by simp [State.larchEmit]
@[simp] theorem State.larchEmits_mem (g : Nat) (ds : List LSent) : (s.larchEmits g ds).mem = s.mem := by simp [State.larchEmits]
@[simp] theorem State.updStream_mem (g id : Nat) (f : Stream → Stream) : (s.updStream g id f).mem = s.mem := by simp [State.updStream]
@[simp] theorem State.closeFrame_mem (g : Nat) (st : Stream) : (s.closeFrame g st).mem = s.mem := by
  unfold State.closeFrame
  split <;> simp
theorem State.streamFor_mem {c n i d : Nat} {q : State × Nat × Stream} (h : s.streamFor c n i d = some q) : q.1.mem = s.mem := by
  unfold State.streamFor at h
  split at h
  · cases h
  · dsimp only at h
    split at h
    · cases h
      rfl
    · split at h
      · cases h
      · cases h
        simp
theorem State.gwAccept_mem {r : Req} {t : State} (h : s.gwAccept r = some t) : t.mem = s.mem := by
  unfold State.gwAccept at h
  split at h
  · cases h
    simp
  split at h
  · cases h
    simp
  next u g st hs =>
  have hu : u.mem = s.mem := s.streamFor_mem hs
  extract_lets rd size v st' opn f recs add at h
  have hv : v.mem = s.mem := by
    unfold v
    split
    · split <;> simp [hu]
    · exact hu
  split at h
  · cases h
    simp [hv]
  split at h
  · cases h
  split at h
  extract_lets f' w w' st'' at h
  split at h
  · cases h
  · have hw : w'.mem = s.mem := by simp [w', w, hv]
    cases h
    split <;> simp [hw]
@[simp] theorem State.sendOff_mem : (s.sendOff).mem = s.mem := by
  unfold State.sendOff
  refine foldl_mem _ _ _ fun t r => ?_
  split
  · split
    · cases h : t.gwAccept r with
      | none => rfl
      | some u => exact t.gwAccept_mem h
    · simp
  · rfl

/-! Admission to the queues. -/

@[simp] theorem State.owe_mem (p vc n : Nat) : (s.owe p vc n).mem = s.mem := by simp [State.owe]
@[simp] theorem State.acceptPkt_mem (p : Nat) (r : Req) : (s.acceptPkt p r).mem = s.mem := by simp [State.acceptPkt]
@[simp] theorem State.oweFlag_mem (p : Nat) (r : Req) : (s.oweFlag p r).mem = s.mem := by simp [State.oweFlag]
@[simp] theorem State.admitCand_mem (c : Cand) : (s.admitCand c).mem = s.mem := by
  unfold State.admitCand
  dsimp only
  (repeat' split) <;> simp
theorem State.admitOne_mem {ds ss : List Nat} {t : State} (h : s.admitOne ds ss = some t) : t.mem = s.mem := by
  unfold State.admitOne at h
  split at h
  · cases h
  · dsimp only at h
    split at h
    · cases h
    · obtain ⟨c, -, rfl⟩ := Option.map_eq_some_iff.mp h
      simp
@[simp] theorem State.admitAll_mem (n : Nat) (ds ss : List Nat) : (State.admitAll n ds ss s).mem = s.mem := by
  induction n generalizing s with
  | zero => rfl
  | succ n ih =>
    unfold State.admitAll
    split
    · next t ht => rw [ih, State.admitOne_mem s ht]
    · rfl
@[simp] theorem State.readmit_mem : (s.readmit).mem = s.mem := by simp [State.readmit]

/-! Predicates. -/

@[simp] theorem State.numTotals_mem (c : List Nat) : (s.numTotals c).mem = s.mem := by simp [State.numTotals]

/-! The translation tables, which stand in memory (R189, R495). -/

@[simp] theorem State.tagIn_mem (cap : Nat) (l : List XTag) (t : XTag) : (s.tagIn cap l t).1.mem = s.mem := by simp [State.tagIn]
@[simp] theorem State.coreTag_mem (core : Nat) (t : XTag) : (s.coreTag core t).mem = s.mem := by simp [State.coreTag]
@[simp] theorem State.dieTag_mem (die : Nat) (t : XTag) : (s.dieTag die t).mem = s.mem := by simp [State.dieTag]
@[simp] theorem State.touch_mem (core ctx va : Nat) : (s.touch core ctx va).1.mem = s.mem := by
  unfold State.touch
  dsimp only
  (repeat' split) <;> simp
@[simp] theorem State.dropTags_mem (out : XTag → Bool) : (s.dropTags out).mem = s.mem := by simp [State.dropTags]
@[simp] theorem State.setEntry_wf (ctx l va v : Nat) (h : Memory.wf s.mem = true) : Memory.wf (s.setEntry ctx l va v).mem = true := by
  have put : ∀ (t : State) (o : Nat), Memory.wf t.mem = true →
      Memory.wf ((t.tableRead o).devWrite o (leBytes 8 v)).1.mem = true := fun t o ht =>
    State.devWrite_wf _ _ _ (t.tableRead_wf o ht)
  unfold State.setEntry
  split
  · exact h
  · simp [put, h]
theorem State.needTable_wf {c va l : Nat} {t : State} (e : s.needTable c va l = some t) (h : Memory.wf s.mem = true) :
    Memory.wf t.mem = true := by
  obtain ⟨⟨u, g⟩, hu, rfl⟩ := Option.map_eq_some_iff.1 e
  have hm : u.mem = s.mem := by
    revert hu
    split
    · rintro ⟨⟩
      rfl
    · rw [Option.map_eq_some_iff]
      rintro ⟨k, -, ⟨⟩⟩
      rfl
  have hw : Memory.wf u.mem = true := hm.symm ▸ h
  simp [hw]
/-- A fold of partial steps that keep canonical memory keeps it. -/
theorem foldl_bind_wf {β : Type} {f : State → β → Option State}
    (hf : ∀ t b u, f t b = some u → Memory.wf t.mem = true → Memory.wf u.mem = true)
    {l : List β} {s t : State} (e : l.foldl (fun a b => a.bind fun u => f u b) (some s) = some t) (h : Memory.wf s.mem = true) :
    Memory.wf t.mem = true :=
  foldl_keeps (P := fun a : Option State => ∀ u ∈ a, Memory.wf u.mem = true) _ l (some s) (by simpa using h)
    (fun a b ha u hu => by
      obtain ⟨v, hv, hb⟩ := Option.bind_eq_some_iff.1 hu
      exact hf v b u hb (ha v hv)) t e
theorem State.putLeaf_wf {c va : Nat} {l : Leaf} {t : State} (e : s.putLeaf c va l = some t) (h : Memory.wf s.mem = true) :
    Memory.wf t.mem = true := by
  obtain ⟨u, hu, rfl⟩ := Option.map_eq_some_iff.1 e
  exact State.setEntry_wf _ _ _ _ _ (foldl_bind_wf (fun v k u hk hv => v.needTable_wf hk hv) hu h)

/-! LD, ST and the core cache. -/

@[simp] theorem State.patchCache_mem (core ctx : Nat) (cs : List (Nat × Byte)) : (s.patchCache core ctx cs).mem = s.mem := by
  simp [State.patchCache]
@[simp] theorem State.dropCached_mem (core ctx a : Nat) : (s.dropCached core ctx a).mem = s.mem := by simp [State.dropCached]
@[simp] theorem State.invalidate_mem (core scope : Nat) : (s.invalidate core scope).mem = s.mem := by simp [State.invalidate]
@[simp] theorem Iss.newReq_mem (i : Iss) (op : MemOp) (d : Dest) (va : Nat) (p th al he : Bool) :
    (i.newReq s op d va p th al he).1.mem = s.mem := by
  simp [Iss.newReq]
@[simp] theorem State.issueSweep_mem (ctx core : Nat) : (s.issueSweep ctx core).mem = s.mem := by
  unfold State.issueSweep
  refine foldl_mem _ _ _ fun t e => ?_
  dsimp only
  (repeat' split) <;> simp
@[simp] theorem State.pump_mem (ctx core : Nat) : (s.pump ctx core).mem = s.mem := by simp [State.pump]
@[simp] theorem Iss.watch_mem (i : Iss) (kind : Nat) (as : List (Nat × Nat × Nat)) : (i.watch kind as).s.mem = i.s.mem :=
  foldl_keeps (P := fun j : Iss => j.s.mem = i.s.mem) _ _ _ rfl fun j n hj => by
    dsimp only
    split <;> exact hj
@[simp] theorem Iss.loadVirtual_mem (i : Iss) (rd size cacheMode : Nat) (addrs : List (Nat × Nat)) :
    (i.loadVirtual rd size cacheMode addrs).mem = i.s.mem := by
  simp [Iss.loadVirtual]
@[simp] theorem Iss.load_mem (w : IWord) (i : Iss) : (Iss.load w i).mem = i.s.mem := by
  unfold Iss.load
  split <;> simp
@[simp] theorem Iss.storeVirtual_mem (i : Iss) (cells : List (Nat × Byte)) : (i.storeVirtual cells).mem = i.s.mem := by
  simp [Iss.storeVirtual]
@[simp] theorem Iss.store_mem (w : IWord) (i : Iss) : (Iss.store w i).mem = i.s.mem := by
  unfold Iss.store
  dsimp only
  (repeat' split) <;> simp

/-! Units that are no thread: their reads and writes. -/

@[simp] theorem State.agReq_mem (ag : Ag) (op : MemOp) (a va : Nat) : (s.agReq ag op a va).mem = s.mem := by simp [State.agReq]
@[simp] theorem State.globRead_wf (ag : Ag) (a va n : Nat) (h : Memory.wf s.mem = true) :
    Memory.wf (s.globRead ag a va n).1.mem = true := by
  unfold State.globRead
  dsimp only
  (repeat' split) <;> simp [h]
@[simp] theorem State.agPiece_wf (ag : Ag) (need : Need) (va n : Nat) (h : Memory.wf s.mem = true) :
    Memory.wf (s.agPiece ag need va n).1.mem = true := by
  unfold State.agPiece
  dsimp only
  (repeat' split) <;> simp [h]
@[simp] theorem State.agRead_wf (ag : Ag) (need : Need) (va n : Nat) (h : Memory.wf s.mem = true) :
    Memory.wf (s.agRead ag need va n).1.mem = true :=
  foldl_fst_wf _ _ _ h fun t _ ht => t.1.agPiece_wf _ _ _ _ ht
@[simp] theorem State.globWrite_wf (ag : Ag) (a va : Nat) (bs : List Byte) (h : Memory.wf s.mem = true) :
    Memory.wf (s.globWrite ag a va bs).1.mem = true := by
  simp [State.globWrite, h]
@[simp] theorem State.agWrite_wf (ag : Ag) (va : Nat) (bs : List Byte) (h : Memory.wf s.mem = true) :
    Memory.wf (s.agWrite ag va bs).1.mem = true :=
  foldl_fst_wf _ _ _ h fun t p ht => by
    dsimp only
    (repeat' split) <;> simp [ht]
@[simp] theorem State.spRead_wf (ag : Ag) (space : Nat) (need : Need) (a n : Nat) (h : Memory.wf s.mem = true) :
    Memory.wf (s.spRead ag space need a n).1.mem = true := by
  simp [State.spRead, h]
@[simp] theorem State.spWrite_wf (ag : Ag) (space a : Nat) (bs : List Byte) (h : Memory.wf s.mem = true) :
    Memory.wf (s.spWrite ag space a bs).1.mem = true := by
  simp [State.spWrite, h]
@[simp] theorem State.spFetch_wf (ag : Ag) (space : Nat) (need : Need) (as : List Nat) (h : Memory.wf s.mem = true) :
    Memory.wf (s.spFetch ag space need as).1.mem = true :=
  foldl_fst_wf _ _ _ h fun t r ht => by
    split
    · exact ht
    · exact t.1.spRead_wf _ _ _ _ _ ht
@[simp] theorem State.spPut_wf (ag : Ag) (space : Nat) (cs : Map Byte) (h : Memory.wf s.mem = true) :
    Memory.wf (s.spPut ag space cs).1.mem = true :=
  foldl_fst_wf _ _ _ h fun t r ht => by
    split
    · exact ht
    · exact t.1.spWrite_wf _ _ _ _ ht
@[simp] theorem State.agXlate_mem (core : Nat) : (s.agXlate core).mem = s.mem := by simp [State.agXlate]
@[simp] theorem State.agGo_mem (ag : Ag) : (s.agGo ag).mem = s.mem := by
  unfold State.agGo
  split <;> simp
@[simp] theorem State.agWait_mem (t : State) (ag : Ag) : (s.agWait t ag).mem = s.mem := by simp [State.agWait]
@[simp] theorem State.agAbsorb_mem (ag : Ag) : (s.agAbsorb ag).1.mem = s.mem := by simp [State.agAbsorb]
@[simp] theorem State.agDrop_mem (ag : Ag) : (s.agDrop ag).mem = s.mem := by simp [State.agDrop]
@[simp] theorem State.agEnd_mem (ag : Ag) : (s.agEnd ag).mem = s.mem := by simp [State.agEnd]

/-! The journal. -/

@[simp] theorem State.jAppend_mem (rs : List JRec) : (s.jAppend rs).mem = s.mem := by simp [State.jAppend]
@[simp] theorem State.compactNow_mem : (s.compactNow).mem = s.mem := by
  unfold State.compactNow
  dsimp only
  (repeat' split) <;> simp
@[simp] theorem State.beginCompact_mem : (s.beginCompact).mem = s.mem := by simp [State.beginCompact]
@[simp] theorem State.ownWrite_mem (w : JWrite) : (s.ownWrite w).mem = s.mem := by simp [State.ownWrite]
@[simp] theorem State.persist_mem (key v : Nat) (keep : Bool) : (s.persist key v keep).mem = s.mem := by simp [State.persist]
@[simp] theorem State.program_mem (w : JWrite) : (s.program w).mem = s.mem := by simp [State.program]
@[simp] theorem State.takeEffect_mem (w : JWrite) : (s.takeEffect w).mem = s.mem := by simp [State.takeEffect]
@[simp] theorem State.checkToken_mem (t : Token) (op : Nat) (target sub : Option Nat) (bound : Option (List Byte)) :
    (s.checkToken t op target sub bound).1.mem = s.mem := by
  simp [State.checkToken]

/-! Rings and records of completion. -/

@[simp] theorem State.msix_mem (c v : Nat) : (s.msix c v).mem = s.mem := by simp [State.msix]
@[simp] theorem State.ringWrite_wf (c : Nat) (loc : Bool) (base off : Nat) (bs : List Byte) (h : Memory.wf s.mem = true) :
    Memory.wf (s.ringWrite c loc base off bs).mem = true := by
  simp [State.ringWrite, h]
@[simp] theorem State.cqWrite_wf (c rec : Nat) (h : Memory.wf s.mem = true) : Memory.wf (s.cqWrite c rec).mem = true := by
  simp [State.cqWrite, h]
@[simp] theorem State.post_wf (c rec : Nat) (h : Memory.wf s.mem = true) : Memory.wf (s.post c rec).mem = true := by simp [State.post, h]
@[simp] theorem State.unspill_wf (n c : Nat) (h : Memory.wf s.mem = true) : Memory.wf (State.unspill n c s).mem = true := by
  induction n generalizing s with
  | zero => exact h
  | succ n ih =>
    unfold State.unspill
    dsimp only
    split
    · exact h
    · split
      · exact ih _ (by simp [h])
      · exact h
@[simp] theorem State.complete_wf (ctx ring : Nat) (c : Cmd) (st : Status) (result detail body : Nat) (h : Memory.wf s.mem = true) :
    Memory.wf (s.complete ctx ring c st result detail body).mem = true := by
  simp [State.complete, h]
@[simp] theorem State.refuse_wf (ctx ring : Nat) (c : Cmd) (st : Status) (detail body : Nat) (h : Memory.wf s.mem = true) :
    Memory.wf (s.refuse ctx ring c st detail body).mem = true := by
  simp [State.refuse, h]
theorem ringCmd_wf (ctx ring opc : Nat) (body : Cmd → State) (h : Memory.wf s.mem = true)
    (hb : ∀ c, Memory.wf (body c).mem = true) : Memory.wf (stateOf s (ringCmd s ctx ring opc body)).mem = true := by
  unfold ringCmd
  (repeat' split) <;> simp [h, hb]
@[simp] theorem ringCmdChecked_wf (ctx ring opc : Nat) (why : Cmd → List (Bool × Status × Nat)) (body : Cmd → State)
    (h : Memory.wf s.mem = true) (hb : ∀ c, Memory.wf (body c).mem = true) :
    Memory.wf (stateOf s (ringCmdChecked s ctx ring opc why body)).mem = true := by
  unfold ringCmdChecked ringCmd
  (repeat' split) <;> simp only [stateOf_next, h]
  (repeat' split) <;> simp [h, hb]
@[simp] theorem State.okCmd_wf (ctx ring : Nat) (c : Cmd) (result : Nat) (h : Memory.wf s.mem = true) :
    Memory.wf (s.okCmd ctx ring c result).mem = true := by
  simp [State.okCmd, h]

/-! ATOM and RED. -/

@[simp] theorem Iss.bypass_mem (i : Iss) (d : Dest) : (i.bypass s d).mem = s.mem := by simp [Iss.bypass]
@[simp] theorem Iss.atomLocal_mem (i : Iss) (w : IWord) (sp : Space) (op : Aop) (typ : Nat) (fetch : Bool) :
    (i.atomLocal w sp op typ fetch).mem = i.s.mem := by
  simp [Iss.atomLocal]
@[simp] theorem Iss.atomVirtual_mem (i : Iss) (w : IWord) (op : Aop) (typ : Nat) (fetch : Bool) :
    (i.atomVirtual w op typ fetch).mem = i.s.mem := by
  unfold Iss.atomVirtual
  dsimp only
  (repeat' split) <;> simp
@[simp] theorem atomic_mem (fetch : Bool) (g : GRef) (w : IWord) : (stateOf s (atomic fetch g w s)).mem = s.mem := by
  unfold atomic
  dsimp only
  (repeat' split) <;> simp
@[simp] theorem execAtom_mem (g : GRef) (w : IWord) : (stateOf s (execAtom g w s)).mem = s.mem := by simp [execAtom]
@[simp] theorem execRed_mem (g : GRef) (w : IWord) : (stateOf s (execRed g w s)).mem = s.mem := by simp [execRed]

/-! FENCE, acquire, release and locks. -/

@[simp] theorem execFence_mem (g : GRef) (w : IWord) : (stateOf s (execFence g w s)).mem = s.mem := by simp [execFence]
@[simp] theorem execLdAcq_mem (g : GRef) (w : IWord) : (stateOf s (execLdAcq g w s)).mem = s.mem := by simp [execLdAcq]
@[simp] theorem Iss.release_mem (i : Iss) (scope : Nat) (waits xwaits : List Nat) (reqs : List (MemOp × Dest × Nat)) :
    (i.release scope waits xwaits reqs).mem = i.s.mem := by
  simp [Iss.release]
@[simp] theorem releaseStore_mem (flag : Bool) (g : GRef) (w : IWord) : (stateOf s (releaseStore flag g w s)).mem = s.mem := by
  simp [releaseStore]
@[simp] theorem execStRel_mem (g : GRef) (w : IWord) : (stateOf s (execStRel g w s)).mem = s.mem := by simp [execStRel]
@[simp] theorem execStoreFlag_mem (g : GRef) (w : IWord) : (stateOf s (execStoreFlag g w s)).mem = s.mem := by simp [execStoreFlag]
@[simp] theorem finishLock_mem (g : Group) (core pd scope : Nat) (got all : Lanes) (outside : Bool) :
    (finishLock s g core pd scope got all outside).1.mem = s.mem := by
  unfold finishLock
  split <;> simp
@[simp] theorem execLockAcq_mem (g : GRef) (w : IWord) : (stateOf s (execLockAcq g w s)).mem = s.mem := by
  unfold execLockAcq
  refine issue_mem _ _ _ _ _ fun i => ?_
  dsimp only
  (repeat' split) <;> simp
@[simp] theorem execLockRel_mem (g : GRef) (w : IWord) : (stateOf s (execLockRel g w s)).mem = s.mem := by
  unfold execLockRel
  refine issue_mem _ _ _ _ _ fun i => ?_
  dsimp only
  (repeat' split) <;> simp

/-! Events of a core that no instruction issues. -/

@[simp] theorem State.startGroup_mem (ctx core : Nat) : (s.startGroup ctx core).mem = s.mem := by
  unfold State.startGroup
  dsimp only
  (repeat' split) <;> simp
@[simp] theorem execGroupStart_mem (core : Fin 576) : (stateOf s (execGroupStart core s)).mem = s.mem := by
  fun_cases execGroupStart <;> simp
@[simp] theorem State.dropRels_mem (n : Nat) (ids : List Nat) : (State.dropRels n ids s).mem = s.mem := by
  induction n generalizing s ids with
  | zero => rfl
  | succ n ih => simp [State.dropRels, ih]
@[simp] theorem State.faultReq_mem (r : Req) (core : Nat) (st : Status) : (s.faultReq r core st).mem = s.mem := by
  unfold State.faultReq
  dsimp only
  (repeat' split) <;> simp
@[simp] theorem State.retireAt_mem (ctx core slot : Nat) (g : Group) (progress : Bool) :
    (s.retireAt ctx core slot g progress).mem = s.mem := by
  simp [State.retireAt]
@[simp] theorem State.issOf_mem (ctx core slot : Nat) (g : Group) : (s.issOf ctx core slot g).s.mem = s.mem := by simp [State.issOf]
@[simp] theorem State.nextAttempt_mem (ctx core slot : Nat) (g : Group) (op : MemOp) (va : Nat) (plain : Bool) (p : Pend) :
    (s.nextAttempt ctx core slot g op va plain p).mem = s.mem := by
  simp [State.nextAttempt]
@[simp] theorem State.deliver_mem (r : Req) (core : Nat) (g : Group) (left : List Nat) (p : Pend) :
    (s.deliver r core g left p).mem = s.mem := by
  unfold State.deliver
  dsimp only
  (repeat' split) <;> simp
@[simp] theorem State.notify_mem (r : Req) (core : Nat) : (s.notify r core).mem = s.mem := by fun_cases State.notify <;> simp
@[simp] theorem State.respond_mem (r : Req) (core : Nat) : (s.respond r core).mem = s.mem := by simp [State.respond]
@[simp] theorem execAccessResponse_wf (req : Nat) (h : Memory.wf s.mem = true) :
    Memory.wf (stateOf s (execAccessResponse req s)).mem = true := by
  unfold execAccessResponse
  dsimp only
  (repeat' split) <;> simp [h]
@[simp] theorem State.letGo_mem (ids : List Nat) : (s.letGo ids).mem = s.mem := by
  unfold State.letGo
  refine foldl_mem _ _ _ fun t id => ?_
  dsimp only
  (repeat' split) <;> simp
@[simp] theorem execReleaseApply_mem (rel : Nat) : (stateOf s (execReleaseApply rel s)).mem = s.mem := by
  unfold execReleaseApply
  dsimp only
  (repeat' split) <;> simp
@[simp] theorem execLockBackoffExpiry_mem (g : GRef) : (stateOf s (execLockBackoffExpiry g s)).mem = s.mem := by
  unfold execLockBackoffExpiry
  dsimp only
  (repeat' split) <;> simp
@[simp] theorem execGroupWatchdogExpiry_mem (g : GRef) : (stateOf s (execGroupWatchdogExpiry g s)).mem = s.mem := by
  unfold execGroupWatchdogExpiry
  dsimp only
  (repeat' split) <;> simp
@[simp] theorem execStreamPrefetch_mem (g : GRef) (line : Nat) : (stateOf s (execStreamPrefetch g line s)).mem = s.mem := by
  unfold execStreamPrefetch
  dsimp only
  (repeat' split) <;> simp

/-! The integer instructions. -/

@[simp] theorem laneOp_mem (g : GRef) (w : IWord) (legal : Bool) (srcs : List (Nat × Nat)) (f : Group → Nat → Word) :
    (stateOf s (laneOp g w s legal srcs f)).mem = s.mem := by
  simp [laneOp]
@[simp] theorem laneOp2_mem (g : GRef) (w : IWord) (f : Word → Word → Word) : (stateOf s (laneOp2 g w s f)).mem = s.mem := by
  simp [laneOp2]
@[simp] theorem execIadd_mem (g : GRef) (w : IWord) : (stateOf s (execIadd g w s)).mem = s.mem := by simp [execIadd]
@[simp] theorem execIsub_mem (g : GRef) (w : IWord) : (stateOf s (execIsub g w s)).mem = s.mem := by simp [execIsub]
@[simp] theorem execImul_mem (g : GRef) (w : IWord) : (stateOf s (execImul g w s)).mem = s.mem := by simp [execImul]
@[simp] theorem execImla_mem (g : GRef) (w : IWord) : (stateOf s (execImla g w s)).mem = s.mem := by simp [execImla]
@[simp] theorem execImin_mem (g : GRef) (w : IWord) : (stateOf s (execImin g w s)).mem = s.mem := by simp [execImin]
@[simp] theorem execImax_mem (g : GRef) (w : IWord) : (stateOf s (execImax g w s)).mem = s.mem := by simp [execImax]
@[simp] theorem execAnd_mem (g : GRef) (w : IWord) : (stateOf s (execAnd g w s)).mem = s.mem := by simp [execAnd]
@[simp] theorem execOr_mem (g : GRef) (w : IWord) : (stateOf s (execOr g w s)).mem = s.mem := by simp [execOr]
@[simp] theorem execXor_mem (g : GRef) (w : IWord) : (stateOf s (execXor g w s)).mem = s.mem := by simp [execXor]
@[simp] theorem execShl_mem (g : GRef) (w : IWord) : (stateOf s (execShl g w s)).mem = s.mem := by simp [execShl]
@[simp] theorem execShr_mem (g : GRef) (w : IWord) : (stateOf s (execShr g w s)).mem = s.mem := by simp [execShr]
@[simp] theorem execSar_mem (g : GRef) (w : IWord) : (stateOf s (execSar g w s)).mem = s.mem := by simp [execSar]
@[simp] theorem execBcnt_mem (g : GRef) (w : IWord) : (stateOf s (execBcnt g w s)).mem = s.mem := by simp [execBcnt]
@[simp] theorem execLzc_mem (g : GRef) (w : IWord) : (stateOf s (execLzc g w s)).mem = s.mem := by simp [execLzc]
@[simp] theorem execIcmp_mem (g : GRef) (w : IWord) : (stateOf s (execIcmp g w s)).mem = s.mem := by simp [execIcmp]
@[simp] theorem execCsel_mem (g : GRef) (w : IWord) : (stateOf s (execCsel g w s)).mem = s.mem := by simp [execCsel]

/-! The FP32 instructions. -/

@[simp] theorem fpOp2_mem (g : GRef) (w : IWord) (f : Ex → Ex → Ex) : (stateOf s (fpOp2 g w s f)).mem = s.mem := by simp [fpOp2]
@[simp] theorem fpOp1_mem (g : GRef) (w : IWord) (f : Ex → Ex) : (stateOf s (fpOp1 g w s f)).mem = s.mem := by simp [fpOp1]
@[simp] theorem execFadd_mem (g : GRef) (w : IWord) : (stateOf s (execFadd g w s)).mem = s.mem := by simp [execFadd]
@[simp] theorem execFmul_mem (g : GRef) (w : IWord) : (stateOf s (execFmul g w s)).mem = s.mem := by simp [execFmul]
@[simp] theorem execFma_mem (g : GRef) (w : IWord) : (stateOf s (execFma g w s)).mem = s.mem := by simp [execFma]
@[simp] theorem execFmin_mem (g : GRef) (w : IWord) : (stateOf s (execFmin g w s)).mem = s.mem := by simp [execFmin]
@[simp] theorem execFmax_mem (g : GRef) (w : IWord) : (stateOf s (execFmax g w s)).mem = s.mem := by simp [execFmax]
@[simp] theorem execFcmp_mem (g : GRef) (w : IWord) : (stateOf s (execFcmp g w s)).mem = s.mem := by simp [execFcmp]
@[simp] theorem execRcp_mem (g : GRef) (w : IWord) : (stateOf s (execRcp g w s)).mem = s.mem := by simp [execRcp]
@[simp] theorem execRsqrt_mem (g : GRef) (w : IWord) : (stateOf s (execRsqrt g w s)).mem = s.mem := by simp [execRsqrt]
@[simp] theorem execExp2_mem (g : GRef) (w : IWord) : (stateOf s (execExp2 g w s)).mem = s.mem := by simp [execExp2]
@[simp] theorem execLog2_mem (g : GRef) (w : IWord) : (stateOf s (execLog2 g w s)).mem = s.mem := by simp [execLog2]
@[simp] theorem execPfmaH_mem (g : GRef) (w : IWord) : (stateOf s (execPfmaH g w s)).mem = s.mem := by simp [execPfmaH]
@[simp] theorem execPfmaB_mem (g : GRef) (w : IWord) : (stateOf s (execPfmaB g w s)).mem = s.mem := by simp [execPfmaB]

/-! CVT, lane exchanges and votes. -/

@[simp] theorem State.launchCounts_mem (launch : Nat) (c : List Nat) : (s.launchCounts launch c).mem = s.mem := by
  simp [State.launchCounts]
@[simp] theorem execCvt_mem (g : GRef) (w : IWord) : (stateOf s (execCvt g w s)).mem = s.mem := by simp [execCvt]
@[simp] theorem execLxch_mem (g : GRef) (w : IWord) : (stateOf s (execLxch g w s)).mem = s.mem := by simp [execLxch]
@[simp] theorem execLvote_mem (g : GRef) (w : IWord) : (stateOf s (execLvote g w s)).mem = s.mem := by simp [execLvote]
@[simp] theorem execBsel_mem (g : GRef) (w : IWord) : (stateOf s (execBsel g w s)).mem = s.mem := by simp [execBsel]

/-! The tensor mover. -/

@[simp] theorem State.endWait_mem (ctx core slot : Nat) (g : Group) (array : Bool) (t rd : Nat) (act : Lanes) (implicit : Bool)
    (st : Status) : (s.endWait ctx core slot g array t rd act implicit st).mem = s.mem := by
  simp [State.endWait]
@[simp] theorem State.endToken_mem (ctx core slot launch gidx : Nat) (array : Bool) (t unit : Nat) (st : Status) :
    (s.endToken ctx core slot launch gidx array t unit st).mem = s.mem := by
  unfold State.endToken
  dsimp only
  (repeat' split) <;> simp
@[simp] theorem Iss.waitTok_mem (i : Iss) (array : Bool) (rd ra : Nat) : (i.waitTok array rd ra).mem = i.s.mem := by
  unfold Iss.waitTok
  dsimp only
  (repeat' split) <;> simp
@[simp] theorem Iss.pollTok_mem (i : Iss) (array : Bool) (rd ra : Nat) : (i.pollTok array rd ra).mem = i.s.mem := by
  unfold Iss.pollTok
  dsimp only
  (repeat' split) <;> simp
@[simp] theorem Iss.tmIssue_mem (i : Iss) (kind : XKind) (w : IWord) : (i.tmIssue kind w).mem = i.s.mem := by
  unfold Iss.tmIssue
  dsimp only
  (repeat' split) <;> simp
@[simp] theorem execTmCopy_mem (g : GRef) (w : IWord) : (stateOf s (execTmCopy g w s)).mem = s.mem := by simp [execTmCopy]
@[simp] theorem execTmGather_mem (g : GRef) (w : IWord) : (stateOf s (execTmGather g w s)).mem = s.mem := by simp [execTmGather]
@[simp] theorem execTmScatter_mem (g : GRef) (w : IWord) : (stateOf s (execTmScatter g w s)).mem = s.mem := by simp [execTmScatter]
@[simp] theorem execTmFill_mem (g : GRef) (w : IWord) : (stateOf s (execTmFill g w s)).mem = s.mem := by simp [execTmFill]
@[simp] theorem execTmWait_mem (g : GRef) (w : IWord) : (stateOf s (execTmWait g w s)).mem = s.mem := by simp [execTmWait]
@[simp] theorem execTmPoll_mem (g : GRef) (w : IWord) : (stateOf s (execTmPoll g w s)).mem = s.mem := by simp [execTmPoll]
@[simp] theorem State.putBits_wf (ag : Ag) (space : Nat) (ps : List (Nat × Nat × Nat)) (h : Memory.wf s.mem = true) :
    Memory.wf (s.putBits ag space ps).1.mem = true := by
  unfold State.putBits
  dsimp only
  (repeat' split) <;> simp [h]
@[simp] theorem State.rowFetch_wf (ag : Ag) (bytes : List Nat) (h : Memory.wf s.mem = true) :
    Memory.wf (s.rowFetch ag bytes).1.mem = true :=
  foldl_fst_wf _ _ _ h fun t _ ht => t.1.agPiece_wf _ _ _ _ ht
@[simp] theorem State.gatherFetch_wf (ag : Ag) (rows : List (List Nat)) (h : Memory.wf s.mem = true) :
    Memory.wf (s.gatherFetch ag rows).1.mem = true := by
  unfold State.gatherFetch
  extract_lets near secs mine
  split
  next t rest e =>
  have ht : Memory.wf t.mem = true := wf_of_fst e (foldl_fst_wf _ _ _ h fun a row ha => a.1.rowFetch_wf _ _ ha)
  (repeat' split) <;> simp [ht]
@[simp] theorem State.xferUnit_wf (core : Nat) (x : Xfer) (atoms : List (List Nat)) (h : Memory.wf s.mem = true) :
    Memory.wf (s.xferUnit core x atoms).1.mem = true := by
  unfold State.xferUnit
  dsimp only
  (repeat' split) <;> simp [h]
@[simp] theorem State.rowanInsert_wf (ag : Ag) (cb key v : Nat) (h : Memory.wf s.mem = true) :
    Memory.wf (s.rowanInsert ag cb key v).1.mem = true := by
  unfold State.rowanInsert
  dsimp only
  (repeat' split) <;> simp [h]
@[simp] theorem State.insertUnit_wf (core : Nat) (x : Xfer) (h : Memory.wf s.mem = true) :
    Memory.wf (s.insertUnit core x).1.mem = true := by
  unfold State.insertUnit
  dsimp only
  (repeat' split) <;> simp [h]
@[simp] theorem State.closeFor_mem (id : Nat) : (s.closeFor id).mem = s.mem := by simp [State.closeFor]
@[simp] theorem State.updXfer_mem (ctx core id : Nat) (f : Xfer → Xfer) : (s.updXfer ctx core id f).mem = s.mem := by simp [State.updXfer]
@[simp] theorem State.tmStep_wf (s0 : State) (ctx core : Nat) (x : Xfer) (h : Memory.wf s0.mem = true) :
    Memory.wf (State.tmStep s0 ctx core x).mem = true := by
  unfold State.tmStep
  extract_lets ag fails x0
  split
  next t wst e =>
  have ht : Memory.wf t.mem = true := wf_of_fst e (by simp [h])
  extract_lets x1 t1 dropped sd dd ls list atoms ok many t2
  have h1 : Memory.wf t1.mem = true := by simp [t1, ht]
  have hd : Memory.wf dropped.mem = true := by simp [dropped, h1]
  have hok : ∀ u as c, Memory.wf u.mem = true → Memory.wf (ok u as c).mem = true := fun u as c hu => by simp [ok, hu]
  rw [State.agGo_mem]
  unfold t2
  split
  · split <;> simp [hd]
  split
  · exact h1
  split
  · split
    · have hi := t1.insertUnit_wf core x1 h1
      split
      · next e => simp [wf_of_fst e hi]
      · next e => simp [wf_of_fst e hi]
      · simp [h1]
    · exact h1
  · split
    · next e => exact hok _ _ _ (wf_of_fst e (t1.xferUnit_wf _ _ _ h1))
    · simp [h1]
    · split
      · next e => exact hok _ _ _ (wf_of_fst e (t1.xferUnit_wf _ _ _ h1))
      · simp [h1]
      · simp [h1]
@[simp] theorem execTmResponse_wf (core : Fin 576) (xfer : Nat) (h : Memory.wf s.mem = true) :
    Memory.wf (stateOf s (execTmResponse core xfer s)).mem = true := by
  fun_cases execTmResponse <;> simp [h]
@[simp] theorem State.failRels_mem (ctx core id : Nat) (st : Status) : (s.failRels ctx core id st).mem = s.mem := by
  unfold State.failRels
  refine foldl_mem _ _ _ fun t r => ?_
  dsimp only
  (repeat' split) <;> simp
@[simp] theorem State.xferReport_mem (core : Nat) (x : Xfer) : (s.xferReport core x).mem = s.mem := by
  unfold State.xferReport
  split <;> simp
@[simp] theorem State.xfersEnd_mem (ctx core : Nat) (p : Xfer → Bool) (code : Status) : (s.xfersEnd ctx core p code).mem = s.mem := by
  simp [State.xfersEnd]
@[simp] theorem execTmTokenComplete_mem (core : Fin 576) (xfer : Nat) : (stateOf s (execTmTokenComplete core xfer s)).mem = s.mem := by
  unfold execTmTokenComplete
  dsimp only
  (repeat' split) <;> simp
@[simp] theorem State.aheadFetch_mem (ag : Ag) (core : Nat) (d : Desc) (block : Nat) : (s.aheadFetch ag core d block).mem = s.mem := by
  unfold State.aheadFetch
  dsimp only
  (repeat' split) <;> simp
@[simp] theorem execRunaheadPrefetch_mem (core : Fin 576) (xfer block : Nat) :
    (stateOf s (execRunaheadPrefetch core xfer block s)).mem = s.mem := by
  unfold execRunaheadPrefetch
  dsimp only
  (repeat' split) <;> simp

/-! SIGNAL, WAIT, COPY, FILL and GATHER. -/

@[simp] theorem ringRow_wf (ctx ring opc : Nat) (why : Cmd → List (Bool × Status × Nat)) (body : Cmd → State) (h : Memory.wf s.mem = true)
    (hb : ∀ c, Memory.wf (body c).mem = true) : Memory.wf (stateOf s (ringRow s ctx ring opc why body)).mem = true := by
  unfold ringRow
  (repeat' split) <;> simp [h, hb]
@[simp] theorem execCmdNop_wf (ctx : Fin 4097) (ring : Fin 8) (h : Memory.wf s.mem = true) :
    Memory.wf (stateOf s (execCmdNop ctx ring s)).mem = true := by
  simp [execCmdNop, h]
@[simp] theorem execCmdFence_wf (ctx : Fin 4097) (ring : Fin 8) (h : Memory.wf s.mem = true) :
    Memory.wf (stateOf s (execCmdFence ctx ring s)).mem = true := by
  simp [execCmdFence, h]
@[simp] theorem State.flagWrite_wf (ag : Ag) (va v : Nat) (h : Memory.wf s.mem = true) :
    Memory.wf (s.flagWrite ag va v).1.mem = true := by
  unfold State.flagWrite
  dsimp only
  (repeat' split) <;> simp [h]
@[simp] theorem execSignal_wf (ctx : Fin 4097) (ring : Fin 8) (h : Memory.wf s.mem = true) :
    Memory.wf (stateOf s (execSignal ctx ring s)).mem = true := by
  simp [execSignal, h]
@[simp] theorem execWait_wf (ctx : Fin 4097) (ring : Fin 8) (h : Memory.wf s.mem = true) :
    Memory.wf (stateOf s (execWait ctx ring s)).mem = true := by
  simp [execWait, h]
@[simp] theorem execWaitPoll_wf (ctx : Fin 4097) (ring : Fin 8) (h : Memory.wf s.mem = true) :
    Memory.wf (stateOf s (execWaitPoll ctx ring s)).mem = true := by
  unfold execWaitPoll
  split
  · exact h
  split
  · exact h
  split
  · exact h
  dsimp only
  split
  · simp [h]
  · next e => simp [wf_of_fst e (s.agRead_wf _ _ _ _ h)]
  · next e =>
    rw [stateOf_ite, State.mem_ite]
    split <;> simp [wf_of_fst e (s.agRead_wf _ _ _ _ h)]
@[simp] theorem State.putUnit_wf (ag : Ag) (va : Nat) (bs : List Byte) (h : Memory.wf s.mem = true) :
    Memory.wf (s.putUnit ag va bs).1.mem = true := by
  simp [State.putUnit, h]
@[simp] theorem State.copyUnit_wf (ag : Ag) (img at' n : Nat) (h : Memory.wf s.mem = true) :
    Memory.wf (s.copyUnit ag img at' n).1.mem = true := by
  have hr := s.agRead_wf ag .read (cA0 img + at') n h
  unfold State.copyUnit
  split
  · next e => exact wf_of_fst e hr
  · next e => exact wf_of_fst e hr
  · next e => exact State.putUnit_wf _ _ _ _ (wf_of_fst e hr)
@[simp] theorem State.fillUnit_wf (ag : Ag) (img at' n : Nat) (h : Memory.wf s.mem = true) :
    Memory.wf (s.fillUnit ag img at' n).1.mem = true := by
  simp [State.fillUnit, h]
@[simp] theorem State.gatherUnit_wf (ag : Ag) (img at' n : Nat) (h : Memory.wf s.mem = true) :
    Memory.wf (s.gatherUnit ag img at' n).1.mem = true := by
  have hr := s.agRead_wf ag .read (cA2 img + 4 * at') (4 * n) h
  unfold State.gatherUnit
  split
  · next e => exact wf_of_fst e hr
  · next e => exact wf_of_fst e hr
  · next e =>
    refine foldl_fst_wf _ _ _ (wf_of_fst e hr) fun a k ha => ?_
    split
    · exact ha
    · dsimp only
      split
      · next e => exact wf_of_fst e (a.1.agRead_wf _ _ _ _ ha)
      · next e => exact wf_of_fst e (a.1.agRead_wf _ _ _ _ ha)
      · next e =>
        have hu := wf_of_fst e (a.1.agRead_wf _ _ _ _ ha)
        split
        · exact hu
        · exact State.putUnit_wf _ _ _ _ hu
@[simp] theorem State.bulkEnd_wf (ctx ring : Nat) (ag : Ag) (st : Status) (va : Nat) (h : Memory.wf s.mem = true) :
    Memory.wf (s.bulkEnd ctx ring ag st va).mem = true := by
  unfold State.bulkEnd
  dsimp only
  (repeat' split) <;> simp [h]
@[simp] theorem State.bulk_wf (ctx ring : Nat) (c : Cmd) (total per : Nat) (unit : State → Ag → Nat → Nat → Nat → State × Moved)
    (h : Memory.wf s.mem = true) (hu : ∀ t ag i a n, Memory.wf t.mem = true → Memory.wf (unit t ag i a n).1.mem = true) :
    Memory.wf (s.bulk ctx ring c total per unit).mem = true := by
  unfold State.bulk
  extract_lets ag t
  have ht : Memory.wf t.mem = true := by simp [t, h]
  split
  next w wst e =>
  have hw : Memory.wf w.mem = true := wf_of_fst e (by simp [ht])
  split
  · simp [hw]
  split
  · exact hw
  · have hq := hu w ag c.img c.aux (min per (total - c.aux)) hw
    dsimp only
    split
    · simp [hw]
    · next e => simp [wf_of_fst e hq]
    · next e => split <;> simp [wf_of_fst e hq]
@[simp] theorem execCopy_wf (ctx : Fin 4097) (ring : Fin 8) (h : Memory.wf s.mem = true) :
    Memory.wf (stateOf s (execCopy ctx ring s)).mem = true :=
  ringRow_wf _ _ _ _ _ _ h fun _ => State.bulk_wf _ _ _ _ _ _ _ h fun t ag i a n => t.copyUnit_wf ag i a n
@[simp] theorem execFill_wf (ctx : Fin 4097) (ring : Fin 8) (h : Memory.wf s.mem = true) :
    Memory.wf (stateOf s (execFill ctx ring s)).mem = true :=
  ringRow_wf _ _ _ _ _ _ h fun _ => State.bulk_wf _ _ _ _ _ _ _ h fun t ag i a n => t.fillUnit_wf ag i a n
@[simp] theorem execGather_wf (ctx : Fin 4097) (ring : Fin 8) (h : Memory.wf s.mem = true) :
    Memory.wf (stateOf s (execGather ctx ring s)).mem = true :=
  ringRow_wf _ _ _ _ _ _ h fun _ => State.bulk_wf _ _ _ _ _ _ _ h fun t ag i a n => t.gatherUnit_wf ag i a n
@[simp] theorem State.dropWork_mem (id : Nat) : (s.dropWork id).mem = s.mem := by simp [State.dropWork]
@[simp] theorem State.failCmd_mem (id : Nat) (st : Status) : (s.failCmd id st).mem = s.mem := by simp [State.failCmd]

/-! Reports of arrays. -/

@[simp] theorem State.raiseArray_mem (core : Nat) (op : MxOp) (st : Status) (pos : Option Nat) :
    (s.raiseArray core op st pos).mem = s.mem := by
  simp [State.raiseArray]

/-! OPT_STEP and the Alder engines. -/

@[simp] theorem State.engRead_wf (ag : Ag) (va n : Nat) (h : Memory.wf s.mem = true) : Memory.wf (s.engRead ag va n).1.mem = true := by
  have hr := s.agRead_wf ag .read va n h
  unfold State.engRead
  split
  · exact h
  split <;> next e => exact wf_of_fst e hr
@[simp] theorem State.engElems_wf (ag : Ag) (base w : Nat) (xs : List Nat) (h : Memory.wf s.mem = true) :
    Memory.wf (s.engElems ag base w xs).1.mem = true :=
  foldl_fst_wf _ _ _ h fun t e ht => by
    split
    · exact ht
    · exact t.1.engRead_wf _ _ _ ht
@[simp] theorem State.engPut_wf (ag : Ag) (base w : Nat) (xs : List (Nat × Nat)) (h : Memory.wf s.mem = true) :
    Memory.wf (s.engPut ag base w xs).1.mem = true :=
  foldl_fst_wf _ _ _ h fun t e ht => by
    split
    · exact ht
    · exact t.1.agWrite_wf _ _ _ ht
@[simp] theorem State.engM8_wf (ag : Ag) (base : Nat) (xs : List Nat) (h : Memory.wf s.mem = true) :
    Memory.wf (s.engM8 ag base xs).1.mem = true :=
  foldl_fst_wf _ _ _ h fun t b ht => by
    split
    · exact ht
    · exact State.engElems_wf _ _ _ _ _ (t.1.engElems_wf _ _ _ _ ht)
@[simp] theorem State.engPutM8_wf (ag : Ag) (base n : Nat) (xs : List (Nat × Ex)) (h : Memory.wf s.mem = true) :
    Memory.wf (s.engPutM8 ag base n xs).1.mem = true :=
  foldl_fst_wf _ _ _ h fun t b ht => by
    dsimp only
    split
    · exact ht
    split
    · exact t.1.agWrite_wf _ _ _ ht
    · have he := t.1.engElems_wf ag (base + 260 * b) 4 [0] ht
      split
      · exact he
      · exact State.engPut_wf _ _ _ _ _ he
@[simp] theorem State.unmasked_wf (ag : Ag) (b hdr : Nat) (idx : List Nat) (h : Memory.wf s.mem = true) :
    Memory.wf (s.unmasked ag b hdr idx).1.mem = true := by
  simp [State.unmasked, h]
@[simp] theorem State.engParams_wf (ag : Ag) (b : Nat) (xs : List Nat) (h : Memory.wf s.mem = true) :
    Memory.wf (s.engParams ag b xs).1.mem = true := by
  simp [State.engParams, h]
@[simp] theorem State.engPutParams_wf (ag : Ag) (b : Nat) (xs : List (Nat × Ex)) (h : Memory.wf s.mem = true) :
    Memory.wf (s.engPutParams ag b xs).1.mem = true := by
  simp [State.engPutParams, h]
@[simp] theorem State.engZeroG_wf (ag : Ag) (b : Nat) (xs : List Nat) (h : Memory.wf s.mem = true) :
    Memory.wf (s.engZeroG ag b xs).1.mem = true := by
  simp [State.engZeroG, h]
@[simp] theorem State.chunkWrite_wf (ag : Ag) (b : Nat) (ps : List (Nat × Ex)) (ms : List (Nat × Ex)) (vs : List (Nat × Ex))
    (zs : List Nat) (h : Memory.wf s.mem = true) : Memory.wf (s.chunkWrite ag b ps ms vs zs).1.mem = true := by
  simp [State.chunkWrite, h]
@[simp] theorem State.chunkPlain_wf (ag : Ag) (b : Nat) (xs : List Nat) (h : Memory.wf s.mem = true) :
    Memory.wf (s.chunkPlain ag b xs).1.mem = true := by
  unfold State.chunkPlain
  split
  next s1 e1 ps hp =>
  have h1 := wf_of_fst hp (s.engParams_wf ag b xs h)
  split
  next s2 e2 gs hg =>
  have h2 := wf_of_fst hg (s1.engElems_wf _ _ _ _ h1)
  split
  next s3 e3 ms hm =>
  have h3 := wf_of_fst hm (s2.engM8_wf _ _ _ h2)
  split
  next s4 e4 vs hv =>
  have h4 : Memory.wf s4.mem = true := wf_of_fst hv (by split <;> simp [h3])
  extract_lets e outs put
  split
  · exact h4
  · split
    next s5 q bm bv hw =>
    have h5 := wf_of_fst hw (s4.chunkWrite_wf _ _ _ _ _ _ h4)
    split <;> exact h5
@[simp] theorem State.chunkTrust_wf (ag : Ag) (b ratio : Nat) (xs : List Nat) (h : Memory.wf s.mem = true) :
    Memory.wf (s.chunkTrust ag b ratio xs).1.mem = true := by
  unfold State.chunkTrust
  split
  next s1 e1 ps hp =>
  have h1 := wf_of_fst hp (s.engParams_wf ag b xs h)
  split
  next s2 e2 ms hm =>
  have h2 := wf_of_fst hm (s1.engM8_wf _ _ _ h1)
  split
  next s3 e3 vs hv =>
  have h3 := wf_of_fst hv (s2.engM8_wf _ _ _ h2)
  dsimp only
  split
  · exact h3
  · simp [h3]
@[simp] theorem State.rowMean_wf (ag : Ag) (b : Nat) (h : Memory.wf s.mem = true) : Memory.wf (s.rowMean ag b).1.mem = true := by
  simp [State.rowMean, h]
@[simp] theorem State.chunkFactored_wf (ag : Ag) (b : Nat) (xs : List Nat) (h : Memory.wf s.mem = true) :
    Memory.wf (s.chunkFactored ag b xs).1.mem = true := by
  unfold State.chunkFactored
  split
  next s1 e1 rm hr =>
  have h1 := wf_of_fst hr (s.rowMean_wf ag b h)
  split
  next s2 e2 ps hp =>
  have h2 := wf_of_fst hp (s1.engParams_wf _ _ _ h1)
  split
  next s3 e3 gs hg =>
  have h3 := wf_of_fst hg (s2.engElems_wf _ _ _ _ h2)
  split
  next s4 e4 ms hm =>
  have h4 : Memory.wf s4.mem = true := wf_of_fst hm (by split <;> simp [h3])
  extract_lets rows cols
  split
  next s5 e5 fr hf =>
  have h5 := wf_of_fst hf (s4.engElems_wf _ _ _ _ h4)
  split
  next s6 e6 fc hc =>
  have h6 := wf_of_fst hc (s5.engElems_wf _ _ _ _ h5)
  dsimp only
  split
  · exact h6
  · simp [h6]
@[simp] theorem State.factors_wf (ag : Ag) (b hdr : Nat) (h : Memory.wf s.mem = true) : Memory.wf (s.factors ag b hdr).1.mem = true := by
  unfold State.factors
  extract_lets n b2 c2 new
  split
  next s1 e1 xs hx =>
  have h1 := wf_of_fst hx (s.unmasked_wf _ _ _ _ h)
  split
  next s2 e2 gs hg =>
  have h2 := wf_of_fst hg (s1.engElems_wf _ _ _ _ h1)
  extract_lets rows cols
  split
  next s3 e3 fr hr =>
  have h3 := wf_of_fst hr (s2.engElems_wf _ _ _ _ h2)
  split
  next s4 e4 fc hc =>
  have h4 := wf_of_fst hc (s3.engElems_wf _ _ _ _ h3)
  extract_lets e sq nr
  split
  · exact h4
  · split
    next t st ht =>
    have h5 := wf_of_fst ht (s4.engPut_wf _ _ _ _ h4)
    split
    next u su hu =>
    have h6 : Memory.wf u.mem = true := wf_of_fst hu (by split <;> simp [h5])
    split
    · exact h4
    · exact h6
@[simp] theorem State.chunkRun_wf (ag : Ag) (o : OptStep) (c : Nat) (h : Memory.wf s.mem = true) :
    Memory.wf (s.chunkRun ag o c).1.mem = true := by
  simp [State.chunkRun, h]
@[simp] theorem State.updStep_mem (key : Nat) (f : OptStep → OptStep) : (s.updStep key f).mem = s.mem := by simp [State.updStep]
@[simp] theorem State.stepEnd_wf (o : OptStep) (quiet : Bool) (h : Memory.wf s.mem = true) :
    Memory.wf (s.stepEnd o quiet).mem = true := by
  unfold State.stepEnd
  extract_lets al t1 st t2 t3 t4 t5 t6
  have h1 : Memory.wf t1.mem = true := h
  have h6 : Memory.wf t6.mem = true := by simp [t6, t5, t4, t3, t2, h1]
  split <;> simp [h6]
@[simp] theorem State.passEnd_wf (ag : Ag) (o : OptStep) (h : Memory.wf s.mem = true) : Memory.wf (s.passEnd ag o).mem = true := by
  simp [State.passEnd, h]
@[simp] theorem execOptStep_wf (ctx : Fin 4097) (ring : Fin 8) (h : Memory.wf s.mem = true) :
    Memory.wf (stateOf s (execOptStep ctx ring s)).mem = true := by
  unfold execOptStep
  refine ringCmd_wf _ _ _ _ _ h fun c => ?_
  extract_lets ag badBlock
  split
  · simp [h]
  · next t e hr =>
    have ht : Memory.wf t.mem = true := wf_of_fst hr (by split <;> simp [h])
    simp [ht]
  · next t bs hr =>
    have ht : Memory.wf t.mem = true := wf_of_fst hr (by split <;> simp [h])
    extract_lets b
    split
    · simp [h]
    · next u e hs =>
      have hu : Memory.wf u.mem = true := wf_of_fst hs (by split <;> simp [ht])
      simp [hu]
    · next u hdr hs =>
      have hu : Memory.wf u.mem = true := wf_of_fst hs (by split <;> simp [ht])
      extract_lets v hdr why o al w x
      have hv : Memory.wf v.mem = true := by simp [v, hu]
      have hx : Memory.wf x.mem = true := by simp [x, w, hv]
      split
      · simp [hv]
      · split <;> simp [hx]
@[simp] theorem State.chunkFail_wf (o : OptStep) (seq e c : Nat) (st : Status) (h : Memory.wf s.mem = true) :
    Memory.wf (s.chunkFail o seq e c st).mem = true := by
  simp [State.chunkFail, h]
@[simp] theorem State.chunkSettle_wf (o : OptStep) (h : Memory.wf s.mem = true) : Memory.wf (s.chunkSettle o).mem = true := by
  unfold State.chunkSettle
  dsimp only
  (repeat' split) <;> simp [h]
@[simp] theorem State.alderSettle_wf (h : Memory.wf s.mem = true) : Memory.wf (s.alderSettle).mem = true :=
  foldl_wf _ _ _ h fun t o ht => by
    split
    · exact t.chunkSettle_wf _ ht
    · exact ht
@[simp] theorem State.alderRun_wf (e : Nat) (h : Memory.wf s.mem = true) : Memory.wf (s.alderRun e).mem = true := by
  unfold State.alderRun
  dsimp only
  (repeat' split) <;> simp [h]
@[simp] theorem execAlderChunk_wf (engine : Fin 16) (h : Memory.wf s.mem = true) :
    Memory.wf (stateOf s (execAlderChunk engine s)).mem = true := by
  unfold execAlderChunk
  dsimp only
  split
  · exact h
  · exact State.alderSettle_wf _ (State.alderRun_wf _ _ (s.alderSettle_wf h))

/-! The array queue. -/

@[simp] theorem Iss.mxEnter_mem (i : Iss) (g : Group) (t : Nat) (op : MxOp) (rd : Nat) (act : Lanes) :
    (i.mxEnter g t op rd act).mem = i.s.mem := by
  simp [Iss.mxEnter]
@[simp] theorem Iss.mxIssue_mem (i : Iss) (w : IWord) (kind : MKind) (offs : List Nat) (mk : MxOp → MxOp) :
    (i.mxIssue w kind offs mk).mem = i.s.mem := by
  unfold Iss.mxIssue
  dsimp only
  (repeat' split) <;> simp
@[simp] theorem execMxaAsync_mem (g : GRef) (w : IWord) : (stateOf s (execMxaAsync g w s)).mem = s.mem := by simp [execMxaAsync]
@[simp] theorem execMxaCmpr_mem (g : GRef) (w : IWord) : (stateOf s (execMxaCmpr g w s)).mem = s.mem := by simp [execMxaCmpr]
@[simp] theorem execRwnDrain_mem (g : GRef) (w : IWord) : (stateOf s (execRwnDrain g w s)).mem = s.mem := by simp [execRwnDrain]
@[simp] theorem execMxaWait_mem (g : GRef) (w : IWord) : (stateOf s (execMxaWait g w s)).mem = s.mem := by simp [execMxaWait]
@[simp] theorem execMxaPoll_mem (g : GRef) (w : IWord) : (stateOf s (execMxaPoll g w s)).mem = s.mem := by simp [execMxaPoll]
@[simp] theorem execMxaQueueAdmit_mem (g : GRef) : (stateOf s (execMxaQueueAdmit g s)).mem = s.mem := by
  unfold execMxaQueueAdmit
  dsimp only
  (repeat' split) <;> simp
@[simp] theorem State.setStatus_mem (ctx core off : Nat) (st : Status) : (s.setStatus ctx core off st).mem = s.mem := by
  simp [State.setStatus]
@[simp] theorem State.mxBegin_mem (c core : Nat) (op : MxOp) (rest : List MxOp) : (s.mxBegin c core op rest).mem = s.mem := by
  simp [State.mxBegin]
@[simp] theorem execMxaOpStart_mem (core : Fin 576) : (stateOf s (execMxaOpStart core s)).mem = s.mem := by
  unfold execMxaOpStart
  dsimp only
  (repeat' split) <;> simp

/-! Tiles, rows and epilogues of an array operation. -/

@[simp] theorem Prog.do_mem (p : Prog) (f : Prog → Prog) (hf : (f p).s.mem = p.s.mem) : (p.do f).s.mem = p.s.mem := by
  unfold Prog.do
  split <;> simp [hf]
@[simp] theorem Prog.enter_mem (p : Prog) (m : Nat) : (p.enter m).s.mem = p.s.mem := by
  unfold Prog.enter
  split <;> simp
@[simp] theorem Prog.halted_mem (p : Prog) : (p.halted).s.mem = p.s.mem := by
  unfold Prog.halted
  split <;> simp
@[simp] theorem Prog.fetch_wf (p : Prog) (ag : Ag) (space : Nat) (as : List Nat) (h : Memory.wf p.s.mem = true) :
    Memory.wf (p.fetch ag space as).1.s.mem = true := by
  have hf := p.s.spFetch_wf ag space .read as h
  unfold Prog.fetch
  split
  · exact h
  split <;> next e => exact wf_of_fst e hf
@[simp] theorem Prog.badIndex_mem (p : Prog) (strict : Bool) (n : Nat) : (p.badIndex strict n).s.mem = p.s.mem := by
  fun_cases Prog.badIndex <;> simp
@[simp] theorem Prog.loadTile_wf (p : Prog) (o : OpCtx) (ks cols : List Nat) (want : Nat → Nat → Bool) (h : Memory.wf p.s.mem = true) :
    Memory.wf (p.loadTile o ks cols want).1.s.mem = true := by
  unfold Prog.loadTile
  extract_lets b lines blocks
  split
  next p1 ls hl =>
  have h1 : Memory.wf p1.s.mem = true := Prog.wf_of_eq hl
    (foldl_prog_fst_wf _ _ _ h fun q e hq => q.1.fetch_wf _ _ _ hq)
  split
  next p2 sc hs =>
  have h2 : Memory.wf p2.s.mem = true := Prog.wf_of_eq hs (by split <;> simp [h1])
  split
  next p3 nb hn =>
  exact Prog.wf_of_eq hn (by split <;> simp [h2])
@[simp] theorem Prog.rowVals_wf (p : Prog) (o : OpCtx) (m : Nat) (ks : List Nat) (h : Memory.wf p.s.mem = true) :
    Memory.wf (p.rowVals o m ks).1.s.mem = true := by
  unfold Prog.rowVals
  dsimp only
  (repeat' split) <;> simp [h]
@[simp] theorem Prog.csrRow_wf (p : Prog) (o : OpCtx) (m : Nat) (h : Memory.wf p.s.mem = true) :
    Memory.wf (p.csrRow o m).s.mem = true := by
  unfold Prog.csrRow
  split
  · exact h
  split
  split
  next q t e =>
  have hq := Prog.wf_of_eq e (p.fetch_wf _ _ _ h)
  refine Prog.do_wf hq ?_
  extract_lets lo hi counted
  split
  · simp [counted, hq]
  · split
    next r x e =>
    have hr := Prog.wf_of_eq e (q.fetch_wf _ _ _ hq)
    exact Prog.do_wf hr (by simp [hr])
@[simp] theorem Prog.csrVals_wf (p : Prog) (o : OpCtx) (es : List (Nat × Nat)) (h : Memory.wf p.s.mem = true) :
    Memory.wf (p.csrVals o es).1.s.mem = true := by
  simp [Prog.csrVals, h]
@[simp] theorem State.accWrite_mem (o : OpCtx) (acc m n : Nat) (v : Ex × Nat) : (s.accWrite o acc m n v).mem = s.mem := by
  simp [State.accWrite]
@[simp] theorem State.accInit_mem (o : OpCtx) (accs : List Nat) (m : Nat) (cols : List Nat) : (s.accInit o accs m cols).mem = s.mem := by
  simp [State.accInit]
@[simp] theorem Prog.chunkRow_mem (p : Prog) (o : OpCtx) (acc m : Nat) (cols : List Nat) (slots : Nat → List Slot) :
    (p.chunkRow o acc m cols slots).s.mem = p.s.mem := by
  refine foldl_prog_mem _ _ _ fun q n => ?_
  split
  · rfl
  · exact State.accWrite_mem ..
@[simp] theorem Prog.blockRows_wf (p : Prog) (o : OpCtx) (cols : List Nat) (h : Memory.wf p.s.mem = true) :
    Memory.wf (p.blockRows o cols).1.s.mem = true := by
  simp [Prog.blockRows, h]
@[simp] theorem Prog.rowStep_wf (p : Prog) (o : OpCtx) (t : Tile) (blocks : List (Nat × Nat)) (pass m : Nat) (rows cols : List Nat)
    (h : Memory.wf p.s.mem = true) : Memory.wf (p.rowStep o t blocks pass m rows cols).s.mem = true := by
  unfold Prog.rowStep
  extract_lets acc fresh q ks win step
  have hf : ∀ t : State, Memory.wf t.mem = true → Memory.wf (fresh t).mem = true := fun t ht => by
    unfold fresh
    split <;> simp [ht]
  have hq : Memory.wf q.s.mem = true := by simp [q, h]
  split
  · exact h
  split
  · exact hq
  split
  · split
    next q1 b e =>
    have h1 := Prog.wf_of_eq e (q.fetch_wf _ _ _ hq)
    refine Prog.do_wf h1 ?_
    split
    · dsimp only
      split <;> simp [h1]
    · split
      next q2 xs e =>
      have h2 := Prog.wf_of_eq e (q1.rowVals_wf _ _ _ h1)
      exact Prog.do_wf h2 (by simp [hf, h2])
  split
  · have h1 := q.csrRow_wf o m hq
    refine Prog.do_wf h1 ?_
    extract_lets es
    split
    · exact hf _ h1
    · split
      next q2 xs e =>
      have h2 := Prog.wf_of_eq e (Prog.csrVals_wf _ _ _ h1)
      exact Prog.do_wf h2 (by simp [hf, h2])
  · split
    next q2 xs e =>
    have h2 := Prog.wf_of_eq e (q.rowVals_wf _ _ _ hq)
    exact Prog.do_wf h2 (by simp [hf, h2])
@[simp] theorem Prog.passStep_wf (p : Prog) (o : OpCtx) (blocks : List (Nat × Nat)) (pass : Nat) (cols : List Nat)
    (h : Memory.wf p.s.mem = true) : Memory.wf (p.passStep o blocks pass cols).s.mem = true := by
  unfold Prog.passStep
  extract_lets rows want
  split
  next q t e =>
  have hq := Prog.wf_of_eq e (Prog.loadTile_wf _ _ _ _ _ h)
  have hr := Prog.fold_wf (l := List.range o.g.m) hq fun r m hr => r.rowStep_wf o t blocks pass m rows cols hr
  exact Prog.do_wf hr hr
@[simp] theorem Prog.runTile_wf (p : Prog) (o : OpCtx) (first : Bool) (cols : List Nat) (h : Memory.wf p.s.mem = true) :
    Memory.wf (p.runTile o first cols).s.mem = true := by
  unfold Prog.runTile
  split
  · split
    next q blocks bad e =>
    have hq := Prog.wf_of_eq e (p.blockRows_wf _ _ h)
    refine Prog.do_wf hq ?_
    extract_lets r
    have hr : Memory.wf r.s.mem = true := by unfold r; split <;> simp [hq]
    refine Prog.do_wf hr ?_
    extract_lets r1 r2
    have hr2 : Memory.wf r2.s.mem = true := by unfold r2; split <;> simp [r1, hr]
    exact Prog.fold_wf hr2 fun x k hx => x.passStep_wf _ _ _ _ hx
  · exact Prog.fold_wf h fun x k hx => x.passStep_wf _ _ _ _ hx
@[simp] theorem Prog.mergeElem_mem (o : OpCtx) (m n a b : Nat) (p : Prog) : (Prog.mergeElem o m n a b p).s.mem = p.s.mem := by
  induction a generalizing b p with
  | zero => rfl
  | succ f ih =>
    unfold Prog.mergeElem
    split
    · rfl
    · exact (ih ..).trans (foldl_prog_mem _ _ _ fun q i => State.accWrite_mem ..)
@[simp] theorem Prog.merge_mem (p : Prog) (o : OpCtx) (cols : List Nat) : (p.merge o cols).s.mem = p.s.mem :=
  Prog.do_mem _ _ (foldl_prog_mem _ _ _ fun _ _ => foldl_prog_mem _ _ _ fun _ _ => Prog.mergeElem_mem ..)
@[simp] theorem Prog.readMask_wf (p : Prog) (ag : Ag) (bmask m n : Nat) (h : Memory.wf p.s.mem = true) :
    Memory.wf (p.readMask ag bmask m n).1.s.mem = true := by
  unfold Prog.readMask
  dsimp only
  (repeat' split) <;> simp [h]
@[simp] theorem Prog.epiRow_wf (p : Prog) (o : OpCtx) (v : Nat) (cols : List Nat) (zOf : Nat → Option Ex) (m : Nat)
    (h : Memory.wf p.s.mem = true) : Memory.wf (p.epiRow o v cols zOf m).s.mem = true := by
  unfold Prog.epiRow
  dsimp only
  (repeat' split) <;> simp [h]
@[simp] theorem Prog.epilogue_wf (p : Prog) (o : OpCtx) (cols : List Nat) (zOf : Nat → Option Ex) (h : Memory.wf p.s.mem = true) :
    Memory.wf (p.epilogue o cols zOf).s.mem = true := by
  unfold Prog.epilogue
  split
  · exact h
  · exact Prog.fold_wf h fun q m hq => Prog.do_wf (by simp [hq]) (Prog.epiRow_wf _ _ _ _ _ _ (by simp [hq]))

/-! Neuron prediction. -/

@[simp] theorem Prog.withCsr_wf (p : Prog) (o : OpCtx) (h : Memory.wf p.s.mem = true) : Memory.wf (p.withCsr o).1.s.mem = true := by
  unfold Prog.withCsr
  split <;> simp [h]
@[simp] theorem Prog.putH_wf (p : Prog) (o : OpCtx) (d : Desc) (n : Nat) (f : State → Nat → Ex) (h : Memory.wf p.s.mem = true) :
    Memory.wf (p.putH o d n f).s.mem = true := by
  have hp := p.s.putBits_wf o.ag d.space (((List.range o.g.m).filter fun m => !(o.masked m n)).flatMap fun m =>
    partsPut (elemCode d.fmt false ⟨f p.s m, false⟩ none).1 (d.parts n m 0 0)) h
  unfold Prog.putH
  dsimp only
  split <;> next e => exact wf_of_fst e hp
@[simp] theorem State.updSet_mem (ctx core opid : Nat) (f : SpecSet → SpecSet) : (s.updSet ctx core opid f).mem = s.mem := by
  simp [State.updSet]
@[simp] theorem State.writeSet_mem (ctx core : Nat) (x : SpecSet) (st : Status) : (s.writeSet ctx core x st).mem = s.mem := by
  simp [State.writeSet]
@[simp] theorem State.dropSet_mem (ctx core : Nat) (x : SpecSet) : (s.dropSet ctx core x).mem = s.mem := by simp [State.dropSet]
@[simp] theorem State.settleSet_mem (ctx core : Nat) (x : SpecSet) : (s.settleSet ctx core x).mem = s.mem := by simp [State.settleSet]
@[simp] theorem Prog.correct_wf (p : Prog) (op : MxOp) (core : Nat) (x : SpecSet) (ns : List Nat) (h : Memory.wf p.s.mem = true) :
    Memory.wf (p.correct op core x ns).s.mem = true := by
  unfold Prog.correct
  extract_lets o hd w c2 oc
  refine Prog.fold_wf h fun q n hq => ?_
  split
  next q1 hb e =>
  have h1 := Prog.wf_of_eq e (q.fetch_wf _ _ _ hq)
  split
  next q2 wb e =>
  have h2 := Prog.wf_of_eq e (q1.fetch_wf _ _ _ h1)
  split
  next q3 sc e =>
  have h3 : Memory.wf q3.s.mem = true := Prog.wf_of_eq e (by split <;> simp [h2])
  exact Prog.do_wf h3 (foldl_wf _ _ _ h3 fun t m ht => foldl_wf _ _ _ ht fun u j hu => by simp [hu])
@[simp] theorem Prog.checkTile_wf (p : Prog) (op : MxOp) (core width : Nat) (x : SpecSet) (h : Memory.wf p.s.mem = true) :
    Memory.wf (p.checkTile op core width x).1.s.mem = true := by
  unfold Prog.checkTile
  extract_lets s1 due cols
  split
  next p1 o e =>
  have h1 := Prog.wf_of_eq e (p.withCsr_wf _ h)
  split
  next p2 mask e =>
  have h2 := Prog.wf_of_eq e (p1.readMask_wf _ _ _ _ h1)
  extract_lets o2 p3 proven p4 p5
  have hr := p2.runTile_wf o2 false cols h2
  have h3 : Memory.wf p3.s.mem = true := Prog.do_wf hr (by split <;> simp [hr])
  split
  · exact h3
  · have h4 : Memory.wf p4.s.mem = true := Prog.fold_wf h3 fun q n hq => q.putH_wf _ _ _ _ hq
    unfold p5
    split <;> simp [h4]
@[simp] theorem Prog.tileCounts_mem (p : Prog) : p.tileCounts.mem = p.s.mem := by simp [Prog.tileCounts]
@[simp] theorem State.checkCounts_mem (x y : SpecSet) : (s.checkCounts x y).mem = s.mem := by simp [State.checkCounts]
@[simp] theorem Prog.drainSet_wf (op : MxOp) (core width fuel : Nat) (x : SpecSet) (p : Prog) (h : Memory.wf p.s.mem = true) :
    Memory.wf (Prog.drainSet op core width fuel x p).1.s.mem = true := by
  induction fuel generalizing x p with
  | zero => exact h
  | succ f ih =>
    rw [Prog.drainSet]
    split
    · exact h
    split
    · exact p.correct_wf _ _ _ _ h
    · split
      next q y e =>
      have hq := Prog.wf_of_eq e (Prog.checkTile_wf _ _ _ _ _ h)
      extract_lets r
      have hr : Memory.wf r.s.mem = true := by simp [r, hq]
      split
      · exact hr
      · exact ih _ _ (by simp [hr])
@[simp] theorem Prog.predict_wf (p : Prog) (o : OpCtx) (width v : Nat) (h : Memory.wf p.s.mem = true) :
    Memory.wf (p.predict o width v).1.s.mem = true := by
  unfold Prog.predict
  extract_lets ls pd qd r c1 o1
  split
  next q o2 e =>
  have hq := Prog.wf_of_eq e (p.withCsr_wf _ h)
  extract_lets p1
  have h1 : Memory.wf p1.s.mem = true := Prog.fold_wf hq fun x cols hx => x.runTile_wf _ _ _ hx
  refine foldl_prog_fst_wf _ _ _ h1 fun a cols ha => ?_
  split
  next x out =>
  split
  · exact ha
  extract_lets wide o4
  refine foldl_prog_fst_wf _ _ _ ha fun b k hb => ?_
  split
  next y acc =>
  extract_lets rows
  split
  next y1 t e =>
  have hy := Prog.wf_of_eq e (y.loadTile_wf _ _ _ _ hb)
  split
  next y2 acc e =>
  have hz : Memory.wf y2.s.mem = true := Prog.wf_of_eq e (foldl_prog_fst_wf _ _ _ hy fun z m hz => ?_)
  · split <;> exact hz
  · extract_lets z1 acc
    have hz1 : Memory.wf z1.s.mem = true := Prog.do_wf hz (by simp [hz])
    split
    · exact hz1
    · split
      next z2 xs e =>
      have h2 := Prog.wf_of_eq e (z1.rowVals_wf _ _ _ hz1)
      exact h2
@[simp] theorem Prog.producer_wf (p : Prog) (op : MxOp) (core width : Nat) (o : OpCtx) (v : Nat) (h : Memory.wf p.s.mem = true) :
    Memory.wf (p.producer op core width o v).1.s.mem = true := by
  unfold Prog.producer
  extract_lets i hd x0
  split
  next q scores e =>
  have hq := Prog.wf_of_eq e (p.predict_wf _ _ _ h)
  split
  · exact hq
  · split
    next act rest full e =>
    extract_lets x q1 q2 q3 clear q4 q5 q6 q7
    have h2 : Memory.wf q2.s.mem = true := Prog.fold_wf hq fun y t hy => y.runTile_wf _ _ _ hy
    have h3 : Memory.wf q3.s.mem = true := Prog.do_wf h2 (by split <;> simp [h2])
    have h4 : Memory.wf q4.s.mem = true := by
      unfold q4
      split
      · exact Prog.do_wf h3 (foldl_wf _ _ _ h3 fun t m ht => by simp [ht])
      · exact h3
    have h5 : Memory.wf q5.s.mem = true := Prog.fold_wf h4 fun y n hy => y.putH_wf _ _ _ _ hy
    have h6 : Memory.wf q6.s.mem = true := Prog.fold_wf h5 fun y n hy => y.putH_wf _ _ _ _ hy
    have h7 : Memory.wf q7.s.mem = true := Prog.do_wf h6 (by simp [h6])
    exact h7

/-! Products, compressions and drains. -/

@[simp] theorem Prog.consume_wf (p : Prog) (op : MxOp) (core width : Nat) (h : Memory.wf p.s.mem = true) :
    Memory.wf (p.consume op core width).s.mem = true := by
  refine Prog.fold_wf h fun q x hq => ?_
  split
  next r y e =>
  have hr := Prog.wf_of_eq e (Prog.drainSet_wf _ _ _ _ _ _ hq)
  split
  · exact hr
  · simp [hr]
@[simp] theorem State.mxCounts_mem (op : MxOp) (p : Prog) (n : Nat) : (s.mxCounts op p n).mem = s.mem := by simp [State.mxCounts]
@[simp] theorem State.runMxa_wf (op : MxOp) (core width : Nat) (lim : Option Nat) (halt : Status) (h : Memory.wf s.mem = true) :
    Memory.wf (s.runMxa op core width lim halt).s.mem = true := by
  unfold State.runMxa
  extract_lets i v prod cons nopred
  split
  next p1 o e =>
  have h1 := Prog.wf_of_eq e (Prog.withCsr_wf _ _ h)
  split
  next p2 mask e =>
  have h2 := Prog.wf_of_eq e (p1.readMask_wf _ _ _ _ h1)
  extract_lets o2 cols maskedRows allMasked q1 q2 q3
  have hq2 : Memory.wf q2.s.mem = true := by unfold q2; split <;> simp [q1, h2]
  have hq3 : Memory.wf q3.s.mem = true := by
    unfold q3
    split
    · exact Prog.do_wf hq2 (by simp [hq2])
    · exact hq2
  split
  next p3 x e =>
  have h3 : Memory.wf p3.s.mem = true := Prog.wf_of_eq e (by
    split
    · exact h2
    split
    · simp [h2]
    · exact Prog.do_wf hq3 (by simp [hq3]))
  extract_lets p4 rest full p5 flags flag st t1 t2 t3 t4 t5
  have h4 : Memory.wf p4.s.mem = true := by simp [p4, h3]
  have h5 : Memory.wf p5.s.mem = true := by unfold p5; split <;> exact h4
  have ht4 : Memory.wf t4.mem = true := by simp [t4, t3, t2, t1, h5]
  have ht5 : Memory.wf t5.mem = true := by unfold t5; split <;> split <;> simp [ht4]
  split
  · exact h4
  · exact ht5
@[simp] theorem State.runCmpr_wf (op : MxOp) (core : Nat) (h : Memory.wf s.mem = true) : Memory.wf (s.runCmpr op core).s.mem = true := by
  unfold State.runCmpr
  extract_lets ag a b k p groups body
  split
  next q lines e =>
  have hq : Memory.wf q.s.mem = true := Prog.wf_of_eq e (foldl_prog_fst_wf _ _ _ h fun x r hx => x.1.fetch_wf _ _ _ hx)
  split
  · exact hq
  split
  · exact hq
  extract_lets code kept off lost puts
  split
  · simp [hq]
  · have hp := q.s.putBits_wf ag b.space puts hq
    split
    · next t _ e =>
      have ht := wf_of_fst e hp
      dsimp only
      split <;> simp [ht]
    · next e => exact wf_of_fst e hp
    · next e => exact wf_of_fst e hp
@[simp] theorem State.rwClear_mem (ctx core cb : Nat) : (s.rwClear ctx core cb).mem = s.mem := by simp [State.rwClear]
@[simp] theorem State.runDrain_wf (op : MxOp) (core : Nat) (h : Memory.wf s.mem = true) :
    Memory.wf (s.runDrain op core).s.mem = true := by
  unfold State.runDrain
  extract_lets ag ls v d word tab p near hbm logOf
  split
  · simp [h]
  split
  next p1 nb e =>
  have h1 : Memory.wf p1.s.mem = true := Prog.wf_of_eq e (Prog.fetch_wf _ _ _ _ h)
  split
  next p2 hb e =>
  have h2 : Memory.wf p2.s.mem = true := Prog.wf_of_eq e (p1.fetch_wf _ _ _ h1)
  split
  · exact h2
  split
  · exact h2
  extract_lets pairs out body
  split
  next t st e =>
  have ht := wf_of_fst e (p2.s.spWrite_wf _ _ _ _ h2)
  split
  · exact ht
  split
  · simp [ht]
  · simp [ht]
@[simp] theorem State.mxEnd_mem (core : Nat) (op : MxOp) (st : Status) (body : Nat) (pos : Option Nat) :
    (s.mxEnd core op st body pos).mem = s.mem := by
  unfold State.mxEnd
  dsimp only
  (repeat' split) <;> simp
@[simp] theorem State.mxRun_wf (op : MxOp) (core width : Nat) (h : Memory.wf s.mem = true) :
    Memory.wf (s.mxRun op core width).s.mem = true := by
  unfold State.mxRun
  dsimp only
  (repeat' split) <;> simp [h]
@[simp] theorem State.mxStop_wf (core : Nat) (op : MxOp) (code : Status) (h : Memory.wf s.mem = true) :
    Memory.wf (s.mxStop core op code).mem = true := by
  unfold State.mxStop
  dsimp only
  (repeat' split) <;> simp [h]
@[simp] theorem State.updOp_mem (ctx core id : Nat) (f : MxOp → MxOp) : (s.updOp ctx core id f).mem = s.mem := by simp [State.updOp]
@[simp] theorem execMxaOpComplete_wf (core : Fin 576) (h : Memory.wf s.mem = true) :
    Memory.wf (stateOf s (execMxaOpComplete core s)).mem = true := by
  unfold execMxaOpComplete
  dsimp only
  (repeat' split) <;> simp [h]
@[simp] theorem execSpecCheckTile_wf (core : Fin 576) (h : Memory.wf s.mem = true) :
    Memory.wf (stateOf s (execSpecCheckTile core s)).mem = true := by
  unfold execSpecCheckTile
  dsimp only
  (repeat' split) <;> simp [h]

/-! The control instructions. -/

@[simp] theorem Iss.branch_mem (i : Iss) (g : Group) (rpc : Nat) (paths : List (Nat × Lanes)) : (i.branch g rpc paths).mem = i.s.mem := by
  unfold Iss.branch
  split <;> simp
@[simp] theorem execNop_mem (g : GRef) (w : IWord) : (stateOf s (execNop g w s)).mem = s.mem := by simp [execNop]
@[simp] theorem execBra_mem (g : GRef) (w : IWord) : (stateOf s (execBra g w s)).mem = s.mem := by simp [execBra]
@[simp] theorem execBri_mem (g : GRef) (w : IWord) : (stateOf s (execBri g w s)).mem = s.mem := by simp [execBri]
@[simp] theorem execCall_mem (g : GRef) (w : IWord) : (stateOf s (execCall g w s)).mem = s.mem := by simp [execCall]
@[simp] theorem execRet_mem (g : GRef) (w : IWord) : (stateOf s (execRet g w s)).mem = s.mem := by simp [execRet]
@[simp] theorem execExit_mem (g : GRef) (w : IWord) : (stateOf s (execExit g w s)).mem = s.mem := by simp [execExit]
@[simp] theorem execYield_mem (g : GRef) (w : IWord) : (stateOf s (execYield g w s)).mem = s.mem := by
  unfold execYield
  refine issue_mem _ _ _ _ _ fun i => ?_
  dsimp only
  (repeat' split) <;> simp
@[simp] theorem execGsync_mem (g : GRef) (w : IWord) : (stateOf s (execGsync g w s)).mem = s.mem := by simp [execGsync]
@[simp] theorem execBkpt_mem (g : GRef) (w : IWord) : (stateOf s (execBkpt g w s)).mem = s.mem := by simp [execBkpt]
@[simp] theorem execSrd_mem (g : GRef) (w : IWord) : (stateOf s (execSrd g w s)).mem = s.mem := by simp [execSrd]

/-! Requests from outside. -/

@[simp] theorem State.reply_mem (r : Req) : (s.reply r).mem = s.mem := by
  unfold State.reply
  split <;> simp
@[simp] theorem State.denyPkt_mem (p : Nat) (r : Req) (st : Status) : (s.denyPkt p r st).mem = s.mem := by simp [State.denyPkt]
@[simp] theorem State.denyWaiting_mem (ctx : Nat) : (s.denyWaiting ctx).mem = s.mem := by
  unfold State.denyWaiting
  refine foldl_mem _ _ _ fun t r => ?_
  (repeat' split) <;> simp
@[simp] theorem State.answerFrame_mem (g : Nat) (rs : RStream) (f : RFrame) : (s.answerFrame g rs f).mem = s.mem := by
  simp [State.answerFrame]
@[simp] theorem State.gwSweep_mem : (s.gwSweep).mem = s.mem := by
  unfold State.gwSweep
  refine foldl_mem _ _ _ fun t g => foldl_mem _ _ _ fun t rs => foldl_mem _ _ _ fun t f => ?_
  split <;> simp
@[simp] theorem State.afterDone_mem (id : Nat) : (s.afterDone id).mem = s.mem := by fun_cases State.afterDone <;> simp

/-! What a launch is checked for, and its end. -/

@[simp] theorem State.codeHeader_wf (ctx code : Nat) (h : Memory.wf s.mem = true) : Memory.wf (s.codeHeader ctx code).1.mem = true := by
  unfold State.codeHeader
  split <;> simp [h]
@[simp] theorem State.lockPages_wf (ctx code size : Nat) (h : Memory.wf s.mem = true) :
    Memory.wf (s.lockPages ctx code size).mem = true := by
  unfold State.lockPages
  extract_lets x hit t u
  exact foldl_wf _ _ _ h fun a e ha => a.setEntry_wf _ _ _ _ ha
@[simp] theorem State.releaseCores_mem (l : Launch) : (s.releaseCores l).mem = s.mem := by simp [State.releaseCores]
@[simp] theorem State.quenchLaunch_wf (l : Launch) (code : Status) (h : Memory.wf s.mem = true) :
    Memory.wf (s.quenchLaunch l code).mem = true :=
  foldl_wf _ _ _ h fun t n ht => by
    extract_lets i t1 t2 t3
    have h1 : Memory.wf t1.mem = true := foldl_wf _ _ _ ht fun a o ha => by split <;> simp [ha]
    have h2 : Memory.wf t2.mem = true := foldl_wf _ _ _ h1 fun a o ha => by split <;> simp [ha]
    simp [t3, h2]
@[simp] theorem State.endLaunch_wf (l : Launch) (st : Status) (replay : Nat) (h : Memory.wf s.mem = true) :
    Memory.wf (s.endLaunch l st replay).mem = true := by
  unfold State.endLaunch
  dsimp only
  (repeat' split) <;> simp [h]

/-! LAUNCH from its check to its record. -/

@[simp] theorem readReplay_wf (ag : Ag) (n a : Nat) (acc : List (Nat × Nat)) (h : Memory.wf s.mem = true) :
    Memory.wf (readReplay ag n a acc s).1.mem = true := by
  induction n generalizing a acc s with
  | zero => exact h
  | succ n ih =>
    have hr := s.agRead_wf ag .read a 128 h
    rw [readReplay]
    split
    · next e => exact wf_of_fst e hr
    · next e => exact wf_of_fst e hr
    · next e =>
      dsimp only
      split
      · exact wf_of_fst e hr
      · exact ih _ _ _ (wf_of_fst e hr)
@[simp] theorem State.entryBad_wf (ctx img : Nat) (h : Memory.wf s.mem = true) : Memory.wf (s.entryBad ctx img).1.mem = true := by
  simp [State.entryBad, h]
@[simp] theorem State.entriesBad_wf (ctx : Nat) (l : List (Nat × Nat)) (h : Memory.wf s.mem = true) :
    Memory.wf (s.entriesBad ctx l).1.mem = true :=
  foldl_fst_wf _ _ _ h fun t _ ht => t.1.entryBad_wf _ _ ht
@[simp] theorem State.acceptLaunch_mem (ctx ring : Nat) (c : Cmd) (h : Header) (l : List (Nat × Nat)) :
    (s.acceptLaunch ctx ring c h l).mem = s.mem := by
  simp [State.acceptLaunch]
@[simp] theorem execLaunch_wf (ctx : Fin 4097) (ring : Fin 8) (h : Memory.wf s.mem = true) :
    Memory.wf (stateOf s (execLaunch ctx ring s)).mem = true := by
  unfold execLaunch
  refine ringCmd_wf _ _ _ _ _ h fun c => ?_
  split
  next s1 hd e =>
  have h1 := wf_of_fst e (s.codeHeader_wf _ _ h)
  split
  next s2 rl e =>
  have h2 : Memory.wf s2.mem = true := wf_of_fst e (by
    split
    · split <;> simp [h1]
    · exact h1)
  split
  · simp [h]
  · extract_lets l
    split
    next s3 eb e =>
    have h3 := wf_of_fst e (s2.entriesBad_wf _ _ h2)
    extract_lets s4 why
    have h4 : Memory.wf s4.mem = true := by simp [s4, h3]
    split
    · split <;> simp [h4]
    · simp [h4]
    · exact h4
@[simp] theorem launchCmd_mem (ctx ring stage : Nat) (body : Cmd → Launch → State) (hb : ∀ c l, (body c l).mem = s.mem) :
    (stateOf s (launchCmd s ctx ring stage body)).mem = s.mem := by
  unfold launchCmd
  (repeat' split) <;> simp [hb]
theorem launchCmd_wf (ctx ring stage : Nat) (body : Cmd → Launch → State) (h : Memory.wf s.mem = true)
    (hb : ∀ c l, Memory.wf (body c l).mem = true) : Memory.wf (stateOf s (launchCmd s ctx ring stage body)).mem = true := by
  unfold launchCmd
  (repeat' split) <;> simp [h, hb]
@[simp] theorem execCodeMeasure_wf (ctx : Fin 4097) (ring : Fin 8) (h : Memory.wf s.mem = true) :
    Memory.wf (stateOf s (execCodeMeasure ctx ring s)).mem = true := by
  unfold execCodeMeasure
  refine launchCmd_wf _ _ _ _ _ h fun c l => ?_
  dsimp only
  split
  · simp [h]
  · have hl := State.lockPages_wf (s.updCmd ctx.val ring.val fun c => { c with stage := 2 }) ctx.val l.code l.size (by simp [h])
    simp [hl]
@[simp] theorem State.endReplay_wf (main entry : Launch) (st : Status) (h : Memory.wf s.mem = true) :
    Memory.wf (s.endReplay main entry st).mem = true := by
  simp [State.endReplay, h]
@[simp] theorem execReplayEntryStart_wf (ctx : Fin 4097) (ring : Fin 8) (h : Memory.wf s.mem = true) :
    Memory.wf (stateOf s (execReplayEntryStart ctx ring s)).mem = true := by
  unfold execReplayEntryStart
  refine launchCmd_wf _ _ _ _ _ h fun c main => ?_
  split
  · exact h
  split
  · exact h
  extract_lets t0
  split
  next t hd e =>
  have ht : Memory.wf t.mem = true := wf_of_fst e (by simp [t0, h])
  split
  · simp [ht]
  · exact ht
  · simp [ht]
@[simp] theorem State.dropLaunch_wf (l : Launch) (st : Status) (h : Memory.wf s.mem = true) :
    Memory.wf (s.dropLaunch l st).mem = true := by
  fun_cases State.dropLaunch <;> simp [h]
@[simp] theorem execLaunchStart_wf (ctx : Fin 4097) (ring : Fin 8) (h : Memory.wf s.mem = true) :
    Memory.wf (stateOf s (execLaunchStart ctx ring s)).mem = true := by
  unfold execLaunchStart
  refine launchCmd_wf _ _ _ _ _ h fun c l => ?_
  extract_lets x fit all free n cores
  split
  · exact h
  split
  · simp [h]
  split
  · exact h
  split
  · simp [h]
  · next e =>
    have ht : Memory.wf _ = true := wf_of_fst e (by split <;> simp [h])
    simp [ht]
  · next t ps e =>
    have ht : Memory.wf t.mem = true := wf_of_fst e (by split <;> simp [h])
    extract_lets t1 t2
    have h2 : Memory.wf t2.mem = true := foldl_wf _ _ _ (by simp [t1, ht]) fun a b ha => ha
    simp [h2]
@[simp] theorem execLaunchComplete_wf (ctx : Fin 4097) (ring : Fin 8) (h : Memory.wf s.mem = true) :
    Memory.wf (stateOf s (execLaunchComplete ctx ring s)).mem = true := by
  unfold execLaunchComplete
  refine launchCmd_wf _ _ _ _ _ h fun c l => ?_
  split
  · exact h
  split <;> simp [h]
@[simp] theorem execLaunchTeardown_wf (ctx : Fin 4097) (ring : Fin 8) (h : Memory.wf s.mem = true) :
    Memory.wf (stateOf s (execLaunchTeardown ctx ring s)).mem = true := by
  unfold execLaunchTeardown
  dsimp only
  (repeat' split) <;> simp [h]
@[simp] theorem execKernelDeadlineExpiry_mem (ctx : Fin 4097) (ring : Fin 8) :
    (stateOf s (execKernelDeadlineExpiry ctx ring s)).mem = s.mem := by
  simp [execKernelDeadlineExpiry]

/-! The Yew recorder. -/

@[simp] theorem State.yewPut_mem (slot : Nat) (y : Yew) : (s.yewPut slot y).mem = s.mem := by rw [State.yewPut, State.updRep_mem]
@[simp] theorem State.yewFull_mem : (s.yewFull).mem = s.mem := by simp [State.yewFull]
@[simp] theorem execYewProgram_mem : (stateOf s (execYewProgram s)).mem = s.mem := by
  unfold execYewProgram
  split <;> simp
@[simp] theorem State.yewErase_mem (sector : Nat) : (s.yewErase sector).mem = s.mem := by simp [State.yewErase]
@[simp] theorem State.yewClearNow_mem (cls session : Nat) : (s.yewClearNow cls session).mem = s.mem := by simp [State.yewClearNow]
@[simp] theorem execYewSectorErase_mem : (stateOf s (execYewSectorErase s)).mem = s.mem := by simp [execYewSectorErase]
@[simp] theorem State.yewScan_mem : (s.yewScan).mem = s.mem := by simp [State.yewScan]
@[simp] theorem execAlarmHoldRelease_mem (key : Nat) : (stateOf s (execAlarmHoldRelease key s)).mem = s.mem := by
  unfold execAlarmHoldRelease
  split <;> simp

/-! Fencing and self-tests. -/

@[simp] theorem State.dropCore_mem (n : Nat) : (s.dropCore n).mem = s.mem := by simp [State.dropCore]
@[simp] theorem State.recheckLaunches_wf (h : Memory.wf s.mem = true) : Memory.wf (s.recheckLaunches).mem = true :=
  foldl_wf _ _ _ h fun t l ht => by
    split
    · exact ht
    · dsimp only
      split <;> simp [ht]
@[simp] theorem State.fenceCore_wf (p cause : Nat) (h : Memory.wf s.mem = true) : Memory.wf (s.fenceCore p cause).mem = true := by
  unfold State.fenceCore
  dsimp only
  (repeat' split) <;> simp [h]
@[simp] theorem execCoreFence_wf (ctx : Fin 4097) (ring : Fin 8) (h : Memory.wf s.mem = true) :
    Memory.wf (stateOf s (execCoreFence ctx ring s)).mem = true := by
  unfold execCoreFence
  refine ringCmdChecked_wf _ _ _ _ _ _ h fun c => ?_
  split <;> simp [h]
@[simp] theorem State.updKat_mem (p : Nat) (f : Kat → Kat) : (s.updKat p f).mem = s.mem := by simp [State.updKat]
@[simp] theorem State.selftest_wf (p vector failing : Nat) (h : Memory.wf s.mem = true) :
    Memory.wf (s.selftest p vector failing).mem = true := by
  simp [State.selftest, h]
@[simp] theorem execSelftestRun_wf (core : Fin 640) (vector : Fin 8) (failing : BitVec 16) (h : Memory.wf s.mem = true) :
    Memory.wf (stateOf s (execSelftestRun core vector failing s)).mem = true := by
  simp [execSelftestRun, h]
@[simp] theorem execSelftestForced_wf (core : Fin 640) (vector : Fin 8) (failing : BitVec 16) (h : Memory.wf s.mem = true) :
    Memory.wf (stateOf s (execSelftestForced core vector failing s)).mem = true := by
  simp [execSelftestForced, h]

/-! LD and ST under the code of their words. -/

@[simp] theorem State.sramLost_wf (p : Nat) (h : Memory.wf s.mem = true) : Memory.wf (s.sramLost p).mem = true := by
  simp [State.sramLost, h]
@[simp] theorem Iss.checked_wf (i : Iss) (w : IWord) (ecc : Ecc) (body : Iss → State) (h : Memory.wf i.s.mem = true)
    (hb : ∀ j : Iss, Memory.wf j.s.mem = true → Memory.wf (body j).mem = true) : Memory.wf (i.checked w ecc body).mem = true := by
  unfold Iss.checked
  (repeat' split) <;> simp [h, hb]
/-- The counterpart of `issue_mem` for an instruction that may write. -/
theorem issue_wf (g : GRef) (w : IWord) (legal : Group → Bool) (body : Iss → State) (h : Memory.wf s.mem = true)
    (hb : ∀ i : Iss, Memory.wf i.s.mem = true → Memory.wf (body i).mem = true) :
    Memory.wf (stateOf s (issue s g w legal body)).mem = true := by
  unfold issue
  dsimp only
  (repeat' split) <;> simp [h, hb]
@[simp] theorem execLd_wf (g : GRef) (w : IWord) (ecc : Ecc) (h : Memory.wf s.mem = true) :
    Memory.wf (stateOf s (execLd g w ecc s)).mem = true :=
  issue_wf _ _ _ _ _ h fun i hi => Iss.checked_wf i w ecc _ hi fun j hj => by simp [hj]
@[simp] theorem execSt_wf (g : GRef) (w : IWord) (ecc : Ecc) (h : Memory.wf s.mem = true) :
    Memory.wf (stateOf s (execSt g w ecc s)).mem = true :=
  issue_wf _ _ _ _ _ h fun i hi => Iss.checked_wf i w ecc _ hi fun j hj => by simp [hj]

/-! Debugging and stepping. -/

@[simp] theorem State.dbgNote_mem (c : Cls) (action addr : Nat) (st : Status) : (s.dbgNote c action addr st).mem = s.mem := by
  simp [State.dbgNote]
@[simp] theorem State.dbgAct_mem (c : Cls) (a : Nat) (body : State → State × Status) (addr : Nat) (hb : ∀ t, (body t).1.mem = t.mem) :
    (s.dbgAct c a body addr).1.mem = s.mem := by
  unfold State.dbgAct
  dsimp only
  (repeat' split) <;> simp [hb]
@[simp] theorem State.haltAll_mem (c : Nat) (gs : List (Nat × Nat)) : (s.haltAll c gs).mem = s.mem := by simp [State.haltAll]
@[simp] theorem State.resumeAll_mem (c : Nat) (gs : List (Nat × Nat)) : (s.resumeAll c gs).mem = s.mem := by simp [State.resumeAll]
@[simp] theorem State.dbgNewTarget_mem : (s.dbgNewTarget).mem = s.mem := by simp [State.dbgNewTarget]
@[simp] theorem State.dbgHalt_mem (c : Cls) : (s.dbgHalt c).1.mem = s.mem := by simp [State.dbgHalt]
@[simp] theorem State.dbgResume_mem (c : Cls) : (s.dbgResume c).1.mem = s.mem := by simp [State.dbgResume]
@[simp] theorem execGroupHalt_mem (g : GRef) : (stateOf s (execGroupHalt g s)).mem = s.mem := by
  unfold execGroupHalt
  dsimp only
  (repeat' split) <;> simp
/-- Every instruction that the decoder knows keeps memory canonical. -/
theorem opExec_wf (g : GRef) (w : IWord) (h : Memory.wf s.mem = true) : ∀ e ∈ opExec, Memory.wf (stateOf s (e.2 g w s)).mem = true := by
  simp [opExec, h]
@[simp] theorem State.runOne_wf (ctx : Nat) (g : GRef) (pc : Nat) (h : Memory.wf s.mem = true) :
    Memory.wf (s.runOne ctx g pc).mem = true := by
  have hi : Memory.wf (stateOf s (issue s g {} (fun _ => false) fun i => i.s)).mem = true := issue_wf _ _ _ _ _ h fun i hi => hi
  unfold State.runOne
  extract_lets illegal
  split
  · exact hi
  split
  next t st bs e =>
  have ht := wf_of_fst e (s.devRead_wf _ _ h)
  split
  · split <;> simp [ht]
  · extract_lets w
    split
    · next f hf => exact opExec_wf t _ _ ht _ (List.mem_of_find?_eq_some hf)
    · exact hi
theorem State.dbgAct_wf (c : Cls) (a : Nat) (body : State → State × Status) (addr : Nat) (h : Memory.wf s.mem = true)
    (hb : ∀ t, Memory.wf t.mem = true → Memory.wf (body t).1.mem = true) : Memory.wf (s.dbgAct c a body addr).1.mem = true := by
  unfold State.dbgAct
  extract_lets v
  split
  next t st e =>
  have ht : Memory.wf t.mem = true := wf_of_fst e (by
    split
    · exact h
    split
    · refine hb _ ?_
      split <;> exact h
    · exact h)
  simp [ht]
@[simp] theorem State.dbgStep_wf (c : Cls) (h : Memory.wf s.mem = true) : Memory.wf (s.dbgStep c).1.mem = true := by
  refine s.dbgAct_wf _ _ _ _ h fun t ht => ?_
  extract_lets v x n k
  split
  · exact ht
  · split
    · split
      · exact ht
      · simp [ht]
    · exact ht
@[simp] theorem State.dbgRead_mem (c : Cls) : (s.dbgRead c).1.mem = s.mem := by simp [State.dbgRead]
@[simp] theorem State.dbgWrite_mem (c : Cls) (data : List Byte) : (s.dbgWrite c data).1.mem = s.mem := by
  unfold State.dbgWrite
  refine State.dbgAct_mem _ _ _ _ _ fun t => ?_
  dsimp only
  (repeat' split) <;> simp
@[simp] theorem State.bpWrite_mem (c : Cls) (sub v : Nat) : (s.bpWrite c sub v).1.mem = s.mem := by simp [State.bpWrite]
@[simp] theorem State.dbgToken_mem (cls : Cls) (t : Token) : (s.dbgToken cls t).1.mem = s.mem := by simp [State.dbgToken]
@[simp] theorem State.seedWrite_mem (ctx seed : Nat) : (s.seedWrite ctx seed).mem = s.mem := by simp [State.seedWrite]

/-! Askik ports. -/

@[simp] theorem State.emitFlit_mem (p : Nat) (f : BitVec 2048) : (s.emitFlit p f).mem = s.mem := by simp [State.emitFlit]
@[simp] theorem State.movePort_mem (p : Nat) (f : Port → Port) : (s.movePort p f).mem = s.mem := by simp [State.movePort]
@[simp] theorem State.portAttempt_mem (p : Nat) : (s.portAttempt p).mem = s.mem := by simp [State.portAttempt]
@[simp] theorem State.attemptFail_mem (p : Nat) (st : Status) : (s.attemptFail p st).mem = s.mem := by simp [State.attemptFail]
@[simp] theorem State.sendInit_mem (p : Nat) : (s.sendInit p).mem = s.mem := by simp [State.sendInit]
@[simp] theorem State.beginInit_mem (p : Nat) : (s.beginInit p).mem = s.mem := by simp [State.beginInit]
@[simp] theorem State.sendKeyx_mem (p typ : Nat) (msg : List Byte) : (s.sendKeyx p typ msg).mem = s.mem := by simp [State.sendKeyx]
@[simp] theorem State.newHello_mem : (s.newHello).1.mem = s.mem := by simp [State.newHello]
@[simp] theorem State.beginKeyx_mem (p : Nat) : (s.beginKeyx p).mem = s.mem := by simp [State.beginKeyx]
@[simp] theorem State.queuePkt_mem (p : Nat) (k : TxPkt) : (s.queuePkt p k).mem = s.mem := by simp [State.queuePkt]
@[simp] theorem State.matchOffer_mem (p ctx : Nat) : (s.matchOffer p ctx).mem = s.mem := by
  unfold State.matchOffer
  split <;> simp
@[simp] theorem State.offerKey_mem (p ctx : Nat) : (s.offerKey p ctx).mem = s.mem := by
  unfold State.offerKey
  split <;> simp
@[simp] theorem State.offerAll_mem (ctx : Nat) : (s.offerAll ctx).mem = s.mem := by simp [State.offerAll]
@[simp] theorem State.activate_mem (p : Nat) (salt : BitVec 384) (tx rx : BitVec 288) : (s.activate p salt tx rx).mem = s.mem := by
  simp [State.activate]
@[simp] theorem State.finishFrame_mem (g : Nat) (st : Stream) (f : GFrame) (code : Status) : (s.finishFrame g st f code).mem = s.mem := by
  unfold State.finishFrame
  dsimp only
  split
  · rfl
  · refine (foldl_mem _ _ _ fun t id => State.updLaunch_mem ..).trans ((foldl_mem _ _ _ fun t id => State.failCmd_mem ..).trans ?_)
    refine (foldl_mem _ _ _ fun t id => ?_).trans (by simp)
    (repeat' split) <;> simp
@[simp] theorem State.moveStreams_mem : (s.moveStreams).mem = s.mem := by
  unfold State.moveStreams
  refine foldl_mem _ _ _ fun t g => foldl_mem _ _ _ fun t st => ?_
  dsimp only
  (repeat' split) <;> simp
@[simp] theorem State.dropTraffic_mem (p : Nat) : (s.dropTraffic p).mem = s.mem := by
  refine foldl_mem _ _ _ fun t r => ?_
  split <;> simp
@[simp] theorem State.linkDown_mem (p : Nat) (cause : DownCause) : (s.linkDown p cause).mem = s.mem := by simp [State.linkDown]
@[simp] theorem State.portChanged_mem (p : Nat) : (s.portChanged p).mem = s.mem := by simp [State.portChanged]
@[simp] theorem State.closeIfQuiet_mem (p : Nat) : (s.closeIfQuiet p).mem = s.mem := by simp [State.closeIfQuiet]
@[simp] theorem State.beginRekey_mem (p : Nat) : (s.beginRekey p).mem = s.mem := by simp [State.beginRekey]

/-! MAP, ACCEPT, UNMAP and the scrub of granules. -/

@[simp] theorem State.ownRange_mem (g n : Nat) (o : Owner) : (s.ownRange g n o).mem = s.mem := by simp [State.ownRange]
@[simp] theorem State.scrubRange_mem (g n : Nat) : (s.scrubRange g n).mem = s.mem := by simp [State.scrubRange]
theorem State.proposePages_wf {c a0 a1 a : Nat} {t : State} (e : s.proposePages c a0 a1 a = some t) (h : Memory.wf s.mem = true) :
    Memory.wf t.mem = true := by
  refine foldl_bind_wf (fun v p u hp hv => v.putLeaf_wf hp hv) e ?_
  split <;> simp [h]
@[simp] theorem State.refuseMap_wf (ctx ring : Nat) (c : Cmd) (st : Status) (d : Nat) (h : Memory.wf s.mem = true) :
    Memory.wf (s.refuseMap ctx ring c st d).mem = true := by
  simp [State.refuseMap, h]
@[simp] theorem execMap_wf (ctx : Fin 4097) (ring : Fin 8) (h : Memory.wf s.mem = true) :
    Memory.wf (stateOf s (execMap ctx ring s)).mem = true := by
  unfold execMap
  refine ringCmd_wf _ _ _ _ _ h fun c => ?_
  dsimp only
  split
  · simp [h]
  · split
    · simp [h]
    · next u e => simp [s.proposePages_wf e h]
@[simp] theorem State.acceptPages_wf (t a0 a : Nat) (h : Memory.wf s.mem = true) : Memory.wf (s.acceptPages t a0 a).mem = true := by
  unfold State.acceptPages
  extract_lets n hi hit ls t u
  have hu : Memory.wf u.mem = true := foldl_wf _ _ _ h fun v e hv => by simp [hv]
  exact foldl_wf _ _ _ hu fun v e hv => by split <;> simp [hv]
@[simp] theorem execAccept_wf (ctx : Fin 4097) (ring : Fin 8) (h : Memory.wf s.mem = true) :
    Memory.wf (stateOf s (execAccept ctx ring s)).mem = true := by
  unfold execAccept
  refine ringCmd_wf _ _ _ _ _ h fun c => ?_
  dsimp only
  split <;> simp [h]
@[simp] theorem State.dropPrefetch_mem (t lo hi : Nat) (gone : Map Leaf) : (s.dropPrefetch t lo hi gone).mem = s.mem := by
  simp [State.dropPrefetch]
@[simp] theorem State.removeLeaves_wf (t lo hi : Nat) (h : Memory.wf s.mem = true) : Memory.wf (s.removeLeaves t lo hi).mem = true := by
  unfold State.removeLeaves
  extract_lets x hit gone locked t u v
  have hu : Memory.wf u.mem = true := foldl_wf _ _ _ h fun a e ha => by simp [ha]
  exact foldl_wf _ _ _ (by simp [v, hu]) fun a e ha => by split <;> simp [ha]
@[simp] theorem execUnmap_wf (ctx : Fin 4097) (ring : Fin 8) (h : Memory.wf s.mem = true) :
    Memory.wf (stateOf s (execUnmap ctx ring s)).mem = true := by
  simp [execUnmap, h]
/-- Zero is the absence of a cell, so a scrub filters. -/
@[simp] theorem State.zeroGranule_wf (g : Nat) (h : Memory.wf s.mem = true) : Memory.wf (s.zeroGranule g).mem = true :=
  mapFilter_wf _ _ _ h
@[simp] theorem State.freeIfDone_mem (c : Nat) : (s.freeIfDone c).mem = s.mem := by simp [State.freeIfDone]
@[simp] theorem execGranuleScrub_wf (granule : Nat) (h : Memory.wf s.mem = true) :
    Memory.wf (stateOf s (execGranuleScrub granule s)).mem = true := by
  simp [execGranuleScrub, h]

/-! Placements and partitions. -/

theorem State.reserveSaves_mem {c : Nat} {gs : List Nat} {t : State} (h : State.reserveSaves c gs s = some t) : t.mem = s.mem := by
  induction gs generalizing s with
  | nil => simp_all [State.reserveSaves]
  | cons g r ih =>
    unfold State.reserveSaves at h
    split at h
    · cases h
    · exact (ih _ h :)
theorem State.placeCtx_mem {c v : Nat} {t : State} (h : s.placeCtx c v = some t) : t.mem = s.mem := by
  unfold State.placeCtx at h
  dsimp only at h
  split at h
  · cases h
    rfl
  · split at h
    · cases h
    · next t ht =>
      cases h
      exact (s.reserveSaves_mem ht :)
@[simp] theorem State.dropCaches_mem (g n : Nat) : (s.dropCaches g n).mem = s.mem := by simp [State.dropCaches]
@[simp] theorem execSliceEnd_mem (grove0 : Fin 72) : (stateOf s (execSliceEnd grove0 s)).mem = s.mem := by
  unfold execSliceEnd
  dsimp only
  (repeat' split) <;> simp
@[simp] theorem execSwitchJobComplete_mem (grove0 : Fin 72) (die : Fin 8) :
    (stateOf s (execSwitchJobComplete grove0 die s)).mem = s.mem := by
  unfold execSwitchJobComplete
  dsimp only
  (repeat' split) <;> simp
@[simp] theorem State.switchOut_mem (c : Nat) : (s.switchOut c).mem = s.mem := by
  unfold State.switchOut
  split <;> simp
@[simp] theorem State.dropSaves_mem (c : Nat) : (s.dropSaves c).mem = s.mem := by simp [State.dropSaves]
@[simp] theorem State.unplace_mem (c : Nat) : (s.unplace c).mem = s.mem := by simp [State.unplace]

/-! EXCHANGE. -/

@[simp] theorem State.exWrite_mem (ctx : Nat) (e : Exch) (dev off : Nat) (bs : List Byte) : (s.exWrite ctx e dev off bs).mem = s.mem := by
  simp [State.exWrite]
@[simp] theorem State.exchStatus_mem (ctx : Nat) (st : Status) : (s.exchStatus ctx st).mem = s.mem := by simp [State.exchStatus]
@[simp] theorem State.exchEnd_wf (ctx ring b : Nat) (fail : Option (Status × Option Nat)) (buckets checked : Nat) (cnt : List Nat)
    (h : Memory.wf s.mem = true) : Memory.wf (s.exchEnd ctx ring b fail buckets checked cnt).mem = true := by
  unfold State.exchEnd
  dsimp only
  (repeat' split) <;> simp [h]
@[simp] theorem State.exchFail_mem (ctx : Nat) (st : Status) (dev : Option Nat) (tell : Bool) :
    (s.exchFail ctx st dev tell).mem = s.mem := by
  unfold State.exchFail
  split <;> simp
@[simp] theorem State.exchPump_wf (ctx : Nat) (h : Memory.wf s.mem = true) : Memory.wf (s.exchPump ctx).mem = true := by
  unfold State.exchPump
  dsimp only
  (repeat' split) <;> simp [h]
@[simp] theorem State.localStage_wf (ag : Ag) (b : Nat) (parts : List (Nat × Nat)) (h : Memory.wf s.mem = true) :
    Memory.wf (s.localStage ag b parts).1.mem = true := by
  unfold State.localStage
  split
  · exact h
  extract_lets idx
  split
  next s1 e0 acc e =>
  have h1 := wf_of_fst e (s.engElems_wf _ _ _ _ h)
  split
  next s2 e1 cols e =>
  have h2 := wf_of_fst e (foldl_fst_wf _ _ _ h1 fun t p ht => t.1.engElems_wf _ _ _ _ ht)
  extract_lets st out
  split
  · exact h2
  · exact s2.engPut_wf _ _ _ _ h2
/-- The records of all members. By induction here: the kernel would run a write to compare two forms of the step. -/
theorem State.exWrites_mem (ctx : Nat) (e : Exch) (off : Nat) (bs : List Byte) (l : List Nat) :
    (l.foldl (fun (u : State) d => u.exWrite ctx e d off bs) s).mem = s.mem := by
  induction l generalizing s with
  | nil => rfl
  | cons d l ih => rw [List.foldl_cons, ih, State.exWrite_mem]
@[simp] theorem State.exchStart_wf (ctx ring b : Nat) (c : Cmd) (parts : List (Nat × Nat)) (h : Memory.wf s.mem = true) :
    Memory.wf (s.exchStart ctx ring b c parts).mem = true := by
  unfold State.exchStart
  extract_lets ag
  split
  next t1 st cnt e =>
  have h1 := wf_of_fst e (s.localStage_wf _ _ _ h)
  split
  next t2 st' hs e =>
  have h2 : Memory.wf t2.mem = true := wf_of_fst e (by split <;> simp [h1])
  split
  · simp [h]
  extract_lets slot ex t3 t4
  have h4 : Memory.wf t4.mem = true := by simp [t4, t3, h2]
  split
  · split <;> simp [h4]
  · split
    next t5 st' e =>
    have h5 : Memory.wf t5.mem = true := wf_of_fst e (by
      split
      · exact h4
      · exact t4.agWrite_wf _ _ _ h4)
    split
    · simp [h5]
    · extract_lets r
      exact State.exchPump_wf _ _ (by rw [State.exWrites_mem]; exact h5)
@[simp] theorem execExchange_wf (ctx : Fin 4097) (ring : Fin 8) (h : Memory.wf s.mem = true) :
    Memory.wf (stateOf s (execExchange ctx ring s)).mem = true := by
  unfold execExchange
  refine ringCmd_wf _ _ _ _ _ h fun c => ?_
  extract_lets ag badBlock lost
  have hl : ∀ t e a, Memory.wf t.mem = true → Memory.wf (lost t e a).mem = true := fun t e a ht => by simp [lost, ht]
  split
  · simp [h]
  · next e => exact hl _ _ _ (wf_of_fst e (by split <;> simp [h]))
  · next t bs e =>
    have ht : Memory.wf t.mem = true := wf_of_fst e (by split <;> simp [h])
    extract_lets b n
    split
    · simp [h]
    · next e => exact hl _ _ _ (wf_of_fst e (by split <;> simp [ht]))
    · next u ps e =>
      have hu : Memory.wf u.mem = true := wf_of_fst e (by split <;> simp [ht])
      extract_lets v parts why
      have hv : Memory.wf v.mem = true := by simp [v, hu]
      split
      · simp [hv]
      · split
        · exact h
        · simp [hv]
@[simp] theorem exchRow_wf (ctx : Nat) (body : Exch → State × Status) (h : Memory.wf s.mem = true)
    (hb : ∀ e, Memory.wf (body e).1.mem = true) : Memory.wf (stateOf s (exchRow s ctx body)).mem = true := by
  unfold exchRow
  dsimp only
  (repeat' split) <;> simp [h, hb]
@[simp] theorem State.exRead_wf (ctx : Nat) (e : Exch) (off n : Nat) (h : Memory.wf s.mem = true) :
    Memory.wf (s.exRead ctx e off n).1.mem = true := by
  simp [State.exRead, h]
@[simp] theorem execExchangeRendezvous_wf (ctx : Fin 4097) (h : Memory.wf s.mem = true) :
    Memory.wf (stateOf s (execExchangeRendezvous ctx s)).mem = true := by
  simp [execExchangeRendezvous, h]
@[simp] theorem State.exSend_mem (ctx : Nat) (e : Exch) (dev bucket : Nat) (gather : Bool) (data : List Byte) :
    (s.exSend ctx e dev bucket gather data).mem = s.mem :=
  ((State.count_mem ..).trans (State.updExch_mem ..)).trans ((State.exWrite_mem ..).trans (State.exWrite_mem ..))
@[simp] theorem State.exSlot_wf (ctx : Nat) (e : Exch) (bucket sender : Nat) (gather : Bool) (h : Memory.wf s.mem = true) :
    Memory.wf (s.exSlot ctx e bucket sender gather).1.mem = true := by
  simp [State.exSlot, h]
@[simp] theorem State.exMismatch_mem (ctx : Nat) (e : Exch) (sender bucket kind : Nat) :
    (s.exMismatch ctx e sender bucket kind).mem = s.mem :=
  (State.exchFail_mem ..).trans ((State.raise_mem ..).trans ((State.setDv_mem ..).trans (State.count_mem ..)))
@[simp] theorem State.reduceShard_wf (ctx : Nat) (e : Exch) (bucket : Nat) (h : Memory.wf s.mem = true) :
    Memory.wf (s.reduceShard ctx e bucket).1.mem = true := by
  unfold State.reduceShard
  extract_lets b
  split
  next lo n _ =>
  extract_lets idx
  split
  next t st cols bad e =>
  have ht := wf_of_fst e (foldl_fst_wf _ _ _ h fun a d ha => by
    split
    · simp [ha]
    · simp [ha])
  split
  · exact ht
  · split
    · simp [ht]
    · extract_lets out
      split
      next u st hp =>
      have hu := wf_of_fst hp (t.engPut_wf _ _ _ _ ht)
      simp [hu]
@[simp] theorem State.exFree_mem (ctx : Nat) (e : Exch) (n : Nat) : (s.exFree ctx e n).mem = s.mem := by simp [State.exFree]
@[simp] theorem State.exRoom_wf (ctx : Nat) (e : Exch) (bucket : Nat) (h : Memory.wf s.mem = true) :
    Memory.wf (s.exRoom ctx e bucket).1.mem = true := by
  simp [State.exRoom, h]
@[simp] theorem State.exScatter_wf (ctx : Nat) (e : Exch) (bucket : Nat) (h : Memory.wf s.mem = true) :
    Memory.wf (s.exScatter ctx e bucket).1.mem = true :=
  foldl_fst_wf _ _ _ h fun t d ht => by
    split
    · exact ht
    · have hr := t.1.engRead_wf (exAg ctx e) (xAccum e.blk + 4 * (xShard e.blk bucket (xRank e.blk d)).1)
        (4 * (xShard e.blk bucket (xRank e.blk d)).2) ht
      dsimp only
      split <;> simp [hr]
/-- A bucket's messages to all members, by induction as for the records. -/
theorem State.exSends_mem (ctx : Nat) (e : Exch) (k : Nat) (gather : Bool) (bs : List Byte) (l : List Nat) :
    (l.foldl (fun (u : State) d => u.exSend ctx e d k gather bs) s).mem = s.mem := by
  induction l generalizing s with
  | nil => rfl
  | cons d l ih => rw [List.foldl_cons, ih, State.exSend_mem]
@[simp] theorem execExchangeBucket_wf (ctx : Fin 4097) (gather : Bool) (h : Memory.wf s.mem = true) :
    Memory.wf (stateOf s (execExchangeBucket ctx gather s)).mem = true := by
  unfold execExchangeBucket
  refine exchRow_wf _ _ _ h fun e => ?_
  extract_lets b me k n
  split
  · exact h
  split
  · split
    · exact h
    · split
      next lo m _ =>
      split
      next t st data hr =>
      have ht := wf_of_fst hr (s.engRead_wf _ _ _ h)
      split
      · exact ht
      · extract_lets t1 t2
        have h2 : Memory.wf t2.mem = true := by unfold t2; split <;> simp [t1, ht]
        rw [State.exSends_mem]
        exact h2
  · split
    next t st room hr =>
    have ht := wf_of_fst hr (s.exRoom_wf _ _ _ h)
    split
    · exact ht
    split
    · exact ht
    split
    · exact ht
    · split
      next u st hs =>
      have hu := wf_of_fst hs (t.exScatter_wf _ _ _ ht)
      extract_lets u1
      have h1 : Memory.wf u1.mem = true := by simp [u1, hu]
      split
      · exact u1.reduceShard_wf _ _ _ h1
      · exact h1
@[simp] theorem execExchangeMessage_wf (ctx : Fin 4097) (bucket sender : Nat) (gather : Bool) (h : Memory.wf s.mem = true) :
    Memory.wf (stateOf s (execExchangeMessage ctx bucket sender gather s)).mem = true := by
  simp [execExchangeMessage, h]
@[simp] theorem execExchangeAbort_wf (ctx : Fin 4097) (member : Fin 64) (h : Memory.wf s.mem = true) :
    Memory.wf (stateOf s (execExchangeAbort ctx member s)).mem = true := by
  simp [execExchangeAbort, h]

/-! SNAPSHOT. -/

@[simp] theorem readSnap_wf (ag : Ag) (n a : Nat) (acc : List Nat) (h : Memory.wf s.mem = true) :
    Memory.wf (readSnap ag n a acc s).1.mem = true := by
  induction n generalizing a acc s with
  | zero => exact h
  | succ n ih =>
    have hr := s.agRead_wf ag .read a 32 h
    rw [readSnap]
    split
    · exact h
    split
    · next e => exact wf_of_fst e hr
    · next e => exact wf_of_fst e hr
    · next e =>
      split
      · exact wf_of_fst e hr
      · exact ih _ _ _ (wf_of_fst e hr)
@[simp] theorem State.snapEnd_wf (ctx ring : Nat) (ag : Ag) (fail : Option (Status × Nat × Nat)) (h : Memory.wf s.mem = true) :
    Memory.wf (s.snapEnd ctx ring ag fail).mem = true := by
  unfold State.snapEnd
  dsimp only
  (repeat' split) <;> simp [h]
@[simp] theorem State.snapCopy_wf (ag : Ag) (e i k : Nat) (h : Memory.wf s.mem = true) :
    Memory.wf (s.snapCopy ag e i k).1.mem = true := by
  have hr := s.agRead_wf ag .read (snSrc e + chunkBytes * k) (min chunkBytes (snLen e - chunkBytes * k)) h
  unfold State.snapCopy
  extract_lets off n body
  split
  · next e => exact wf_of_fst e hr
  · next e => exact wf_of_fst e hr
  · next t bs e =>
    have ht := wf_of_fst e hr
    split
    · next e => exact State.putUnit_wf _ _ _ _ (wf_of_fst e (t.putUnit_wf _ _ _ ht))
    · exact t.putUnit_wf _ _ _ ht
@[simp] theorem State.snapVerify_wf (ag : Ag) (e k : Nat) (h : Memory.wf s.mem = true) :
    Memory.wf (s.snapVerify ag e k).1.mem = true := by
  have hr := s.agRead_wf ag .read (snSrc e + chunkBytes * k) (min chunkBytes (snLen e - chunkBytes * k)) h
  have hd := s.agRead_wf ag .read (snDigs e + 32 * k) 32 h
  unfold State.snapVerify
  extract_lets off n
  split
  · simp [h]
  · next e => exact wf_of_fst e hr
  · next e _ => exact wf_of_fst e hd
  · next e _ _ => simp [wf_of_fst e hr]
@[simp] theorem State.snapStep_wf (ctx ring : Nat) (ag : Ag) (e i k : Nat) (good : Bool) (sender : Nat) (h : Memory.wf s.mem = true) :
    Memory.wf (s.snapStep ctx ring ag e i k good sender).mem = true := by
  unfold State.snapStep
  extract_lets n t1 t2 t3 t4
  have h2 : Memory.wf t2.mem = true := by
    unfold t2
    split <;> simp [t1, h]
  have h3 : Memory.wf t3.mem = true := by
    unfold t3
    split
    · exact h2
    · rw [State.setDv_mem, State.count_mem]
      exact h2
  have h4 : Memory.wf t4.mem = true := by simp [t4, h3]
  split
  · split <;> simp [h4]
  · exact h4
@[simp] theorem State.snapGo_wf (ctx ring : Nat) (c : Cmd) (h : Memory.wf s.mem = true) : Memory.wf (s.snapGo ctx ring c).mem = true := by
  unfold State.snapGo
  extract_lets ag
  split
  next t wst e =>
  have ht : Memory.wf t.mem = true := wf_of_fst e (by simp [h])
  split
  · simp [ht]
  · next e i k _ =>
    have hv := t.snapVerify_wf ag e k ht
    have hc := t.snapCopy_wf ag e i k ht
    split
    · simp [ht]
    split
    · simp [ht]
    split
    · split
      · simp [ht]
      · next e => simp [wf_of_fst e hv]
      · next e => simp [wf_of_fst e hv]
    · split
      · simp [ht]
      · next e => simp [wf_of_fst e hc]
      · next e => simp [wf_of_fst e hc]
@[simp] theorem execSnapshot_wf (ctx : Fin 4097) (ring : Fin 8) (h : Memory.wf s.mem = true) :
    Memory.wf (stateOf s (execSnapshot ctx ring s)).mem = true := by
  unfold execSnapshot
  split
  · exact h
  split
  · exact h
  split
  · exact h
  split
  · simp [h]
  extract_lets ag noList
  split
  · simp [h]
  · next t _ e =>
    have ht : Memory.wf t.mem = true := wf_of_fst e (by split <;> simp [h])
    simp [ht]
  · next t r _ _ e =>
    have ht : Memory.wf t.mem = true := wf_of_fst e (by split <;> simp [h])
    extract_lets t1 l why
    have h1 : Memory.wf t1.mem = true := by simp [t1, ht]
    split
    · simp [h1]
    · split
      · simp [h]
      · simp [h1]

/-! Commands on contexts and forced stops. -/

@[simp] theorem State.stopCmd_wf (ctx ring : Nat) (c : Cmd) (code : Status) (h : Memory.wf s.mem = true) :
    Memory.wf (s.stopCmd ctx ring c code).mem = true := by
  unfold State.stopCmd
  dsimp only
  (repeat' split) <;> simp [h]
@[simp] theorem State.markForced_mem (c : Nat) : (s.markForced c).mem = s.mem := by simp [State.markForced]
@[simp] theorem State.forcedStop_wf (c : Nat) (code : Status) (h : Memory.wf s.mem = true) :
    Memory.wf (s.forcedStop c code).mem = true := by
  unfold State.forcedStop
  extract_lets t
  have ht : Memory.wf t.mem = true := by unfold t; split <;> simp [h]
  refine foldl_wf _ _ _ (by simp [ht]) fun u r hu => ?_
  split
  · split <;> simp [hu]
  · exact hu
@[simp] theorem State.beginQuiesce_mem (c : Nat) : (s.beginQuiesce c).mem = s.mem := by simp [State.beginQuiesce]
@[simp] theorem State.settle_mem (c : Nat) : (s.settle c).mem = s.mem := by simp [State.settle]
theorem wf_getD {o : Option State} {u : State} (h : Memory.wf u.mem = true) (ho : ∀ t, o = some t → Memory.wf t.mem = true) :
    Memory.wf (o.getD u).mem = true := by
  cases o with
  | none => exact h
  | some t => exact ho t rfl
theorem State.placed_wf (c v : Nat) (h : Memory.wf s.mem = true) : Memory.wf ((s.placeCtx c v).getD s).mem = true :=
  wf_getD h fun t e => by rw [s.placeCtx_mem e]; exact h
@[simp] theorem execCtxCreate_wf (ctx : Fin 4097) (ring : Fin 8) (h : Memory.wf s.mem = true) :
    Memory.wf (stateOf s (execCtxCreate ctx ring s)).mem = true :=
  ringCmdChecked_wf _ _ _ _ _ _ h fun c => by
    extract_lets t k u v
    simp [State.placed_wf v _ _ h]
@[simp] theorem execCtxResume_wf (ctx : Fin 4097) (ring : Fin 8) (h : Memory.wf s.mem = true) :
    Memory.wf (stateOf s (execCtxResume ctx ring s)).mem = true :=
  ringCmdChecked_wf _ _ _ _ _ _ h fun c => by
    extract_lets t u v
    have hv : Memory.wf v.mem = true := by
      unfold v
      split
      · exact State.placed_wf u _ _ h
      · exact h
    simp [hv]
@[simp] theorem State.suspendGo_wf (ring : Nat) (c : Cmd) (h : Memory.wf s.mem = true) : Memory.wf (s.suspendGo ring c).mem = true := by
  simp [State.suspendGo, h]
@[simp] theorem State.suspendAdmin_wf (ring : Nat) (c : Cmd) (h : Memory.wf s.mem = true) :
    Memory.wf (s.suspendAdmin ring c).mem = true := by
  simp [State.suspendAdmin, h]
@[simp] theorem execCtxSuspend_wf (ctx : Fin 4097) (ring : Fin 8) (h : Memory.wf s.mem = true) :
    Memory.wf (stateOf s (execCtxSuspend ctx ring s)).mem = true := by
  simp [execCtxSuspend, h]
@[simp] theorem State.dropCtxKeys_mem (t : Nat) : (s.dropCtxKeys t).mem = s.mem := by simp [State.dropCtxKeys]
@[simp] theorem State.releaseCtx_wf (t : Nat) (h : Memory.wf s.mem = true) : Memory.wf (s.releaseCtx t).mem = true := by
  simp [State.releaseCtx, h]
@[simp] theorem execCtxDestroy_wf (ctx : Fin 4097) (ring : Fin 8) (h : Memory.wf s.mem = true) :
    Memory.wf (stateOf s (execCtxDestroy ctx ring s)).mem = true :=
  ringRow_wf _ _ _ _ _ _ h fun c => by
    extract_lets t u c' left
    have hu : Memory.wf u.mem = true := by unfold u; split <;> simp [h]
    split
    · exact h
    split
    · exact hu
    · simp [hu]
@[simp] theorem execCommandTimeoutExpiry_wf (ctx : Fin 4097) (ring : Fin 8) (h : Memory.wf s.mem = true) :
    Memory.wf (stateOf s (execCommandTimeoutExpiry ctx ring s)).mem = true := by
  fun_cases execCommandTimeoutExpiry <;> simp [h]
@[simp] theorem execQuiesceTimeoutExpiry_wf (ctx : Fin 4097) (h : Memory.wf s.mem = true) :
    Memory.wf (stateOf s (execQuiesceTimeoutExpiry ctx s)).mem = true := by
  simp [execQuiesceTimeoutExpiry, h]
@[simp] theorem execGroveReset_wf (grove : Fin 72) (failed : List (Fin 576)) (h : Memory.wf s.mem = true) :
    Memory.wf (stateOf s (execGroveReset grove failed s)).mem = true := by
  unfold execGroveReset
  extract_lets cs late hit t u bad
  split
  · exact h
  · have hu : Memory.wf u.mem = true := by simp [u, t, h]
    rw [stateOf_next]
    refine foldl_wf _ _ _ hu fun v n hv => ?_
    split
    · exact State.fenceCore_wf _ _ _ (foldl_wf _ _ _ hv fun w l hw => hw)
    · exact hv
@[simp] theorem execFlr_wf (vf : Fin 4096) (h : Memory.wf s.mem = true) : Memory.wf (stateOf s (execFlr vf s)).mem = true := by
  simp [execFlr, h]
@[simp] theorem execLockInterface_mem (vf : Fin 4096) (stream : Nat) : (stateOf s (execLockInterface vf stream s)).mem = s.mem := by
  simp [execLockInterface]
@[simp] theorem execStartInterface_mem (vf : Fin 4096) : (stateOf s (execStartInterface vf s)).mem = s.mem := by simp [execStartInterface]
@[simp] theorem execStopInterface_wf (vf : Fin 4096) (h : Memory.wf s.mem = true) :
    Memory.wf (stateOf s (execStopInterface vf s)).mem = true := by
  simp [execStopInterface, h]
@[simp] theorem execTdiError_mem (vf : Fin 4096) : (stateOf s (execTdiError vf s)).mem = s.mem := by simp [execTdiError]

/-! A channel map-out: pages move (R224, R225). -/

@[simp] theorem State.moveBytes_wf (g h n : Nat) (hs : Memory.wf s.mem = true) : Memory.wf (s.moveBytes g h n).mem = true :=
  cellsPut_wf _ _ (mapFilter_wf _ _ _ hs)
@[simp] theorem State.followMove_mem (g h n : Nat) : (s.followMove g h n).mem = s.mem := by simp [State.followMove]
@[simp] theorem State.copyRead_wf (p : Nat → Bool) (h : Memory.wf s.mem = true) : Memory.wf (s.copyRead p).mem = true :=
  foldl_wf _ _ _ h fun t _ ht => t.eccBlock_wf _ ht
/-- A range that moves: blocks are read through their code, then the bytes go to their new place. -/
@[simp] theorem State.moveRange_wf (g h n : Nat) (hs : Memory.wf s.mem = true) : Memory.wf (s.moveRange g h n).mem = true := by
  unfold State.moveRange
  extract_lets os t u v
  have hu : Memory.wf u.mem = true := by simp [u, t, hs]
  have hv : Memory.wf v.mem = true := foldl_wf _ _ _ hu fun a e ha => by simp [ha]
  simp [hv]
theorem State.moveTable_wf {lim : Nat} {p : Nat × Nat × Nat} {t : State} (e : s.moveTable lim p = some t) (h : Memory.wf s.mem = true) :
    Memory.wf t.mem = true := by
  obtain ⟨k, -, rfl⟩ := Option.map_eq_some_iff.1 e
  have hm := s.moveRange_wf p.2.2 k 1 h
  dsimp only
  split <;> simp [hm]
@[simp] theorem State.moveAreas_wf (lim : Nat) (h : Memory.wf s.mem = true) : Memory.wf (s.moveAreas lim).mem = true :=
  foldl_wf _ _ _ h fun t r ht => by
    extract_lets out
    split
    · exact t.moveRange_wf _ _ _ ht
    · split
      next u new e =>
      have hu : Memory.wf u.mem = true := wf_of_fst e (foldl_fst_wf _ _ (t, []) ht fun a i ha => by
        split
        · exact a.1.moveRange_wf _ _ _ ha
        · exact ha)
      exact hu
theorem State.movePage_wf {lim : Nat} {p : Nat × Nat × Leaf} {t : State} (e : s.movePage lim p = some t) (h : Memory.wf s.mem = true) :
    Memory.wf t.mem = true := by
  obtain ⟨k, -, rfl⟩ := Option.map_eq_some_iff.1 e
  exact State.setEntry_wf _ _ _ _ _ (s.moveRange_wf _ _ _ h)
@[simp] theorem State.losePage_wf (slot : Nat) (p : Nat × Nat × Leaf) (h : Memory.wf s.mem = true) :
    Memory.wf (s.losePage slot p).mem = true := by
  simp [State.losePage, h]
@[simp] theorem State.tearDown_wf (c : Nat) (h : Memory.wf s.mem = true) : Memory.wf (s.tearDown c).mem = true := by
  simp [State.tearDown, h]
@[simp] theorem State.moveProtected_wf (lim : Nat) (h : Memory.wf s.mem = true) : Memory.wf (s.moveProtected lim).1.mem = true := by
  unfold State.moveProtected
  split
  next t lost e =>
  have ht := wf_of_fst e (foldl_fst_wf _ _ _ h fun a p ha => by
    split
    · next e => exact a.1.moveTable_wf e ha
    · exact ha)
  refine foldl_fst_wf _ _ _ (t.moveAreas_wf _ ht) fun a p ha => ?_
  split
  · next e => exact a.1.movePage_wf e ha
  · exact ha
@[simp] theorem State.withSlot_mem (slot : Nat) : (s.withSlot slot).mem = s.mem := by simp [State.withSlot]
@[simp] theorem State.mapStep_mem (n : Nat) : (s.mapStep n).mem = s.mem := by simp [State.mapStep]
@[simp] theorem State.mapMove_wf (slot : Nat) (h : Memory.wf s.mem = true) : Memory.wf (s.mapMove slot).mem = true := by
  unfold State.mapMove
  extract_lets lim
  split
  next t lost e =>
  have ht := wf_of_fst e (s.moveProtected_wf _ h)
  split
  · exact foldl_wf _ _ _ ht fun u c hu => by simp [hu]
  · rw [State.mapStep_mem]
    exact foldl_wf _ _ _ ht fun u p hu => wf_getD (by simp [hu]) fun v e => u.movePage_wf e hu
@[simp] theorem State.mapFinish_wf (slot : Nat) (h : Memory.wf s.mem = true) : Memory.wf (s.mapFinish slot).mem = true := by
  unfold State.mapFinish
  extract_lets top lim new freed t u v w rest hbm x
  have hu : Memory.wf u.mem = true := mapFilter_wf _ _ _ (s.copyRead_wf _ h)
  have hw : Memory.wf w.mem = true := by simp [w, v, hu]
  have hx : Memory.wf x.mem = true := hw
  simp [hx]
@[simp] theorem execChannelMapout_wf (h : Memory.wf s.mem = true) : Memory.wf (stateOf s (execChannelMapout s)).mem = true := by
  unfold execChannelMapout
  dsimp only
  (repeat' split) <;> simp [h]

/-! Flits. -/

@[simp] theorem State.startReplay_mem (p ack : Nat) : (s.startReplay p ack).mem = s.mem := by simp [State.startReplay]
@[simp] theorem State.ackIn_mem (p : Nat) (f : BitVec 2048) : (s.ackIn p f).mem = s.mem := by
  unfold State.ackIn
  dsimp only
  (repeat' split) <;> simp
@[simp] theorem State.rxPacket_mem (p : Nat) (k : RxPkt) : (s.rxPacket p k).mem = s.mem := by simp [State.rxPacket]
@[simp] theorem State.rxSlot_mem (p key vc : Nat) (sop : Bool) (v : Nat) : (s.rxSlot p key vc sop v).mem = s.mem := by
  unfold State.rxSlot
  dsimp only
  (repeat' split) <;> simp
@[simp] theorem State.creditsIn_mem (p credit : Nat) : (s.creditsIn p credit).mem = s.mem := by simp [State.creditsIn]
@[simp] theorem State.flitFail_mem (p : Nat) (data : Bool) : (s.flitFail p data).mem = s.mem := by simp [State.flitFail]
@[simp] theorem State.flitGood_mem (p : Nat) : (s.flitGood p).mem = s.mem := by simp [State.flitGood]
@[simp] theorem flitIn_mem (port : Fin 18) (f : BitVec 2048) (ok : Bool) (typ : Nat) (body : State → State)
    (hb : ∀ t, (body t).mem = t.mem) : (stateOf s (flitIn s port f ok typ body)).mem = s.mem := by
  simp [flitIn, hb]
@[simp] theorem State.tagFail_mem (p : Nat) : (s.tagFail p).mem = s.mem := by simp [State.tagFail]
@[simp] theorem State.acceptFlit_mem (p : Nat) (f : BitVec 2048) (plain : Nat) : (s.acceptFlit p f plain).mem = s.mem := by
  simp [State.acceptFlit]
@[simp] theorem execDataFlit_mem (port : Fin 18) (flit : BitVec 2048) (fecOk : Bool) :
    (stateOf s (execDataFlit port flit fecOk s)).mem = s.mem := by
  unfold execDataFlit
  refine flitIn_mem _ _ _ _ _ _ fun t => ?_
  dsimp only
  (repeat' split) <;> simp
@[simp] theorem execInitFlit_mem (port : Fin 18) (flit : BitVec 2048) (fecOk : Bool) :
    (stateOf s (execInitFlit port flit fecOk s)).mem = s.mem := by
  unfold execInitFlit
  refine flitIn_mem _ _ _ _ _ _ fun t => ?_
  dsimp only
  (repeat' split) <;> simp
@[simp] theorem execKeyxFlit_mem (port : Fin 18) (flit : BitVec 2048) (fecOk : Bool) :
    (stateOf s (execKeyxFlit port flit fecOk s)).mem = s.mem := by
  simp [execKeyxFlit]
@[simp] theorem execNullFlit_mem (port : Fin 18) (flit : BitVec 2048) (fecOk : Bool) :
    (stateOf s (execNullFlit port flit fecOk s)).mem = s.mem := by
  simp [execNullFlit]
@[simp] theorem State.newFlit_mem (p : Nat) : (s.newFlit p).mem = s.mem := by
  unfold State.newFlit
  dsimp only
  (repeat' split) <;> simp
@[simp] theorem execFlitSend_mem (port : Fin 18) : (stateOf s (execFlitSend port s)).mem = s.mem := by
  unfold execFlitSend
  dsimp only
  (repeat' split) <;> simp
@[simp] theorem execAckTimerExpiry_mem (port : Fin 18) : (stateOf s (execAckTimerExpiry port s)).mem = s.mem := by
  simp [execAckTimerExpiry]
@[simp] theorem execRxSilenceExpiry_mem (port : Fin 18) : (stateOf s (execRxSilenceExpiry port s)).mem = s.mem := by
  simp [execRxSilenceExpiry]
@[simp] theorem execLaneSignalLoss_mem (port : Fin 18) (_lane : Fin 8) : (stateOf s (execLaneSignalLoss port _lane s)).mem = s.mem := by
  simp [execLaneSignalLoss]
@[simp] theorem execRetrainIntervalExpiry_mem (port : Fin 18) : (stateOf s (execRetrainIntervalExpiry port s)).mem = s.mem := by
  simp [execRetrainIntervalExpiry]
@[simp] theorem execPmdTrainingDone_mem (port : Fin 18) : (stateOf s (execPmdTrainingDone port s)).mem = s.mem := by
  simp [execPmdTrainingDone]
@[simp] theorem execBringupStepTimeout_mem (port : Fin 18) : (stateOf s (execBringupStepTimeout port s)).mem = s.mem := by
  simp [execBringupStepTimeout]
@[simp] theorem execInitResend_mem (port : Fin 18) : (stateOf s (execInitResend port s)).mem = s.mem := by simp [execInitResend]
theorem State.takeMgmt_mem {p typ : Nat} {t : State} {m : List Byte} (h : s.takeMgmt p typ = some (t, m)) : t.mem = s.mem := by
  obtain ⟨k, -, hk⟩ := Option.map_eq_some_iff.mp h
  rw [← (Prod.mk.inj hk).1]
  simp
@[simp] theorem execHello_mem (port : Fin 18) : (stateOf s (execHello port s)).mem = s.mem := by
  unfold execHello
  dsimp only
  split
  · simp
  split
  · (repeat' split) <;> simp
  split
  · split
    · simp
    · next h =>
      have ht := s.takeMgmt_mem h
      (repeat' split) <;> simp [ht]
  · simp
@[simp] theorem execCert_mem (port : Fin 18) : (stateOf s (execCert port s)).mem = s.mem := by
  unfold execCert
  dsimp only
  (repeat' split) <;> simp
@[simp] theorem execFinish_mem (port : Fin 18) : (stateOf s (execFinish port s)).mem = s.mem := by
  unfold execFinish
  dsimp only
  split
  · simp
  split
  · (repeat' split) <;> simp
  split
  · split
    · simp
    split
    · simp
    split
    · simp
    · next h =>
      have ht := s.takeMgmt_mem h
      (repeat' split) <;> simp [ht]
  · simp
@[simp] theorem execKeyxResend_mem (port : Fin 18) : (stateOf s (execKeyxResend port s)).mem = s.mem := by simp [execKeyxResend]
@[simp] theorem execRekeyStart_mem (port : Fin 18) : (stateOf s (execRekeyStart port s)).mem = s.mem := by simp [execRekeyStart]
@[simp] theorem execRekeyTimeout_mem (port : Fin 18) : (stateOf s (execRekeyTimeout port s)).mem = s.mem := by simp [execRekeyTimeout]
@[simp] theorem execFlowMove_mem (sidx : Nat) (dev : Fin 64) : (stateOf s (execFlowMove sidx dev s)).mem = s.mem := by
  unfold execFlowMove
  dsimp only
  (repeat' split) <;> simp
@[simp] theorem execCtxkeyOffer_mem (port : Fin 18) (ctx : Fin 4096) (check : BitVec 128) :
    (stateOf s (execCtxkeyOffer port ctx check s)).mem = s.mem := by
  unfold execCtxkeyOffer
  dsimp only
  split
  · simp
  · rw [stateOf_next, State.matchOffer_mem, State.updPort_mem]
    split
    · next h => exact s.takeMgmt_mem h
    · rfl
@[simp] theorem execPortDisableWaitExpiry_mem (port : Fin 18) : (stateOf s (execPortDisableWaitExpiry port s)).mem = s.mem := by
  simp [execPortDisableWaitExpiry]

/-! Packets at their destination and at their requester. -/

theorem State.takePkt_mem {p typ : Nat} {t : State} {k : RxPkt} (h : s.takePkt p typ = some (t, k)) : t.mem = s.mem := by
  obtain ⟨i, -, hi⟩ := Option.bind_eq_some_iff.mp h
  obtain ⟨k, -, hk⟩ := Option.map_eq_some_iff.mp hi
  rw [← (Prod.mk.inj hk).1]
  simp
@[simp] theorem State.pktRequest_mem (p : Nat) (k : RxPkt) : (s.pktRequest p k).mem = s.mem := by simp [State.pktRequest]
@[simp] theorem pktRow_mem (port : Fin 18) (typ : Nat) : (stateOf s (pktRow s port typ)).mem = s.mem := by
  unfold pktRow
  split
  · simp
  · split
    · simp
    · next h => simp [s.takePkt_mem h]
@[simp] theorem execPktRd_mem (port : Fin 18) : (stateOf s (execPktRd port s)).mem = s.mem := by simp [execPktRd]
@[simp] theorem execPktWr_mem (port : Fin 18) : (stateOf s (execPktWr port s)).mem = s.mem := by simp [execPktWr]
@[simp] theorem execPktWrm_mem (port : Fin 18) : (stateOf s (execPktWrm port s)).mem = s.mem := by simp [execPktWrm]
@[simp] theorem execPktAtom_mem (port : Fin 18) : (stateOf s (execPktAtom port s)).mem = s.mem := by simp [execPktAtom]
@[simp] theorem execPktRed_mem (port : Fin 18) : (stateOf s (execPktRed port s)).mem = s.mem := by simp [execPktRed]
@[simp] theorem execPktFlag_mem (port : Fin 18) : (stateOf s (execPktFlag port s)).mem = s.mem := by simp [execPktFlag]
@[simp] theorem execRequestAccept_wf (port : Fin 18) (h : Memory.wf s.mem = true) :
    Memory.wf (stateOf s (execRequestAccept port s)).mem = true := by
  unfold execRequestAccept
  dsimp only
  (repeat' split) <;> simp [h]
@[simp] theorem execRemoteDeadlineExpiry_mem (req : Nat) : (stateOf s (execRemoteDeadlineExpiry req s)).mem = s.mem := by
  unfold execRemoteDeadlineExpiry
  dsimp only
  (repeat' split) <;> simp
@[simp] theorem execHoldTimer_mem (port : Fin 18) (dev : Fin 64) : (stateOf s (execHoldTimer port dev s)).mem = s.mem := by
  simp [execHoldTimer]
@[simp] theorem State.requestDone_wf (r : Req) (h : Memory.wf s.mem = true) : Memory.wf (s.requestDone r).mem = true := by
  unfold State.requestDone
  split <;> simp [h]
@[simp] theorem pktAnswer_wf (port : Fin 18) (typ : Nat) (h : Memory.wf s.mem = true) :
    Memory.wf (stateOf s (pktAnswer s port typ)).mem = true := by
  unfold pktAnswer
  extract_lets p
  split
  · exact h
  split
  · exact h
  · next t k e =>
    have ht : Memory.wf t.mem = true := by rw [s.takePkt_mem e]; exact h
    extract_lets hd t1 st
    have h1 : Memory.wf t1.mem = true := by simp [t1, ht]
    split
    · rw [stateOf_next, State.count_mem]
      exact h1
    · extract_lets n res
      split
      · rw [stateOf_next, State.linkDown_mem]
        exact h1
      · simp [h1]
@[simp] theorem execPktRdr_wf (port : Fin 18) (h : Memory.wf s.mem = true) : Memory.wf (stateOf s (execPktRdr port s)).mem = true := by
  simp [execPktRdr, h]
@[simp] theorem execPktAck_wf (port : Fin 18) (h : Memory.wf s.mem = true) : Memory.wf (stateOf s (execPktAck port s)).mem = true := by
  simp [execPktAck, h]
@[simp] theorem execPktAtr_wf (port : Fin 18) (h : Memory.wf s.mem = true) : Memory.wf (stateOf s (execPktAtr port s)).mem = true := by
  simp [execPktAtr, h]
@[simp] theorem execPktHold_mem (port : Fin 18) : (stateOf s (execPktHold port s)).mem = s.mem := by
  unfold execPktHold
  dsimp only
  split
  · simp
  · split
    · simp
    · next h => simp [s.takePkt_mem h]
@[simp] theorem execReqTimeoutExpiry_wf (req : Nat) (h : Memory.wf s.mem = true) :
    Memory.wf (stateOf s (execReqTimeoutExpiry req s)).mem = true := by
  fun_cases execReqTimeoutExpiry <;> simp [h]

/-! Larch gateways. -/

@[simp] theorem State.gwDiscard_mem (g : Nat) : (s.gwDiscard g).mem = s.mem := by simp [State.gwDiscard]
@[simp] theorem State.gwAuthFail_mem (g : Nat) : (s.gwAuthFail g).mem = s.mem := by simp [State.gwAuthFail]
@[simp] theorem larchRow_mem (gw : Fin 4) (d : LarchDgram) (typ : Nat) (body : State → LHead → Nat → List Byte → State)
    (hb : ∀ x n b, (body s x n b).mem = s.mem) : (stateOf s (larchRow s gw d typ body)).mem = s.mem := by
  unfold larchRow
  dsimp only
  (repeat' split) <;> simp [hb]
@[simp] theorem State.setRstream_mem (g : Nat) (r : RStream) : (s.setRstream g r).mem = s.mem := by simp [State.setRstream]
@[simp] theorem State.gwIssue_wf (g ctx unit device off : Nat) (op : MemOp) (h : Memory.wf s.mem = true) :
    Memory.wf (s.gwIssue g ctx unit device off op).1.mem = true := by
  simp [State.gwIssue, h]
@[simp] theorem State.runFrame_wf (g ctx : Nat) (rs : RStream) (f : RFrame) (h : Memory.wf s.mem = true) :
    Memory.wf (s.runFrame g ctx rs f).mem = true := by
  unfold State.runFrame
  extract_lets rtype recs unit
  split
  next t ids e =>
  have ht : Memory.wf t.mem = true := wf_of_fst e (foldl_fst_wf _ _ (s.bumpId, []) h fun a r ha =>
    foldl_fst_wf _ _ a ha fun b p hb => by simp [hb])
  simp [ht]
@[simp] theorem State.farDatagram_wf (g src : Nat) (x : LHead) (plain : List Byte) (h : Memory.wf s.mem = true) :
    Memory.wf (s.farDatagram g src x plain).mem = true := by
  unfold State.farDatagram
  extract_lets rs rtype f f'
  split
  · simp [h]
  split
  · simp [h]
  split
  · simp [h]
  · split
    · exact h
    · split <;> simp [h]
theorem larchRow_wf (gw : Fin 4) (d : LarchDgram) (typ : Nat) (body : State → LHead → Nat → List Byte → State)
    (h : Memory.wf s.mem = true) (hb : ∀ x n b, Memory.wf (body s x n b).mem = true) :
    Memory.wf (stateOf s (larchRow s gw d typ body)).mem = true := by
  unfold larchRow
  dsimp only
  (repeat' split) <;> simp [h, hb]
@[simp] theorem execLarchWrite_wf (gw : Fin 4) (d : LarchDgram) (h : Memory.wf s.mem = true) :
    Memory.wf (stateOf s (execLarchWrite gw d s)).mem = true :=
  larchRow_wf _ _ _ _ _ h fun x n b => by simp [h]
@[simp] theorem execLarchRead_wf (gw : Fin 4) (d : LarchDgram) (h : Memory.wf s.mem = true) :
    Memory.wf (stateOf s (execLarchRead gw d s)).mem = true :=
  larchRow_wf _ _ _ _ _ h fun x n b => by simp [h]
@[simp] theorem State.readDataIn_wf (gw : Nat) (x : LHead) (n : Nat) (plain : List Byte) (h : Memory.wf s.mem = true) :
    Memory.wf (s.readDataIn gw x n plain).mem = true := by
  unfold State.readDataIn
  split
  · simp [h]
  split
  · exact h
  · next g st f _ =>
    extract_lets code got t left
    have ht : Memory.wf t.mem = true := foldl_wf _ _ _ h fun u id hu => by
      split
      · split
        · exact hu
        split
        · simp [hu]
        · split <;> simp [hu]
      · exact hu
    split <;> simp [ht]
@[simp] theorem State.completeIn_mem (h : LHead) (n : Nat) : (s.completeIn h n).mem = s.mem := by
  unfold State.completeIn
  split <;> simp
@[simp] theorem execLarchReadData_wf (gw : Fin 4) (d : LarchDgram) (h : Memory.wf s.mem = true) :
    Memory.wf (stateOf s (execLarchReadData gw d s)).mem = true :=
  larchRow_wf _ _ _ _ _ h fun x n b => by simp [h]
@[simp] theorem execLarchComplete_mem (gw : Fin 4) (d : LarchDgram) : (stateOf s (execLarchComplete gw d s)).mem = s.mem := by
  simp [execLarchComplete]
@[simp] theorem execGwFlushExpiry_mem (gw : Fin 4) (stream : Nat) : (stateOf s (execGwFlushExpiry gw stream s)).mem = s.mem := by
  fun_cases execGwFlushExpiry <;> simp
@[simp] theorem execGwRetryExpiry_mem (gw : Fin 4) (stream seq : Nat) : (stateOf s (execGwRetryExpiry gw stream seq s)).mem = s.mem := by
  unfold execGwRetryExpiry
  dsimp only
  (repeat' split) <;> simp

/-! Context secrets and ATTEST. -/

@[simp] theorem State.secretWrite_mem (ctx : Nat) (bs : List Byte) : (s.secretWrite ctx bs).1.mem = s.mem := by
  unfold State.secretWrite
  dsimp only
  (repeat' split) <;> simp
@[simp] theorem State.privateWrite_mem (ctx v : Nat) : (s.privateWrite ctx v).1.mem = s.mem := by simp [State.privateWrite]
@[simp] theorem State.bindWrite_mem (ctx n v : Nat) : (s.bindWrite ctx n v).1.mem = s.mem := by simp [State.bindWrite]
@[simp] theorem execAttest_wf (ctx : Fin 4097) (ring : Fin 8) (h : Memory.wf s.mem = true) :
    Memory.wf (stateOf s (execAttest ctx ring s)).mem = true :=
  ringRow_wf _ _ _ _ _ _ h fun c => by
    extract_lets t ag
    split
    next u wst e =>
    have hu : Memory.wf u.mem = true := wf_of_fst e (by simp [h])
    have hr := u.agRead_wf ag .read (cA1 c.img) 48 hu
    split
    · simp [hu]
    split
    · simp [hu]
    · split
      · simp [hu]
      · next e => simp [wf_of_fst e hr]
      · next v nonce e =>
        have hv := wf_of_fst e hr
        extract_lets w
        have hw : Memory.wf w.mem = true := by simp [w, hv]
        split
        next e => simp [wf_of_fst e (w.agWrite_wf _ _ _ hw)]
@[simp] theorem execSpdmRequest_mem (offersSuite : Bool) (_request : List Byte) :
    (stateOf s (execSpdmRequest offersSuite _request s)).mem = s.mem := by
  simp [execSpdmRequest]

/-! Clocks, voltages and HINT. -/

@[simp] theorem execRootStep_mem (die : Fin 8) : (stateOf s (execRootStep die s)).mem = s.mem := by simp [execRootStep]
@[simp] theorem State.hintOk_wf (ctx ring : Nat) (c : Cmd) (h : Memory.wf s.mem = true) : Memory.wf (s.hintOk ctx ring c).mem = true :=
  State.okCmd_wf _ _ _ _ _ (foldl_wf _ _ _ h fun t d ht => by simp [ht])
@[simp] theorem State.hintEnds_wf (k : Nat) (h : Memory.wf s.mem = true) : Memory.wf (s.hintEnds k).mem = true := by
  unfold State.hintEnds
  split <;> simp [h]
@[simp] theorem State.hintsDone_wf (h : Memory.wf s.mem = true) : Memory.wf (s.hintsDone).mem = true := foldl_wf _ _ _ h fun t k ht => by
    split
    · exact ht
    · exact State.hintEnds_wf _ _ (foldl_wf _ _ _ ht fun u d hu => by simp [hu])
@[simp] theorem execHint_wf (ctx : Fin 4097) (ring : Fin 8) (h : Memory.wf s.mem = true) :
    Memory.wf (stateOf s (execHint ctx ring s)).mem = true := by
  unfold execHint
  extract_lets off mine key t
  refine ringCmdChecked_wf _ _ _ _ _ _ h fun c => ?_
  extract_lets ds g u
  have hu : Memory.wf u.mem = true := by
    refine foldl_wf _ _ _ ?_ fun a d ha => by simp [ha]
    rw [State.updCmd_mem, State.count_mem]
    exact h
  split
  · simp [h]
  split
  · exact hu
  · split <;> simp [hu]
@[simp] theorem execAvsAck_wf (die : Fin 8) (h : Memory.wf s.mem = true) : Memory.wf (stateOf s (execAvsAck die s)).mem = true := by
  unfold execAvsAck
  dsimp only
  (repeat' split) <;> simp [h]
@[simp] theorem State.dropGuards_wf (d : Nat) (h : Memory.wf s.mem = true) : Memory.wf (s.dropGuards d).mem = true := by
  unfold State.dropGuards
  extract_lets keys t open' u
  have hu : Memory.wf u.mem = true := by simp [u, t, h]
  refine foldl_wf _ _ _ hu fun v k hv => ?_
  split <;> simp [hv]
@[simp] theorem execAvsTimeout_wf (die : Fin 8) (h : Memory.wf s.mem = true) :
    Memory.wf (stateOf s (execAvsTimeout die s)).mem = true := by
  simp [execAvsTimeout, h]
@[simp] theorem execHintExpiry_mem (die : Fin 8) : (stateOf s (execHintExpiry die s)).mem = s.mem := by
  unfold execHintExpiry
  dsimp only
  (repeat' split) <;> simp
@[simp] theorem execAvsTelemetryRead_mem (die : Fin 8) (milliWatt milliVolt : Nat) (valid : Bool) :
    (stateOf s (execAvsTelemetryRead die milliWatt milliVolt valid s)).mem = s.mem := by
  unfold execAvsTelemetryRead
  dsimp only
  (repeat' split) <;> simp
@[simp] theorem execPmbusTelemetryRead_mem (rail : Fin 40) (milliWatt milliVolt : Nat) (valid : Bool) :
    (stateOf s (execPmbusTelemetryRead rail milliWatt milliVolt valid s)).mem = s.mem := by
  simp [execPmbusTelemetryRead]
@[simp] theorem execTelemetryStale_mem (rail : Fin 40) : (stateOf s (execTelemetryStale rail s)).mem = s.mem := by
  simp [execTelemetryStale]
@[simp] theorem execCapLoop_mem : (stateOf s (execCapLoop s)).mem = s.mem := by
  unfold execCapLoop
  dsimp only
  split
  · simp
  · rw [stateOf_next]
    refine (foldl_mem _ _ _ fun t d => State.updDie_mem ..).trans ?_
    (repeat' split) <;> simp
@[simp] theorem State.freeze_mem (d : Nat) : (s.freeze d).mem = s.mem := by simp [State.freeze]
@[simp] theorem execDroopCrossing_mem (die : Fin 8) (detector : Fin 16) : (stateOf s (execDroopCrossing die detector s)).mem = s.mem := by
  simp [execDroopCrossing]
@[simp] theorem execDroopRelease_mem (die : Fin 8) : (stateOf s (execDroopRelease die s)).mem = s.mem := by simp [execDroopRelease]
@[simp] theorem execStepFreezeEnd_mem (die : Fin 8) : (stateOf s (execStepFreezeEnd die s)).mem = s.mem := by simp [execStepFreezeEnd]
@[simp] theorem execPewterSample_mem (die : Fin 8) (sixteenths : Nat) : (stateOf s (execPewterSample die sixteenths s)).mem = s.mem := by
  simp [execPewterSample]
@[simp] theorem execFillerHoldExpiry_mem (die : Fin 8) : (stateOf s (execFillerHoldExpiry die s)).mem = s.mem := by
  unfold execFillerHoldExpiry
  dsimp only
  (repeat' split) <;> simp
@[simp] theorem execGovernorWindow_mem (die : Fin 8) : (stateOf s (execGovernorWindow die s)).mem = s.mem := by
  unfold execGovernorWindow
  dsimp only
  split
  · simp
  split
  · simp
  · rw [stateOf_next, State.updDie_mem]
    refine foldl_mem _ _ _ fun t n => ?_
    split <;> rfl

/-! Supply warnings and die resets. -/

@[simp] theorem State.endCmd_wf (ctx ring : Nat) (c : Cmd) (code : Status) (h : Memory.wf s.mem = true) :
    Memory.wf (s.endCmd ctx ring c code).mem = true := by
  unfold State.endCmd
  dsimp only
  (repeat' split) <;> simp [h]
@[simp] theorem State.finishAdmitted_wf (h : Memory.wf s.mem = true) : Memory.wf (s.finishAdmitted).mem = true :=
  foldl_wf _ _ _ h fun t _ ht => t.serveParts_wf _ _ ht
@[simp] theorem State.enterSafe_wf (rail : Nat) (h : Memory.wf s.mem = true) : Memory.wf (s.enterSafe rail).mem = true :=
  foldl_wf _ _ _ (s.finishAdmitted_wf h) fun t e ht => by
    split <;> simp [ht]
@[simp] theorem execSupplyWarning_mem (rail : Fin 40) (milliVolt : Nat) :
    (stateOf s (execSupplyWarning rail milliVolt s)).mem = s.mem := by
  simp [execSupplyWarning]
@[simp] theorem execPowerFailure_wf (rail : Fin 40) (h : Memory.wf s.mem = true) :
    Memory.wf (stateOf s (execPowerFailure rail s)).mem = true := by
  simp [execPowerFailure, h]
@[simp] theorem execPowerFailureRecovery_mem : (stateOf s (execPowerFailureRecovery s)).mem = s.mem := by simp [execPowerFailureRecovery]
@[simp] theorem State.dropDie_mem (d : Nat) : (s.dropDie d).mem = s.mem := by simp [State.dropDie]
@[simp] theorem State.dieReset_wf (d : Nat) (h : Memory.wf s.mem = true) : Memory.wf (s.dieReset d).mem = true := by
  unfold State.dieReset
  extract_lets hit t u v w
  have hu : Memory.wf u.mem = true := foldl_wf _ _ _ h fun a p ha => by
    extract_lets c b
    have hb : Memory.wf b.mem = true := foldl_wf _ _ _ ha fun x e hx => by split <;> simp [hx]
    split
    · exact ha
    · simp [hb]
  have hw : Memory.wf w.mem = true := by simp [w, v, hu]
  rw [State.raise_mem, State.count_mem]
  exact hw
@[simp] theorem execRailResetLevel_wf (rail : Fin 40) (h : Memory.wf s.mem = true) :
    Memory.wf (stateOf s (execRailResetLevel rail s)).mem = true := by
  unfold execRailResetLevel
  dsimp only
  (repeat' split) <;> simp [h]
@[simp] theorem execDomainWake_mem (dom : Fin 911) : (stateOf s (execDomainWake dom s)).mem = s.mem := by simp [execDomainWake]
@[simp] theorem execDomainIdleOff_mem (dom : Fin 911) : (stateOf s (execDomainIdleOff dom s)).mem = s.mem := by simp [execDomainIdleOff]

/-! Temperatures. -/

@[simp] theorem State.thermalTrip_mem (cause n unit : Nat) : (s.thermalTrip cause n unit).mem = s.mem := by simp [State.thermalTrip]
@[simp] theorem State.followTj_mem (d : Nat) : (s.followTj d).mem = s.mem := by
  unfold State.followTj
  split <;> simp
@[simp] theorem execJunctionSensorRead_mem (sensor : Sensor) (temp : Int) :
    (stateOf s (execJunctionSensorRead sensor temp s)).mem = s.mem := by
  simp [execJunctionSensorRead]
@[simp] theorem execStackTempRead_mem (stack : Fin 16) (temp : Int) : (stateOf s (execStackTempRead stack temp s)).mem = s.mem := by
  simp [execStackTempRead]
@[simp] theorem State.replan_mem (readings : List (Nat × Nat)) : (s.replan readings).mem = s.mem := by simp [State.replan]
@[simp] theorem execHeartwoodReplan_mem (heart : List Nat) : (stateOf s (execHeartwoodReplan heart s)).mem = s.mem := by
  simp [execHeartwoodReplan]
@[simp] theorem execDieRejoin_mem (die : Fin 8) (heart : Nat) : (stateOf s (execDieRejoin die heart s)).mem = s.mem := by
  unfold execDieRejoin
  dsimp only
  split
  · simp
  · rw [stateOf_next, State.readmit_mem, State.updDie_mem, State.replan_mem, State.updRail_mem]

/-! Reads of the dictionary, and QUERY. -/

@[simp] theorem State.dictRead_mem (c : Cls) (key : Nat) : (s.dictRead c key).1.mem = s.mem := by
  unfold State.dictRead
  dsimp only
  (repeat' split) <;> simp
@[simp] theorem State.query_wf (ctx ring mode : Nat) (body : Cmd → State) (h : Memory.wf s.mem = true)
    (hb : ∀ c, Memory.wf (body c).mem = true) : Memory.wf (stateOf s (s.query ctx ring mode body)).mem = true := by
  unfold State.query
  (repeat' split) <;> simp [h, hb]
@[simp] theorem execQueryEntry_wf (ctx : Fin 4097) (ring : Fin 8) (h : Memory.wf s.mem = true) :
    Memory.wf (stateOf s (execQueryEntry ctx ring s)).mem = true := by
  refine State.query_wf _ _ _ _ _ h fun c => ?_
  extract_lets ag
  split
  next t wst e =>
  have ht : Memory.wf t.mem = true := wf_of_fst e (by simp [h])
  split
  · simp [ht]
  split
  · exact ht
  · split
    next u st bs e =>
    have hu : Memory.wf u.mem = true := wf_of_fst e (by simp [ht])
    split
    · simp [hu]
    split
    · simp [hu]
    split
    · simp [hu]
    · extract_lets v
      have hv : Memory.wf v.mem = true := by simp [v, hu]
      split
      next e => simp [wf_of_fst e (v.agWrite_wf _ _ _ hv)]
@[simp] theorem execQueryTranslation_wf (ctx : Fin 4097) (ring : Fin 8) (h : Memory.wf s.mem = true) :
    Memory.wf (stateOf s (execQueryTranslation ctx ring s)).mem = true := by
  simp [execQueryTranslation, h]
@[simp] theorem execQueryOwnership_wf (ctx : Fin 4097) (ring : Fin 8) (h : Memory.wf s.mem = true) :
    Memory.wf (stateOf s (execQueryOwnership ctx ring s)).mem = true := by
  simp [execQueryOwnership, h]

/-! Ryurus datagrams. -/

@[simp] theorem State.updSess_mem (id : Nat) (f : Sess → Sess) : (s.updSess id f).mem = s.mem := by simp [State.updSess]
@[simp] theorem State.closeSess_mem (id : Nat) : (s.closeSess id).mem = s.mem := by simp [State.closeSess]
@[simp] theorem State.sendAll_mem (session typ seq : Nat) (ds : List (List Byte)) : (s.sendAll session typ seq ds).mem = s.mem := by
  simp [State.sendAll]
@[simp] theorem State.sendMsg_mem (id typ : Nat) (msg : List Byte) : (s.sendMsg id typ msg).mem = s.mem := by
  unfold State.sendMsg
  split <;> simp

/-! Writes of the dictionary. -/

@[simp] theorem State.toJournal_mem (r : DReq) (v : Nat) : (s.toJournal r v).s.mem = s.mem := by simp [State.toJournal]
@[simp] theorem State.clearCounter_mem (key : Nat) : (s.clearCounter key).mem = s.mem := by simp [State.clearCounter]
@[simp] theorem State.pkgOffset_mem (v : Nat) : (s.pkgOffset v).s.mem = s.mem := by
  unfold State.pkgOffset
  split <;> simp
@[simp] theorem State.pkgData_mem (v : List Byte) : (s.pkgData v).s.mem = s.mem := by
  unfold State.pkgData
  dsimp only
  (repeat' split) <;> simp
@[simp] theorem State.pkgActivate_mem (r : DReq) (t : Token) : (s.pkgActivate r t).s.mem = s.mem := by
  unfold State.pkgActivate
  dsimp only
  split
  · split
    · next h _ => (repeat' split) <;> exact mem_of_fst h (State.checkToken_mem ..)
    · next h _ => exact mem_of_fst h (State.checkToken_mem ..)
  · (repeat' split) <;> simp
@[simp] theorem State.tokenWrite_mem (r : DReq) (t : Token) : (s.tokenWrite r t).s.mem = s.mem := by
  unfold State.tokenWrite
  dsimp only
  (repeat' split) <;> simp
@[simp] theorem State.signedWrite_mem (r : DReq) (v : List Byte) : (s.signedWrite r v).s.mem = s.mem := by
  unfold State.signedWrite
  dsimp only
  (repeat' split) <;> simp
@[simp] theorem State.snapped_mem (i : Nat) : (s.snapped i).mem = s.mem := by simp [State.snapped]
@[simp] theorem State.snapWrite_mem (c : Cls) (i : Nat) : (s.snapWrite c i).s.mem = s.mem := by fun_cases State.snapWrite <;> simp
@[simp] theorem State.replanWrite_mem (heart : List Nat) : (s.replanWrite heart).mem = s.mem := by simp [State.replanWrite]
@[simp] theorem ofPair_mem (r : State × Status) : (ofPair r).s.mem = r.1.mem := rfl
@[simp] theorem State.actionWrite_wf (c : Cls) (n : Nat) (h : Memory.wf s.mem = true) : Memory.wf (s.actionWrite c n).1.mem = true := by
  simp [State.actionWrite, h]
@[simp] theorem State.ctxWrite_mem (key : Nat) (v : List Byte) : (s.ctxWrite key v).s.mem = s.mem := by
  unfold State.ctxWrite
  split <;> simp
theorem Wr.ite_wf {c : Prop} [Decidable c] {a b : Wr} (ha : Memory.wf a.s.mem = true) (hb : Memory.wf b.s.mem = true) :
    Memory.wf (if c then a else b).s.mem = true := by
  split <;> assumption
@[simp] theorem State.actWrite_wf (r : DReq) (v : List Byte) (h : Memory.wf s.mem = true) : Memory.wf (s.actWrite r v).s.mem = true := by
  have ht : Memory.wf (s.setDv r.key (cleaned r.key (leNat v))).mem = true := by simp [h]
  unfold State.actWrite
  refine Wr.ite_wf (by simp [h]) <| Wr.ite_wf (by simp [h]) <| Wr.ite_wf (by simp [h]) <| Wr.ite_wf (by simp [h]) <|
    Wr.ite_wf (by simp [h]) <| Wr.ite_wf (foldl_wf _ _ _ ht fun t p ha => by simp [ha]) <| Wr.ite_wf ?_ <| Wr.ite_wf ?_ <|
    Wr.ite_wf ?_ <| Wr.ite_wf (by simp [h]) <| Wr.ite_wf (by simp [h]) ht
  all_goals
    dsimp only
    split <;> simp [h]
@[simp] theorem State.writeEntry_wf (r : DReq) (v : List Byte) (h : Memory.wf s.mem = true) :
    Memory.wf (s.writeEntry r v).s.mem = true := by
  unfold State.writeEntry
  dsimp only
  (repeat' split) <;> simp [h]

/-! Ring registers and COMMAND_FETCH. -/

@[simp] theorem State.refuseSq_mem (c r : Nat) (st : Status) : (s.refuseSq c r st).mem = s.mem := by simp [State.refuseSq]
@[simp] theorem State.refuseCq_mem (c : Nat) (st : Status) : (s.refuseCq c st).mem = s.mem := by simp [State.refuseCq]
@[simp] theorem State.sqCtrlWrite_mem (c r : Nat) (v : Word) : (s.sqCtrlWrite c r v).mem = s.mem := by
  unfold State.sqCtrlWrite
  dsimp only
  (repeat' split) <;> simp
@[simp] theorem execSqCtrl_mem (ctx : Fin 4097) (ring : Fin 8) (value : Word) :
    (stateOf s (execSqCtrl ctx ring value s)).mem = s.mem := by
  simp [execSqCtrl]
@[simp] theorem State.cqCtrlWrite_mem (c : Nat) (v : Word) : (s.cqCtrlWrite c v).mem = s.mem := by
  unfold State.cqCtrlWrite
  dsimp only
  (repeat' split) <;> simp
@[simp] theorem execCqCtrl_mem (ctx : Fin 4097) (value : CqWrite) : (stateOf s (execCqCtrl ctx value s)).mem = s.mem := by
  fun_cases execCqCtrl <;> simp
@[simp] theorem execSqBase_mem (ctx : Fin 4097) (ring : Fin 8) (value : BitVec 64) :
    (stateOf s (execSqBase ctx ring value s)).mem = s.mem := by
  unfold execSqBase
  dsimp only
  (repeat' split) <;> simp
@[simp] theorem execCqBase_mem (ctx : Fin 4097) (value : BitVec 64) : (stateOf s (execCqBase ctx value s)).mem = s.mem := by
  unfold execCqBase
  dsimp only
  (repeat' split) <;> simp
@[simp] theorem execSqTail_mem (ctx : Fin 4097) (ring : Fin 8) (value : Word) :
    (stateOf s (execSqTail ctx ring value s)).mem = s.mem := by
  simp [execSqTail]
@[simp] theorem execCqHead_wf (ctx : Fin 4097) (value : Word) (h : Memory.wf s.mem = true) :
    Memory.wf (stateOf s (execCqHead ctx value s)).mem = true := by
  simp [execCqHead, h]
@[simp] theorem execCqIrqTimer_mem (ctx : Fin 4097) : (stateOf s (execCqIrqTimer ctx s)).mem = s.mem := by simp [execCqIrqTimer]
@[simp] theorem execCommandFetch_wf (ctx : Fin 4097) (ring : Fin 8) (hostEntry : BitVec 512) (h : Memory.wf s.mem = true) :
    Memory.wf (stateOf s (execCommandFetch ctx ring hostEntry s)).mem = true := by
  unfold execCommandFetch
  extract_lets c r x torn ag
  split
  · exact h
  split
  · exact h
  split
  next t img e =>
  have ht : Memory.wf t.mem = true := wf_of_fst e (by
    have hr := s.agRead_wf ag .read (x.base.toNat + 64 * x.head) 64 h
    split
    · split
      · next e => simp [wf_of_fst e hr]
      · next e => simp [wf_of_fst e hr]
      · simp [h]
    · exact h)
  split
  · exact ht
  · extract_lets cmd u
    have hu : Memory.wf u.mem = true := by simp [u, ht]
    split
    · simp [hu]
    split <;> simp [hu]

/-! The queue of dictionary requests. -/

@[simp] theorem State.answer_mem (dest : Reply) (st : Status) (val : List Byte) : (s.answer dest st val).mem = s.mem := by
  unfold State.answer
  dsimp only
  (repeat' split) <;> simp
@[simp] theorem State.handle_wf (r : DReq) (h : Memory.wf s.mem = true) : Memory.wf (s.handle r).mem = true := by
  unfold State.handle
  dsimp only
  (repeat' split) <;> simp [h]
@[simp] theorem State.serveN_wf (n : Nat) (h : Memory.wf s.mem = true) : Memory.wf (State.serveN n s).mem = true := by
  induction n generalizing s with
  | zero => exact h
  | succ n ih =>
    unfold State.serveN
    split
    · split
      · exact h
      · exact ih _ (by simp [h])
    · exact h
@[simp] theorem State.serveNext_wf (h : Memory.wf s.mem = true) : Memory.wf (s.serveNext).mem = true := by simp [State.serveNext, h]
@[simp] theorem State.request_wf (r : DReq) (h : Memory.wf s.mem = true) : Memory.wf (s.request r).mem = true := by
  simp [State.request, h]
@[simp] theorem rowWrite_wf (c : Cls) (key : Nat) (v : List Byte) (tok : Option Token) (heart : List Nat) (h : Memory.wf s.mem = true) :
    Memory.wf (stateOf s (rowWrite s c key v tok heart)).mem = true := by
  simp [rowWrite, h]
@[simp] theorem rowRead_wf (c : Cls) (key : Nat) (h : Memory.wf s.mem = true) : Memory.wf (stateOf s (rowRead s c key)).mem = true := by
  simp [rowRead, h]
@[simp] theorem execWarningCleared_wf (h : Memory.wf s.mem = true) : Memory.wf (stateOf s (execWarningCleared s)).mem = true := by
  simp [execWarningCleared, h]
@[simp] theorem execDbgHalt_wf (c : Cls) (h : Memory.wf s.mem = true) : Memory.wf (stateOf s (execDbgHalt c s)).mem = true := by
  simp [execDbgHalt, h]
@[simp] theorem execDbgResume_wf (c : Cls) (h : Memory.wf s.mem = true) : Memory.wf (stateOf s (execDbgResume c s)).mem = true := by
  simp [execDbgResume, h]
@[simp] theorem execDbgStep_wf (c : Cls) (h : Memory.wf s.mem = true) : Memory.wf (stateOf s (execDbgStep c s)).mem = true := by
  simp [execDbgStep, h]
@[simp] theorem execDbgAuth_wf (c : Cls) (tok : Token) (h : Memory.wf s.mem = true) :
    Memory.wf (stateOf s (execDbgAuth c tok s)).mem = true := by
  simp [execDbgAuth, h]
@[simp] theorem execDbgDataRead_wf (c : Cls) (h : Memory.wf s.mem = true) : Memory.wf (stateOf s (execDbgDataRead c s)).mem = true := by
  simp [execDbgDataRead, h]
@[simp] theorem execDbgDataWrite_wf (c : Cls) (data : List Byte) (h : Memory.wf s.mem = true) :
    Memory.wf (stateOf s (execDbgDataWrite c data s)).mem = true := by
  simp [execDbgDataWrite, h]
@[simp] theorem execBreakpointWrite_wf (c : Cls) (sub : Nat) (value : BitVec 64) (h : Memory.wf s.mem = true) :
    Memory.wf (stateOf s (execBreakpointWrite c sub value s)).mem = true := by
  simp [execBreakpointWrite, h]
@[simp] theorem execSrSeed_wf (c : Cls) (ctx : Fin 4097) (seed : Word) (h : Memory.wf s.mem = true) :
    Memory.wf (stateOf s (execSrSeed c ctx seed s)).mem = true := by
  simp [execSrSeed, h]
@[simp] theorem execCtxSecret_wf (c : Cls) (ctx : Fin 4096) (value : List Byte) (h : Memory.wf s.mem = true) :
    Memory.wf (stateOf s (execCtxSecret c ctx value s)).mem = true := by
  simp [execCtxSecret, h]
@[simp] theorem execCtxPrivate_wf (c : Cls) (ctx : Fin 4096) (value : Nat) (h : Memory.wf s.mem = true) :
    Memory.wf (stateOf s (execCtxPrivate c ctx value s)).mem = true := by
  simp [execCtxPrivate, h]
@[simp] theorem execGwBind_wf (c : Cls) (ctx : Fin 4096) (n : Fin 4) (value : BitVec 64) (h : Memory.wf s.mem = true) :
    Memory.wf (stateOf s (execGwBind c ctx n value s)).mem = true := by
  simp [execGwBind, h]
@[simp] theorem execTokenChallengeRead_wf (c : Cls) (h : Memory.wf s.mem = true) :
    Memory.wf (stateOf s (execTokenChallengeRead c s)).mem = true := by
  simp [execTokenChallengeRead, h]
@[simp] theorem execAuthKey_wf (c : Cls) (key : BitVec 776) (tok : Option Token) (h : Memory.wf s.mem = true) :
    Memory.wf (stateOf s (execAuthKey c key tok s)).mem = true := by
  simp [execAuthKey, h]
@[simp] theorem execMapoutClear_wf (c : Cls) (tok : Token) (h : Memory.wf s.mem = true) :
    Memory.wf (stateOf s (execMapoutClear c tok s)).mem = true := by
  simp [execMapoutClear, h]
@[simp] theorem execFenceMapWrite_wf (c : Cls) (value : BitVec 640) (tok : Option Token) (h : Memory.wf s.mem = true) :
    Memory.wf (stateOf s (execFenceMapWrite c value tok s)).mem = true := by
  simp [execFenceMapWrite, h]
@[simp] theorem execYewClear_wf (c : Cls) (tok : Token) (h : Memory.wf s.mem = true) :
    Memory.wf (stateOf s (execYewClear c tok s)).mem = true := by
  simp [execYewClear, h]
@[simp] theorem execRekeyNow_wf (c : Cls) (ports : Word) (h : Memory.wf s.mem = true) :
    Memory.wf (stateOf s (execRekeyNow c ports s)).mem = true := by
  simp [execRekeyNow, h]
@[simp] theorem execPortCtrl_wf (c : Cls) (port : Fin 18) (value : Word) (h : Memory.wf s.mem = true) :
    Memory.wf (stateOf s (execPortCtrl c port value s)).mem = true := by
  simp [execPortCtrl, h]
@[simp] theorem execRouteMode_wf (c : Cls) (value : Nat) (h : Memory.wf s.mem = true) :
    Memory.wf (stateOf s (execRouteMode c value s)).mem = true := by
  simp [execRouteMode, h]
@[simp] theorem execRouteD_wf (c : Cls) (dev : Fin 64) (ports : Word) (h : Memory.wf s.mem = true) :
    Memory.wf (stateOf s (execRouteD c dev ports s)).mem = true := by
  simp [execRouteD, h]
@[simp] theorem execEntryWrite_wf (c : Cls) (key : Nat) (data : List Byte) (tok : Option Token) (h : Memory.wf s.mem = true) :
    Memory.wf (stateOf s (execEntryWrite c key data tok s)).mem = true := by
  simp [execEntryWrite, h]
@[simp] theorem execCounterClear_wf (c : Cls) (key : Nat) (data : List Byte) (h : Memory.wf s.mem = true) :
    Memory.wf (stateOf s (execCounterClear c key data s)).mem = true := by
  simp [execCounterClear, h]
@[simp] theorem execSnapIndex_wf (c : Cls) (index : Nat) (h : Memory.wf s.mem = true) :
    Memory.wf (stateOf s (execSnapIndex c index s)).mem = true := by
  simp [execSnapIndex, h]
@[simp] theorem execCompactNow_wf (c : Cls) (value : Nat) (h : Memory.wf s.mem = true) :
    Memory.wf (stateOf s (execCompactNow c value s)).mem = true := by
  simp [execCompactNow, h]
@[simp] theorem execPkgOffset_wf (c : Cls) (value : Nat) (h : Memory.wf s.mem = true) :
    Memory.wf (stateOf s (execPkgOffset c value s)).mem = true := by
  simp [execPkgOffset, h]
@[simp] theorem execPkgData_wf (c : Cls) (data : List Byte) (h : Memory.wf s.mem = true) :
    Memory.wf (stateOf s (execPkgData c data s)).mem = true := by
  simp [execPkgData, h]
@[simp] theorem execPackageActivate_wf (c : Cls) (tok : Token) (h : Memory.wf s.mem = true) :
    Memory.wf (stateOf s (execPackageActivate c tok s)).mem = true := by
  simp [execPackageActivate, h]
@[simp] theorem execGradeRestore_wf (c : Cls) (tok : Token) (h : Memory.wf s.mem = true) :
    Memory.wf (stateOf s (execGradeRestore c tok s)).mem = true := by
  simp [execGradeRestore, h]
@[simp] theorem execCapEn_wf (c : Cls) (value : Nat) (h : Memory.wf s.mem = true) :
    Memory.wf (stateOf s (execCapEn c value s)).mem = true := by
  simp [execCapEn, h]
@[simp] theorem execPowerCap_wf (c : Cls) (value : Nat) (h : Memory.wf s.mem = true) :
    Memory.wf (stateOf s (execPowerCap c value s)).mem = true := by
  simp [execPowerCap, h]
@[simp] theorem execCapGuard_wf (c : Cls) (value : Nat) (h : Memory.wf s.mem = true) :
    Memory.wf (stateOf s (execCapGuard c value s)).mem = true := by
  simp [execCapGuard, h]
@[simp] theorem execReplanNow_wf (c : Cls) (value : Nat) (heart : List Nat) (h : Memory.wf s.mem = true) :
    Memory.wf (stateOf s (execReplanNow c value heart s)).mem = true := by
  simp [execReplanNow, h]

/-! Ryurus sessions and mailboxes. -/

@[simp] theorem execNeighborSolicitation_mem (target : BitVec 128) : (stateOf s (execNeighborSolicitation target s)).mem = s.mem := by
  simp [execNeighborSolicitation]
@[simp] theorem execDuplicateAddressDetection_mem (inUse : Bool) : (stateOf s (execDuplicateAddressDetection inUse s)).mem = s.mem := by
  simp [execDuplicateAddressDetection]
@[simp] theorem State.discard_mem (n : Nat) : (s.discard n).mem = s.mem := by simp [State.discard]
@[simp] theorem State.receive_mem (d : Dgram) (o : Bool) (body : State → Sess → List Byte → State)
    (hb : ∀ t x b, (body t x b).mem = t.mem) : (s.receive d o body).mem = s.mem := by
  unfold State.receive
  dsimp only
  (repeat' split) <;> simp [hb]
@[simp] theorem execOpenSession_mem (d : Dgram) : (stateOf s (execOpenSession d s)).mem = s.mem := by
  unfold execOpenSession
  dsimp only
  (repeat' split) <;> simp
@[simp] theorem State.openFailed_mem (id : Nat) : (s.openFailed id).mem = s.mem := by simp [State.openFailed]
@[simp] theorem execConfirm_mem (d : Dgram) : (stateOf s (execConfirm d s)).mem = s.mem := by simp [execConfirm]
@[simp] theorem execConfirmTimeout_mem (session : Nat) : (stateOf s (execConfirmTimeout session s)).mem = s.mem := by
  unfold execConfirmTimeout
  split <;> simp
@[simp] theorem State.sequenced_wf (d : Dgram) (x : Sess) (r : Option DReq) (h : Memory.wf s.mem = true) :
    Memory.wf (s.sequenced d x r).mem = true := by
  fun_cases State.sequenced <;> simp [h]
theorem State.receive_wf (d : Dgram) (o : Bool) (body : State → Sess → List Byte → State) (h : Memory.wf s.mem = true)
    (hb : ∀ t x b, Memory.wf t.mem = true → Memory.wf (body t x b).mem = true) : Memory.wf (s.receive d o body).mem = true := by
  unfold State.receive
  dsimp only
  (repeat' split) <;> simp [h, hb]
@[simp] theorem execRead_wf (d : Dgram) (h : Memory.wf s.mem = true) : Memory.wf (stateOf s (execRead d s)).mem = true := by
  unfold execRead
  split
  · exact h
  split
  · simp [h]
  · rw [stateOf_next]
    exact s.receive_wf _ _ _ h fun t x b ht => t.sequenced_wf _ _ _ ht
@[simp] theorem execWrite_wf (d : Dgram) (h : Memory.wf s.mem = true) : Memory.wf (stateOf s (execWrite d s)).mem = true := by
  unfold execWrite
  split
  · exact h
  split
  · simp [h]
  · rw [stateOf_next]
    exact s.receive_wf _ _ _ h fun t x b ht => t.sequenced_wf _ _ _ ht
@[simp] theorem execKeepalive_mem (d : Dgram) : (stateOf s (execKeepalive d s)).mem = s.mem := by simp [execKeepalive]
@[simp] theorem execClose_mem (d : Dgram) : (stateOf s (execClose d s)).mem = s.mem := by simp [execClose]
@[simp] theorem execSegmentTimeout_mem (session seq : Nat) : (stateOf s (execSegmentTimeout session seq s)).mem = s.mem := by
  fun_cases execSegmentTimeout <;> simp
@[simp] theorem execSessionIdleExpiry_mem (session : Nat) : (stateOf s (execSessionIdleExpiry session s)).mem = s.mem := by
  unfold execSessionIdleExpiry
  split <;> simp
@[simp] theorem execAlarmDispatch_mem : (stateOf s (execAlarmDispatch s)).mem = s.mem := by simp [execAlarmDispatch]
@[simp] theorem State.mboxGo_wf (ctx : Nat) (b : Mbox) (r : DReq) (h : Memory.wf s.mem = true) :
    Memory.wf (stateOf s (s.mboxGo ctx b r)).mem = true := by
  simp [State.mboxGo, h]
@[simp] theorem execMailboxRead_wf (ctx : Fin 4097) (entry : Word) (h : Memory.wf s.mem = true) :
    Memory.wf (stateOf s (execMailboxRead ctx entry s)).mem = true := by
  simp [execMailboxRead, h]
@[simp] theorem execMailboxWrite_wf (ctx : Fin 4097) (entry : Word) (data : List Byte) (tok : Option Token) (h : Memory.wf s.mem = true) :
    Memory.wf (stateOf s (execMailboxWrite ctx entry data tok s)).mem = true := by
  simp [execMailboxWrite, h]

/-! Commits of the journal. -/

@[simp] theorem State.committed_mem (w : JWrite) : (s.committed w).mem = s.mem := by simp [State.committed]
@[simp] theorem State.handDone_wf (w : JWrite) (st : Status) (h : Memory.wf s.mem = true) : Memory.wf (s.handDone w st).mem = true := by
  unfold State.handDone
  split <;> simp [h]
@[simp] theorem execJournalCommit_wf (h : Memory.wf s.mem = true) : Memory.wf (stateOf s (execJournalCommit s)).mem = true := by
  unfold execJournalCommit
  dsimp only
  (repeat' split) <;> simp [h]
@[simp] theorem State.journalFailed_mem : (s.journalFailed).mem = s.mem := by simp [State.journalFailed]
@[simp] theorem execJournalWriteTimeout_wf (h : Memory.wf s.mem = true) :
    Memory.wf (stateOf s (execJournalWriteTimeout s)).mem = true := by
  unfold execJournalWriteTimeout
  dsimp only
  (repeat' split) <;> simp [h]
@[simp] theorem execCompaction_mem : (stateOf s (execCompaction s)).mem = s.mem := by simp [execCompaction]
@[simp] theorem execJournalAreaErase_mem : (stateOf s (execJournalAreaErase s)).mem = s.mem := by simp [execJournalAreaErase]
@[simp] theorem execOpTimeJournal_mem : (stateOf s (execOpTimeJournal s)).mem = s.mem := by simp [execOpTimeJournal]

/-! PERST#, rails and start-up. -/

/-- A full reset empties memory. -/
@[simp] theorem execPerstAssert_wf (h : Memory.wf s.mem = true) : Memory.wf (stateOf s (execPerstAssert s)).mem = true := by
  unfold execPerstAssert
  split
  · exact h
  · rfl
@[simp] theorem execRailCrossing_mem (rail : Fin 40) (what : Crossing) : (stateOf s (execRailCrossing rail what s)).mem = s.mem := by
  unfold execRailCrossing
  dsimp only
  (repeat' split) <;> simp
@[simp] theorem execRefclkLoss_mem : (stateOf s (execRefclkLoss s)).mem = s.mem := by simp [execRefclkLoss]
@[simp] theorem State.replayJournal_mem : (s.replayJournal).1.mem = s.mem := by
  unfold State.replayJournal
  simp only [State.mem_ite, State.count_mem, State.compactNow_mem, State.updMgmt_mem, ite_self]
  exact foldl_mem _ _ _ fun t e => by (repeat' split) <;> simp
@[simp] theorem State.loadTables_mem (p : Replay) : (s.loadTables p).1.mem = s.mem := by
  unfold State.loadTables
  dsimp only
  (repeat' split) <;> simp
@[simp] theorem State.mapRepairs_mem : (s.mapRepairs).mem = s.mem := by simp [State.mapRepairs]
@[simp] theorem State.mapCores_mem : (s.mapCores).mem = s.mem := by simp [State.mapCores]
@[simp] theorem State.startClocks_mem (heart : List Nat) : (s.startClocks heart).mem = s.mem := by
  unfold State.startClocks
  dsimp only
  refine (foldl_mem _ _ _ fun t d => ?_).trans ?_
  · split <;> simp
  · rw [State.replan_mem]
    refine (foldl_mem _ _ _ fun t d => State.updDie_mem ..).trans ?_
    split
    · rw [State.updMgmt_mem]
      exact foldl_mem _ _ _ fun t k => State.setDv_mem ..
    · rfl
@[simp] theorem State.train_mem (r : Training) : (s.train r).mem = s.mem := by
  unfold State.train
  extract_lets t old
  split
  extract_lets set t1 t2 t3 t4 t5 gone t6 t7
  dsimp only
  calc t7.mem = t6.mem := foldl_mem _ _ _ fun t k => State.updStack_mem ..
    _ = t5.mem := by simp [t6]
    _ = t4.mem := foldl_mem _ _ _ fun t k => State.raise_mem ..
    _ = t3.mem := foldl_mem _ _ _ fun t k => State.raise_mem ..
    _ = t2.mem := by simp [t3]
    _ = t1.mem := by simp [t2]
    _ = t.mem := rfl
    _ = s.mem := by simp [t]
@[simp] theorem State.startUp_mem (r : StartReport) : (s.startUp r).mem = s.mem := by simp [State.startUp]
@[simp] theorem execPerstRelease_mem (r : StartReport) : (stateOf s (execPerstRelease r s)).mem = s.mem := by
  unfold execPerstRelease
  dsimp only
  (repeat' split) <;> simp
@[simp] theorem execPcieHotReset_wf (h : Memory.wf s.mem = true) : Memory.wf (stateOf s (execPcieHotReset s)).mem = true := by
  unfold execPcieHotReset
  split
  · exact h
  extract_lets live t u v w
  have hu : Memory.wf u.mem = true := foldl_wf _ _ _ h fun a c ha => by
    rw [State.settle_mem]
    refine State.forcedStop_wf _ _ _ ?_
    split <;> simp [ha]
  have hv : Memory.wf v.mem = true := by simp [v, hu]
  have hw : Memory.wf w.mem = true := by
    unfold w
    split <;> simp [hv]
  rw [stateOf_next, State.updCq_mem]
  exact foldl_wf _ _ _ hw fun a r ha => by simp [ha]
@[simp] theorem execConfigRequest_mem (function : Fin 4097) (busMaster : Option Bool) :
    (stateOf s (execConfigRequest function busMaster s)).mem = s.mem := by
  unfold execConfigRequest
  dsimp only
  (repeat' split) <;> simp
@[simp] theorem execTapInstruction_mem (op : TapOp) : (stateOf s (execTapInstruction op s)).mem = s.mem := by simp [execTapInstruction]

/-! Service of the banks. -/

@[simp] theorem State.goOn_mem (r : Req) : (s.goOn r).mem = s.mem := by
  unfold State.goOn
  dsimp only
  (repeat' split) <;> simp
@[simp] theorem State.serve_wf (key : Nat) (lost : Bool) (h : Memory.wf s.mem = true) : Memory.wf (s.serve key lost).mem = true := by
  unfold State.serve
  split <;> simp [h]
@[simp] theorem execHbmBankService_wf (stack : Fin 16) (ch : Fin 32) (pc : Fin 2) (bank : Nat) (h : Memory.wf s.mem = true) :
    Memory.wf (stateOf s (execHbmBankService stack ch pc bank s)).mem = true := by
  simp [execHbmBankService, h]
@[simp] theorem State.nearLost_mem (die group : Nat) : (s.nearLost die group).mem = s.mem := by simp [State.nearLost]
@[simp] theorem execNearBankService_wf (die : Fin 8) (group : Fin 16) (ecc : Ecc) (h : Memory.wf s.mem = true) :
    Memory.wf (stateOf s (execNearBankService die group ecc s)).mem = true := by
  unfold execNearBankService
  dsimp only
  (repeat' split) <;> simp [h]
@[simp] theorem execAtomicUnitOp_wf (unit : Fin 144) (h : Memory.wf s.mem = true) :
    Memory.wf (stateOf s (execAtomicUnitOp unit s)).mem = true := by
  unfold execAtomicUnitOp
  dsimp only
  (repeat' split) <;> simp [h]
@[simp] theorem execAtomicBlockWriteback_mem (unit : Fin 144) (block : Nat) :
    (stateOf s (execAtomicBlockWriteback unit block s)).mem = s.mem := by
  simp [execAtomicBlockWriteback]
@[simp] theorem execScrubRead_mem (stack : Fin 16) (ch : Fin 32) (pc : Fin 2) :
    (stateOf s (execScrubRead stack ch pc s)).mem = s.mem := by
  unfold execScrubRead
  dsimp only
  (repeat' split) <;> simp
@[simp] theorem execHbmRefresh_mem (stack : Fin 16) (ch : Fin 32) (pc : Fin 2) (bank : Nat) :
    (stateOf s (execHbmRefresh stack ch pc bank s)).mem = s.mem := by
  simp [execHbmRefresh]
@[simp] theorem execOndieEccPoll_mem (_stack : Fin 16) (count : Nat) : (stateOf s (execOndieEccPoll _stack count s)).mem = s.mem := by
  simp [execOndieEccPoll]
@[simp] theorem execCaParityError_mem (stack : Fin 16) (ch : Fin 32) : (stateOf s (execCaParityError stack ch s)).mem = s.mem := by
  simp [execCaParityError]

end Sys2Proof.Machine

/-! One step (O4). -/

namespace Sys2Proof.Machine

/-- A command leaves memory canonical: the lemma of each instruction's meaning. -/
theorem exec_wf (i : Instr) {s : State} (h : Memory.wf s.mem = true) : Memory.wf (stateOf s (exec i s)).mem = true := by
  cases i <;> simp [h]

theorem step_wf {s t : State} (h : Memory.wf s.mem = true) (e : step s = .next t) : Memory.wf t.mem = true := by
  unfold step at e
  split at e
  · cases e
    rw [State.tick_mem]
    exact h
  · next c r _ =>
    have hw := exec_wf c (s := { s with pending := r }) h
    rwa [e, stateOf_next] at hw

/-- Settles O4: what a step writes to memory it writes through the block, granule and map-out operations, each of which keeps the cells
in order and free of zeros; every other operation leaves memory as it was. -/
theorem memoryStaysCanonical : Obligations.MemoryStaysCanonical := by
  unfold Obligations.MemoryStaysCanonical
  exact fun s t hs e => step_wf hs e

end Sys2Proof.Machine

/-! The service of one block of a request (R212, R215, R216, R293). -/

namespace Sys2Proof.Machine

/-! The request in the table. -/

theorem find?_modifyWhere {α : Type} {q : α → Bool} {f : α → α} {l : List α} {a : α} (h : l.find? q = some a) (hf : q (f a) = true) :
    (modifyWhere q f l).find? q = some (f a) := by
  induction l with
  | nil => cases h
  | cons b l ih =>
    by_cases hb : q b = true
    · obtain rfl : b = a := by simpa [hb] using h
      simp [modifyWhere, hb, hf]
    · have hrest : l.find? q = some a := by simpa [hb] using h
      simpa [modifyWhere, hb] using ih hrest

section
variable {s t : State} {r x y : Req} {p id : Nat} {st : Status} {bs : List Byte}

theorem req?_updReq (h : s.req? id = some x) (hy : y.id = id) : (s.updReq id (fun _ => y)).req? id = some y :=
  find?_modifyWhere h (by simpa using hy)

theorem req?_of_tableWritten (h : TableWritten s t) (id : Nat) : t.req? id = s.req? id := by
  obtain ⟨_, _, _, _, _, _, _, _, _, rfl⟩ := h; rfl

/-! A block that has been served. -/

/-- The end of a channel's part of a gather is counted, and leaves the channel's queue (R228). -/
theorem subDone_reported : ∃ b, Reported { s with banks := b } (s.subDone r p) := by
  unfold State.subDone
  split
  · dsimp only
    split
    · exact ⟨s.banks, .rfl s⟩
    · split
      · exact ⟨_, (reported_count _ _ _).trans (reported_count _ _ _)⟩
      · exact ⟨_, reported_count _ _ _⟩
  · exact ⟨s.banks, .rfl s⟩

@[simp] theorem subDone_reqs (s : State) (r : Req) (p : Nat) : (s.subDone r p).reqs = s.reqs := by
  obtain ⟨_, _, _, _, h⟩ := subDone_reported (s := s) (r := r) (p := p); rw [h]

@[simp] theorem subDone_side (s : State) (r : Req) (p : Nat) : (s.subDone r p).side = s.side := by
  obtain ⟨_, _, _, _, h⟩ := subDone_reported (s := s) (r := r) (p := p); rw [h]

theorem req?_of_reqs (h : t.reqs = s.reqs) (id : Nat) : t.req? id = s.req? id := by
  unfold State.req?; rw [h]

/-- A request with one more block served: what was read is kept, the first failing code stays. -/
def Req.withBlock (r : Req) (p : Nat) (st : Status) (bs : List Byte) : Req :=
  { r with got := mapInsert r.got p bs, st := if r.st = 0 then st else r.st }

/-- A request that is done. -/
def Req.finished (r : Req) : Req := { r with ph := .done, res := if r.st = 0 then answerOf r else [] }

/-- Before its last block a request goes on. -/
theorem req?_blockDone_more (hr : s.req? r.id = some x) (hmore : (blocksOf r).all (fun q => (mapFind (mapInsert r.got p bs) q).isSome) = false) :
    (s.blockDone r p st bs).req? r.id = some (r.withBlock p st bs) := by
  have hdone : s.blockDone r p st bs = (s.subDone (r.withBlock p st bs) p).updReq r.id (fun _ => r.withBlock p st bs) :=
    if_neg (ne_true_of_eq_false hmore)
  rw [hdone]
  exact req?_updReq ((req?_of_reqs (subDone_reqs _ _ _) _).trans hr) rfl

/-- With its last block a request is done. -/
theorem blockDone_last (hr : s.req? r.id = some x) (hall : (blocksOf r).all (fun q => (mapFind (mapInsert r.got p bs) q).isSome) = true) :
    (s.blockDone r p st bs).req? r.id = some (r.withBlock p st bs).finished ∧ (s.blockDone r p st bs).side = s.side := by
  have hlast := req?_updReq (y := (r.withBlock p st bs).finished)
    ((req?_of_reqs (t := (s.subDone (r.withBlock p st bs) p).unqueue r.id) (subDone_reqs _ _ _) r.id).trans hr) rfl
  unfold State.blockDone
  extract_lets y u v
  rw [if_pos (show (blocksOf y).all (fun q => (mapFind y.got q).isSome) = true from hall)]
  have hv : v.req? r.id = some (r.withBlock p st bs).finished ∧ v.side = s.side := ⟨hlast, subDone_side _ _ _⟩
  split
  · split
    · exact ⟨(req?_of_reqs (by simp) _).trans hv.1, (by simp : _ = v.side).trans hv.2⟩
    · exact hv
  · exact hv

theorem tableWritten_applyBlock : TableWritten s (s.applyBlock r p).1 := by
  unfold State.applyBlock
  dsimp only
  split
  · exact tableWritten_blockPut _ _
  · exact tableWritten_devRead _ _
  · exact tableWritten_devRead _ _
  · split
    · exact tableWritten_devRead _ _
    · exact (tableWritten_devRead _ _).trans (tableWritten_blockPut _ _)

theorem servePart_eq (hr : s.req? r.id = some r) (hwin : r.win = false) (hwalk : r.walk = []) :
    s.servePart r.id p = (s.applyBlock r p).1.blockDone r p (s.applyBlock r p).2.1 (s.applyBlock r p).2.2 := by
  unfold State.servePart
  simp [hr, hwin, hwalk]

/-- A request with a block left to serve goes on. -/
theorem servePart_more {q : Nat} (hr : s.req? r.id = some r) (hwin : r.win = false) (hwalk : r.walk = []) (hq : q ∈ blocksOf r) (hqp : q ≠ p)
    (hgot : mapFind r.got q = none) : ∃ x, (s.servePart r.id p).req? r.id = some x ∧ x.ph = r.ph := by
  rw [servePart_eq hr hwin hwalk]
  refine ⟨_, req?_blockDone_more ((req?_of_tableWritten tableWritten_applyBlock _).trans hr) ?_, rfl⟩
  refine List.all_eq_false.mpr ⟨q, hq, ?_⟩
  rw [mapFind_insert_other _ _ _ _ hqp, hgot]
  decide

/-- The request is done with a code and a result. -/
def State.Finished (s : State) (id : Nat) (st : Status) (res : List Byte) : Prop :=
  ∃ x, s.req? id = some x ∧ x.ph = .done ∧ x.st = st ∧ x.res = res

end

/-! Requests of one block. -/

/-- A request to this device's memory, of one block, of which nothing has been served. -/
structure OneBlock (s : State) (r : Req) (p : Nat) : Prop where
  stands : s.req? r.id = some r
  memory : r.win = false
  walked : r.walk = []
  good : r.st = 0
  block : blocksOf r = [p]
  unserved : r.got = []

section
variable {s u : State} {r : Req} {p : Nat} {st : Status} {bs : List Byte} (h : OneBlock s r p)
include h

/-- What the service of the one block leaves: memory as its application leaves it, and the request done. -/
theorem OneBlock.served (hu : s.applyBlock r p = (u, st, bs)) :
    (s.servePart r.id p).mem = u.mem ∧ (s.servePart r.id p).side = u.side ∧
      (s.servePart r.id p).Finished r.id st (if st = 0 then answerOf (r.withBlock p st bs) else []) := by
  obtain ⟨hr, hwin, hwalk, hst, hblock, hgot⟩ := h
  have hreq : u.req? r.id = some r := by
    have happly := tableWritten_applyBlock (s := s) (r := r) (p := p)
    rw [hu] at happly
    exact (req?_of_tableWritten happly _).trans hr
  have hall : (blocksOf r).all (fun q => (mapFind (mapInsert r.got p bs) q).isSome) = true := by
    simp [hblock, hgot, mapInsert, mapFind]
  obtain ⟨hdone, hside⟩ := blockDone_last (st := st) hreq hall
  have hserve := servePart_eq (p := p) hr hwin hwalk
  rw [hu] at hserve
  rw [hserve]
  have hcode : (r.withBlock p st bs).st = st := if_pos hst
  exact ⟨State.blockDone_mem _ _ _ _ _, hside, _, hdone, rfl, hcode, by simp only [Req.finished, hcode]⟩

end

/-! The bytes of a read of one block. -/

theorem length_cellsRead (m : List Host.Cell) (a n : Nat) : (cellsRead m a n).length = n := by simp [cellsRead]

/-- A part of the bytes of a range. -/
theorem cellsRead_part {m : List Host.Cell} {a k n l : Nat} (h : k + n ≤ l) :
    ((cellsRead m a l).drop k).take n = cellsRead m (a + k) n := by
  obtain ⟨j, rfl⟩ := Nat.exists_eq_add_of_le h
  rw [← cellsRead_add, ← cellsRead_add, List.append_assoc, List.drop_left' (length_cellsRead _ _ _), List.take_left' (length_cellsRead _ _ _)]

theorem blockLen_pos (o : Nat) : 0 < blockLen o := by unfold blockLen; split <;> decide

/-- A block starts where its bytes do. -/
theorem blockOf_add (o : Nat) : blockOf o + o % blockLen o = o := by
  unfold blockOf blockLen
  split <;> omega

theorem blockLen_blockOf (o : Nat) : blockLen (blockOf o) = blockLen o := by
  unfold blockLen blockOf nearBase
  split <;> split <;> omega

/-- A range of one block lies in it. -/
theorem blocksIn_single {o n p : Nat} (h : blocksIn o n = [p]) : p = blockOf o ∧ o % blockLen o + n ≤ blockLen o := by
  have hpos := blockLen_pos o
  have hlt := Nat.mod_lt o hpos
  unfold blocksIn cut pieces at h
  split at h
  · cases h
  · obtain ⟨hp, hrest⟩ := List.cons.inj h
    refine ⟨hp.symm, ?_⟩
    unfold pieces at hrest
    split at hrest
    · omega
    · cases hrest

section
variable {s : State} {r : Req} {p : Nat} (h : OneBlock s r p)
include h

theorem OneBlock.blocksIn {n : Nat} (hop : r.op = .rd n) : blocksIn (gOffset r.addr) n = [p] := by
  have hblock := h.block
  simpa [blocksOf, h.memory, hop] using hblock

/-- The answer of a read, from the bytes of its block. -/
theorem OneBlock.read_answer {n : Nat} (hop : r.op = .rd n) (m : List Host.Cell) (st : Status) :
    answerOf (r.withBlock p st (cellsRead m p (blockLen p))) = cellsRead m (gOffset r.addr) n := by
  obtain ⟨hp, hfit⟩ := blocksIn_single (h.blocksIn hop)
  have hoff := blockOf_add (gOffset r.addr)
  have hstart : gOffset r.addr - blockOf (gOffset r.addr) = gOffset r.addr % blockLen (gOffset r.addr) := by omega
  have hlen : blockLen p = blockLen (gOffset r.addr) := by rw [hp, blockLen_blockOf]
  simp only [answerOf, Req.withBlock, h.unserved, mapInsert, mapFind, hop, h.memory, h.blocksIn hop, Bool.false_eq_true, if_false, if_true,
    List.flatMap_cons, List.flatMap_nil, List.append_nil, Option.getD_some, hstart]
  rw [cellsRead_part (by rw [hlen]; exact hfit), hp, hoff]

end

/-! A block read through its code (R215), and written (R216). -/

section
variable {s : State} {b o n p w : Nat}

@[simp] theorem corrAt_side (s : State) (o : Nat) : (s.corrAt o).side = s.side := by
  unfold State.corrAt
  dsimp only
  split <;> simp

theorem eccBlock_unlisted (h : mapFind s.side b = none) : s.eccBlock b = (s, true) := by
  unfold State.eccBlock
  rw [h]

/-- A block with one wrong symbol is corrected and written back. -/
theorem eccBlock_fixed {d : List Byte} {tag : Nat} (hw : mapFind s.side b = some w)
    (hd : decodeBlock (cellsRead s.mem (64 * b) 64) w = .fixed d tag) :
    ∃ u, s.eccBlock b = (u, true) ∧ u.mem = cellsWrite s.mem (64 * b) d ∧ u.side = mapErase s.side b := by
  refine ⟨_, ?_, State.corrAt_mem { s with mem := cellsWrite s.mem (64 * b) d, side := mapErase s.side b } (64 * b), corrAt_side _ _⟩
  unfold State.eccBlock
  simp only [hw, hd]

/-- A block that cannot be read keeps its bytes. -/
theorem eccBlock_unreadable (hw : mapFind s.side b = some w)
    (hd : decodeBlock (cellsRead s.mem (64 * b) 64) w = .poison ∨ decodeBlock (cellsRead s.mem (64 * b) 64) w = .lost) :
    ∃ u, s.eccBlock b = (u, false) ∧ u.mem = s.mem := by
  unfold State.eccBlock
  rcases hd with hd | hd <;> simp [hw, hd]

/-- HBM lies below the near tier (Table 07.2). -/
theorem lt_nearBase_of_hbm (h : s.region p = .hbm) : p < nearBase := by
  unfold State.region at h
  split at h
  · next hp => unfold State.hbmBacked at hp; unfold nearBase; omega
  · (repeat' split at h) <;> cases h

theorem devRead_near (h : s.region o = .near) : s.devRead o n = (s, 0, cellsRead s.mem o n) := by
  unfold State.devRead
  rw [h]

/-- Blocks with the codes of their bytes are read as they stand. -/
theorem devRead_unlisted (h : s.region o = .hbm) (hside : ∀ e ∈ s.side, ¬ (o / 64 ≤ e.1 ∧ 64 * e.1 < o + n)) :
    s.devRead o n = (s, 0, cellsRead s.mem o n) := by
  have hnone : s.side.filter (fun e => decide (o / 64 ≤ e.1 ∧ 64 * e.1 < o + n)) = [] :=
    List.filter_eq_nil_iff.mpr fun e he => by simpa using hside e he
  unfold State.devRead State.eccSweep
  rw [h, hnone]
  rfl

/-- A read of a block is that of its codeword. -/
theorem devRead_listed (h : s.region p = .hbm) (hp : p % 64 = 0) (hone : s.side.filter (fun e => e.1 == p / 64) = [(p / 64, w)])
    {u : State} {good : Bool} (hu : s.eccBlock (p / 64) = (u, good)) :
    s.devRead p 64 = if good then (u, 0, cellsRead u.mem p 64) else (u, Code.uncorrectable, []) := by
  have hrange : s.side.filter (fun e => decide (p / 64 ≤ e.1 ∧ 64 * e.1 < p + 64)) = [(p / 64, w)] := by
    rw [← hone]
    exact List.filter_congr fun e _ => by rw [Bool.eq_iff_iff]; simp; omega
  unfold State.devRead State.eccSweep
  rw [h, hrange]
  simp [hu]

theorem blockPut_near (h : s.region o = .near) (cs : List (Nat × Byte)) : s.blockPut o cs = ({ s with mem := cellsPut s.mem cs }, 0) := by
  unfold State.blockPut
  rw [h]

/-- All of a block, or a part of one with the code of its bytes, is written. -/
theorem blockPut_hbm {cs : List (Nat × Byte)} (h : s.region o = .hbm) (hgood : 64 ≤ cs.length ∨ mapFind s.side (o / 64) = none) :
    s.blockPut o cs = ({ s with mem := cellsPut s.mem cs, side := mapErase s.side (o / 64) }, 0) := by
  unfold State.blockPut
  rw [h]
  dsimp only
  split
  · rfl
  · next hpart => rw [eccBlock_unlisted (hgood.resolve_left hpart)]; rfl

/-- A part of a block that cannot be read is not written. -/
theorem blockPut_unreadable {cs : List (Nat × Byte)} (h : s.region o = .hbm) (hpart : cs.length < 64)
    (hw : mapFind s.side (o / 64) = some w) (hd : decodeBlock (cellsRead s.mem (64 * (o / 64)) 64) w = .poison ∨
      decodeBlock (cellsRead s.mem (64 * (o / 64)) 64) w = .lost) :
    ∃ u, s.blockPut o cs = (u, Code.uncorrectable) ∧ u.mem = s.mem := by
  obtain ⟨u, hu, hmem⟩ := eccBlock_unreadable hw hd
  refine ⟨u, ?_, hmem⟩
  unfold State.blockPut
  rw [h]
  simp [Nat.not_le.mpr hpart, hu]

end

/-! What the service of the one block does, by what the request asks. -/

section
variable {s u : State} {r : Req} {p : Nat} {st : Status} (h : OneBlock s r p)
include h

/-- A read gives the block's bytes. -/
theorem OneBlock.read {n : Nat} (hop : r.op = .rd n) (hu : s.devRead p (blockLen p) = (u, 0, cellsRead u.mem p (blockLen p))) :
    (s.servePart r.id p).mem = u.mem ∧ (s.servePart r.id p).side = u.side ∧
      (s.servePart r.id p).Finished r.id 0 (cellsRead u.mem (gOffset r.addr) n) := by
  have happly : s.applyBlock r p = (u, 0, cellsRead u.mem p (blockLen p)) := by unfold State.applyBlock; rw [hop]; exact hu
  have hserved := h.served happly
  rwa [if_pos rfl, h.read_answer hop] at hserved

/-- A read of a block that cannot be read fails. -/
theorem OneBlock.read_fails {n : Nat} (hop : r.op = .rd n) (hu : s.devRead p (blockLen p) = (u, Code.uncorrectable, [])) :
    (s.servePart r.id p).mem = u.mem ∧ (s.servePart r.id p).Finished r.id Code.uncorrectable [] := by
  have happly : s.applyBlock r p = (u, Code.uncorrectable, []) := by unfold State.applyBlock; rw [hop]; exact hu
  obtain ⟨hmem, -, hdone⟩ := h.served happly
  exact ⟨hmem, hdone⟩

/-- A write puts its bytes. -/
theorem OneBlock.write {cs : List (Nat × Byte)} (hop : r.op = .wr cs)
    (hu : s.blockPut p (cs.map (fun c => (gOffset r.addr + c.1, c.2))) = (u, st)) :
    (s.servePart r.id p).mem = u.mem ∧ (s.servePart r.id p).side = u.side ∧ (s.servePart r.id p).Finished r.id st [] := by
  have hall : (cs.map (fun c => (gOffset r.addr + c.1, c.2))).filter (fun c => blockOf c.1 == p) =
      cs.map (fun c => (gOffset r.addr + c.1, c.2)) := by
    have hblock := h.block
    simp only [blocksOf, h.memory, hop, Bool.false_eq_true, if_false] at hblock
    refine List.filter_eq_self.mpr fun c hc => ?_
    obtain ⟨d, hd, rfl⟩ := List.mem_map.mp hc
    have hin := mem_sortNat.mpr (List.mem_map_of_mem (f := fun c : Nat × Byte => blockOf (gOffset r.addr + c.1)) hd)
    rw [hblock] at hin
    simpa using hin
  have happly : s.applyBlock r p = (u, st, []) := by
    unfold State.applyBlock
    simp only [hop, hall, hu]
  have hserved := h.served happly
  have hanswer : answerOf (r.withBlock p st []) = [] := by simp [answerOf, Req.withBlock, hop]
  rwa [hanswer, ite_self] at hserved

end

/-! Words whose blocks have the codes of their bytes. -/

/-- A word of the near tier, or of HBM with every block good. -/
def State.Sound (s : State) (o : Nat) : Prop := s.region o = .near ∨ (s.region o = .hbm ∧ s.side = [])

section
variable {s : State} {r : Req} {p o : Nat}

theorem devRead_sound (h : s.Sound o) (n : Nat) : s.devRead o n = (s, 0, cellsRead s.mem o n) := by
  rcases h with h | ⟨h, hside⟩
  · exact devRead_near h
  · exact devRead_unlisted h (by simp [hside])

theorem blockPut_sound (h : s.Sound o) (cs : List (Nat × Byte)) : ∃ u, s.blockPut o cs = (u, 0) ∧ u.mem = cellsPut s.mem cs := by
  rcases h with h | ⟨h, hside⟩
  · exact ⟨_, blockPut_near h cs, rfl⟩
  · exact ⟨_, blockPut_hbm h (.inr (by rw [hside]; rfl)), rfl⟩

variable (h : OneBlock s r p) (hplace : s.Sound (gOffset r.addr))
include h hplace

/-- An atomic gives the old word and leaves the new. -/
theorem OneBlock.atomic {a : Aop} {typ v w : Nat} {ret : Bool} (hop : r.op = .at a typ v w ret) :
    (s.servePart r.id p).mem = cellsPut s.mem (zipFrom (gOffset r.addr) (leBytes (typBytes typ)
        (atomNew a typ (leNat (cellsRead s.mem (gOffset r.addr) (typBytes typ))) v w))) ∧
      (s.servePart r.id p).Finished r.id 0 (cellsRead s.mem (gOffset r.addr) (typBytes typ)) := by
  obtain ⟨u, hu, hmem⟩ := blockPut_sound hplace (zipFrom (gOffset r.addr) (leBytes (typBytes typ)
    (atomNew a typ (leNat (cellsRead s.mem (gOffset r.addr) (typBytes typ))) v w)))
  have happly : s.applyBlock r p = (u, 0, cellsRead s.mem (gOffset r.addr) (typBytes typ)) := by
    unfold State.applyBlock
    simp [hop, opBytes, devRead_sound hplace, applyOp, hu]
  obtain ⟨hserved, -, hdone⟩ := h.served happly
  have hanswer : ∀ bs, answerOf (r.withBlock p 0 bs) = bs := fun bs => by simp [answerOf, Req.withBlock, hop, h.unserved, mapInsert]
  rw [if_pos rfl, hanswer] at hdone
  exact ⟨hserved.trans hmem, hdone⟩

/-- A flag's value is written. -/
theorem OneBlock.flag {v : Nat} (hop : r.op = .flag v) :
    (s.servePart r.id p).mem = cellsPut s.mem (zipFrom (gOffset r.addr) (leBytes 4 v)) ∧ (s.servePart r.id p).Finished r.id 0 [] := by
  obtain ⟨u, hu, hmem⟩ := blockPut_sound hplace (zipFrom (gOffset r.addr) (leBytes 4 v))
  have happly : s.applyBlock r p = (u, 0, []) := by
    unfold State.applyBlock
    simp [hop, opBytes, devRead_sound hplace, applyOp, hu]
  obtain ⟨hserved, -, hdone⟩ := h.served happly
  have hanswer : answerOf (r.withBlock p 0 []) = [] := by simp [answerOf, Req.withBlock, hop, h.unserved, mapInsert]
  rw [if_pos rfl, hanswer] at hdone
  exact ⟨hserved.trans hmem, hdone⟩

end

/-! The same, by the state of the block. -/

section
variable {s : State} {r : Req} {p : Nat} (h : OneBlock s r p)
include h

/-- A read of a block with the code of its bytes. -/
theorem OneBlock.read_good {n : Nat} (hop : r.op = .rd n)
    (hplace : s.region p = .near ∨ (s.region p = .hbm ∧ p % 64 = 0 ∧ ∀ e ∈ s.side, e.1 ≠ p / 64)) :
    (s.servePart r.id p).Finished r.id 0 (cellsRead s.mem (gOffset r.addr) n) ∧ (s.servePart r.id p).mem = s.mem ∧
      (s.servePart r.id p).side = s.side := by
  have hu : s.devRead p (blockLen p) = (s, 0, cellsRead s.mem p (blockLen p)) := by
    rcases hplace with hnear | ⟨hhbm, halign, hclean⟩
    · exact devRead_near hnear
    · refine devRead_unlisted hhbm fun e he => ?_
      have hlen : blockLen p = 64 := if_pos (lt_nearBase_of_hbm hhbm)
      have hne := hclean e he
      omega
  obtain ⟨hmem, hside, hdone⟩ := h.read hop hu
  exact ⟨hdone, hmem, hside⟩

/-- A read of a block whose code finds wrong symbols (R215). -/
theorem OneBlock.read_coded {n w : Nat} (hop : r.op = .rd n) (hhbm : s.region p = .hbm) (halign : p % 64 = 0)
    (hone : s.side.filter (fun e => e.1 == p / 64) = [(p / 64, w)]) (hw : mapFind s.side (p / 64) = some w) :
    (∀ d tag, decodeBlock (cellsRead s.mem (64 * (p / 64)) 64) w = .fixed d tag →
      (s.servePart r.id p).mem = cellsWrite s.mem p d ∧ (s.servePart r.id p).side = mapErase s.side (p / 64) ∧
        (s.servePart r.id p).Finished r.id 0 (cellsRead (s.servePart r.id p).mem (gOffset r.addr) n)) ∧
    (decodeBlock (cellsRead s.mem (64 * (p / 64)) 64) w = .poison ∨ decodeBlock (cellsRead s.mem (64 * (p / 64)) 64) w = .lost →
      (s.servePart r.id p).mem = s.mem ∧ (s.servePart r.id p).Finished r.id Code.uncorrectable []) := by
  have hlen : blockLen p = 64 := if_pos (lt_nearBase_of_hbm hhbm)
  have hstart : 64 * (p / 64) = p := by omega
  refine ⟨fun d tag hd => ?_, fun hd => ?_⟩
  · obtain ⟨u, hu, humem, huside⟩ := eccBlock_fixed hw hd
    obtain ⟨hmem, hside, hdone⟩ := h.read hop (by rw [hlen, devRead_listed hhbm halign hone hu]; rfl)
    rw [hmem]
    exact ⟨humem.trans (by rw [hstart]), hside.trans huside, hdone⟩
  · obtain ⟨u, hu, humem⟩ := eccBlock_unreadable hw hd
    obtain ⟨hmem, hdone⟩ := h.read_fails hop (by rw [hlen, devRead_listed hhbm halign hone hu]; rfl)
    exact ⟨hmem.trans humem, hdone⟩

/-- A write where its bytes can be put changes them and no other, and leaves the block good (R216). -/
theorem OneBlock.write_good {cs : List (Nat × Byte)} (hop : r.op = .wr cs)
    (hplace : s.region p = .near ∨ (s.region p = .hbm ∧ (64 ≤ cs.length ∨ mapFind s.side (p / 64) = none))) :
    (s.servePart r.id p).Finished r.id 0 [] ∧
      (s.servePart r.id p).mem = cellsPut s.mem (cs.map (fun c => (gOffset r.addr + c.1, c.2))) ∧
      (∀ a, (∀ c ∈ cs, gOffset r.addr + c.1 ≠ a) → mapGet (0 : Byte) (s.servePart r.id p).mem a = mapGet (0 : Byte) s.mem a) ∧
      (s.region p = .hbm → mapFind (s.servePart r.id p).side (p / 64) = none) := by
  have hput : ∃ u, s.blockPut p (cs.map (fun c => (gOffset r.addr + c.1, c.2))) = (u, 0) ∧
      u.mem = cellsPut s.mem (cs.map (fun c => (gOffset r.addr + c.1, c.2))) ∧ (s.region p = .hbm → mapFind u.side (p / 64) = none) := by
    rcases hplace with hnear | ⟨hhbm, hgood⟩
    · exact ⟨_, blockPut_near hnear _, rfl, fun hhbm => by rw [hnear] at hhbm; cases hhbm⟩
    · exact ⟨_, blockPut_hbm hhbm (by rwa [List.length_map]), rfl, fun _ => mapFind_erase_self _ _⟩
  obtain ⟨u, hu, humem, huside⟩ := hput
  obtain ⟨hmem, hside, hdone⟩ := h.write hop hu
  refine ⟨hdone, hmem.trans humem, fun a ha => ?_, fun hhbm => by rw [hside]; exact huside hhbm⟩
  rw [hmem, humem]
  refine mapGet_cellsPut_other fun c hc => ?_
  obtain ⟨d, hd, rfl⟩ := List.mem_map.mp hc
  exact ha d hd

/-- A write of a part of a block that cannot be read fails (R216). -/
theorem OneBlock.write_fails {cs : List (Nat × Byte)} {w : Nat} (hop : r.op = .wr cs) (hhbm : s.region p = .hbm) (hpart : cs.length < 64)
    (hw : mapFind s.side (p / 64) = some w) (hd : decodeBlock (cellsRead s.mem (64 * (p / 64)) 64) w = .poison ∨
      decodeBlock (cellsRead s.mem (64 * (p / 64)) 64) w = .lost) :
    (s.servePart r.id p).mem = s.mem ∧ (s.servePart r.id p).Finished r.id Code.uncorrectable [] := by
  obtain ⟨u, hu, humem⟩ := blockPut_unreadable (cs := cs.map (fun c => (gOffset r.addr + c.1, c.2))) hhbm (by rwa [List.length_map]) hw hd
  obtain ⟨hmem, -, hdone⟩ := h.write hop hu
  exact ⟨hmem.trans humem, hdone⟩

end

/-- Settles O38: a request with a block left goes on (`servePart_more`); of a request of one block, by what it asks for, the lemmas about
`OneBlock`. -/
theorem appliedRequests : Obligations.AppliedRequests := by
  unfold Obligations.AppliedRequests
  intro s r p hr hwin hwalk hst _
  refine ⟨fun q hq hqp hgot => servePart_more hr hwin hwalk hq hqp hgot, fun hblock hgot => ?_⟩
  have h : OneBlock s r p := ⟨hr, hwin, hwalk, hst, hblock, hgot⟩
  refine ⟨fun n hop => ⟨h.read_good hop, fun w hhbm halign hone hw => h.read_coded hop hhbm halign hone hw⟩,
    fun cs hop _ => ⟨h.write_good hop, fun w hhbm hpart hw hd => h.write_fails hop hhbm hpart hw hd⟩,
    fun a typ v w ret hop hplace => h.atomic hplace hop, fun v hop hplace => h.flag hplace hop⟩

end Sys2Proof.Machine

/-! Upkeep of the stacks: refreshes, on-die counts, parity errors and the scrub (R217 to R219, R222). -/

namespace Sys2Proof.Machine

section
variable {s : State} {stack : Fin 16} {ch : Fin 32} {pc : Fin 2} (hrun : s.running = true)
include hrun

/-- A refresh is counted at its bank. -/
theorem hbmRefresh_counts {bank : Nat} (hbank : bank < 65536) (htrip : (stackOf s stack.val).tripped = false) {k : Nat}
    (hk : k = qBank { stack := stack.val, ch := ch.val, pc := pc.val, bank := bank, block := 0 }) :
    ∃ m, exec (.hbmRefresh stack ch pc bank) s = .next { s with banks := m } ∧ m = mapSet {} s.banks k (mapGet {} m k) ∧
      mapGet {} m k = { mapGet ({} : BankQ) s.banks k with refresh := (mapGet ({} : BankQ) s.banks k).refresh + 1 } := by
  subst hk
  refine ⟨mapUpd {} s.banks _ (fun b => { b with refresh := b.refresh + 1 }), ?_, ?_, mapGet_set_self _ _ _ _⟩
  · simp [execHbmRefresh, hrun, htrip, Nat.not_le.mpr hbank]
  · simp only [mapUpd, mapGet_set_self]

theorem ondieEccPoll_counts (n : Nat) : exec (.ondieEccPoll stack n) s = .next (s.count (dkey 0x3011 0x03) n) := by
  simp [execOndieEccPoll, hrun]

/-- The parity errors of a stack's channels within 1 s, a new one of a channel included. -/
def State.parityErrors (s : State) (stack ch : Nat) : List (Nat × Nat) :=
  recentErr (stackOf (s.count (dkey 0x3011 0x05)) stack).parity ch s.now second

/-- The state with a new parity error counted and noted. -/
def State.parityNoted (s : State) (stack ch : Nat) : State :=
  (s.count (dkey 0x3011 0x05)).updStack stack (fun k => { k with parity := s.parityErrors stack ch })

theorem caParityError_below (h : errCount (s.parityErrors stack.val ch.val) ch.val < (s.parityNoted stack.val ch.val).dv (dkey 0x3014 0x01)) :
    exec (.caParityError stack ch) s = .next (s.parityNoted stack.val ch.val) := by
  simp only [exec_caParityError, execCaParityError, hrun, Bool.not_true, Bool.false_eq_true, if_false, State.count_now]
  exact if_neg (Nat.not_le.mpr h)

/-- At the limit the channel's map-out is queued. -/
theorem caParityError_limit (h : (s.parityNoted stack.val ch.val).dv (dkey 0x3014 0x01) ≤ errCount (s.parityErrors stack.val ch.val) ch.val)
    (hin : bitAt (s.parityNoted stack.val ch.val).outSet (16 * ch.val + stack.val) = false)
    (hnew : 16 * ch.val + stack.val ∉ (s.parityNoted stack.val ch.val).hbm.mapout.queue) {t : State} (ht : t = s.parityNoted stack.val ch.val) :
    exec (.caParityError stack ch) s = .next { t with hbm := { t.hbm with mapout := {
      queue := t.hbm.mapout.queue ++ [16 * ch.val + stack.val], step := if t.hbm.mapout.step = 0 then 1 else t.hbm.mapout.step } } } := by
  have hexec : exec (.caParityError stack ch) s = .next (t.triggerMapout (16 * ch.val + stack.val)) := by
    subst ht
    simp only [exec_caParityError, execCaParityError, hrun, Bool.not_true, Bool.false_eq_true, if_false, State.count_now]
    exact if_pos h
  rw [hexec]
  exact congrArg _ (if_neg (by subst ht; simp [hin, hnew]))

end

/-! The scrub (R218). -/

/-- The scrub's place in a pseudo-channel is the next block. -/
def State.scrubNext (s : State) (k : Nat) : State :=
  { s with hbm := { s.hbm with scrub := mapSet 0 s.hbm.scrub k (mapGet 0 s.hbm.scrub k + 1) } }

/-- The scrub of a pseudo-channel may go on: its stack and channel are in service, and no read of it is under way. -/
structure State.Scrubs (s : State) (stack ch pc : Nat) : Prop where
  running : s.running = true
  kept : bitAt s.outSet (16 * ch + stack) = false
  cool : (stackOf s stack).tripped = false
  powered : s.stopped.2.contains stack = false
  unqueued : 16 * ch + stack ∉ s.hbm.mapout.queue
  idle : ∀ r ∈ s.reqs, ¬ (r.src = .firmware ∧ r.xfer = 0 ∧ r.gidx = (stack * 32 + ch) * 2 + pc + 1)

section
variable {s : State} {stack : Fin 16} {ch : Fin 32} {pc : Fin 2} (h : s.Scrubs stack.val ch.val pc.val)
include h

theorem State.Scrubs.goes_on : (!s.running || bitAt s.outSet (16 * ch.val + stack.val) || (stackOf s stack.val).tripped ||
    s.stopped.2.contains stack.val || s.hbm.mapout.queue.contains (16 * ch.val + stack.val) ||
    s.reqs.any (isScrub ((stack.val * 32 + ch.val) * 2 + pc.val))) = false := by
  have hscrub : s.reqs.any (isScrub ((stack.val * 32 + ch.val) * 2 + pc.val)) = false :=
    List.any_eq_false.mpr fun r hr => by simpa [isScrub, and_assoc] using h.idle r hr
  have hqueued : s.hbm.mapout.queue.contains (16 * ch.val + stack.val) = false := by simpa using h.unqueued
  rw [h.running, h.kept, h.cool, h.powered, hqueued, hscrub]
  rfl

/-- With its last block read a pseudo-channel waits for the others; the last of all ends the period. -/
theorem State.Scrubs.last (hlast : mapGet 0 s.hbm.scrub ((stack.val * 32 + ch.val) * 2 + pc.val) = 2 ^ 25) :
    exec (.scrubRead stack ch pc) s =
      .next (if s.scrubOver then ({ s with hbm := { s.hbm with scrub := [] } } : State).count (dkey 0x3012 0x02) else s) :=
  (if_neg (by rw [h.goes_on]; decide)).trans (if_pos hlast)

variable {k : Nat} (hk : k = (stack.val * 32 + ch.val) * 2 + pc.val) (hmore : mapGet 0 s.hbm.scrub k ≠ 2 ^ 25) {o : Nat}
  (ho : s.offsetAt stack.val ch.val pc.val (mapGet 0 s.hbm.scrub k) = some o)
include hk hmore ho

/-- A poisoned block is passed by. -/
theorem State.Scrubs.passes (hpoison : s.poisoned (o / 64) = true) : exec (.scrubRead stack ch pc) s = .next (s.scrubNext k) := by
  subst hk
  refine (if_neg (by rw [h.goes_on]; decide)).trans ((if_neg hmore).trans ?_)
  extract_lets hb t
  rw [show t.offsetAt _ _ _ _ = some o from ho]
  exact if_pos hpoison

/-- Another block is asked for. -/
theorem State.Scrubs.asks (hsound : s.poisoned (o / 64) = false) : exec (.scrubRead stack ch pc) s =
    .next ({ s.scrubNext k with
      nextId := s.nextId + 1
      reqs := s.reqs ++ [{ id := s.nextId, src := .firmware, op := .rd 64, addr := mkGlobal s.dev.deviceId o, ph := .slot
                           gidx := k + 1 }] } : State).readmit := by
  subst hk
  refine (if_neg (by rw [h.goes_on]; decide)).trans ((if_neg hmore).trans ?_)
  extract_lets hb t
  rw [show t.offsetAt _ _ _ _ = some o from ho]
  exact if_neg (ne_true_of_eq_false hsound)

end

/-! Temperatures of the stacks (R219 to R221). -/

@[simp] theorem stackOf_updStack (s : State) (k : Nat) (f : Stack → Stack) : stackOf (s.updStack k f) k = f (stackOf s k) := by
  simp [stackOf, mapUpd]

/-! What answering a request leaves of the stacks. -/

section
variable (s : State)

@[simp] theorem owe_hbm (p vc n : Nat) : (s.owe p vc n).hbm = s.hbm := by
  unfold State.owe; split <;> rfl

@[simp] theorem oweFlag_hbm (p : Nat) (r : Req) : (s.oweFlag p r).hbm = s.hbm := by
  unfold State.oweFlag; split <;> simp

@[simp] theorem reply_hbm (r : Req) : (s.reply r).hbm = s.hbm := by
  unfold State.reply
  split
  · dsimp only
    split <;> rfl
  · rfl

theorem foldl_hbm {β : Type} {f : State → β → State} (h : ∀ t b, (f t b).hbm = t.hbm) (l : List β) : (l.foldl f s).hbm = s.hbm :=
  foldl_keeps (P := fun t => t.hbm = s.hbm) f l s rfl fun t b ht => (h t b).trans ht

@[simp] theorem larchEmits_hbm (g : Nat) (ds : List LSent) : (s.larchEmits g ds).hbm = s.hbm :=
  foldl_hbm s (f := fun t d => t.larchEmit g d) (fun _ _ => rfl) ds

@[simp] theorem answerFrame_hbm (g : Nat) (rs : RStream) (f : RFrame) : (s.answerFrame g rs f).hbm = s.hbm := by
  simp [State.answerFrame, State.updGw]

@[simp] theorem gwSweep_hbm : s.gwSweep.hbm = s.hbm := by
  refine foldl_hbm s (fun t g => foldl_hbm t (fun t rs => foldl_hbm t (fun t f => ?_) _) _) _
  split
  · exact answerFrame_hbm t g rs f
  · rfl

@[simp] theorem afterDone_hbm (id : Nat) : (s.afterDone id).hbm = s.hbm := by
  unfold State.afterDone
  split
  · rfl
  · split
    · simp
    · simp
    · split <;> rfl
    · rfl

end

section
variable {s : State} {stack : Fin 16} {temp : Int} (hrun : s.running = true) (hcool : (stackOf s stack.val).tripped = false)
include hrun hcool

theorem stackTempRead_runs : (!(s.running || s.dev.phase == .safe) || (stackOf s stack.val).tripped) = false := by
  rw [hrun, hcool]; rfl

/-- A reading of a stack at refresh step 0 sets the step that its temperature reaches. -/
theorem stackTempRead_step (htemp : temp < 110) (hstep : (stackOf s stack.val).step = 0) {n : Nat}
    (hn : n = if temp ≥ 105 then 3 else if temp ≥ 95 then 2 else if temp ≥ 85 then 1 else 0) {t : State}
    (ht : t = s.updStack stack.val (fun x => { x with temp := temp, step := n })) : exec (.stackTempRead stack temp) s =
      .next (if n ≥ 2 then (t.count (dkey 0x3013 0x03)).raise Ev.refreshStep (32 * stack.val) else t) := by
  have hreach : stepOf temp (stackOf s stack.val).step = n := by simp [stepOf, hn, hstep]
  have hrise : (n ≠ (stackOf s stack.val).step ∧ n ≥ 2) = (n ≥ 2) := by rw [hstep]; exact propext ⟨And.right, fun h => ⟨by omega, h⟩⟩
  subst ht
  refine (if_neg (by rw [stackTempRead_runs hrun hcool]; decide)).trans ((if_neg (by omega)).trans ?_)
  simp only [hreach, hrise]

/-- The state with a stack's own temperature limit reached. -/
def State.stackTripped (s : State) (k : Nat) (temp : Int) : State := s.updStack k (fun x => { x with temp := temp, tripped := true })

/-- A request that a tripped stack had admitted fails. -/
def State.tripReq (s : State) (r : Req) : State :=
  ((s.unqueue r.id).updReq r.id (fun r => { r with ph := .done, st := Code.uncorrectable })).afterDone r.id

/-- The requests that a stack has admitted. -/
def State.admittedBy (s : State) (k : Nat) : List Req := s.reqs.filter (fun r => s.admittedTo r (fun o => (s.place o).stack == k))

/-- At 110 °C the stack trips: what it had admitted fails, and the device trips. -/
theorem stackTempRead_trip (htemp : 110 ≤ temp) {u : State} (hu : u = s.stackTripped stack.val temp) : exec (.stackTempRead stack temp) s =
    .next (((u.admittedBy stack.val).foldl State.tripReq u).thermalTrip 2 stack.val (8 + dieOfStack stack.val)) := by
  subst hu
  exact (if_neg (by rw [stackTempRead_runs hrun hcool]; decide)).trans (if_pos htemp)

theorem stackTempRead_trip_idle (htemp : 110 ≤ temp) {u : State} (hu : u = s.stackTripped stack.val temp)
    (hidle : ∀ r ∈ u.reqs, u.admittedTo r (fun o => (u.place o).stack == stack.val) = false) :
    exec (.stackTempRead stack temp) s = .next (u.thermalTrip 2 stack.val (8 + dieOfStack stack.val)) := by
  rw [stackTempRead_trip hrun hcool htemp hu, State.admittedBy, List.filter_eq_nil_iff.mpr fun r hr => ne_true_of_eq_false (hidle r hr)]
  rfl

end

/-- What has tripped stays so while its requests fail. -/
theorem stackOf_tripReqs (s : State) (l : List Req) (k : Nat) : stackOf (l.foldl State.tripReq s) k = stackOf s k :=
  congrArg (fun h : Hbm => mapGet ({} : Stack) h.stackTab k) (foldl_hbm s (f := State.tripReq) (fun _ r => afterDone_hbm _ r.id) l)

/-- The device's thermal trip (R433) leaves the stacks. -/
theorem stackOf_thermalTrip (s : State) (cause n unit k : Nat) : stackOf (s.thermalTrip cause n unit) k = stackOf s k := by
  refine congrArg (fun h : Hbm => mapGet ({} : Stack) h.stackTab k) ?_
  simp [State.thermalTrip, State.persist, State.ownWrite, State.updMgmt]

/-- At 110 °C the device has tripped, and the stack. -/
theorem stackTempRead_trips {s : State} {stack : Fin 16} {temp : Int} (hrun : s.running = true) (hcool : (stackOf s stack.val).tripped = false)
    (htemp : 110 ≤ temp) : ∃ t : State, exec (.stackTempRead stack temp) s = .next t ∧ t.dev.phase = .tripped ∧ t.dev.thermtrip = true ∧
      (stackOf t stack.val).tripped = true := by
  refine ⟨_, stackTempRead_trip hrun hcool htemp rfl, rfl, rfl, ?_⟩
  rw [stackOf_thermalTrip, stackOf_tripReqs, State.stackTripped, stackOf_updStack]

end Sys2Proof.Machine

/-! The map-out of a channel, step by step (R224, R225, R229). -/

namespace Sys2Proof.Machine

/-! What the row does, by the step that the map-out has reached. -/

/-- The map-out at the head of the queue goes on: the device runs, flash may be programmed, the stack's rails stand. -/
structure State.MapsOut (s : State) (slot : Nat) (rest : List Nat) : Prop where
  running : s.running = true
  journals : s.fencedFlash = false
  powered : s.stopped.2.contains (slot % 16) = false
  queue : s.hbm.mapout.queue = slot :: rest

/-- A map-out at a step. -/
def State.mapAt (s : State) (slot : Nat) (rest : List Nat) (n : Nat) : State :=
  { s with hbm := { s.hbm with mapout := { queue := slot :: rest, step := n } } }

/-- Does an offset lie in the rows that a map-out removes, or in its channel? -/
def State.leavesRows (s : State) (slot o : Nat) : Bool := decide (o ≥ s.mapTop) || s.chanAt o == 32 * (slot % 16) + slot / 16

section
variable {s : State} {slot : Nat} {rest : List Nat} (h : s.MapsOut slot rest)
include h

theorem State.MapsOut.mapStep_eq (n : Nat) : s.mapStep n = s.mapAt slot rest n := by
  simp only [State.mapStep, State.mapAt, h.queue]

theorem State.MapsOut.goes_on : (!s.running || s.fencedFlash || s.stopped.2.contains (slot % 16)) = false := by
  rw [h.running, h.journals, h.powered]; rfl

/-- Step 1 lasts while the controllers have admitted an access to what goes. -/
theorem State.MapsOut.drains (hstep : s.hbm.mapout.step = 1) (hadm : ∃ r ∈ s.reqs, s.admittedTo r (s.leavesRows slot) = true) :
    exec .channelMapout s = .next s := by
  simp only [exec_channelMapout, execChannelMapout, h.queue, h.goes_on, hstep, Bool.false_eq_true, if_false]
  exact if_pos (List.any_eq_true.mpr hadm)

/-- Then the map is committed to the journal. -/
theorem State.MapsOut.commits (hstep : s.hbm.mapout.step = 1) (hadm : ∀ r ∈ s.reqs, s.admittedTo r (s.leavesRows slot) = false) :
    exec .channelMapout s = .next { s.mapAt slot rest 2 with mgmt := { s.mgmt with own := s.mgmt.own ++ [
      { key := dkey 0x3010 0x03, val := s.outSet ||| 2 ^ slot, old := s.outSet, began := s.now, eff := 3, keep := true }] } } := by
  have hwrite : ∀ w : JWrite, w.eff = 3 → (s.ownWrite w).mapStep 2 =
      { s.mapAt slot rest 2 with mgmt := { s.mgmt with own := s.mgmt.own ++ [w] } } := fun w hw => by
    rw [show s.ownWrite w = s.updMgmt (fun m => { m with own := m.own ++ [w] }) from if_neg (by simp [hw])]
    simp only [State.mapStep, State.mapAt, State.updMgmt, h.queue]
  simp only [exec_channelMapout, execChannelMapout, h.queue, h.goes_on, hstep, Bool.false_eq_true, if_false]
  rw [hwrite _ rfl]
  exact if_neg (Bool.eq_false_iff.mp (List.any_eq_false.mpr fun r hr => ne_true_of_eq_false (hadm r hr)))

/-- Step 2 lasts until the journal holds the map. -/
theorem State.MapsOut.journaling (hstep : s.hbm.mapout.step = 2) (hown : ∃ w ∈ s.mgmt.own, w.key = dkey 0x3010 0x03) :
    exec .channelMapout s = .next s := by
  simp only [exec_channelMapout, execChannelMapout, h.queue, h.goes_on, hstep, Bool.false_eq_true, if_false]
  rw [if_pos (by simpa using hown)]

theorem State.MapsOut.journaled (hstep : s.hbm.mapout.step = 2) (hown : ∀ w ∈ s.mgmt.own, w.key ≠ dkey 0x3010 0x03) :
    exec .channelMapout s = .next (s.mapAt slot rest 3) := by
  simp only [exec_channelMapout, execChannelMapout, h.queue, h.goes_on, hstep, Bool.false_eq_true, if_false]
  rw [if_neg (by simpa using hown), h.mapStep_eq]

theorem State.MapsOut.moves (hstep : s.hbm.mapout.step = 3) : exec .channelMapout s = .next (s.mapMove slot) := by
  simp only [exec_channelMapout, execChannelMapout, h.queue, h.goes_on, hstep, Bool.false_eq_true, if_false]

theorem State.MapsOut.finishes (hstep : s.hbm.mapout.step = 4) : exec .channelMapout s = .next (s.mapFinish slot) := by
  simp only [exec_channelMapout, execChannelMapout, h.queue, h.goes_on, hstep, Bool.false_eq_true, if_false]

end

/-! What writes and moves leave where every block of HBM is good. -/

/-- States alike in contexts, entries, HBM state and side-band words. -/
structure State.Moved (s t : State) : Prop where
  ctxs : t.ctxs = s.ctxs
  dict : t.dict = s.dict
  hbm : t.hbm = s.hbm
  side : t.side = s.side

section
variable {s t u : State}

theorem moved_refl : s.Moved s := ⟨rfl, rfl, rfl, rfl⟩

theorem State.Moved.trans (h : s.Moved t) (k : t.Moved u) : s.Moved u :=
  ⟨k.ctxs.trans h.ctxs, k.dict.trans h.dict, k.hbm.trans h.hbm, k.side.trans h.side⟩

theorem moved_blockPut (hs : s.side = []) (o : Nat) (cs : List (Nat × Byte)) : s.Moved (s.blockPut o cs).1 := by
  unfold State.blockPut
  split
  · exact ⟨rfl, rfl, rfl, rfl⟩
  · have hput : s.Moved { s with mem := cellsPut s.mem cs, side := mapErase s.side (o / 64) } := ⟨rfl, rfl, rfl, by rw [hs]; rfl⟩
    rw [eccBlock_unlisted (by rw [hs]; rfl)]
    split <;> exact hput
  · exact moved_refl

theorem moved_devWrite (hs : s.side = []) (o : Nat) (bs : List Byte) : s.Moved (s.devWrite o bs).1 :=
  foldl_keeps (P := fun a : State × Status => s.Moved a.1) _ _ _ moved_refl fun a p ha => by
    split
    · exact ha
    · exact ha.trans (moved_blockPut (ha.side.trans hs) _ _)

theorem tableRead_good (hs : s.side = []) (o : Nat) : s.tableRead o = s := by
  unfold State.tableRead
  rw [eccBlock_unlisted (by rw [hs]; rfl)]

theorem moved_dropTags (out : XTag → Bool) : s.Moved (s.dropTags out) := ⟨rfl, rfl, rfl, rfl⟩

/-- An entry of a translation table is written in both copies. -/
theorem moved_setEntry (hs : s.side = []) (c l va v : Nat) : s.Moved (s.setEntry c l va v) := by
  unfold State.setEntry
  split
  · exact moved_refl
  · have hfirst := fun o => moved_devWrite hs o (leBytes 8 v)
    dsimp only
    rw [tableRead_good hs, tableRead_good ((hfirst _).side.trans hs)]
    exact ((hfirst _).trans (moved_devWrite ((hfirst _).side.trans hs) _ _)).trans (moved_dropTags _)

theorem copyRead_good (hs : s.side = []) (p : Nat → Bool) : s.copyRead p = s := by
  unfold State.copyRead
  rw [hs]; rfl

/-- A range moves: its bytes, its owners, and what waits for it. -/
theorem moved_moveRange (hs : s.side = []) (g h n : Nat) : s.Moved (s.moveRange g h n) := by
  have howners : ∀ (u : State) (l : List (Nat × Owner)), u.Moved (l.foldl (fun (t : State) e => t.setOwner (h + e.1) e.2) u) := fun u l =>
    foldl_keeps _ _ _ moved_refl fun _ _ ht => ht.trans ⟨rfl, rfl, rfl, rfl⟩
  have hbytes : s.Moved ((s.moveBytes g h n).followMove g h n) := ⟨rfl, rfl, rfl, by simp [State.followMove, State.moveBytes, hs]⟩
  unfold State.moveRange
  rw [copyRead_good hs]
  exact (hbytes.trans (howners _ _)).trans ⟨rfl, rfl, rfl, rfl⟩

theorem moved_outSet (h : s.Moved t) : t.outSet = s.outSet := congrArg (fun d => mapGet (dictDefault _) d _) h.dict

theorem moved_ctx (h : s.Moved t) (c : Nat) : t.ctx c = s.ctx c := congrArg (fun m => mapGet ({} : Ctx) m c) h.ctxs

end

/-! Step 3: pages that reach into the removed rows. -/

/-- A page's leaf, the page placed at a granule. -/
def Leaf.placedAt (l : Leaf) (g : Nat) : Leaf := { l with target := l.target - gOffset l.target + g * granuleBytes }

/-- The entry that holds the mapped-out slots is no counter of reports. -/
theorem outKey_quiet : dkey 0x3010 0x03 ∉ reportKeys := by decide

theorem outSet_raise (s : State) (ev unit : Nat) (st : Status) (d0 : Nat) (ds : List Nat) : (s.raise ev unit st d0 ds).outSet = s.outSet :=
  dv_raiseAs outKey_quiet _ _ _ _ _ _

theorem outSet_count (s : State) {k : Nat} (n : Nat) (hk : k % 256 ≠ 3) : (s.count k n).outSet = s.outSet :=
  dv_count outKey_quiet fun e => hk (by rw [← e]; rfl)

section
variable {s : State} {lim slot c va : Nat} {lf : Leaf} (hs : s.side = [])
include hs

/-- A leaf is changed and its entry written, where the pages' bytes and owners have been seen to. -/
theorem leafWritten {u : State} (hu : s.Moved u) (f : Map Leaf → Map Leaf) (l a v : Nat) :
    let t := (u.updCtx c (fun x => { x with leaves := f x.leaves })).setEntry c l a v
    t.hbm = s.hbm ∧ t.outSet = s.outSet ∧ (t.ctx c).leaves = f (s.ctx c).leaves := by
  have hentry := moved_setEntry (s := u.updCtx c (fun x => { x with leaves := f x.leaves })) (hu.side.trans hs) c l a v
  have hout : u.outSet = s.outSet := moved_outSet hu
  refine ⟨hentry.hbm.trans hu.hbm, (moved_outSet hentry).trans hout, ?_⟩
  rw [moved_ctx hentry, State.ctx_updCtx, moved_ctx hu]

/-- A page moves to the range that it finds; its leaf follows. -/
theorem movePage_found {g : Nat}
    (hfree : s.lowFree (leafBytes lf.size / granuleBytes) lim (33554432 / (leafBytes lf.size / granuleBytes)) 0 = some g) :
    ∃ t, s.movePage lim (c, va, lf) = some t ∧ t.hbm = s.hbm ∧ t.outSet = s.outSet ∧
      (t.ctx c).leaves = (s.ctx c).leaves.map (fun l => if l.1 = va then (l.1, lf.placedAt g) else l) :=
  ⟨_, congrArg (Option.map _) hfree, leafWritten hs (moved_moveRange hs _ _ _) _ _ _ _⟩

/-- A page that finds no range is lost. -/
theorem losePage_leaves : (s.losePage slot (c, va, lf)).hbm = s.hbm ∧ (s.losePage slot (c, va, lf)).outSet = s.outSet ∧
    ((s.losePage slot (c, va, lf)).ctx c).leaves = mapErase (s.ctx c).leaves va := by
  obtain ⟨hhbm, hout, hleaves⟩ := leafWritten (c := c) hs
    (show s.Moved (s.ownRange (gOffset lf.target / granuleBytes) (leafBytes lf.size / granuleBytes) {}) from ⟨rfl, rfl, rfl, rfl⟩)
    (fun ls => mapErase ls va) (leafLevel lf.size) (65536 * va) 0
  have hkey : ctxKey c 0x43 % 256 ≠ 3 := by simp only [ctxKey, dkey]; omega
  unfold State.losePage
  refine ⟨by simpa using hhbm, ?_, ?_⟩
  · exact (outSet_raise _ _ _ _ _ _).trans ((outSet_count _ _ hkey).trans ((outSet_count _ _ (by decide)).trans hout))
  · rw [← hleaves]
    simp [State.ctx]

end

/-- Step 3 where no table, area of the firmware or pinned page reaches into the removed rows. -/
theorem mapMove_pages {s : State} {slot lim : Nat} (hlim : lim = s.mapTop / granuleBytes) (htables : s.tablesIn lim = [])
    (hfw : ∀ r ∈ s.dev.fw, ¬ (lim < r.1 + r.2 ∧ r.1 < 33554432)) (hpinned : ∀ p ∈ s.pagesIn lim, s.pinned p = false) :
    s.mapMove slot = ((s.pagesIn lim).foldl (fun (t : State) p => (t.movePage lim p).getD (t.losePage slot p)) s).mapStep 4 := by
  have hareas : s.moveAreas lim = s := by
    unfold State.moveAreas
    rw [List.filter_eq_nil_iff.mpr fun r hr => by simpa using hfw r hr]
    rfl
  have hprotected : s.moveProtected lim = (s, []) := by
    unfold State.moveProtected
    rw [htables]
    dsimp only [List.foldl_nil]
    rw [hareas, List.filter_eq_nil_iff.mpr fun p hp => ne_true_of_eq_false (hpinned p hp)]
    rfl
  subst hlim
  unfold State.mapMove
  dsimp only
  rw [hprotected]
  rfl

section
variable {s : State} {slot : Nat} {rest : List Nat} (h : s.MapsOut slot rest) (hstep : s.hbm.mapout.step = 3) {lim : Nat}
  (hlim : lim = s.mapTop / granuleBytes) (htables : s.tablesIn lim = []) (hfw : ∀ r ∈ s.dev.fw, ¬ (lim < r.1 + r.2 ∧ r.1 < 33554432))
include h hstep hlim htables hfw

/-- With nothing in the removed rows step 3 is over. -/
theorem State.MapsOut.moves_none (hpages : s.pagesIn lim = []) : exec .channelMapout s = .next (s.mapAt slot rest 4) := by
  rw [h.moves hstep, mapMove_pages hlim htables hfw (by simp [hpages]), hpages]
  exact congrArg _ (h.mapStep_eq 4)

variable {c va : Nat} {lf : Leaf} (hpage : s.pagesIn lim = [(c, va, lf)]) (hpinned : s.pinned (c, va, lf) = false) (hs : s.side = [])
include hpage hpinned hs

/-- The one page in the removed rows moves. -/
theorem State.MapsOut.moves_page {g : Nat}
    (hfree : s.lowFree (leafBytes lf.size / granuleBytes) lim (33554432 / (leafBytes lf.size / granuleBytes)) 0 = some g) :
    ∃ t : State, exec .channelMapout s = .next t ∧ t.hbm.mapout.step = 4 ∧
      (t.ctx c).leaves = (s.ctx c).leaves.map (fun l => if l.1 = va then (l.1, lf.placedAt g) else l) ∧
      t.outSet = s.outSet ∧ t.hbm.mapout.queue = slot :: rest := by
  obtain ⟨t, ht, hhbm, hout, hleaves⟩ := movePage_found (c := c) (va := va) hs hfree
  refine ⟨t.mapStep 4, ?_, rfl, hleaves, hout, (congrArg (fun b : Hbm => b.mapout.queue) hhbm).trans h.queue⟩
  rw [h.moves hstep, mapMove_pages hlim htables hfw (by simpa [hpage] using hpinned), hpage]
  simp only [List.foldl_cons, List.foldl_nil, ht, Option.getD_some]

/-- The one page in the removed rows finds no range, and is lost. -/
theorem State.MapsOut.loses_page
    (hfull : s.lowFree (leafBytes lf.size / granuleBytes) lim (33554432 / (leafBytes lf.size / granuleBytes)) 0 = none) :
    ∃ t : State, exec .channelMapout s = .next t ∧ t.hbm.mapout.step = 4 ∧ (t.ctx c).leaves = mapErase (s.ctx c).leaves va ∧
      t.outSet = s.outSet := by
  obtain ⟨-, hout, hleaves⟩ := losePage_leaves (slot := slot) (c := c) (va := va) (lf := lf) hs
  have hnone : s.movePage lim (c, va, lf) = none := congrArg (Option.map _) hfull
  refine ⟨(s.losePage slot (c, va, lf)).mapStep 4, ?_, rfl, hleaves, hout⟩
  rw [h.moves hstep, mapMove_pages hlim htables hfw (by simpa [hpage] using hpinned), hpage]
  simp only [List.foldl_cons, List.foldl_nil, hnone, Option.getD_none]

end

/-! Steps 4 to 6: the map comes into force. -/

/-- A table of which the entries with some keys are kept. -/
theorem mapFind_filter_key {α : Type} (m : Map α) (q : Nat → Bool) (k : Nat) :
    mapFind (m.filter (fun e => q e.1)) k = if q k then mapFind m k else none := by
  induction m with
  | nil => simp [mapFind]
  | cons e m ih =>
    obtain ⟨a, v⟩ := e
    by_cases ha : a = k
    · subst ha
      by_cases hq : q a = true
      · simp [hq, mapFind]
      · simpa [hq] using ih
    · by_cases hq : q a = true
      · simpa [hq, mapFind, ha] using ih
      · simpa [hq, mapFind, ha] using ih

theorem readmit_idle {s : State} (h : s.reqs = []) : s.readmit = s := by
  unfold State.readmit
  simp only [h, List.map_nil, List.foldl_nil]
  unfold State.admitAll State.noteWaits
  rw [h]; rfl

/-- The end of a destroyed context leaves HBM, memory, requests and the mapped-out slots. -/
structure State.KeepsMap (s t : State) : Prop where
  hbm : t.hbm = s.hbm
  mem : t.mem = s.mem
  reqs : t.reqs = s.reqs
  out : t.outSet = s.outSet

theorem keepsMap_freeIfDone (s : State) (c : Nat) : s.KeepsMap (s.freeIfDone c) := by
  unfold State.freeIfDone
  dsimp only
  split
  · refine ⟨rfl, rfl, rfl, ?_⟩
    have hkeep : dkey 0x3010 0x03 / 256 ≠ 0x9000 + c := by rw [show dkey 0x3010 0x03 / 256 = 0x3010 from rfl]; omega
    unfold State.outSet State.dv mapGet
    rw [mapFind_filter_key s.dict (fun k => decide (k / 256 ≠ 0x9000 + c)), if_pos (by simpa using hkeep)]
  · exact ⟨rfl, rfl, rfl, rfl⟩

theorem State.KeepsMap.trans {s t u : State} (h : s.KeepsMap t) (k : t.KeepsMap u) : s.KeepsMap u :=
  ⟨k.hbm.trans h.hbm, k.mem.trans h.mem, k.reqs.trans h.reqs, k.out.trans h.out⟩

/-- What the end of a map-out leaves where no request waits and every block is good. -/
theorem mapFinish_leaves {s : State} (slot : Nat) (hreqs : s.reqs = []) (hs : s.side = []) :
    (s.mapFinish slot).mem = s.mem.filter (fun e => decide (e.1 < s.mapTop ∨ 2 ^ 41 ≤ e.1)) ∧
      (s.mapFinish slot).outSet = s.outSet ||| 2 ^ slot ∧
      (s.mapFinish slot).hbm.mapout = { queue := s.hbm.mapout.queue.drop 1, step := if (s.hbm.mapout.queue.drop 1).isEmpty then 0 else 1 } := by
  unfold State.mapFinish
  extract_lets top lim new freed r u v w rest hbm x
  have hread : s = r := (copyRead_good hs _).symm
  clear_value r
  subst hread
  have hw : v.KeepsMap w := foldl_keeps (P := fun t => v.KeepsMap t) (fun (t : State) c => t.freeIfDone c) freed v ⟨rfl, rfl, rfl, rfl⟩
    fun t c ht => ht.trans (keepsMap_freeIfDone t c)
  have hv : v.outSet = s.outSet ||| 2 ^ slot := State.dv_setDv _ _ _
  have hreqsx : (x.raise Ev.channelMappedOut (32 * (slot % 16) + slot / 16)).reqs = [] := by
    rw [State.raise_reqs]; exact hw.reqs.trans hreqs
  rw [readmit_idle hreqsx]
  refine ⟨(State.raise_mem _ _ _ _ _ _).trans hw.mem, (outSet_raise _ _ _ _ _ _).trans (hw.out.trans hv), ?_⟩
  rw [State.raise_hbm]
  have hrest : rest = s.hbm.mapout.queue.drop 1 := congrArg (fun b : Hbm => b.mapout.queue.drop 1) hw.hbm
  show ({ queue := rest, step := if rest.isEmpty then 0 else 1 } : Mapout) = _
  rw [hrest]

section
variable {s : State} {slot : Nat} {rest : List Nat} (h : s.MapsOut slot rest)
include h

/-- The slot is out of service, the bytes below its rows are kept, the rows are gone, and the next slot has its turn. -/
theorem State.MapsOut.maps (hstep : s.hbm.mapout.step = 4) (hreqs : s.reqs = []) (hs : s.side = []) :
    ∃ t : State, exec .channelMapout s = .next t ∧ t.hbm.mapout.queue = rest ∧ t.hbm.mapout.step = (if rest = [] then 0 else 1) ∧
      t.outSet = s.outSet ||| 2 ^ slot ∧ (∀ a, a < s.mapTop → mapGet (0 : Byte) t.mem a = mapGet (0 : Byte) s.mem a) ∧
      (∀ a, s.mapTop ≤ a → a < 2 ^ 41 → mapGet (0 : Byte) t.mem a = 0) ∧
      (∀ a, 2 ^ 41 ≤ a → mapGet (0 : Byte) t.mem a = mapGet (0 : Byte) s.mem a) := by
  obtain ⟨hmem, hout, hmapout⟩ := mapFinish_leaves slot hreqs hs
  have hget : ∀ a, mapGet (0 : Byte) (s.mapFinish slot).mem a = if a < s.mapTop ∨ 2 ^ 41 ≤ a then mapGet (0 : Byte) s.mem a else 0 := by
    intro a
    unfold mapGet
    rw [hmem, mapFind_filter_key s.mem (fun k => decide (k < s.mapTop ∨ 2 ^ 41 ≤ k))]
    by_cases ha : a < s.mapTop ∨ 2 ^ 41 ≤ a
    · rw [if_pos ha, if_pos (decide_eq_true ha)]
    · rw [if_neg ha, if_neg (by simpa using ha)]; rfl
  rw [h.queue] at hmapout
  refine ⟨_, h.finishes hstep, by rw [hmapout]; rfl, ?_, hout, fun a ha => ?_, fun a hlow hhigh => ?_, fun a ha => ?_⟩
  · rw [hmapout]; simp
  · rw [hget, if_pos (.inl ha)]
  · rw [hget, if_neg (by omega)]
  · rw [hget, if_pos (.inr ha)]

end

/-! The statement. -/

/-- Settles O39: row by row, each from the lemmas about it. -/
theorem stackUpkeep : Obligations.StackUpkeep := by
  unfold Obligations.StackUpkeep
  refine ⟨fun s stack ch pc hrun => ⟨fun bank hbank htrip => hbmRefresh_counts hrun hbank htrip rfl, fun n => ondieEccPoll_counts hrun n,
      ⟨fun hbelow => caParityError_below hrun hbelow, fun hlimit hin hnew => caParityError_limit hrun hlimit hin hnew rfl⟩,
      fun hcool hkept hpower hqueue hidle => ?scrub⟩,
    fun s stack temp hrun hcool => ⟨fun htemp hstep => stackTempRead_step hrun hcool htemp hstep rfl rfl,
      fun htemp => ⟨fun hidle => stackTempRead_trip_idle hrun hcool htemp rfl hidle, stackTempRead_trips hrun hcool htemp⟩⟩,
    fun s slot rest hrun hflash hpower hqueue => ?mapout⟩
  case scrub =>
    have h : s.Scrubs stack.val ch.val pc.val := ⟨hrun, hkept, hcool, hpower, hqueue, hidle⟩
    exact ⟨fun hmore => ⟨fun o ho hpoison => h.passes rfl hmore ho hpoison, fun o ho hsound => h.asks rfl hmore ho hsound⟩,
      fun hlast hover => (h.last hlast).trans (by rw [hover]; rfl), fun hlast hover => (h.last hlast).trans (by rw [hover]; rfl)⟩
  case mapout =>
    have h : s.MapsOut slot rest := ⟨hrun, hflash, hpower, hqueue⟩
    exact ⟨fun hstep hadm => h.drains hstep hadm, fun hstep hadm => h.commits hstep hadm, fun hstep hown => h.journaling hstep hown,
      fun hstep hown => h.journaled hstep hown,
      fun hstep htables hfw => ⟨fun hpages => h.moves_none hstep rfl htables hfw hpages, fun c va lf hpage hpinned hs =>
        ⟨fun g hfree => h.moves_page hstep rfl htables hfw hpage hpinned hs hfree,
          fun hfull => h.loses_page hstep rfl htables hfw hpage hpinned hs hfull⟩⟩,
      fun hstep hreqs hs _ _ => h.maps hstep hreqs hs⟩

end Sys2Proof.Machine
